-- ==== Sys2Proof/Word.lean ====
section
/-! DEFINITION. The word types of the engine: bytes, 32-bit words, binary32 words. -/

namespace Sys2Proof

/-- A byte. -/
abbrev Byte := BitVec 8

/-- A 32-bit word of the host port. -/
abbrev Word := BitVec 32

/-- An IEEE 754 binary32 value, held as its bits (R18, R65). -/
abbrev F32 := BitVec 32

/-- The bit of `n` at place `i`. -/
def bitOf (n i : Nat) : Bool := n.testBit i

/-- A Boolean as a bit. -/
def boolNat (b : Bool) : Nat := if b then 1 else 0

/-- Read the list at `i`, or the default of the type beyond its end. -/
def at! {α : Type} [Inhabited α] (l : List α) (i : Nat) : α := l.getD i default

/-- Change the entry of a list at `i`. -/
def modAt {α : Type} (l : List α) (i : Nat) (f : α → α) : List α := l.modify i f

end Sys2Proof
end

