-- ==== Sys2Proof/Block.lean ====
section
/-! DEFINITION. The Block (R489 to R491): the configuration image, section by section, as typed entries with the field
names of the spec, and beside it the parts of its bytes (`BlockImg`); the meaning of bytes without a layout is a free value (log
entry 5). -/

namespace Sys2Proof

/-- An unused point field. -/
def noPoint : Nat := 0xFFFFFFFF

/-- A lane entry (R74). -/
structure LaneEntry where
  mask     : BitVec 8 := 0
  cassType : BitVec 8 := 0
  polarity : BitVec 8 := 0
  lflags   : BitVec 8 := 0
  ratio    : List F32 := []
  rsvZero  : Bool := true
  deriving DecidableEq, Repr, Inhabited

/-- One three-phase set of a phasor group (R139). -/
structure SetEntry where
  kind : Nat := 0
  rot  : Nat := 0
  chA  : Nat := 0
  chB  : Nat := 0
  chC  : Nat := 0
  chN  : Nat := 0xFF
  nom  : F32 := 0
  deriving DecidableEq, Repr, Inhabited

/-- A phasor group entry (R139). -/
structure GroupEntry where
  chan    : List Nat := []
  sets    : List SetEntry := []
  fsrc    : List Nat := [0x00, 0xFF, 0xFF]
  fAvg    : Nat := 2
  vMin    : F32 := 0x3DCCCCCD
  iMin    : F32 := 0x3D4CCCCD
  rocofT  : Nat := 960
  fHoldT  : Nat := 19200
  pwrV    : Nat := 0xFF
  pwrI    : Nat := 0xFF
  pwrSign : Nat := 0
  deriving DecidableEq, Repr, Inhabited

/-- An element entry: the header of R167 and its eight setting records (R168). -/
structure ElemEntry where
  group  : Nat := 0
  pos    : Nat := 0
  etype  : Nat := 0
  base   : Nat := 0
  setI   : Nat := 0xFF
  setV   : Nat := 0xFF
  opts   : Nat := 0
  dirRef : Nat := 0xFF
  blk    : List Nat := []
  dirReq : Nat := 0
  recs   : List (List (BitVec 32)) := []
  deriving DecidableEq, Repr, Inhabited

/-- A user curve (R221); NPTS is the length of `m`. -/
structure UserCurve where
  tru : F32 := 0
  m   : List F32 := []
  t   : List F32 := []
  rsvZero : Bool := true
  deriving DecidableEq, Repr, Inhabited

/-- A trip source (R228): its point and its class (R231). -/
structure TripSrc where
  point : Nat := 0
  cls   : Nat := 1
  deriving DecidableEq, Repr, Inhabited

/-- A breaker sequencer slot entry (R228). -/
structure SlotEntry where
  use       : Nat := 0
  posSrc    : Nat := 0
  group     : Nat := 0xFF
  setCc     : Nat := 0
  posA      : Nat := noPoint
  posB      : Nat := noPoint
  tripDo    : List Nat := [0xFF, 0xFF]
  closeDo   : Nat := 0xFF
  retripDo  : Nat := 0xFF
  ilkClose  : Nat := noPoint
  ilkOpen   : Nat := noPoint
  recPermit : Nat := noPoint
  blk79     : Nat := noPoint
  bfiExt    : Nat := noPoint
  closeReq  : Nat := noPoint
  loReset   : Nat := noPoint
  bft       : List Nat := []
  src       : List TripSrc := []
  recs      : List (List (BitVec 32)) := []
  deriving DecidableEq, Repr, Inhabited

/-- A bus-blocking scheme (R248). -/
structure BusBlock where
  fail : Nat := 0
  text : Nat := 192
  mem  : List Nat := []
  deriving DecidableEq, Repr, Inhabited

/-- An intertrip channel (R249). -/
structure Intertrip where
  cls    : Nat := 3
  recv   : Nat := noPoint
  perm   : Nat := noPoint
  tpulse : Nat := 0
  tgt    : BitVec 64 := 0
  send   : List Nat := []
  deriving DecidableEq, Repr, Inhabited

/-- A load-shed stage (R250). -/
structure ShedStage where
  trig   : Nat := noPoint
  slots  : BitVec 64 := 0
  fr     : F32 := 0
  trest  : Nat := 9600
  tstep  : Nat := 960
  rflags : Nat := 0
  deriving DecidableEq, Repr, Inhabited

/-- A schedule entry (R55). -/
structure SchedEntry where
  unit     : Nat := 0
  phase    : Nat := 0
  order    : Nat := 0
  kernel   : Nat := 0
  tableVer : Nat := 0
  inst     : Nat := 0
  rsvZero  : Bool := true
  cost     : Nat := 0
  deriving DecidableEq, Repr, Inhabited

/-- What a KERNEL of phase D on TE0 to TE5 runs (R25, R53): a station scheme by its index, the fault locator of a bay, or a
kernel that writes no point. -/
inductive SchemeItem where
  | idle
  | busBlock (i : Nat)
  | intertrip (i : Nat)
  | shed (i : Nat)
  | locator (bay : Nat)
  deriving DecidableEq, Repr, Inhabited

/-- A sampled-value stream descriptor (R107). -/
structure StreamDesc where
  dstMac  : BitVec 48 := 0
  appid   : Nat := 0
  form    : Nat := 2
  rate    : Nat := 1
  d       : Nat := 3
  nasdu   : Nat := 1
  nmemb   : Nat := 0
  sync    : Nat := 0
  confRev : Nat := 0
  svid    : String := ""
  rsvZero : Bool := true
  deriving DecidableEq, Repr, Inhabited

/-- A GOOSE control block descriptor (R108). -/
structure GooseDesc where
  dstMac  : BitVec 48 := 0
  appid   : Nat := 0
  pair    : Nat := 0
  nmemb   : Nat := 0
  confRev : Nat := 0
  gocbRef : String := ""
  datSet  : String := ""
  goId    : Option String := none
  maxRate : Nat := 0
  rsvZero : Bool := true
  deriving DecidableEq, Repr, Inhabited

/-- An intake map entry (R109). -/
structure InMap where
  goose    : Bool := false
  sub      : Nat := 0
  member   : Nat := 0
  point    : Nat := 0
  mtype    : Nat := 1
  phe      : Bool := false
  invert   : Bool := false
  subst    : Nat := 0
  backupEn : Bool := false
  backup   : Nat := 0
  scale    : F32 := 0
  deriving DecidableEq, Repr, Inhabited

/-- The writer of a point (R28). -/
inductive Writer where
  | none
  | afe
  | pbi
  | phe
  | elem (i : Nat)
  | bsq
  | scheme (i : Nat)
  | task (t : Nat)
  | fio
  | tsu
  | fl (bay : Nat)
  | cmd
  deriving DecidableEq, Repr, Inhabited

/-- One allocated point of the signal-space map (R28, R30, R35, R318). `first` says that the map requires the point's writer
before its readers on the same unit (R61); `chan` names, for the AFE's sample point of a local channel in no group, that channel
(R77). -/
structure MapPoint where
  point     : Nat := 0
  typ       : Nat := 0
  writer    : Writer := .none
  forceable : Bool := false
  recorded  : Bool := false
  first     : Bool := false
  chan      : Nat := 0xFFFF
  deriving DecidableEq, Repr, Inhabited

/-- A task entry (R279); the lists stand for their offsets and counts. -/
structure TaskEntry where
  kind   : Nat := 0
  unit   : Nat := 8
  prog   : Nat := 0
  period : Nat := 0
  offset : Nat := 0
  maxrel : Nat := 0
  trig   : List Nat := []
  ins    : List Nat := []
  outs   : List Nat := []
  wcet   : Nat := 0xFFFFFFFF
  deriving DecidableEq, Repr, Inhabited

/-- An instruction of a compiled function-block program, as far as R300, R301 and R286 fix its behaviour
(log entry 8). The operand stack holds signed integers; a REAL is its binary32 bits. -/
inductive FbInstr where
  | const (v : Int)
  | loadVar (i : Nat)
  | storeVar (i : Nat)
  | loadPoint (idx : Nat)
  | loadQuality (idx : Nat)
  | storePoint (idx : Nat)
  | storeQuality (idx : Nat)
  | loadImag (idx : Nat)
  | storeImag (idx : Nat)
  | intOp (op : Nat) (bits : Nat) (signed : Bool)
  | realOp (op : Nat)
  | realFn (fn : Nat)
  | boolOp (op : Nat)
  | cmpInt (op : Nat)
  | cmpReal (op : Nat)
  | realToInt (bits : Nat) (signed : Bool)
  | intToReal
  | arrayRead (base len : Nat)
  | arrayWrite (base len : Nat)
  | block (kind : Nat) (n : Nat)
  | loadEt (n : Nat)
  | loadCv (n : Nat)
  | jumpIf (target : Nat)
  | jump (target : Nat)
  | ret
  deriving DecidableEq, Repr, Inhabited

/-- A private item of a program: its identity, its kind (the type identity) and its preset (R299, R311). -/
structure ProgItem where
  ident  : Nat := 0
  kind   : Nat := 0
  preset : Nat := 0
  deriving DecidableEq, Repr, Inhabited

/-- A function-block instance of a program (R301, R311): its identities, and the variables that are its data. -/
structure FbInst where
  ident : Nat := 0
  typ   : Nat := 0
  base  : Nat := 0
  len   : Nat := 0
  deriving DecidableEq, Repr, Inhabited

/-- Type of a variable that is bound to a point (R300, R301). -/
inductive VarType where
  | bool
  | int (bits : Nat) (signed : Bool)
  | real
  | time
  | dpos
  | cplx
  deriving DecidableEq, Repr, Inhabited

/-- A program of the programs section: bit logic (R299) or function blocks (R300, R301), with its identity table; `vars0` the
initial values of its variables, 0 where it gives none; `family` the cycle-table family its code image is built for, `binds` its
bound variables' points and types (R302). -/
structure Program where
  fb       : Bool := false
  words    : List (BitVec 32) := []
  code     : List (FbInstr × Nat) := []
  nvars    : Nat := 0
  vars0    : List Int := []
  insts    : List FbInst := []
  timers   : List ProgItem := []
  edges    : List ProgItem := []
  counters : List ProgItem := []
  family   : Nat := 0
  binds    : List (Nat × VarType) := []
  deriving DecidableEq, Repr, Inhabited

/-- A trigger entry of a recorder plan (R253). -/
structure TrigEntry where
  kind  : Nat := 1
  point : Nat := 0
  level : F32 := 0
  deriving DecidableEq, Repr, Inhabited

/-- A recorder plan (R252). -/
structure Plan where
  use     : Bool := false
  retrig  : Nat := 0
  pflags  : Nat := 0
  pre     : Nat := 0
  post    : Nat := 0
  maxlen  : Nat := 0
  lanes   : BitVec 16 := 0
  wfthr   : Nat := 2000
  bays    : BitVec 64 := 0
  trg     : List TrigEntry := []
  ana     : List Nat := []
  bin     : List Nat := []
  imgSize : Nat := 0
  rsvZero : Bool := true
  raw     : List Byte := []
  deriving DecidableEq, Repr, Inhabited

/-- A fault-locator entry (R266). -/
structure FlEntry where
  en     : Bool := false
  method : Nat := 1
  setI   : Nat := 0
  setV   : Nat := 0
  r1     : F32 := 0
  x1     : F32 := 0
  r0     : F32 := 0
  x0     : F32 := 0
  len    : F32 := 0
  flimin : F32 := 0
  grd    : F32 := 0
  vprop  : F32 := 0
  wfref  : F32 := 0
  enOk   : Bool := true
  deriving DecidableEq, Repr, Inhabited

/-- An event-recorder plan entry (R480). -/
structure EvrPlan where
  kind     : Nat := 0
  suppress : Bool := false
  pin      : Bool := false
  first    : Nat := 0
  last     : Nat := 0
  snappt   : List Nat := []
  rsvZero  : Bool := true
  deriving DecidableEq, Repr, Inhabited

/-- A GOOSE publication (R462, R463); times in ticks. -/
structure GoosePub where
  members   : List Nat := []
  onProcess : Bool := false
  onStation : Bool := true
  tripClass : Bool := false
  edition   : Nat := 2
  tmin      : Nat := 10
  tmax      : Nat := 19200
  priority  : Option Nat := none
  vlan      : Nat := 0
  length    : Nat := 0
  deriving DecidableEq, Repr, Inhabited

/-- A sampled-value publication (R133): its identity and addresses, its local channels. -/
structure SvPub where
  svid   : String := ""
  appid  : Nat := 0
  dstMac : BitVec 48 := 0
  srcMac : BitVec 48 := 0
  chans : List Nat := []
  isVoltage : List Bool := []
  deriving DecidableEq, Repr, Inhabited

/-- A synchrophasor stream (R161); `items`, `analogs` and `digitals` name points, one list per data block, each with its IDCODE;
the formats are binary32 or 16-bit integers, phasors polar or rectangular; data go over TCP, UDP unicast or UDP multicast (0, 1, 2)
to `dest`, commands over TCP on the stream's own `port` (R468). -/
structure SyncStream where
  classM   : Bool := false
  rate     : Nat := 50
  groups   : List Nat := []
  items    : List (List Nat) := []
  analogs  : List (List Nat) := []
  digitals : List (List Nat) := []
  timeBase : Nat := 9600
  idcodes  : List Nat := []
  floatFmt : Bool := true
  polar    : Bool := false
  floatFreq : Bool := true
  transport : Nat := 0
  port      : Nat := 4712
  dest      : BitVec 32 := 0
  deriving DecidableEq, Repr, Inhabited

/-- What the protocol map lets a station protocol do (R454). -/
structure ProtoPerm where
  enabled  : Bool := false
  controls : Bool := false
  groups   : Bool := false
  modes    : Bool := false
  writes   : Bool := false
  deriving DecidableEq, Repr, Inhabited

/-- What an object of a protocol map stands for (R471): a point, or the control of a slot. -/
inductive MapTarget where
  | point (i : Nat)
  | control (slot : Nat)
  deriving DecidableEq, Repr, Inhabited

/-- An object of a protocol map at its address, object group or table included; of IEC 103 the ASDU that carries it (R467), 0 that of
its point's TYPE. -/
structure MapObj where
  addr   : Nat := 0
  target : MapTarget := .point 0
  asdu   : Nat := 0
  deriving DecidableEq, Repr, Inhabited

/-- A client entry (R459): address, certificate subject, edition (21 is 2.1). -/
structure ClientEntry where
  addr    : BitVec 32 := 0
  subject : Nat := 0
  edition : Nat := 2
  deriving DecidableEq, Repr, Inhabited

/-- An RS-485 port (R466, R467): 0 unused, 1 Modbus RTU, 2 IEC 60870-5-103; bit rate, parity (0 none, 1 odd, 2 even), own address. -/
structure SerialPort where
  kind   : Nat := 2
  rate   : Nat := 19200
  parity : Nat := 2
  addr   : Nat := 1
  deriving DecidableEq, Repr, Inhabited

/-- The protocol maps section (R459 to R471). Protocols are numbered 0 MMS, 1 IEC 104, 2 DNP3, 3 Modbus, 4 IEC 103,
5 C37.118.2; `maps` are their objects, `encap` that the encapsulated command set is served, `anchors` and `cert` the TLS anchors and the engine's
certificate (R458), t1 to t3 and the integrity period in ticks;
the redundancy group and the common address of the connections of IEC 104 (R464). -/
structure ProtoMaps where
  perms     : List ProtoPerm := []
  goosePubs : List GoosePub := []
  svPubs    : List SvPub := []
  syncs     : List SyncStream := []
  maps      : List (List MapObj) := []
  encap     : Bool := false
  anchors   : List (List Byte) := []
  cert      : List Byte := []
  pairAddr  : Option (BitVec 32) := none
  unicast   : BitVec 32 := 0
  serviceAddr : BitVec 32 := 0xC0A83030
  hsr       : Bool := false
  t1        : Nat := 144000
  t2        : Nat := 96000
  t3        : Nat := 192000
  k104      : Nat := 12
  w104      : Nat := 8
  cmdAge    : Nat := 5
  defEdition : Nat := 2
  clients   : List ClientEntry := []
  ca104     : Nat := 1
  group104  : List Nat := [0, 0, 1, 1]
  serial    : List SerialPort := [{}, {}]
  integrity : Nat := 0
  deriving DecidableEq, Repr, Inhabited

/-- A digital input entry (R347); FILT in units of 0.1 ms. -/
structure DiEntry where
  en   : Bool := false
  inv  : Bool := false
  filt : Nat := 20
  oscn : Nat := 20
  oscr : Nat := 10
  deriving DecidableEq, Repr, Inhabited

/-- A fast-channel entry (R347); times in µs. -/
structure FastEntry where
  cnt   : Bool := false
  frq   : Bool := false
  fgate : Nat := 100000
  fto   : Nat := 12000000
  deriving DecidableEq, Repr, Inhabited

/-- A digital output entry (R347). -/
structure DoEntry where
  en    : Bool := false
  retry : Bool := false
  olEn  : Bool := false
  par   : Bool := false
  rbt   : Nat := 10
  olth  : Nat := 5
  deriving DecidableEq, Repr, Inhabited

/-- The field I/O section (R347); HOLDT in ms. -/
structure FieldCfg where
  dis     : List DiEntry := []
  fasts   : List FastEntry := []
  dos     : List DoEntry := []
  holdt   : List Nat := []
  rsvZero : Bool := true
  deriving DecidableEq, Repr, Inhabited

/-- The time section (R375). Sources: 0 none, 1 PTP station, 2 PTP process, 3 IRIG-B, 4 1PPS. JUMP and ACC_LIM in ns,
SLEW in ppb, INIT_WAIT in ticks. -/
structure TimeCfg where
  src      : List Nat := [1, 0, 0, 0]
  profile  : Nat := 0
  domain   : Nat := 0
  classMax : Nat := 7
  jump     : Nat := 1000
  jumpN    : Nat := 3
  slew     : Nat := 100000
  holdoff  : Nat := 10
  accLim   : Nat := 1000
  initStep : Bool := true
  initWait : Nat := 28800
  utcDef   : Nat := 37
  modes    : List Nat := [0, 0, 0, 0]
  tsCorr   : List Int := [0, 0, 0, 0]
  irigExt  : Bool := true
  irigDly  : Nat := 0
  ppsDly   : Nat := 0
  confWin  : Nat := 3600
  deriving DecidableEq, Repr, Inhabited

/-- The pair policy section (R413); PL_TOL in 0.1 %, PL_TIME in 0.1 s, DI_DISC in ms. -/
structure PairCfg where
  roleDecl : Nat := 1
  staleOk  : Bool := true
  plTol    : Nat := 20
  plTime   : Nat := 10
  diDisc   : Nat := 20
  rsAlarm  : Nat := 4
  deriving DecidableEq, Repr, Inhabited

/-- The host view section (R424, R447, R450). -/
structure HostView where
  statusList : List Nat := []
  snapList   : List Nat := []
  pinCtrl    : BitVec 32 := 0
  deriving DecidableEq, Repr, Inhabited

/-- The identity section (R491). -/
structure Identity where
  part    : BitVec 32 := 0
  serialA : Nat := 0
  serialB : Nat := 0
  fwMin   : BitVec 32 := 0
  built   : Nat := 0
  station : String := ""
  deriving DecidableEq, Repr, Inhabited

/-- A Block (R489, R490). `formOk` says that MAGIC, LENGTH, NSECT, the section table, the CRCs and BLOCK_ID hold; `hash` is the SHA-384
hash of its signed bytes, `sig` its trailer. `convBy` names the engine and the generation of its identity key that have made a
converted Block here, and so signed it (R506). -/
structure Block where
  formOk    : Bool := true
  format    : Nat := 3
  converted : Bool := false
  convBy    : Option (Nat × Nat) := none
  blockId   : BitVec 128 := 0
  length    : Nat := 0
  signer    : Nat := 1
  hash      : List Byte := []
  sig       : BitVec 768 := 0
  ident     : Identity := {}
  lanes     : List LaneEntry := []
  fnom      : Nat := 50
  groups    : List GroupEntry := []
  refGroup  : Nat := 0
  elems     : List ElemEntry := []
  curves    : List UserCurve := []
  slots     : List SlotEntry := []
  singleSel : Bool := false
  busBlocks : List BusBlock := []
  intertrips : List Intertrip := []
  sheds     : List ShedStage := []
  sched     : List SchedEntry := []
  streams   : List (Option StreamDesc) := []
  gooses    : List (Option GooseDesc) := []
  inMap     : List InMap := []
  fpol      : Nat := 0
  map       : List MapPoint := []
  selector  : Option Nat := none
  stGrp     : Nat := 1
  modes     : List Nat := []
  tasks     : List TaskEntry := []
  progs     : List Program := []
  plans     : List Plan := []
  fls       : List FlEntry := []
  evrPlans  : List EvrPlan := []
  proto     : ProtoMaps := {}
  field     : FieldCfg := {}
  time      : TimeCfg := {}
  pair      : PairCfg := {}
  hostv     : HostView := {}
  deriving DecidableEq, Repr, Inhabited

/-- A Hood package (R305): the replaced tasks (TASKS), their programs, the point-map and schedule changes; the SHA-384 hash of its signed
bytes and its trailer. -/
structure Hood where
  formOk  : Bool := true
  hash    : List Byte := []
  sig     : BitVec 768 := 0
  hoodId  : BitVec 128 := 0
  baseId  : BitVec 128 := 0
  length  : Nat := 0
  tasks   : BitVec 10 := 0
  entries : List TaskEntry := []
  progs   : List Program := []
  addMap  : List MapPoint := []
  delMap  : List Nat := []
  sched   : List SchedEntry := []
  deriving DecidableEq, Repr, Inhabited

/-- The parts of a Block's sections (R490): their tables, byte for byte where the spec lays them out (`progs` the task entries with
their lists), the bytes behind them by section kind (`tails`, from kind 1), and what those say, for which the spec gives no layout: the
sizes of the plans' replay images, and `rest` (log entry 5). -/
structure BlockImg where
  ident      : List Byte := []
  lanes      : List Byte := []
  groups     : List Byte := []
  elems      : List Byte := []
  curves     : List Byte := []
  slots      : List Byte := []
  busBlocks  : List Byte := []
  intertrips : List Byte := []
  sheds      : List Byte := []
  sched      : List Byte := []
  streams    : List Byte := []
  gooses     : List Byte := []
  strings    : List Byte := []
  inMap      : List Byte := []
  progs      : List Byte := []
  plans      : List Byte := []
  imgSizes   : List Nat := []
  fls        : List Byte := []
  evrPlans   : List Byte := []
  field      : List Byte := []
  tails      : List (List Byte) := []
  rest       : Block := {}
  deriving DecidableEq, Repr, Inhabited

/-- The parts of a Hood's sections that the spec does not delimit (R305, log entry 5): how many task entries stand before their lists;
programs, identity tables and point-map changes as `rest`. -/
structure HoodImg where
  ntasks : Nat := 0
  rest   : Hood := {}
  deriving DecidableEq, Repr, Inhabited

/-- An update package (R501): the fields of its header, the header itself, and the ciphertext. -/
structure Package where
  formOk   : Bool := true
  fromVer  : BitVec 32 := 0
  toVer    : BitVec 32 := 0
  fromHash : List Byte := []
  devFp    : BitVec 128 := 0
  secLvl   : Nat := 0
  clen     : Nat := 0
  epk      : BitVec 776 := 0
  nonce    : List Byte := []
  gtag     : List Byte := []
  head     : List Byte := []
  cipher   : List Byte := []
  deriving DecidableEq, Repr, Inhabited

end Sys2Proof
end

