-- ==== Sys2Proof/Types.lean ====
section
/-! DEFINITION. The dynamic-state records of the engine's blocks, and the records that travel between blocks: points,
tick identities, element and sequencer states, tasks, forces, operator actions, mirrored items, event records. -/

namespace Sys2Proof

/-- A point record of the signal space (R32). -/
structure Point where
  value : BitVec 64 := 0
  sec   : BitVec 64 := 0
  nsec  : BitVec 32 := 0
  qual  : BitVec 16 := 1
  gen   : BitVec 16 := 0
  typ   : BitVec 8 := 0
  flags : BitVec 8 := 0
  deriving DecidableEq, Repr, Inhabited

/-- A tick identity (R51): TAI second, tick index within the second, time-base generation. -/
structure TickId where
  sec : Nat := 0
  k   : Nat := 0
  gen : BitVec 16 := 0
  deriving DecidableEq, Repr, Inhabited

/-- An instant of the local clock with its generation (R349, R371). -/
structure Stamp where
  sec  : Nat := 0
  nsec : Nat := 0
  gen  : BitVec 16 := 0
  deriving DecidableEq, Repr, Inhabited

/-- A complex binary32 value (R33 TYPE 0x07). -/
structure Cx where
  re : F32 := 0
  im : F32 := 0
  deriving DecidableEq, Repr, Inhabited

/-- State of one element instance (R170 to R202): starts, timers, directional, thermal and window states. `run` says that INR's
T has run out, `ovr` the phases whose start its TR hold follows, `setsDue` that the set[] points must be written again, `low` that 46BC's X1 is below its minimum, `curOk` and `three` are the 60's current condition and three-phase
cause as last decided, `last` is the tick of the last evaluation of 49 or HIZ, or of the last sample that 67NT or FDIR took. -/
structure ElemState where
  str     : Bool := false
  strP    : List Bool := [false, false, false]
  op      : Bool := false
  opP     : List Bool := [false, false, false]
  blk     : Bool := false
  qInh    : Bool := false
  dir     : Nat := 0
  dirP    : List Nat := [0, 0, 0]
  cDir    : List F32 := [0, 0, 0]
  tmr     : Nat := 0
  held    : Nat := 0
  conf    : List Nat := [0, 0, 0]
  meas    : F32 := 0
  meas2   : F32 := 0
  grp     : Nat := 1
  mode    : Nat := 1
  ovr     : List Bool := [false, false, false]
  since   : List Nat := [0, 0, 0]
  vMem    : Cx := {}
  rRot    : Cx := {}
  memN    : Nat := 0
  memOn   : Bool := false
  memSet  : Bool := false
  polLost : Bool := false
  wst     : Nat := 0
  wn      : Nat := 0
  wq      : F32 := 0
  wN      : F32 := 0
  wEv     : F32 := 0
  wEq     : F32 := 0
  rho     : F32 := 0
  wHold   : Nat := 0
  rearm   : Nat := 0
  theta   : F32 := 0
  cmp     : F32 := 0
  ieq     : List F32 := []
  alarm   : Bool := false
  ttt     : F32 := 0
  clpSt   : Nat := 0
  clpTmr  : Nat := 0
  clpEnd  : Nat := 0
  i3      : F32 := 0
  e       : F32 := 0
  a3      : F32 := 0
  aE      : F32 := 0
  hizInit : Bool := false
  act     : List Bool := []
  cause   : Nat := 0
  recT    : Nat := 0
  vLow    : Bool := false
  threeOk : Bool := false
  magH    : List F32 := []
  opHold  : Nat := 0
  srcHold : Nat := 0
  srcBits : List Bool := []
  shown   : Nat := 0
  setsDue : Bool := false
  fuseT   : Nat := 0
  run     : Bool := false
  low     : Bool := false
  curOk   : Bool := false
  three   : Bool := false
  last    : Option TickId := none
  deriving DecidableEq, Repr, Inhabited

/-- State of a flange slot (R207). Phase states: 0 idle, 1 accumulating, 2 reset hold, 3 resetting, 4 operated. -/
structure FluSlot where
  acc  : List Nat := [0, 0, 0]
  ctr  : List Nat := [0, 0, 0]
  st   : List Nat := [0, 0, 0]
  deriving DecidableEq, Repr, Inhabited

/-- Whom an operator action answers once it has been applied: nobody (mirrored, or the engine's own), a host mailbox, a TLS
association, or a station protocol's connection. -/
inductive Reply where
  | none
  | host (mbx : Nat)
  | net (assoc : Nat)
  | station (proto conn : Nat)
  deriving DecidableEq, Repr, Inhabited

/-- An operator control that waits for the BSQ step of its tick (R242 to R244). Kinds: 0 select, 1 operate, 2 cancel, 3 reset (1
lockout, 2 failed); `value` 1 open, 2 close; `test` the Test flag of an MMS control (R460). -/
structure CtlReq where
  kind  : Nat := 0
  value : Nat := 0
  by_   : BitVec 128 := 0
  test  : Option Bool := none
  reply : Reply := .none
  direct : Bool := false
  deriving DecidableEq, Repr, Inhabited

/-- An accepted operate whose termination is due (R243): value 1 open or 2 close, the ticks since, originator, whom it answers. -/
structure CtlPend where
  value : Nat := 0
  tmr   : Nat := 0
  by_   : BitVec 128 := 0
  reply : Reply := .none
  deriving DecidableEq, Repr, Inhabited

/-- State of a sequencer slot (R226 to R244). `reqs` and `results` are the controls of the present tick and what became of them,
`selTo` whom the selection answers, `ctls` the operates that have not terminated. `bfNew` says that bf_trip set in this tick,
`trigOn` that the condition of retrip held in the last one. CLOSE_REQ and LO_RESET count as true before the first step, so that
only a point that has read false can rise (log entry 91). `posIn` are the position inputs as last read. -/
structure SlotState where
  state   : Nat := 0
  tmr     : Nat := 0
  pos     : Nat := 0
  posQ    : BitVec 16 := 1
  posTs   : Stamp := {}
  posIn   : List (BitVec 64 × BitVec 16) := []
  trip    : Bool := false
  close   : Bool := false
  retrip  : Bool := false
  bfTrip  : Bool := false
  cc      : Bool := false
  ccBad   : Bool := false
  shot    : Nat := 0
  tclass  : Nat := 0
  sel     : Nat := 0
  selBy   : BitVec 128 := 0
  selTmr  : Nat := 0
  cmdRes  : Nat := 0
  alarm   : BitVec 16 := 0
  trips   : Nat := 0
  bfTmr   : Nat := 0
  bfOn    : Bool := false
  bfHold  : Nat := 0
  shed    : Bool := false
  bfiTmr  : Nat := 0
  bfiOn   : Bool := false
  from_   : Nat := 0
  manual  : Bool := false
  recl    : Bool := false
  disc    : Nat := 0
  prevReq : Bool := true
  prevLo  : Bool := true
  prevSrc : List Bool := []
  redrive : Bool := false
  redriveT : Nat := 0
  ctls    : List CtlPend := []
  reqs    : List CtlReq := []
  results : List Nat := []
  selTo   : Reply := .none
  bfNew   : Bool := false
  trigOn  : Bool := false
  deriving DecidableEq, Repr, Inhabited

/-- The frequency state of a phasor group (R152 to R156) and its last sequence components. -/
structure GroupState where
  fT    : Nat := 5000
  f     : F32 := 0
  fQ    : BitVec 16 := 0x81
  fEver : Bool := false
  rocof : F32 := 0
  rocofQ : BitVec 16 := 0x81
  src   : Nat := 0
  above : List Bool := [false, false, false, false]
  x1H   : List (List (Cx × BitVec 16)) := [[], [], [], []]
  raws  : List (F32 × BitVec 16) := []
  holdT : Nat := 0
  fH    : List (F32 × BitVec 16) := []
  deriving DecidableEq, Repr, Inhabited

/-- One entry of a task's input image (R283). -/
structure ImgEntry where
  point : Nat := 0
  value : BitVec 64 := 0
  qual  : BitVec 16 := 1
  gen   : BitVec 16 := 0
  typ   : BitVec 8 := 0
  flags : BitVec 8 := 0
  deriving DecidableEq, Repr, Inhabited

/-- Private data of a timer, edge detector or counter (R295, R296). Kinds: 1 TON, 2 TOF, 3 TP, 4 rising, 5 falling,
6 counter. -/
structure ItemState where
  ident  : Nat := 0
  kind   : Nat := 0
  et     : Nat := 0
  prevIn : Bool := false
  lp     : Option Nat := none
  run    : Bool := false
  cv     : Nat := 0
  m      : Bool := false
  deriving DecidableEq, Repr, Inhabited

/-- The working state of a cycle (R285, R297): program position, accumulator, branch stack (value, isOr), working copy of
the outputs, and private data. -/
structure Work where
  pc    : Nat := 0
  acc   : Bool := false
  stack : List (Bool × Bool) := []
  fstack : List Int := []
  outs  : List (Nat × BitVec 64 × BitVec 16) := []
  timers : List ItemState := []
  edges : List ItemState := []
  counters : List ItemState := []
  vars  : List Int := []
  charge : Nat := 0
  done  : Bool := false
  deriving DecidableEq, Repr, Inhabited

/-- State of a task entry (R282 to R293, R303); `prevTrg` and `curTrg` are the last two copies of the trigger points: index, value,
whether invalid. -/
structure TaskState where
  st      : Nat := 0
  skip    : Bool := false
  aband   : Bool := false
  pend    : Bool := false
  cycles  : Nat := 0
  skipped : Nat := 0
  abandN  : Nat := 0
  relLtc  : Nat := 0
  doneLtc : Nat := 0
  maxChg  : Nat := 0
  maxDur  : Nat := 0
  staging : List ImgEntry := []
  image   : List ImgEntry := []
  prevTrg : List (Nat × Bool × Bool) := []
  curTrg  : List (Nat × Bool × Bool) := []
  timers  : List ItemState := []
  edges   : List ItemState := []
  counters : List ItemState := []
  vars    : List Int := []
  outs    : List (Nat × BitVec 64 × BitVec 16) := []
  work    : Work := {}
  deriving DecidableEq, Repr, Inhabited

/-- A force table entry (R317); `under` is the point's underlying record (R319). -/
structure ForceEntry where
  point   : Nat := 0
  typ     : BitVec 8 := 0
  qval    : BitVec 16 := 0x400
  value   : BitVec 64 := 0
  session : Nat := 0
  setLtc  : Nat := 0
  under   : Point := {}
  deriving DecidableEq, Repr, Inhabited

/-- What an operator action does (R27). -/
inductive Act where
  | hoodSwap
  | hoodCancel
  | forceRelease (point : Nat)
  | forceSet (point : Nat) (qval : BitVec 16) (value : BitVec 64)
  | groupSwitch (g : Nat)
  | modeSet (target mode : Nat)
  | simSet (on : Bool)
  | pointWrite (point : Nat) (value : BitVec 64)
  | ctlSelect (slot value : Nat) (origin : BitVec 128) (test : Option Bool)
  | ctlOperate (slot value : Nat) (origin : BitVec 128) (test : Option Bool) (direct : Bool := false)
  | ctlCancel (slot : Nat) (origin : BitVec 128)
  | slotReset (slot kind : Nat)
  | drcTrigger (plan : Nat)
  | timeStep (sec nsec : Int)
  | blockActivate
  deriving DecidableEq, Repr, Inhabited

/-- An accepted operator action, waiting for its named tick (R27, R440). -/
structure Action where
  act     : Act := .hoodSwap
  ntick   : Nat := 0
  opcode  : Nat := 0
  keyId   : Nat := 0
  session : Nat := 0
  reply   : Reply := .none
  tag     : Nat := 0
  priv    : Option Nat := none
  hash    : List Byte := []
  sig     : BitVec 768 := 0
  deriving DecidableEq, Repr, Inhabited

/-- Judgement of one sampled-value grid input (R116, R122). -/
inductive Judged where
  | accepted
  | filled
  | missing
  deriving DecidableEq, Repr, Inhabited

/-- A GOOSE state as queued for presentation (R129): member values with their qualities, header time and flags,
whether its presentation ends STATE 3 (R113), and the completion of its frame. -/
structure GooseState where
  done   : Nat := 0
  stNum  : Nat := 0
  values : List (BitVec 64) := []
  t      : Stamp := {}
  test   : Bool := false
  sim    : Bool := false
  ends3  : Bool := false
  deriving DecidableEq, Repr, Inhabited

/-- An input item mirrored by the active engine (R391), tagged with its presentation tick's LTC: a committed local sample, a stream
(fed from backup or not) with its points, the causes of R294 it raised in the tick and the samples accepted for it (index, arrival stamp,
members), a control block likewise with the state it presents, another input's point, a supply state, an operator action. -/
inductive MirrorItem where
  | sample (ch : Nat) (word : BitVec 32) (qual : BitVec 16)
  | sv (stream : Nat) (backup : Bool) (p : List (Nat × Point)) (causes : List Nat) (frames : List (Nat × Nat × List (Int × BitVec 32)))
  | goose (gcb : Nat) (p : List (Nat × Point)) (causes : List Nat) (frames : List GooseState)
  | input (point : Nat) (p : Point)
  | supply (group sup : Nat)
  | action (a : Action)
  deriving DecidableEq, Repr, Inhabited

/-- The header of a Felt frame as it came (R390): its lane, its sequence number, whether its CRC-32C is right, and the sender's
STAT_ROLE and health where it tells them (R387, R415; log entry 128), and whether the sender's event recorder has failed (R487). -/
structure FeltHdr where
  lane   : Fin 2 := 0
  seq    : Nat := 0
  crcOk  : Bool := true
  status : Option (Nat × Bool) := none
  recBad : Option Bool := none
  deriving DecidableEq, Repr, Inhabited

/-- A local channel's plausibility (R394): sums of the squares of own and mirrored samples in the running window, how many, whether a
mirrored one was invalid, whether an own one was beside a valid mirrored one (R536), and the windows in a row that disagreed. -/
structure PlausChan where
  own  : Nat := 0
  mir  : Nat := 0
  n    : Nat := 0
  bad  : Bool := false
  gone : Bool := false
  runs : Nat := 0
  deriving DecidableEq, Repr, Inhabited

/-- A stream's plausibility (R394): samples that the active engine accepted in the running window and that were compared, whether one
differed, and those in a row that were not received here. -/
structure PlausStream where
  n    : Nat := 0
  bad  : Bool := false
  miss : Nat := 0
  deriving DecidableEq, Repr, Inhabited

/-! ### Station schemes (R248 to R250) -/

/-- A load-shed stage: ticks of good frequency, restoring, ticks since its last close request, the slot requested in this
tick. -/
structure ShedState where
  good  : Nat := 0
  on    : Bool := false
  since : Nat := 0
  asked : Option Nat := none
  deriving DecidableEq, Repr, Inhabited

/-- The station schemes: bus-blocking extensions, intertrip pulses (output, ticks left), load-shed stages. The names with `T` hold
what the same inputs give to bays in test, to which members with the test bit count (R126). -/
structure Schemes where
  bbExt  : List Nat := List.replicate 8 0
  bbExtT : List Nat := List.replicate 8 0
  itOut  : List Bool := List.replicate 32 false
  itOutT : List Bool := List.replicate 32 false
  itLeft : List Nat := List.replicate 32 0
  itLeftT : List Nat := List.replicate 32 0
  shed   : List ShedState := List.replicate 16 {}
  deriving DecidableEq, Repr, Inhabited

/-- A GOOSE publication's state (R463): dataset of the previous tick, stNum, sqNum, interval and ticks to the next frame. -/
structure PubState where
  vals  : List (BitVec 64 × BitVec 16) := []
  stNum : Nat := 0
  sqNum : Nat := 0
  ival  : Nat := 0
  due   : Nat := 0
  live  : Bool := false
  deriving DecidableEq, Repr, Inhabited

/-- A fault locator's latch (R267): LTC of its tick, phase phasors of SET_I and SET_V, X0 of SET_I. -/
structure FlLatch where
  ltc : Option Nat := none
  i   : List (Cx × BitVec 16) := []
  v   : List (Cx × BitVec 16) := []
  deriving DecidableEq, Repr, Inhabited

/-- A location pending (R267): n0 as a grid number and as LTC, n_f, the pre-fault latch, whether pos read off or cc read 0
before n_f. -/
structure FlPend where
  n0  : Nat := 0
  at_ : Nat := 0
  nf  : Nat := 0
  pre : FlLatch := {}
  cut : Bool := false
  deriving DecidableEq, Repr, Inhabited

/-- A bay's fault locator; `doneAt` is the LTC of the tick n_f whose location was computed last: no latch is taken in it (R267). -/
structure FlState where
  la   : FlLatch := {}
  lb   : FlLatch := {}
  str  : Bool := false
  pend : Option FlPend := none
  doneAt : Option Nat := none
  deriving DecidableEq, Repr, Inhabited

/-- A part of the dynamic state as a copied chunk carries it (R397): the firmware's state map places each in lines
(log entry 9). -/
inductive CopyItem where
  | point (idx : Nat) (p : Point)
  | elem (i : Nat) (e : ElemState)
  | flange (i : Nat) (f : FluSlot)
  | slot (i : Nat) (b : SlotState)
  | group (i : Nat) (g : GroupState)
  | hist (ch : Nat) (h : List (F32 × BitVec 16))
  | task (i : Nat) (t : TaskState)
  | forces (l : List ForceEntry)
  | pres (ch : Nat) (h : List (F32 × BitVec 16))
  | schemes (x : Schemes)
  | unit (u : Nat) (cur : Option Nat) (w : Work)
  | errors (q : List (BitVec 64)) (lost : Nat)
  | selector (x : Option Int)
  | pub (i : Nat) (x : PubState)
  | fl (i : Nat) (x : FlState)
  | ltc (n : Nat)
  deriving DecidableEq, Repr, Inhabited

/-- Which part of the dynamic state an item is: its kind and number. -/
def CopyItem.key : CopyItem → Nat × Nat
  | .point i _ => (0, i)
  | .elem i _ => (1, i)
  | .flange i _ => (2, i)
  | .slot i _ => (3, i)
  | .group i _ => (4, i)
  | .hist c _ => (5, c)
  | .task i _ => (6, i)
  | .forces _ => (7, 0)
  | .pres c _ => (8, c)
  | .schemes _ => (9, 0)
  | .unit u _ _ => (10, u)
  | .errors _ _ => (11, 0)
  | .selector _ => (12, 0)
  | .pub i _ => (13, i)
  | .fl i _ => (14, i)
  | .ltc _ => (15, 0)

/-- An event record (R474) without its hash links' bytes: SEQ, stamps, kind and arguments; `prevTag` and `tag` are the
chain of R477. -/
structure EvRec where
  seq     : Nat := 0
  sec     : Nat := 0
  nsec    : Nat := 0
  gen     : BitVec 16 := 0
  kind    : Nat := 0
  ltc     : Nat := 0
  tsec    : Nat := 0
  tk      : Nat := 0
  rflags  : BitVec 16 := 0
  subject : Nat := 0
  qual    : BitVec 16 := 0
  oldq    : BitVec 16 := 0
  value   : Nat := 0
  old     : Nat := 0
  arg     : BitVec 128 := 0
  origSeq : Nat := 0
  snap    : List (BitVec 64 × BitVec 16 × BitVec 16 × BitVec 32) := []
  prevTag : BitVec 128 := 0
  tag     : BitVec 128 := 0
  next    : Nat := 0
  deriving DecidableEq, Repr, Inhabited

/-- A setting that a Pin latches, and the header of a snapshot bank (R450). -/
structure SnapHdr where
  pinSeq   : Nat := 0
  statTick : Nat := 0
  ident    : TickId := {}
  ltc      : Nat := 0
  cycle    : Nat := 0
  src      : BitVec 6 := 0
  deferred : Bool := false
  lost     : Nat := 0
  deriving DecidableEq, Repr, Inhabited

end Sys2Proof
end

