-- ==== Sys2Proof/Syntax.lean ====
section
/-! DEFINITION. The commands: one constructor of `Instr` per row of spec/opcode_table.json, and the records they carry.
The table gives its rows no operands; those here are the values the row's rule speaks of (log entry 7). Instants are
nanoseconds of the local clock since the PTP epoch. -/

namespace Sys2Proof

/-- What the physical world shows at one tick: supply voltages (R341), readback, current limit and load currents in mA (R338), loop
senses (R416), cycles spent by a unit in a phase (R62), a unit that has not finished (R45), the offset to the partner's
clock with its EST_ERR (`none`: unknown) and GLOBAL bit (R370), record positions whose read-back differs (R487), the partner's
loop sensed energised within 10 µs after the own latch has set in this tick (R380), that unit A's frame stays out in this bus
tick (R386), that what was last written to the Block store fails its read-back (R492, R493), and the front button (R512). -/
structure TickIn where
  supply   : List Nat := [24000, 24000, 24000, 24000, 24000, 24000]
  readback : BitVec 96 := 0
  ilim     : BitVec 96 := 0
  loads    : List Nat := []
  hatIn    : Bool := false
  ownLoop  : Bool := false
  spent    : List (Nat × Nat × Nat) := []
  unfinished : Bool := false
  fluMax   : Nat := 0
  partnerTime : Option (Int × Option Nat × Bool) := none
  evrBad   : List Nat := []
  evrPathBad : Bool := false
  shutdown : List Nat := []
  race     : Bool := false
  w1Absent : Bool := false
  storeBad : Bool := false
  button   : Bool := false
  deriving DecidableEq, Repr, Inhabited

/-- One ASDU of a sampled-value frame (R112); `synchBool` is the Boolean SmpSynch of a 9-2LE frame (R113). -/
structure Asdu where
  smpCnt  : Nat := 0
  synch   : Nat := 0
  synchBool : Option Bool := none
  members : List (Int × BitVec 32) := []
  deriving DecidableEq, Repr, Inhabited

/-- What an Announce message says (R355, R359, R360): its sender's port identity, the grandmaster's data set, the profile TLV's
totalTimeInaccuracy, and currentUtcOffset while currentUtcOffsetValid is set. -/
structure Announce where
  sender    : BitVec 64 := 0
  portNo    : Nat := 1
  prio1     : Nat := 128
  clockClass : Nat := 255
  accuracy  : Nat := 0xFE
  variance  : Nat := 0xFFFF
  prio2     : Nat := 128
  clockId   : BitVec 64 := 0
  stepsRemoved : Nat := 0
  traceable : Bool := false
  inaccuracy : Option Nat := none
  utcOffset : Option Nat := none
  leap61    : Bool := false
  leap59    : Bool := false
  deriving DecidableEq, Repr, Inhabited

/-- A PTP message as far as the engine uses it (R355): an Announce; an answer that gives a mean path delay; a Pdelay_Req, with the
instant at which an answer to it would leave the port; another message. -/
inductive PtpKind where
  | announce (a : Announce)
  | delay (d : Nat)
  | pdelayReq (answerAt : Nat)
  | other
  deriving DecidableEq, Repr, Inhabited

/-- A PTP message and its domain. -/
structure PtpMsg where
  domain : Nat := 0
  kind   : PtpKind := .other
  deriving DecidableEq, Repr, Inhabited

/-- The contents of a received frame (R104); `udp` is the IPv4 destination of a PTP message over UDP. -/
inductive FrameBody where
  | sv (svid : String) (confRev noAsdu : Nat) (lenOk sim : Bool) (asdus : List Asdu)
  | goose (gocbRef datSet goId : String) (confRev : Nat) (ndsCom sim test : Bool) (stNum sqNum talMs : Nat) (t : Stamp)
      (values : List (BitVec 64))
  | ptp (m : PtpMsg) (udp : Option (BitVec 32))
  | prpSupervision
  | arp
  | ipv4 (dst : BitVec 32) (proto port : Nat)
  | other
  deriving DecidableEq, Repr, Inhabited

/-- A received frame: port (0 process A, 1 process B, 2 station A, 3 station B, 4 the service port), whether the engine itself is its
source (a ring frame that returns, R456), destination, APPID, bytes from the
destination address through the FCS, the instant at which the port sees it, which its corrections make the stamp (R353), and the identity by which PRP or HSR recognises its copy (R119). -/
structure Frame where
  port    : Fin 5 := 0
  own     : Bool := false
  fcsOk   : Bool := true
  dstMac  : BitVec 48 := 0
  appid   : Nat := 0
  bytes   : Nat := 64
  stamp   : Nat := 0
  dupKey  : Option Nat := none
  forUs   : Bool := true
  body    : FrameBody := .other
  deriving DecidableEq, Repr, Inhabited

/-- An offset measurement of a time source (R361): the LAN of a PTP one (R356), clock minus source in ns, interval in units of
1/1024 s, the main-clock cycle of the tick at which the servo's write counts (R350); from the partner its EST_ERR and GLOBAL
bit (R370). Of IRIG-B and 1PPS the offset is the one that the last valid frame or edge gave (R357, R358). -/
structure Measurement where
  src      : Nat := 1
  lanB     : Bool := false
  offset   : Int := 0
  interval : Nat := 1024
  cycle    : Nat := 0
  partnerErr : Option Nat := none
  partnerGlobal : Bool := false
  deriving DecidableEq, Repr, Inhabited

/-- An IRIG-B frame as it stands on the input (R357): the coded expression 4, 6 or 7 of B004, B006 and B007, its 100 elements, bit
0 the reference marker Pr, and the instant of the leading edge of Pr. -/
structure IrigFrame where
  fmt  : Nat := 4
  bits : BitVec 100 := 0
  edge : Nat := 0
  deriving DecidableEq, Repr, Inhabited

/-- The contents of a cassette memory as the MP reads them (R84). -/
structure Cassette where
  magicOk : Bool := true
  format  : Nat := 1
  crcOk   : Bool := true
  typ     : BitVec 8 := 0
  issue   : Nat := 0
  serial  : Nat := 0
  calTime : Nat := 0
  calTemp : Int := 0
  rsv     : List Byte := []
  gain    : List F32 := []
  offset  : List Int := []
  delay   : List Int := []
  deriving DecidableEq, Repr, Inhabited

/-- Where a request comes from (R435): a host mailbox, or a TLS association. -/
inductive Carrier where
  | host (mbx : Fin 16)
  | net (assoc : Nat)
  deriving DecidableEq, Repr, Inhabited

/-- The header of a request beside its OPCODE, and its trailer (R432): FLAGS, TAG, LENGTH, SESSION, the reserved bytes, and the
signature as one number of 96 bytes. The payload is the command's operands. -/
structure Req where
  carrier : Carrier := .host 0
  flags   : BitVec 16 := 0
  tag     : Nat := 0
  length  : Nat := 0
  session : Nat := 0
  rsv     : BitVec 128 := 0
  sig     : BitVec 768 := 0
  deriving DecidableEq, Repr, Inhabited

/-- An engine frame of W1 (R383). -/
structure EngFrame where
  unitB : Bool := false
  seq   : Nat := 0
  tsec  : Nat := 0
  tk    : Nat := 0
  tgen  : Nat := 0
  role  : Nat := 0
  healthy : Bool := false
  hatReq : Bool := false
  latch : Bool := false
  inStep : Bool := false
  synced : Bool := false
  partnerAlive : Bool := false
  staleOk : Bool := false
  mixed : Bool := false
  staleT : Nat := 0
  hoTsec : Nat := 0xFFFFFFFF
  hoTk  : Nat := 0
  cause : Nat := 0
  deriving DecidableEq, Repr, Inhabited

/-- A storage error of the disturbance recorder (R264): a write to a 64 KiB block of its area fails, or the frame block that holds
`n` frames of a record, from the `first` on, cannot be read any longer. -/
inductive DrcErr where
  | write (blk : Nat)
  | read (recno first n : Nat)
  deriving DecidableEq, Repr, Inhabited

/-- Which memory holds an uncorrectable error (R39), and in a buffer what it affects: the waiting sample of a stream or frame of
a control block, the frames of a record block in staging, an entry of the change queue. -/
inductive EccMem where
  | teLocal | dynamicState | blockCopy
  | intake (goose : Bool) (sub at_ : Nat)
  | staging (recno first n : Nat)
  | protocol (at_ : Nat)
  | mram (position : Nat)
  deriving DecidableEq, Repr, Inhabited

/-- The client of a TLS handshake: the service it wants (0 MMS, 1 command set), its address and certificate subject (R459), and whether
it comes over the service port (R470) or to the pair address (R455). -/
structure TlsPeer where
  service : Nat := 0
  addr    : BitVec 32 := 0
  subject : Nat := 0
  front   : Bool := false
  pair    : Bool := false
  deriving DecidableEq, Repr, Inhabited

/-- Trigger options of a report control block, and its integrity period in ticks, 0 that of the Block (R459). -/
structure RcbOpts where
  dchg      : Bool := true
  qchg      : Bool := true
  dupd      : Bool := true
  integrity : Bool := true
  gi        : Bool := true
  period    : Nat := 0
  deriving DecidableEq, Repr, Inhabited

/-- A service request of an MMS association (R459, R460). `privE` says that the client holds privilege E (log entry 7). -/
inductive MmsReq where
  | read (points : List Nat)
  | control (slot value : Nat) (operate test : Bool) (origin : BitVec 128)
  | cancel (slot : Nat) (origin : BitVec 128)
  | activateGroup (g : Nat)
  | setMode (target mode : Nat)
  | setSim (on : Bool)
  | write (point : Nat) (value : BitVec 64)
  | enableReport (rcb : Nat) (on : Bool) (dataset : List Nat) (buffered : Bool) (opts : RcbOpts)
  | generalInterrogation (rcb : Nat)
  | fileDirectory
  | getFile (recno : Nat)
  | fileDelete (recno : Nat) (privE : Bool)
  | unsupported
  deriving DecidableEq, Repr, Inhabited

/-- A frame from an IEC 60870-5-104 controlling station (R464): a connection to the pair address or not, an ASDU (a control with its
common address), a frame of U format. -/
inductive Iec104Req where
  | connect (pair : Bool)
  | control (typeId slot value : Nat) (select : Bool) (ageS ca : Nat)
  | interrogation | counterInterrogation | read (point : Nat) | test | clockSync | unsupported (typeId : Nat)
  | startDt | stopDt | testFr | testCon
  deriving DecidableEq, Repr, Inhabited

/-- What a control relay output block asks for (R465). -/
inductive Crob where
  | latchOn | latchOff | pulseOn | trip | close | other
  deriving DecidableEq, Repr, Inhabited

/-- A request of a DNP3 master (R465): a connection to the pair address or not; a read of points in a variation, 0 the default one, and
of output states; controls with the master's address. -/
inductive Dnp3Req where
  | connect (pair : Bool)
  | readClass (cls : Nat)
  | read (points : List Nat) (var : Nat)
  | readOutputs (slots : List Nat)
  | select (slot : Nat) (op : Crob) (src : Nat) | operate (slot : Nat) (op : Crob) (src : Nat)
  | directOperate (slot : Nat) (op : Crob) (src : Nat) (ack : Bool)
  | readTime | writeTime | enableUnsolicited (on : Bool) | assignClass (point cls : Nat) | unsupported
  deriving DecidableEq, Repr, Inhabited

/-- Who asks: a Modbus TCP client, or a master on an RS-485 port with the address it calls (R466). -/
inductive ModbusPeer where
  | tcp (conn : Fin 8)
  | rtu (port : Fin 2) (addr : Nat)
  deriving DecidableEq, Repr, Inhabited

/-- A Modbus request (R466): reads by function code 1 to 4, writes of one or several coils (5, 15) and registers (6, 16). -/
inductive ModbusReq where
  | read (fc : Nat) (points : List Nat)
  | writeCoils (l : List (Nat × Nat))
  | writeRegisters (l : List (Nat × BitVec 64))
  | identification
  | unsupported (fc : Nat)
  deriving DecidableEq, Repr, Inhabited

/-- A request of an IEC 60870-5-103 primary station (R467). -/
inductive Iec103Req where
  | interrogation | timeSync | command (slot value : Nat) | unsupported
  deriving DecidableEq, Repr, Inhabited

/-- A C37.118.2 command (R468); data go to a client of the pair address or of the engine's own. -/
inductive C37Cmd where
  | dataOff | dataOn (pair : Bool) | sendHdr | sendCfg1 | sendCfg2 | sendCfg3 | extended
  deriving DecidableEq, Repr, Inhabited

/-- An action that a station protocol asks for (R454). Protocols are numbered as in `ProtoMaps`. -/
inductive StationAct where
  | select (slot value : Nat) | operate (slot value : Nat) | coil (slot value : Nat) | cancel (slot : Nat)
  | group (g : Nat) | mode (target mode : Nat) | sim (on : Bool) | write (point : Nat) (value : BitVec 64)
  deriving DecidableEq, Repr, Inhabited

/-- What the active engine forwards over the Felt link (R500, R314, R512). -/
inductive Forwarded where
  | block (b : Block)
  | hood (h : Hood)
  | action (a : Action)
  deriving DecidableEq, Repr, Inhabited

/-- What an update boot meets (R504, R505): the image that the patch makes, by its SHA-384 and SHA-256 hashes and its signature, none where
the difference does not apply; the self-test of the new image; a power loss in its first four steps. -/
structure BootTry where
  image  : Option (List Byte × List Byte × BitVec 768) := none
  selfOk : Bool := true
  cut    : Bool := false
  deriving DecidableEq, Repr, Inhabited

/-- A module in an Ethernet or Felt cage (R531). -/
inductive Sfp where
  | absent | sx | lx | t | sfpp | dac | otherType
  deriving DecidableEq, Repr, Inhabited

/-- The commands: the 269 rows of spec/opcode_table.json, in the table's order, those without an operand last (a compiled
constructor with operands must be among the first 244). -/
inductive Instr where
  /-- POWER_UP (R41): Power-up or reset starts the MP and CP, runs self-tests, reads the UNIT_ID strap, starts the clock and checks the current Block before taking a role. -/
  | powerUp (strap : BitVec 2) (sealedSec : Nat) (sealedOk : Bool) (selfOk : Bool) (cellMv : Nat) (boot : BootTry)
  /-- UPDATE_BOOT (R504): After UPD_STAGE MODE 1 the boot loader decrypts, patches, verifies and boots the new image, converts the Blocks and re-checks the schedule. -/
  | updateBoot (boot : BootTry)
  /-- TICK (R48): A tick starts on the first main-clock edge at which the clock reaches the tick's start and runs phases A to F. -/
  | tick (x : TickIn)
  /-- ENGINE_UNHEALTHY (R44): A cause of R45 is detected; the engine stops committing, reports itself unhealthy, releases its Hat request and records the cause. -/
  | engineUnhealthy (cause : Nat)
  /-- ECC_CORRECTED (R38): A single-bit error is corrected in the read that finds it, counted and written back. -/
  | eccCorrected (mem : EccMem)
  /-- ECC_UNCORRECTABLE (R39): An uncorrectable error makes the engine unhealthy or discards the affected buffer content, depending on the memory. -/
  | eccUncorrectable (mem : EccMem)
  /-- LANE_CONVERSION (R73): A lane completes a conversion of its next enabled scan slot and starts the next one. -/
  | laneConversion (lane : Fin 16) (code : BitVec 18)
  /-- LANE_CALIBRATION (R89): At tick 0 of every second the lane offset and gain are computed from slot-4 conversions and classified. -/
  | laneCalibration (lane : Fin 16)
  /-- CASSETTE_INSERTION (R85): A fall of PRES_N starts the read of the cassette memory within 50 ms. -/
  | cassetteInsertion (lane : Fin 16)
  /-- CASSETTE_READ_COMPLETE (R86): A checked cassette memory makes the channels valid from the next window, with its GAIN, OFFSET and DELAY. -/
  | cassetteReadComplete (lane : Fin 16) (mem : List Byte)
  /-- CASSETTE_WITHDRAWAL (R86): A rise of PRES_N makes the lane's channels invalid from the first window containing a later conversion. -/
  | cassetteWithdrawal (lane : Fin 16)
  /-- CASSETTE_REREAD (R85): Every 60 s the MP re-reads the cassette memory; different contents count as withdrawal and insertion. -/
  | cassetteReread (lane : Fin 16) (mem : List Byte)
  /-- FRAME_RECEIVE (R104): A received frame with correct FCS is sorted into the intake, time, redundancy or station path, or counted and discarded. -/
  | frameReceive (f : Frame)
  /-- BACKUP_RETURN (R124): A member returns from its backup channel after its stream has stayed valid for 960 grid values. -/
  | backupReturn (stream : Fin 96)
  /-- GOOSE_PUBLISHER_DROPPED (R130): When a control block's time allowed to live has ended without a frame, its members take their substitutes and cause 0x01 is queued. -/
  | goosePublisherDropped (gcb : Fin 2048)
  /-- FREQUENCY_HOLD_EXPIRY (R155): After F_HOLD ticks without a usable source, f reads invalid and F_T returns to nominal. -/
  | frequencyHoldExpiry (group : Fin 64)
  /-- SYNCHROPHASOR_SEND (R163): The CP sends a C37.118.2 data frame within 1 ms after phase F of the tick completing the report. -/
  | synchrophasorSend (stream : Fin 8)
  /-- CONFIG_CHANGE_BIT_EXPIRY (R164): Bit 10 of a changed synchrophasor stream clears 60 s after the activation tick. -/
  | configChangeBitExpiry (stream : Fin 8)
  /-- START_CONFIRMATION (R172): An element's start sets after its start condition has held for C counted ticks. -/
  | startConfirmation (i : Fin 2048) (phase : Fin 3)
  /-- ELEMENT_OPERATE (R173): An element's op sets in the first tick in which its operate timer reaches T. -/
  | elementOperate (i : Fin 2048)
  /-- ELEMENT_TIMER_RESET (R173): After str clears, tmr holds for TR ticks and then becomes 0. -/
  | elementTimerReset (i : Fin 2048)
  /-- POLARISATION_MEMORY_EXPIRY (R185): 67P loses polarisation after MEMT ticks on memory voltage. -/
  | polarisationMemoryExpiry (i : Fin 2048)
  /-- TRANSIENT_WINDOW_END (R188): 67NT computes ρ at the end of its NWIN-sample window and enters Hold. -/
  | transientWindowEnd (i : Fin 2048)
  /-- TRANSIENT_HOLD_END (R188): 67NT returns to Idle when U0 falls or THOLD expires. -/
  | transientHoldEnd (i : Fin 2048)
  /-- FDIR_WINDOW_END (R189): FDIR decides direction at the end of its NWIN-sample window. -/
  | fdirWindowEnd (i : Fin 2048)
  /-- FDIR_HOLD_END (R189): FDIR's decision ends after HOLD ticks and the element re-arms after P quiet samples. -/
  | fdirHoldEnd (i : Fin 2048)
  /-- THERMAL_EVALUATION (R190): Every 96 ticks the 49 element updates θ and its trip, alarm and time-to-trip outputs. -/
  | thermalEvaluation (i : Fin 2048)
  /-- COLD_LOAD_TRANSITION (R198): CLP moves warm to cold after TCOLD, cold to active on closing, and active to warm after TACT or TEND. -/
  | coldLoadTransition (i : Fin 2048)
  /-- HIZ_CYCLE_EVALUATION (R199): Once per nominal cycle HIZ updates I3, E, its averages and its active-cycle count. -/
  | hizCycleEvaluation (i : Fin 2048)
  /-- FUSE_FAILURE_DECLARE (R200): The 60 element declares fuse failure when a cause has held for T ticks. -/
  | fuseFailureDeclare (i : Fin 2048)
  /-- FUSE_FAILURE_CLEAR (R200): The latched fuse failure clears after recovery conditions hold for TREC ticks. -/
  | fuseFailureClear (i : Fin 2048)
  /-- INRUSH_HOLD_EXPIRY (R197): INR's op ends TR ticks after the last started phase drops off. -/
  | inrushHoldExpiry (i : Fin 2048)
  /-- SOURCE_CHANGE_HOLD_END (R202): FDIR, 67NT, HIZ and the 60 three-phase cause resume Pc ticks after a channel changes source. -/
  | sourceChangeHoldEnd (i : Fin 2048)
  /-- FLANGE_OPERATE (R215): A phase's op sets in the first tick in which its accumulator reaches full scale. -/
  | flangeOperate (i : Fin 2048) (phase : Fin 3)
  /-- FLANGE_DEFINITE_RESET (R218): After TRD ticks of reset hold, the accumulator is cleared. -/
  | flangeDefiniteReset (i : Fin 2048) (phase : Fin 3)
  /-- FLANGE_INVERSE_RESET_DONE (R218): An inverse reset ends when the accumulator reaches 0 and the state returns to idle. -/
  | flangeInverseResetDone (i : Fin 2048) (phase : Fin 3)
  /-- TRIP_MINIMUM_EXPIRY (R235): A Tripping slot leaves Tripping once TTMIN has passed, no source is active and open is confirmed. -/
  | tripMinimumExpiry (slot : Fin 64)
  /-- TRIP_MAXIMUM_EXPIRY (R240): A slot whose breaker is not confirmed open by TTMAX enters Failed. -/
  | tripMaximumExpiry (slot : Fin 64)
  /-- DEAD_TIME_EXPIRY (R235): At the end of the dead time the slot closes as a reclose or, without permission after TWAIT, locks out. -/
  | deadTimeExpiry (slot : Fin 64)
  /-- CLOSE_MAXIMUM_EXPIRY (R235): A Closing slot whose breaker is not on by TCLMAX goes to Lockout or Open with alarm bit 1. -/
  | closeMaximumExpiry (slot : Fin 64)
  /-- RECLAIM_EXPIRY (R235): Reclaim ends in Closed after TRECL or TMCB and shot returns to 0. -/
  | reclaimExpiry (slot : Fin 64)
  /-- POSITION_DISCREPANCY (R230): An intermediate or bad position lasting TDISC ticks sets alarm bit 2. -/
  | positionDiscrepancy (slot : Fin 64)
  /-- RETRIP (R239): Retrip sets when the breaker-failure initiation or BF timer reaches TBF1. -/
  | retripSet (slot : Fin 64)
  /-- BREAKER_FAILURE_TRIP (R239): bf_trip sets when bf_tmr reaches TBF2, tripping every BFT target in class XL. -/
  | breakerFailureTrip (slot : Fin 64)
  /-- SELECTION_TIMEOUT (R243): A selection not operated within TSEL ends with result 7. -/
  | selectionTimeout (slot : Fin 64)
  /-- CONTROL_TERMINATION (R243): An operator control terminates positive when pos reaches the commanded state in time, negative otherwise. -/
  | controlTermination (slot : Fin 64)
  /-- BUS_BLOCKING_EXTENSION_EXPIRY (R248): A bus-blocking output held by an invalid member ends TEXT ticks after the last such tick. -/
  | busBlockingExtensionExpiry (i : Fin 8)
  /-- INTERTRIP_PULSE_EXPIRY (R249): An intertrip send point is held for at least TPULSE. -/
  | intertripPulseExpiry (i : Fin 32)
  /-- LOAD_SHED_RESTORATION_START (R250): Restoration of a stage begins after st.freq has read at least FR for TREST ticks with TRIG false. -/
  | loadShedRestorationStart (i : Fin 16)
  /-- LOAD_SHED_RESTORE_STEP (R250): Every TSTEP ticks the next close request of a restoring stage is issued. -/
  | loadShedRestoreStep (i : Fin 16)
  /-- RECORD_CLOSE (R257): A disturbance record closes at its end tick or at its MAXLEN limit, where a continuation record may start. -/
  | recordClose (plan : Fin 16)
  /-- SNIPPET_COPY (R273): The DRC copies a wavefront snippet to staging in the tick in which its last conversion is written. -/
  | snippetCopy (plan : Fin 16) (lane : Fin 16)
  /-- FAULT_LOCATOR_LATCH (R267): Every Pc ticks FL copies the phasors into latch L_a after moving L_a into L_b. -/
  | faultLocatorLatch (bay : Fin 48)
  /-- FAULT_LOCATION (R268): In tick n_f, FL selects the loop, computes the distance and fault resistance and writes its result. -/
  | faultLocation (bay : Fin 48)
  /-- WAVEFRONT_LOCATION (R274): The active MP locates the fault from the record's snippets and writes the result through the command path. -/
  | wavefrontLocation (bay : Fin 48) (recno : Nat)
  /-- DRC_STORAGE_ERROR (R264): A failed DRC write marks its 64 KiB block bad and raises the recorder fault alarm. -/
  | drcStorageError (e : DrcErr)
  /-- EXPORT_COMPLETE (R276): An export of all files of a record completes and sets its exported mark. -/
  | exportComplete (job : Nat)
  /-- TASK_RELEASE (R282): A cyclic task is released in every tick in which (LTC − OFFSET) mod N is 0. -/
  | taskRelease (t : Fin 10)
  /-- TASK_COMPLETE (R289): A task completes in the tick in which the charge of its last instruction falls, committing its outputs in phase E. -/
  | taskComplete (t : Fin 10)
  /-- RELEASE_SKIPPED (R290): A cyclic task still running at its next release skips that release and queues cause 0x10. -/
  | releaseSkipped (t : Fin 10)
  /-- CYCLE_ABANDONED (R291): A cycle not complete after MAXREL periods is discarded, cause 0x11 queued and the task released afresh. -/
  | cycleAbandoned (t : Fin 10)
  /-- NOP (R297): Bit-logic instruction that does nothing. -/
  | bluNop (u : Fin 2) (m : BitVec 4) (idx : BitVec 20)
  /-- LD (R297): Bit-logic instruction loading the operand into ACC. -/
  | bluLd (u : Fin 2) (m : BitVec 4) (idx : BitVec 20)
  /-- ST (R297): Bit-logic instruction storing ACC, or its negation, to a point. -/
  | bluSt (u : Fin 2) (m : BitVec 4) (idx : BitVec 20)
  /-- AND (R297): Bit-logic instruction ANDing the operand into ACC. -/
  | bluAnd (u : Fin 2) (m : BitVec 4) (idx : BitVec 20)
  /-- OR (R297): Bit-logic instruction ORing the operand into ACC. -/
  | bluOr (u : Fin 2) (m : BitVec 4) (idx : BitVec 20)
  /-- XOR (R297): Bit-logic instruction XORing the operand into ACC. -/
  | bluXor (u : Fin 2) (m : BitVec 4) (idx : BitVec 20)
  /-- SET (R297): Bit-logic instruction setting a point when ACC is true. -/
  | bluSet (u : Fin 2) (m : BitVec 4) (idx : BitVec 20)
  /-- RST (R297): Bit-logic instruction clearing a point when ACC is true. -/
  | bluRst (u : Fin 2) (m : BitVec 4) (idx : BitVec 20)
  /-- LDK (R297): Bit-logic instruction loading the constant IDX into ACC. -/
  | bluLdk (u : Fin 2) (m : BitVec 4) (idx : BitVec 20)
  /-- LDV (R297): Bit-logic instruction loading whether the point's validity is good. -/
  | bluLdv (u : Fin 2) (m : BitVec 4) (idx : BitVec 20)
  /-- LDQ (R297): Bit-logic instruction loading whether the point's validity is good or questionable. -/
  | bluLdq (u : Fin 2) (m : BitVec 4) (idx : BitVec 20)
  /-- LDS (R297): Bit-logic instruction loading whether the point is substituted or old. -/
  | bluLds (u : Fin 2) (m : BitVec 4) (idx : BitVec 20)
  /-- ANDB (R297): Bit-logic instruction pushing ACC with AND and loading the operand. -/
  | bluAndb (u : Fin 2) (m : BitVec 4) (idx : BitVec 20)
  /-- ORB (R297): Bit-logic instruction pushing ACC with OR and loading the operand. -/
  | bluOrb (u : Fin 2) (m : BitVec 4) (idx : BitVec 20)
  /-- CLB (R297): Bit-logic instruction popping the branch stack and combining it with ACC. -/
  | bluClb (u : Fin 2) (m : BitVec 4) (idx : BitVec 20)
  /-- TON (R295): Bit-logic on-delay timer instruction. -/
  | bluTon (u : Fin 2) (m : BitVec 4) (idx : BitVec 20)
  /-- TOF (R295): Bit-logic off-delay timer instruction. -/
  | bluTof (u : Fin 2) (m : BitVec 4) (idx : BitVec 20)
  /-- TP (R295): Bit-logic pulse timer instruction. -/
  | bluTp (u : Fin 2) (m : BitVec 4) (idx : BitVec 20)
  /-- REDGE (R296): Bit-logic rising-edge detector instruction. -/
  | bluRedge (u : Fin 2) (m : BitVec 4) (idx : BitVec 20)
  /-- FEDGE (R296): Bit-logic falling-edge detector instruction. -/
  | bluFedge (u : Fin 2) (m : BitVec 4) (idx : BitVec 20)
  /-- CTU (R296): Bit-logic up-counter instruction. -/
  | bluCtu (u : Fin 2) (m : BitVec 4) (idx : BitVec 20)
  /-- CRS (R297): Bit-logic counter reset instruction. -/
  | bluCrs (u : Fin 2) (m : BitVec 4) (idx : BitVec 20)
  /-- JC (R297): Bit-logic instruction skipping IDX instructions when ACC is true. -/
  | bluJc (u : Fin 2) (m : BitVec 4) (idx : BitVec 20)
  /-- JNC (R297): Bit-logic instruction skipping IDX instructions when ACC is false. -/
  | bluJnc (u : Fin 2) (m : BitVec 4) (idx : BitVec 20)
  /-- END (R297): Bit-logic instruction completing the cycle. -/
  | bluEnd (u : Fin 2) (m : BitVec 4) (idx : BitVec 20)
  /-- HOOD_LOAD_COMPLETE (R306): The Hood check completes in both engines and the Hood is loaded, or refused. -/
  | hoodLoadComplete (partner : Nat)
  /-- DI_RAW_CHANGE (R327): A change of a digital input's raw state restarts its filter and counts toward oscillation. -/
  | diRawChange (di : Fin 128) (raw : Bool) (instant : Nat)
  /-- DI_FILTER_ACCEPT (R327): The filter accepts a new input state after it has held for FILT, stamping the edge at the start of the run. -/
  | diFilterAccept (di : Fin 128) (instant : Nat)
  /-- FAST_CHANNEL_EDGE (R330): A raw rising edge of a fast channel is counted and stamped for the frequency meter. -/
  | fastChannelEdge (ch : Fin 16) (rising : Bool) (instant : Nat) (short : Bool)
  /-- OUTPUT_THERMAL_SHUTDOWN (R336): A shorted output in current limit shuts down thermally and the FIO notes it, latching or scheduling a retry. -/
  | outputThermalShutdown (o : Fin 96)
  /-- OUTPUT_RETRY (R336): 96 ticks after a noted shutdown the switch is turned on again if still commanded. -/
  | outputRetry (o : Fin 96)
  /-- OUTPUT_RETRY_COUNT_RESET (R336): The retry count returns to 0 after 1 s on without shutdown. -/
  | outputRetryCountReset (o : Fin 96)
  /-- FIELD_SUPPLY_STATE_CHANGE (R341): An output group's supply state changes after its condition has held for 3 ticks. -/
  | fieldSupplyStateChange (g : Fin 6)
  /-- HOLD_KEEPER_HOLD (R344): A tick passes without a commit while output enable is set and the keeper holds the latched states. -/
  | holdKeeperHold (g : Fin 6)
  /-- HOLD_EXPIRY (R344): HOLDT after the last commit every switch of the group turns off and EXPIRED sets. -/
  | holdExpiry (g : Fin 6)
  /-- TSU_INC_WRITE (R350): A write to TSU_INC takes effect on the next edge, or is ignored with INC_REJ outside ±300 ppm. -/
  | tsuIncWrite (v : BitVec 64) (cycle : Nat)
  /-- TSU_CTRL_CLEAR (R351): Writing 1 clears STEP_DONE or INC_REJ. -/
  | tsuCtrlClear (v : BitVec 32)
  /-- SERVO_MEASUREMENT (R361): At each offset measurement of the source in use the servo slews TSU_INC or records a jump observation. -/
  | servoMeasurement (m : Measurement)
  /-- IRIG_FRAME (R357): An IRIG-B frame is decoded and checked and counts toward qualification. -/
  | irigFrame (f : IrigFrame)
  /-- PPS_EDGE (R358): A 1PPS edge is stamped and taken as the nearest whole second. -/
  | ppsEdge (instant : Nat)
  /-- INITIAL_ALIGNMENT (R369): In the first tick a listed source qualifies within INIT_WAIT, the TSU steps once to it. -/
  | initialAlignment (src : Nat) (offset : Int)
  /-- PARTNER_ALIGNMENT (R370): On entering role 5 the engine steps its clock to the partner's and takes its generation. -/
  | partnerAlignment (offset : Int) (gen : BitVec 16)
  /-- WITNESS_FRAME_RECEIVE (R385): A witness frame is validated and its action for this engine scheduled for its next tick. -/
  | witnessFrameReceive (bytes : List Byte) (inSlot : Bool)
  /-- HAT_GRANT (R378): Within the first 20 µs of a tick a valid grant sets the Hat latch when the partner's loop is de-energised. -/
  | hatGrant (hatIn : Bool)
  /-- LONE_LATCH_SET (R379): In role 6 the latch sets without a grant when the engine is healthy and HAT_IN is de-energised. -/
  | loneLatchSet (hatIn : Bool)
  /-- WITNESS_DECISION (R388): The witness decides grants and revokes from the engine frames of the tick and sends its frame. -/
  | witnessDecision (fa fb : Option (List Byte × Nat))
  /-- MIRROR_ITEM_RECEIVE (R391): The standby receives a mirrored input item tagged with its presentation tick. -/
  | mirrorItemReceive (h : FeltHdr) (ltc : Nat) (item : MirrorItem)
  /-- CLOSE_FRAME_RECEIVE (R392): The standby receives the CLOSE frame of a tick, with its LTC and item count. -/
  | closeFrameReceive (h : FeltHdr) (id : TickId) (ltc n : Nat)
  /-- DIGEST_COMPARE (R396): The partner's digest is compared with the own, counting matches or raising a mismatch. -/
  | digestCompare (h : FeltHdr) (ltc : Nat) (digest : BitVec 128)
  /-- CHUNK_RECEIVE (R397): A chunk base or delta of the state copy is received and verified or seeded. -/
  | chunkReceive (h : FeltHdr) (epoch chunk : Nat) (delta : Bool) (items : List CopyItem)
  /-- EPOCH_CLOSING_DIGEST (R399): The closing digest of an epoch is checked; the copy is applied, corrected, or discarded. -/
  | epochClosingDigest (h : FeltHdr) (epoch : Nat) (digest : BitVec 128)
  /-- PLAUSIBILITY_WINDOW (R394): The standby compares its own inputs with the mirrored ones over each window and raises plausibility alarms. -/
  | plausibilityWindow
  /-- FELT_LINK_LANE_DOWN (R405): One Felt link lane fails and the other carries all traffic. -/
  | feltLinkLaneDown (lane : Fin 2)
  /-- FELT_LINK_RESTORED (R404): The Felt link returns and a stale standby enters role 5 to seed. -/
  | feltLinkRestored (part : BitVec 32) (role : Nat) (fwVer : BitVec 32) (blockId hoodId : BitVec 128)
  /-- PARTNER_BLOCK_TAKE (R412): A joining engine takes and activates the active engine's Block and Hoods before seeding. -/
  | partnerBlockTake (b : Block) (hoods : List Hood)
  /-- PARTNER_RECORD_RECEIVE (R487): A record sent by a partner with a failed recorder is staged with PARTNER set. -/
  | partnerRecordReceive (h : FeltHdr) (r : EvRec)
  /-- FORWARDED_PIN_RECEIVE (R449): A Pin forwarded by the partner is latched 1,536 cycles after its offset. -/
  | forwardedPinReceive (h : FeltHdr) (id : TickId) (offset : Nat)
  /-- PIN_IN_EDGE (R446): A rising edge of PIN_IN latches a Pin into a free snapshot bank. -/
  | pinInEdge (cycle : Nat)
  /-- MBX_DOORBELL_WRITE (R430): Writing a doorbell bit passes the mailbox to the MP and clears its DONE bit. -/
  | mbxDoorbellWrite (v : BitVec 32)
  /-- MBX_DONE_CLEAR (R429): Writing 1 clears a mailbox's DONE bit. -/
  | mbxDoneClear (v : BitVec 32)
  /-- MBX_EVT_CLEAR (R429): Writing 1 clears an event bit of MBX_EVT. -/
  | mbxEvtClear (v : BitVec 32)
  /-- OWNED_MAILBOX_ACCESS (R430): A host access to a mailbox owned by the MP reads 0 or is ignored, and is counted. -/
  | ownedMailboxAccess (mbx : Fin 16) (write : Bool)
  /-- UNMAPPED_ACCESS (R419): An access to an unmapped address reads 0 or is ignored and is counted. -/
  | unmappedAccess (write : Bool)
  /-- SNAP_CTRL_RELEASE (R447): Writing 1 to FULL_A or FULL_B releases a snapshot bank. -/
  | snapCtrlRelease (v : BitVec 32)
  /-- PIN_CTRL_FIRE (R447): Writing FIRE in PIN_CTRL makes a Pin from the host. -/
  | pinCtrlFire (v : BitVec 32) (cycle : Nat)
  /-- HAT_STATUS_CLEAR (R416): Writing 1 clears RACE_LOST, GRANT_BLOCKED or WDOG in HAT_STATUS. -/
  | hatStatusClear (v : BitVec 32)
  /-- REGISTER_WRITE (R16): A write to a register without a row of its own updates its RW fields. -/
  | registerWrite (tsu : Bool) (addr : BitVec 24) (v : BitVec 64) (be : BitVec 4)
  /-- SESSION_OPEN (R435): Opens a session for an enrolled key and returns SESSION and ENONCE. -/
  | sessionOpen (r : Req) (keyId : Nat) (hnonce : BitVec 256)
  /-- SESSION_AUTH (R435): Authenticates a session by the key's signature and grants its privileges. -/
  | sessionAuth (r : Req) (sig : BitVec 768)
  /-- SESSION_CLOSE (R435): Closes the session. -/
  | sessionClose (r : Req)
  /-- SESSION_INFO (R443): Returns the session's key, privileges, last TAG and idle time. -/
  | sessionInfo (r : Req)
  /-- SESSION_TIMEOUT (R435): A session closes after 900 s without a command. -/
  | sessionTimeout (session : Nat)
  /-- KEY_ENROL (R512): Starts a job that waits 60 s for the front button to enrol a public key. -/
  | keyEnrol (r : Req) (key : BitVec 776) (priv : BitVec 9)
  /-- KEY_REVOKE (R512): Removes a key at once and closes its sessions. -/
  | keyRevoke (r : Req) (keyId : Nat)
  /-- KEY_LIST (R443): Returns the enrolled keys with privileges and fingerprints. -/
  | keyList (r : Req)
  /-- GET_IDENTITY (R443): Returns the identity block and the device identity public key. -/
  | getIdentity (r : Req)
  /-- GET_STATUS (R443): Returns the first 256 bytes of the status window. -/
  | getStatus (r : Req)
  /-- GET_HEALTH (R443): Returns the values of the health points 0xF_0000 to 0xF_007F. -/
  | getHealth (r : Req)
  /-- JOB_STATUS (R443): Returns the state, progress and result of a job. -/
  | jobStatus (r : Req) (job : Nat)
  /-- JOB_CANCEL (R443): Cancels a job unless its action is armed. -/
  | jobCancel (r : Req) (job : Nat)
  /-- JOB_END (R442): A job finishes and sets MBX_EVT JOB; it stays reportable for 60 s. -/
  | jobEnd (job : Nat) (final : Nat) (result : Nat)
  /-- TRANSFER_DISCARD (R442): A transfer idle for 600 s is discarded. -/
  | transferDiscard (kind : Fin 3)
  /-- BLOCK_BEGIN (R496): Starts a Block transfer and discards any staged Block. -/
  | blockBegin (r : Req) (length : Nat) (blockId : BitVec 128)
  /-- BLOCK_CHUNK (R496): Writes a chunk of the staged Block. -/
  | blockChunk (r : Req) (offset : Nat) (data : List Byte)
  /-- BLOCK_CHECK (R492): Runs the Block check as a job. -/
  | blockCheck (r : Req)
  /-- BLOCK_ACTIVATE (R497): Checks and prepares a staged or previous Block for activation at a named tick. -/
  | blockActivate (r : Req) (slot : Nat) (ntick : Nat)
  /-- BLOCK_INFO (R494): Returns the Block identities and staging state. -/
  | blockInfo (r : Req)
  /-- HOOD_BEGIN (R443): Starts a Hood transfer. -/
  | hoodBegin (r : Req) (length : Nat) (hoodId : BitVec 128)
  /-- HOOD_CHUNK (R443): Writes a chunk of the Hood package. -/
  | hoodChunk (r : Req) (offset : Nat) (data : List Byte)
  /-- HOOD_LOAD (R306): Starts the check of the transferred Hood as a job. -/
  | hoodLoad (r : Req)
  /-- HOOD_SWAP (R308): Arms the loaded Hood for swap at tick S. -/
  | hoodSwap (r : Req) (ntick : Nat)
  /-- HOOD_CANCEL (R310): Withdraws an armed Hood at a named tick before S. -/
  | hoodCancel (r : Req) (ntick : Nat)
  /-- HOOD_UNLOAD (R306): Discards a loaded Hood that is not armed. -/
  | hoodUnload (r : Req)
  /-- HOOD_INFO (R443): Returns the Hood status points. -/
  | hoodInfo (r : Req)
  /-- FORCE_SET (R445): Sets or changes a force on a point at a named tick. -/
  | forceSet (r : Req) (ntick point : Nat) (qval : BitVec 16) (value : BitVec 64)
  /-- FORCE_RELEASE (R443): Releases one force or all forces at a named tick. -/
  | forceRelease (r : Req) (ntick point : Nat)
  /-- FORCE_LIST (R443): Returns entries of the force table. -/
  | forceList (r : Req) (first : Nat)
  /-- GROUP_SWITCH (R204): Switches the setting group at a named tick, refused while a selector is named. -/
  | groupSwitch (r : Req) (ntick group : Nat)
  /-- MODE_SET (R177): Sets the mode of a bay or auxiliary slot at a named tick. -/
  | modeSet (r : Req) (ntick target mode : Nat)
  /-- SIM_SET (R127): Sets st.sim at a named tick. -/
  | simSet (r : Req) (ntick sim : Nat)
  /-- EVR_INFO (R482): Returns the event recorder's sequence range, fill and status. -/
  | evrInfo (r : Req)
  /-- EVR_READ (R482): Returns held event records from FROM_SEQ in ascending order. -/
  | evrRead (r : Req) (fromSeq count : Nat)
  /-- EVR_CLEAR (R483): Requests a signed clear of the event recorder. -/
  | evrClear (r : Req)
  /-- TOMB_READ (R486): Returns a tombstone slot as it stands. -/
  | tombRead (r : Req) (slot : Nat)
  /-- DRC_LIST (R443): Returns header summaries of disturbance records. -/
  | drcList (r : Req) (fromRecno : Nat)
  /-- DRC_TRIGGER (R253): Makes a manual trigger of a plan at a named tick. -/
  | drcTrigger (r : Req) (ntick plan : Nat)
  /-- DRC_EXPORT (R276): Starts a COMTRADE export of a record as a job. -/
  | drcExport (r : Req) (recno options : Nat)
  /-- DRC_FILE (R443): Returns data of an exported file. -/
  | drcFile (r : Req) (job file offset : Nat)
  /-- DRC_DELETE (R443): Deletes a disturbance record. -/
  | drcDelete (r : Req) (recno : Nat)
  /-- TIME_GET (R443): Returns the clock, generation, state, estimated error and pending step. -/
  | timeGet (r : Req)
  /-- TIME_STEP (R368): Authorises a pending or explicit clock step at a named tick. -/
  | timeStep (r : Req) (ntick mode : Nat) (stepSec stepNsec : Int)
  /-- UTC_OFS_SET (R443): Sets the UTC offset. -/
  | utcOfsSet (r : Req) (utcOfs : Nat)
  /-- PAIR_INFO (R443): Returns pair and Hat status and the partner's identity and Block. -/
  | pairInfo (r : Req)
  /-- HANDOVER (R403): Plans a handover of the Hat to the standby at tick H. -/
  | handover (r : Req) (ntick : Nat) (partnerWit : Bool)
  /-- TO_WAITING (R43): Resets the engine into Waiting after the response. -/
  | toWaiting (r : Req)
  /-- UPD_BEGIN (R502): Starts an update package transfer. -/
  | updBegin (r : Req) (length : Nat)
  /-- UPD_CHUNK (R502): Writes a chunk of the update package to staging. -/
  | updChunk (r : Req) (offset : Nat) (data : List Byte)
  /-- UPD_STAGE (R502): Checks the package header and keeps it staged or boots into it. -/
  | updStage (r : Req) (mode : Nat) (acceptOutage : Bool)
  /-- UPD_INFO (R502): Returns the update and confirmation state. -/
  | updInfo (r : Req)
  /-- UPD_DISCARD (R502): Erases the staging area. -/
  | updDiscard (r : Req)
  /-- POINT_READ (R443): Returns the records of listed points. -/
  | pointRead (r : Req) (indices : List Nat)
  /-- RANGE_READ (R443): Returns the records of a range of points. -/
  | rangeRead (r : Req) (first count : Nat)
  /-- POINT_WRITE (R443): Writes a command-path point at a named tick. -/
  | pointWrite (r : Req) (ntick point : Nat) (value : BitVec 64)
  /-- CTL_SELECT (R243): Selects a slot for open or close under its control model. -/
  | ctlSelect (r : Req) (slot value : Nat) (origin : BitVec 128)
  /-- CTL_OPERATE (R243): Operates open or close on a slot at a named tick. -/
  | ctlOperate (r : Req) (ntick slot value : Nat) (origin : BitVec 128)
  /-- CTL_CANCEL (R243): Cancels a selection held by the same originator. -/
  | ctlCancel (r : Req) (slot : Nat) (origin : BitVec 128)
  /-- SLOT_RESET (R241): Resets a slot from Lockout or Failed at a named tick. -/
  | slotReset (r : Req) (ntick slot kind : Nat)
  /-- PIN_FIRE (R446): Makes a Pin from the host by command. -/
  | pinFire (r : Req) (cycle : Nat)
  /-- SNAP_READ (R443): Returns data of a snapshot bank. -/
  | snapRead (r : Req) (bank offset count : Nat)
  /-- SNAP_RELEASE (R443): Releases a snapshot bank. -/
  | snapRelease (r : Req) (bank : Nat)
  /-- SELFTEST (R443): Returns a self-test result and STAT_HEALTH. -/
  | selftest (r : Req)
  /-- COUNTERS (R443): Returns host-port and command counters. -/
  | counters (r : Req)
  /-- ENGINE_RESET (R443): Resets the engine after the response. -/
  | engineReset (r : Req)
  /-- ECHO (R443): Returns the data sent. -/
  | echo (r : Req) (data : List Byte)
  /-- ENCAPSULATED_COMMAND (R469): A command-set request arrives in a TLS record on port 4848 and is handled as a mailbox request. -/
  | encapsulatedCommand (assoc opcode tag session : Nat)
  /-- STATION_PROTOCOL_CONTROL (R454): A control, write, group switch or mode change from a station protocol goes through the command path with NTICK 0. -/
  | stationProtocolControl (proto : Fin 6) (act : StationAct) (origin : BitVec 128) (test : Option Bool)
  /-- MMS_REQUEST (R459): An MMS service request of an association is served by the server. -/
  | mmsRequest (assoc : Nat) (q : MmsReq)
  /-- IEC104_REQUEST (R464): An IEC 60870-5-104 ASDU from a controlling station is served. -/
  | iec104Request (conn : Fin 4) (q : Iec104Req)
  /-- DNP3_REQUEST (R465): A DNP3 request from a master is served by the outstation. -/
  | dnp3Request (master : Fin 4) (q : Dnp3Req)
  /-- MODBUS_REQUEST (R466): A Modbus TCP or RTU request is served. -/
  | modbusRequest (peer : ModbusPeer) (q : ModbusReq)
  /-- IEC103_REQUEST (R467): An IEC 60870-5-103 request from the primary station is served. -/
  | iec103Request (port : Fin 2) (q : Iec103Req)
  /-- C37_118_COMMAND (R468): A C37.118.2 command turns transmission on or off or requests a header or configuration frame. -/
  | c37Command (stream : Fin 8) (q : C37Cmd)
  /-- GOOSE_RETRANSMIT (R463): A GOOSE retransmission falls due at its doubling interval and increments sqNum. -/
  | gooseRetransmit (pub : Fin 128)
  /-- TLS_KEY_UPDATE (R458): A TLS association performs KeyUpdate every 3,600 s or 2^30 records. -/
  | tlsKeyUpdate (assoc : Nat)
  /-- FEED_LOST (R525): One feed below 33.0 V while the other is normal raises 48 V feed lost. -/
  | feedLost (feedB : Bool)
  /-- CELL_CHECK (R510): The coin cell voltage is checked hourly and at power-up, setting CELL_LOW below 2.6 V. -/
  | cellCheck (mv : Nat)
  /-- DEBUG_UNLOCK (R513): A signed debug challenge unlock zeroises keys and opens debug access until reset. -/
  | debugUnlock (sigOk : Bool)
  /-- FACTORY_ERASE (R515): With FERASE grounded and the button held 10 s, keys and Blocks are erased and the tamper latch cleared. -/
  | factoryErase (grounded : Bool) (heldMs : Nat)
  /-- PARTNER_ENGINE_FRAME_RECEIVE (R386): Unit B receives unit A's W1 frame and times its own frame 30.00 µs after that frame's start. -/
  | partnerEngineFrameReceive (bytes : List Byte) (start : Nat)
  /-- FORWARDED_COMMAND_RECEIVE (R500): The partner receives a Block, Hood package or signed command forwarded over the Felt link and checks and prepares it against its own keys. -/
  | forwardedCommandReceive (h : FeltHdr) (x : Forwarded)
  /-- FELT_LINK_LANE_RESTORED (R405): A failed Felt link lane comes back up and the alarm Felt link lane down clears. -/
  | feltLinkLaneRestored (lane : Fin 2)
  /-- FEED_RESTORED (R525): A 48 V feed that was below 33.0 V returns to normal and the alarm 48 V feed lost clears. -/
  | feedRestored (feedB : Bool)
  /-- SFP_MODULE_CHANGE (R531): An SFP or SFP+ module is inserted or removed; the port is used or reads down, and MAC_FORCED is set or cleared. -/
  | sfpModuleChange (cage : Fin 6) (m : Sfp)
  /-- TLS_HANDSHAKE (R458): A client opens a TLS 1.3 association with mutual authentication against the trust anchors. -/
  | tlsHandshake (assoc : Nat) (suite group : Nat) (certOk : Bool) (serial : Nat) (peer : TlsPeer) (resumed : Bool)
  /-- TLS_ASSOCIATION_CLOSE (R435): A TLS association closes, and the network sessions bound to it close with it. -/
  | tlsAssociationClose (assoc : Nat)
  /-- CRL_LOAD (R458): A certificate revocation list is loaded by command for TLS client checking. -/
  | crlLoad (serials : List Nat) (sigOk : Bool)
  /-- CHANGE_QUEUE_DRAIN (R452): The CP drains change-queue entries on its own and emits reports, spontaneous data and unsolicited responses, or a fresh image after overflow. -/
  | changeQueueDrain (n : Nat)
  /-- REPORT_INTEGRITY_PERIOD (R459): The integrity period of an MMS report control block runs out and an integrity report is sent. -/
  | reportIntegrityPeriod (rcb : Fin 256)
  /-- IEC104_TIMER_EXPIRY (R464): An IEC 60870-5-104 timer t1, t2 or t3 runs out on a connection, causing a test frame, an acknowledgement or a connection close. -/
  | iec104TimerExpiry (conn : Fin 4) (timer : Fin 3)
  /-- UNHEALTHY_RESET (R44): An unhealthy engine resets after the partner has taken the Hat or after 20 ticks. -/
  | unhealthyReset
  /-- CLOCK_STEP_APPLY (R352): At the armed STAT_TICK the TSU adds the step, increments the generation, sets STEP_DONE and stretches the tick. -/
  | clockStepApply
  /-- INTAKE_DEADLINE (R116): At 6,000 ns before a tick start, samples and GOOSE frames are judged accepted, late or missing for that tick. -/
  | intakeDeadline
  /-- DRC_POWERFAIL_CLOSE (R263): 96 ticks after supply failure the DRC writes every open record's header with STATE 4. -/
  | drcPowerfailClose
  /-- EVENT_TASK_RELEASE (R293): The event task is released when a trigger point rose between the last two image copies. -/
  | eventTaskRelease
  /-- ERROR_TASK_RELEASE (R294): The error task is released when its cause queue is not empty, taking the queued causes into its image. -/
  | errorTaskRelease
  /-- COMMAND_ACTION_APPLY (R27): In phase A of its named tick an accepted operator action takes effect in both engines, in the order of R322. -/
  | commandActionApply
  /-- SELECTOR_GROUP_SWITCH (R206): A change of the selector point to 1 to 8 switches the group in phase A of the next tick. -/
  | selectorGroupSwitch
  /-- HOOD_SWAP_APPLY (R309): In phase A of tick S the old cycle is abandoned, instance data pass over, the map changes and the new program is released. -/
  | hoodSwapApply
  /-- HOOD_APPLIED_MARK (R315): Within 1 s after S the Hood is marked applied in the Block store chain. -/
  | hoodAppliedMark
  /-- OUTPUT_ENABLE_RISE (R381): Output enable rises and the switches take the last committed image. -/
  | outputEnableRise
  /-- OUTPUT_ENABLE_CLEAR (R335): Output enable clears and every switch turns off within 5 µs. -/
  | outputEnableClear
  /-- TSU_SEC_READ (R351): A read of TSU_SEC latches NSEC and FRAC for a coherent instant. -/
  | tsuSecRead (cycle : Nat)
  /-- TSU_STEP_ARM (R352): Setting STEP_ARM arms the step for the tick named by TSU_STEP_AT. -/
  | tsuStepArm
  /-- SOURCE_SWITCH (R360): A preferred source qualified for HOLDOFF is taken, or a failing source is replaced at once. -/
  | sourceSwitch
  /-- HOLDOVER_ENTRY (R361): With no qualifying source the clock enters holdover with TSU_INC frozen. -/
  | holdoverEntry
  /-- TSU_LOCK (R361): The clock enters Locked after its offset has stayed within 1 µs for 10 s. -/
  | tsuLock
  /-- RTC_WRITEBACK (R369): While locked the MP writes the clock to the sealed-area clock once per second. -/
  | rtcWriteback
  /-- LEAP_SECOND (R359): At the leap second UTC_OFS changes while the clock runs on. -/
  | leapSecond
  /-- PAIR_TIME_DIVERGENCE (R370): Own sources disagreeing with the partner by more than 1 µs for 10 s raise pair time divergence. -/
  | pairTimeDivergence
  /-- HAT_REVOKE (R378): A valid revoke clears the Hat latch at the start of the tick. -/
  | hatRevoke
  /-- HAT_RACE (R380): When both latches set within 10 µs, unit B clears its latch and sets RACE_LOST. -/
  | hatRace
  /-- COMMIT_WATCHDOG (R378): No phase E commit in 24 ticks clears the Hat latch. -/
  | commitWatchdog
  /-- WITNESS_LOST (R385): No valid witness frame in 3 ticks counts the witness as lost. -/
  | witnessLost
  /-- HAT_LOOP_FAULT (R521): A set latch with OWN_LOOP reading 0 for 3 ticks raises Hat loop fault. -/
  | hatLoopFault
  /-- TICK_BRIDGE (R393): A tick whose CLOSE or items have not arrived is bridged on own inputs; two in a row enter role 3. -/
  | tickBridge
  /-- STANDBY_IN_STEP (R43): An engine in role 5 enters role 2 after an applied epoch and 96 consecutive matching digests. -/
  | standbyInStep
  /-- EPOCH_START (R397): A new 768-tick epoch of the rolling state copy starts, where seeding may begin. -/
  | epochStart
  /-- FELT_LINK_DOWN (R404): The Felt link fails; the standby goes stale and both raise Felt link down. -/
  | feltLinkDown
  /-- HANDOVER_APPLY (R403): At the start of tick H the Hat changes wearer and the old engine enters role 5 in VERIFY. -/
  | handoverApply
  /-- HANDOVER_LAPSE (R403): A witness frame of H − 1 without both actions lapses the handover, with an event record of kind 0x0031. -/
  | handoverLapse
  /-- HPI_ERR_READ (R429): Reading HPI_ERR returns and clears the error counts. -/
  | hpiErrRead
  /-- PIN_LOST_READ (R447): Reading PIN_LOST returns and clears the count of dropped Pins. -/
  | pinLostRead
  /-- KEY_ENROL_BUTTON (R512): The front button held for 2 s enrols the waiting key with the next KEY_ID. -/
  | keyEnrolButton
  /-- KEY_ENROL_TIMEOUT (R512): Without a button press within 60 s the enrolment job ends with 0x0102. -/
  | keyEnrolTimeout
  /-- BLOCK_CHECK_COMPLETE (R492): The Block check job ends with its first failing code or 0x0000. -/
  | blockCheckComplete
  /-- BLOCK_ACTIVATION_APPLY (R498): In phase A of tick A the new Block takes effect and state passes under R499. -/
  | blockActivationApply
  /-- BLOCK_DIRECTORY_WRITE (R498): Within 1 s after activation the Block store directory is written. -/
  | blockDirectoryWrite
  /-- EVR_CLEAR_APPLY (R483): In phase F of the next tick the clear record is written to Crown position 0 and other positions become unreadable. -/
  | evrClearApply
  /-- EVR_ERASE_COMPLETE (R483): The background erase after a clear completes and ERASING clears. -/
  | evrEraseComplete
  /-- FIRMWARE_CONFIRM (R507): A new image confirms after 1,000 matching digests or its first lone commit, raising SECLVL. -/
  | firmwareConfirm
  /-- FIRMWARE_FALLBACK (R508): An unconfirmed image at the end of CONF_WIN falls back to the old slot. -/
  | firmwareFallback
  /-- PRP_SUPERVISION_SEND (R455): The engine sends PRP supervision frames every 2 s. -/
  | prpSupervisionSend
  /-- SUPPLY_FAILURE (R525): The OR-ed 48 V input below 33.0 V for 50 µs is detected; the engine stops committing, flushes its recorders and resets. -/
  | supplyFailure
  /-- EVR_POWERFAIL_STOP (R485): The EVR stops writing 160 ticks after detection and writes a tombstone of kind 0x0042 for records left. -/
  | evrPowerfailStop
  /-- TAMPER (R514): A tamper event zeroises the sealed area and sets the tamper latch. -/
  | tamper
  /-- PTP_DELAY_REQUEST_SEND (R355): The PTP client sends its own Pdelay_Req or Delay_Req to measure the mean path delay. -/
  | ptpDelayRequestSend (instant : Nat)
  /-- EVR_RECOVERY (R486): The event recorder recovers from failure, and uncopied tombstone entries are copied into it. -/
  | evrRecovery
  /-- INIT_WAIT_EXPIRY (R369): INIT_WAIT passes after the clock load without a qualifying source, so no initial alignment is made and later offsets are judged under R365. -/
  | initWaitExpiry
  deriving DecidableEq, Repr, Inhabited

end Sys2Proof
end

