-- ==== Sys2Proof/Decode.lean ====
section
/-! DEFINITION. The decoder. spec/opcode_table.json gives none of its rows bits (the commands come from outside as they
are, R16, R432, R104, …), so no word spells a command. -/

namespace Sys2Proof

/-- The command that a word spells by the table's bits: none, since no row has bits. -/
def decodeTableWord (_nbits _w : Nat) : Option Instr := none

end Sys2Proof
end

