-- ==== Sys2Proof/Machine/Bytes.lean ====
section
/-! DEFINITION. Bytes: little-endian and big-endian fields, CRC-32C (R19, R84, R385), SHA-256 (R396, R477). -/

namespace Sys2Proof

/-- The low `k` bytes of a number, least significant first. -/
def leBytes : Nat → Nat → List Byte
  | _, 0 => []
  | n, k + 1 => BitVec.ofNat 8 n :: leBytes (n / 256) k

/-- The low `k` bytes of a number, most significant first. -/
def beBytes (n k : Nat) : List Byte := (leBytes n k).reverse

/-- Little-endian number of bytes. -/
def leNat : List Byte → Nat
  | [] => 0
  | b :: t => b.toNat + 256 * leNat t

/-- A field of a byte string: `k` bytes from an offset, little-endian. -/
def fieldLe (l : List Byte) (ofs k : Nat) : Nat := leNat ((l.drop ofs).take k)

/-- One bit step of CRC-32C, reflected. -/
def crcBit (c : BitVec 32) : BitVec 32 := if c.getLsbD 0 then (c >>> 1) ^^^ 0x82F63B78#32 else c >>> 1

/-- One byte of CRC-32C. -/
def crcByte (c : BitVec 32) (b : Byte) : BitVec 32 :=
  (List.range 8).foldl (fun x _ => crcBit x) (c ^^^ b.setWidth 32)

/-- CRC-32C of a byte string. -/
def crc32c (l : List Byte) : BitVec 32 := ~~~(l.foldl crcByte 0xFFFFFFFF#32)

/-! ### SHA-256 -/

/-- The n-th root of a number, rounded down, bit by bit from bit `k` - 1 of `r` on. -/
def rootBits (n x : Nat) : Nat → Nat → Nat
  | 0, r => r
  | k + 1, r => rootBits n x k (if (r + 2 ^ k) ^ n ≤ x then r + 2 ^ k else r)

/-- The first 32 bits of the fraction of the n-th root of a number. -/
def rootFrac (n p : Nat) : BitVec 32 := BitVec.ofNat 32 (rootBits n (p * 2 ^ (32 * n)) 37 0)

/-- The primes below 312, of which there are 64. -/
def shaPrimes : List Nat := (List.range 312).filter (fun p => decide (2 ≤ p) && (List.range 18).all (fun d => d < 2 || d ≥ p || p % d != 0))

/-- The 64 round constants: the cube roots of the first 64 primes. -/
def shaK : List (BitVec 32) := shaPrimes.map (rootFrac 3)

/-- The eight initial words: the square roots of the first eight primes. -/
def shaInit : List (BitVec 32) := (shaPrimes.take 8).map (rootFrac 2)

/-- Exclusive or of a word's rotations to the right. -/
def rots (x : BitVec 32) (l : List Nat) : BitVec 32 := l.foldl (fun a n => a ^^^ x.rotateRight n) 0

/-- The word that follows 16 words of the message schedule. -/
def shaNext (w : List (BitVec 32)) : BitVec 32 :=
  let u := w.getD 1 0
  let v := w.getD 14 0
  w.headD 0 + w.getD 9 0 + (rots u [7, 18] ^^^ (u >>> 3)) + (rots v [17, 19] ^^^ (v >>> 10))

/-- One round on the eight working words, with the sum of its constant and its schedule word. -/
def shaStep (kw : BitVec 32) : List (BitVec 32) → List (BitVec 32)
  | [a, b, c, d, e, f, g, h] =>
    let pick := g ^^^ (e &&& (f ^^^ g))
    let most := (a &&& (b ||| c)) ||| (b &&& c)
    let t := h + kw + pick + rots e [6, 11, 25]
    [t + most + rots a [2, 13, 22], a, b, c, d + t, e, f, g]
  | x => x

/-- The rounds of a block: `w` are the next 16 words of its schedule. -/
def shaMix : List (BitVec 32) → List (BitVec 32) → List (BitVec 32) → List (BitVec 32)
  | [], _, x => x
  | k :: ks, w, x => shaMix ks (w.tail ++ [shaNext w]) (shaStep (k + w.headD 0) x)

/-- A block of 64 bytes joins the hash. -/
def shaJoin (x : List (BitVec 32)) (block : List Byte) : List (BitVec 32) :=
  let w := (List.range 16).map (fun i => BitVec.ofNat 32 (leNat ((block.drop (4 * i)).take 4).reverse))
  List.zipWith (· + ·) x (shaMix shaK w x)

/-- The message with its end mark, zeros and length in bits: whole blocks. -/
def shaFill (l : List Byte) : List Byte :=
  l ++ 0x80#8 :: List.replicate ((119 - l.length % 64) % 64) 0#8 ++ beBytes (8 * l.length) 8

/-- SHA-256 as its 32 bytes. -/
def sha256 (l : List Byte) : List Byte :=
  let m := shaFill l
  ((List.range (m.length / 64)).foldl (fun x i => shaJoin x ((m.drop (64 * i)).take 64)) shaInit).flatMap (fun x => beBytes x.toNat 4)

/-- The first 128 bits of SHA-256, byte 0 in the low bits. -/
def sha128 (l : List Byte) : BitVec 128 := BitVec.ofNat 128 (leNat ((sha256 l).take 16))

end Sys2Proof
end

