-- ==== Sys2Proof/Machine/Crypto.lean ====
section
/-! DEFINITION. SHA-384, ECDSA and ECDH over P-384, HKDF and AES-256-GCM, of which signatures and update packages are made (R434,
R435, R489, R501), as FIPS 180-4, FIPS 186-5, FIPS 197, SP 800-38D and RFC 5869 define them. -/

namespace Sys2Proof

/-! ### SHA-384 -/

/-- Round constants 0 to 39: the first 64 bits of the fractions of the cube roots of the first primes. -/
def sha5KLow : List Nat :=
  [0x428a2f98d728ae22, 0x7137449123ef65cd, 0xb5c0fbcfec4d3b2f, 0xe9b5dba58189dbbc, 0x3956c25bf348b538,
   0x59f111f1b605d019, 0x923f82a4af194f9b, 0xab1c5ed5da6d8118, 0xd807aa98a3030242, 0x12835b0145706fbe,
   0x243185be4ee4b28c, 0x550c7dc3d5ffb4e2, 0x72be5d74f27b896f, 0x80deb1fe3b1696b1, 0x9bdc06a725c71235,
   0xc19bf174cf692694, 0xe49b69c19ef14ad2, 0xefbe4786384f25e3, 0x0fc19dc68b8cd5b5, 0x240ca1cc77ac9c65,
   0x2de92c6f592b0275, 0x4a7484aa6ea6e483, 0x5cb0a9dcbd41fbd4, 0x76f988da831153b5, 0x983e5152ee66dfab,
   0xa831c66d2db43210, 0xb00327c898fb213f, 0xbf597fc7beef0ee4, 0xc6e00bf33da88fc2, 0xd5a79147930aa725,
   0x06ca6351e003826f, 0x142929670a0e6e70, 0x27b70a8546d22ffc, 0x2e1b21385c26c926, 0x4d2c6dfc5ac42aed,
   0x53380d139d95b3df, 0x650a73548baf63de, 0x766a0abb3c77b2a8, 0x81c2c92e47edaee6, 0x92722c851482353b]

/-- Round constants 40 to 79. -/
def sha5KHigh : List Nat :=
  [0xa2bfe8a14cf10364, 0xa81a664bbc423001, 0xc24b8b70d0f89791, 0xc76c51a30654be30, 0xd192e819d6ef5218,
   0xd69906245565a910, 0xf40e35855771202a, 0x106aa07032bbd1b8, 0x19a4c116b8d2d0c8, 0x1e376c085141ab53,
   0x2748774cdf8eeb99, 0x34b0bcb5e19b48a8, 0x391c0cb3c5c95a63, 0x4ed8aa4ae3418acb, 0x5b9cca4f7763e373,
   0x682e6ff3d6b2b8a3, 0x748f82ee5defb2fc, 0x78a5636f43172f60, 0x84c87814a1f0ab72, 0x8cc702081a6439ec,
   0x90befffa23631e28, 0xa4506cebde82bde9, 0xbef9a3f7b2c67915, 0xc67178f2e372532b, 0xca273eceea26619c,
   0xd186b8c721c0c207, 0xeada7dd6cde0eb1e, 0xf57d4f7fee6ed178, 0x06f067aa72176fba, 0x0a637dc5a2c898a6,
   0x113f9804bef90dae, 0x1b710b35131c471b, 0x28db77f523047d84, 0x32caab7b40c72493, 0x3c9ebe0a15c9bebc,
   0x431d67c49c100d4c, 0x4cc5d4becb3e42b6, 0x597f299cfc657e2a, 0x5fcb6fab3ad6faec, 0x6c44198c4a475817]

/-- The 80 round constants. -/
def sha5K : List Nat := sha5KLow ++ sha5KHigh

/-- The eight initial words of SHA-384: the fractions of the square roots of the ninth to the sixteenth prime. -/
def sha384Init : List Nat :=
  [0xcbbb9d5dc1059ed8, 0x629a292a367cd507, 0x9159015a3070dd17, 0x152fecd8f70e5939, 0x67332667ffc00b31,
   0x8eb44a8768581511, 0xdb0c2e0d64f98fa7, 0x47b5481dbefa4fa4]

/-- A 64-bit word rotated to the right. -/
def rot64 (x n : Nat) : Nat := (x >>> n) ||| ((x <<< (64 - n)) % 2 ^ 64)

/-- The word that follows 16 words of the message schedule. -/
def sha5Next : List Nat → Nat
  | [a, u, _, _, _, _, _, _, _, d, _, _, _, _, v, _] =>
    (a + d + (rot64 u 1 ^^^ rot64 u 8 ^^^ (u >>> 7)) + (rot64 v 19 ^^^ rot64 v 61 ^^^ (v >>> 6))) % 2 ^ 64
  | _ => 0

/-- One round on the eight working words, with the sum of its constant and its schedule word. -/
def sha5Step (kw : Nat) : List Nat → List Nat
  | [a, b, c, d, e, f, g, h] =>
    let t := h + kw + (g ^^^ (e &&& (f ^^^ g))) + (rot64 e 14 ^^^ rot64 e 18 ^^^ rot64 e 41)
    [(t + ((a &&& (b ||| c)) ||| (b &&& c)) + (rot64 a 28 ^^^ rot64 a 34 ^^^ rot64 a 39)) % 2 ^ 64, a, b, c, (d + t) % 2 ^ 64, e, f, g]
  | x => x

/-- The rounds of a block: `w` are the next 16 words of its schedule. -/
def sha5Mix : List Nat → List Nat → List Nat → List Nat
  | [], _, x => x
  | k :: ks, w, x => sha5Mix ks (w.tail ++ [sha5Next w]) (sha5Step (k + w.headD 0) x)

/-- Big-endian number of bytes. -/
def beNat (l : List Byte) : Nat := leNat l.reverse

/-- A block of 128 bytes joins the hash. -/
def sha5Join (x : List Nat) (block : List Byte) : List Nat :=
  let w := (List.range 16).map (fun i => beNat ((block.drop (8 * i)).take 8))
  List.zipWith (fun a b => (a + b) % 2 ^ 64) x (sha5Mix sha5K w x)

/-- The message with its end mark, zeros and length in bits: whole blocks. -/
def sha5Fill (l : List Byte) : List Byte :=
  l ++ 0x80#8 :: List.replicate ((239 - l.length % 128) % 128) 0#8 ++ beBytes (8 * l.length) 16

/-- SHA-384 as its 48 bytes. -/
def sha384 (l : List Byte) : List Byte :=
  let m := sha5Fill l
  (((List.range (m.length / 128)).foldl (fun x i => sha5Join x ((m.drop (128 * i)).take 128)) sha384Init).take 6).flatMap
    (fun x => beBytes x 8)

/-! ### The curve P-384 -/

/-- The field's prime. -/
def p384 : Nat := 2 ^ 384 - 2 ^ 128 - 2 ^ 96 + 2 ^ 32 - 1

/-- The order of the base point. -/
def n384 : Nat := 0xffffffffffffffffffffffffffffffffffffffffffffffffc7634d81f4372ddf581a0db248b0a77aecec196accc52973

/-- The curve's constant b; a is -3. -/
def b384 : Nat := 0xb3312fa7e23ee7e4988e056be3f82d19181d9c6efe8141120314088f5013875ac656398d8a2ed19d2a85c8edd3ec2aef

/-- A point in Jacobian coordinates; `z` 0 is the point at infinity. -/
structure CurvePt where
  x : Nat := 1
  y : Nat := 1
  z : Nat := 0
  deriving DecidableEq, Repr, Inhabited

/-- The base point. -/
def basePt : CurvePt :=
  { x := 0xaa87ca22be8b05378eb1c71ef320ad746e1d3b628ba79b9859f741e082542a385502f25dbf55296c3a545e3872760ab7
    y := 0x3617de4a96262c6f5d9e98bf9292dc29f8f41dbd289a147ce9da3113b5f0b8c00a60b1ce1d7e819d7a431d7c90ea0e5f, z := 1 }

/-- Difference in the field. -/
def subP (a b : Nat) : Nat := (a + p384 - b) % p384

/-- Twice a point. -/
def CurvePt.dbl (u : CurvePt) : CurvePt :=
  let yy := u.y * u.y % p384
  let zz := u.z * u.z % p384
  let s := 4 * u.x * yy % p384
  let m := 3 * subP u.x zz * (u.x + zz) % p384
  let x := subP (m * m % p384) (2 * s % p384)
  { x := x, y := subP (m * subP s x % p384) (8 * yy * yy % p384), z := 2 * u.y * u.z % p384 }

/-- The sum of two points. -/
def CurvePt.add (u v : CurvePt) : CurvePt :=
  if u.z = 0 then v
  else if v.z = 0 then u
  else
    let zu := u.z * u.z % p384
    let zv := v.z * v.z % p384
    let a := u.x * zv % p384
    let c := u.y * v.z * zv % p384
    let h := subP (v.x * zu % p384) a
    let r := subP (v.y * u.z * zu % p384) c
    if h = 0 then (if r = 0 then u.dbl else {})
    else
      let hh := h * h % p384
      let hhh := h * hh % p384
      let w := a * hh % p384
      let x := subP (r * r % p384) ((hhh + 2 * w) % p384)
      { x := x, y := subP (r * subP w x % p384) (c * hhh % p384), z := u.z * v.z * h % p384 }

/-- `a` times a point and `b` times another, over `k` bits. -/
def CurvePt.comb (u v : CurvePt) (a b : Nat) : Nat → CurvePt
  | 0 => {}
  | k + 1 =>
    let t := (CurvePt.comb u v (a / 2) (b / 2) k).dbl
    let t := if a % 2 = 1 then t.add u else t
    if b % 2 = 1 then t.add v else t

/-- A power modulo a number, over `k` bits of the exponent. -/
def powMod (m b : Nat) : Nat → Nat → Nat
  | 0, _ => 1
  | k + 1, e =>
    let t := powMod m b k (e / 2)
    if e % 2 = 1 then t * t % m * b % m else t * t % m

/-- The inverse modulo a prime below 2^384. -/
def invMod (m a : Nat) : Nat := powMod m a 384 (m - 2)

/-- The affine x coordinate of a point that is not at infinity. -/
def CurvePt.affineX (u : CurvePt) : Nat :=
  let i := invMod p384 u.z
  u.x * i % p384 * i % p384

/-- A public key in its 97-byte uncompressed form (R423): 0x04, X, Y of a point of the curve. -/
def keyPoint (key : BitVec 776) : Option CurvePt :=
  let x := key.toNat / 2 ^ 384 % 2 ^ 384
  let y := key.toNat % 2 ^ 384
  if key.toNat / 2 ^ 768 = 4 ∧ x < p384 ∧ y < p384 ∧ y * y % p384 = (x * x * x + (p384 - 3) * x + b384) % p384 then
    some { x := x, y := y, z := 1 }
  else none

/-- An ECDSA signature, r followed by s, over a SHA-384 hash verifies under a public key (R434). -/
def ecdsaOk (key : BitVec 776) (hash : List Byte) (sig : BitVec 768) : Bool :=
  let r := sig.toNat / 2 ^ 384
  let s := sig.toNat % 2 ^ 384
  match keyPoint key with
  | none => false
  | some q =>
    let w := invMod n384 s
    let u := CurvePt.comb basePt q (beNat hash * w % n384) (r * w % n384) 384
    decide (0 < r) && decide (r < n384) && decide (0 < s) && decide (s < n384) && u.z != 0 && u.affineX % n384 == r

/-- The public key of a private key, in its 97-byte form (R423). -/
def publicKey (d : Nat) : BitVec 776 :=
  let u := CurvePt.comb basePt {} d 0 384
  let i := invMod p384 u.z
  BitVec.ofNat 776 (4 * 2 ^ 768 + u.affineX * 2 ^ 384 + u.y * i % p384 * i % p384 * i % p384)

/-- The ECDH secret of a private key and a public key (R501): the x coordinate of their product, 48 bytes; none where the public key is no
point of the curve. -/
def ecdh (d : Nat) (key : BitVec 776) : Option (List Byte) :=
  (keyPoint key).map (fun q => beBytes (CurvePt.comb q {} d 0 384).affineX 48)

/-! ### HKDF-SHA-384 -/

/-- HMAC-SHA-384. -/
def hmac384 (key msg : List Byte) : List Byte :=
  let k0 := if 128 < key.length then sha384 key else key
  let k := k0 ++ List.replicate (128 - k0.length) 0#8
  sha384 (k.map (· ^^^ 0x5C) ++ sha384 (k.map (· ^^^ 0x36) ++ msg))

/-- The 32-byte key that HKDF-SHA-384 derives from a secret under an info, without a salt (log entry 132). -/
def hkdf384 (secret info : List Byte) : List Byte :=
  (hmac384 (hmac384 (List.replicate 48 0#8) secret) (info ++ [1#8])).take 32

/-! ### AES-256-GCM -/

/-- Twice an element of the field of 256 elements. -/
def xtime (a : Byte) : Byte := (a <<< 1) ^^^ (if a.getLsbD 7 then 0x1B else 0)

/-- The substitution table of AES, its entries as the bytes of one number, the first the least significant. -/
def subTable : Nat :=
  [0x16bb54b00f2d99416842e6bf0d89a18cdf2855cee9871e9b948ed9691198f8e1,
   0x9e1dc186b95735610ef6034866b53e708a8bbd4b1f74dde8c6b4a61c2e2578ba,
   0x08ae7a65eaf4566ca94ed58d6d37c8e779e4959162acd3c25c2406490a3a32e0,
   0xdb0b5ede14b8ee4688902a22dc4f816073195d643d7ea7c41744975fec130ccd,
   0xd2f3ff1021dab6bcf5389d928f40a351a89f3c507f02f94585334d43fbaaefd0,
   0xcf584c4a39becb6a5bb1fc20ed00d153842fe329b3d63b52a05a6e1b1a2c8309,
   0x75b227ebe28012079a059618c323c7041531d871f1e5a534ccf73f362693fdb7,
   0xc072a49cafa2d4adf04759fa7dc982ca76abd7fe2b670130c56f6bf27b777c63].foldl (fun n x => n * 2 ^ 256 + x) 0

/-- The substitution of AES. -/
def subByte (a : Byte) : Byte := BitVec.ofNat 8 (subTable >>> (8 * a.toNat))

/-- Exclusive or, byte by byte. -/
def xorBytes (a b : List Byte) : List Byte := List.zipWith (· ^^^ ·) a b

/-- Word `i` of the key schedule from those before it, the newest first. -/
def nextWord (i : Nat) (ws : List (List Byte)) : List Byte :=
  let last := ws.headD []
  let t := if i % 8 = 0 then xorBytes ((last.drop 1 ++ last.take 1).map subByte) [1 <<< (i / 8 - 1), 0, 0, 0]
    else if i % 8 = 4 then last.map subByte else last
  xorBytes (ws.getD 7 []) t

/-- The 60 words of the key schedule of a 32-byte key. -/
def keyWords (key : List Byte) : List (List Byte) :=
  let w0 := ((List.range 8).map (fun i => (key.drop (4 * i)).take 4)).reverse
  (((List.range 52).foldl (fun ws i => nextWord (i + 8) ws :: ws) w0)).reverse

/-- A column through the mix of AES. -/
def mixColumn : List Byte → List Byte
  | [a, b, c, d] =>
    [xtime a ^^^ xtime b ^^^ b ^^^ c ^^^ d, a ^^^ xtime b ^^^ xtime c ^^^ c ^^^ d, a ^^^ b ^^^ xtime c ^^^ xtime d ^^^ d,
     xtime a ^^^ a ^^^ b ^^^ c ^^^ xtime d]
  | x => x

/-- Substitution and shift of rows. -/
def subShift (x : List Byte) : List Byte := (List.range 16).map (fun i => subByte (x.getD ((i + 4 * (i % 4)) % 16) 0))

/-- A block of 16 bytes under AES-256. -/
def aesBlock (ws : List (List Byte)) (x : List Byte) : List Byte :=
  let rk (r : Nat) : List Byte := ((ws.drop (4 * r)).take 4).flatten
  let y := (List.range 13).foldl (fun s r =>
    let t := subShift s
    xorBytes ((List.range 4).flatMap (fun c => mixColumn ((t.drop (4 * c)).take 4))) (rk (r + 1))) (xorBytes x (rk 0))
  xorBytes (subShift y) (rk 14)

/-- The product of GHASH, over `k` bits: bit 0 of the standard is the most significant one. -/
def ghashMul (x v : Nat) : Nat → Nat
  | 0 => 0
  | k + 1 => (if x.testBit k then v else 0) ^^^
      ghashMul x ((v >>> 1) ^^^ (if v.testBit 0 then 0xE1 <<< 120 else 0)) k

/-- GHASH of bytes filled to whole blocks. -/
def ghash (h : Nat) (l : List Byte) : Nat :=
  (List.range (l.length / 16)).foldl (fun y i => ghashMul (y ^^^ beNat ((l.drop (16 * i)).take 16)) h 128) 0

/-- Zeros that fill bytes to a whole block. -/
def fill16 (n : Nat) : List Byte := List.replicate ((16 - n % 16) % 16) 0#8

/-- Decryption under AES-256-GCM with a 12-byte nonce and no additional data: the plaintext where the tag holds. -/
def gcmOpen (key nonce tag cipher : List Byte) : Option (List Byte) :=
  let ws := keyWords key
  let ctr (i : Nat) : List Byte := aesBlock ws (nonce ++ beBytes (i + 1) 4)
  let h := beNat (aesBlock ws (List.replicate 16 0#8))
  let g := ghash h (cipher ++ fill16 cipher.length ++ beBytes 0 8 ++ beBytes (8 * cipher.length) 8)
  if beBytes (g ^^^ beNat (ctr 0)) 16 = tag then
    some ((List.range ((cipher.length + 15) / 16)).flatMap (fun i => xorBytes ((cipher.drop (16 * i)).take 16) (ctr (i + 1))))
  else none

end Sys2Proof
end

