-- ==== Sys2Proof/Machine/Layout.lean ====
section
/-! DEFINITION. The byte layouts of what is loaded into the engine: the cassette memory (R84), the Block with its section entries
(R489 to R491 and the rules each section names), the Hood (R305) and the update package (R501). -/

namespace Sys2Proof

/-! ### Fields -/

/-- A signed little-endian field. -/
def fieldInt (l : List Byte) (ofs k : Nat) : Int :=
  let n := fieldLe l ofs k
  if n < 2 ^ (8 * k - 1) then n else (n : Int) - 2 ^ (8 * k)

/-- A 32-bit word or binary32. -/
def field32 (l : List Byte) (ofs : Nat) : BitVec 32 := BitVec.ofNat 32 (fieldLe l ofs 4)

/-- `n` fields of `k` bytes, one after the other. -/
def fieldsLe (l : List Byte) (ofs k n : Nat) : List Nat := (List.range n).map (fun i => fieldLe l (ofs + k * i) k)

/-- `n` words of 32 bits. -/
def fields32 (l : List Byte) (ofs n : Nat) : List (BitVec 32) := (List.range n).map (fun i => field32 l (ofs + 4 * i))

/-- Bytes that are reserved and 0. -/
def zeroAt (l : List Byte) (ofs k : Nat) : Bool := ((l.drop ofs).take k).all (· == 0)

/-- A table of entries of `k` bytes. -/
def entries (k : Nat) (l : List Byte) : List (List Byte) := (List.range (l.length / k)).map (fun i => (l.drop (k * i)).take k)

/-- A NUL-terminated ASCII string. DESIGN CHOICE (log entry 110): an offset beyond the table reads the empty string, since R107, R108 and
R111 name no code for one. -/
def cstring (l : List Byte) (ofs : Nat) : String :=
  String.ofList (((l.drop ofs).takeWhile (· != 0)).map (fun b => Char.ofNat b.toNat))

/-- Bit `i` of a byte. -/
def bitAt (l : List Byte) (ofs i : Nat) : Bool := (fieldLe l ofs 1).testBit i

/-! ### The cassette memory (R84) -/

/-- The memory's contents: MAGIC is "BXC1", and the CRC is that of bytes 0 to 251. -/
def Cassette.ofBytes (l : List Byte) : Cassette :=
  { magicOk := l.take 4 == [0x42, 0x58, 0x43, 0x31]
    typ := BitVec.ofNat 8 (fieldLe l 4 1), issue := fieldLe l 5 1, format := fieldLe l 6 2, serial := fieldLe l 8 8
    calTime := fieldLe l 16 4, calTemp := fieldInt l 20 2
    gain := fields32 l 24 4
    offset := (List.range 4).map (fun i => fieldInt l (40 + 4 * i) 4)
    delay := (List.range 4).map (fun i => fieldInt l (56 + 2 * i) 2)
    rsv := (l.drop 22).take 2 ++ (l.drop 64).take 188
    crcOk := crc32c (l.take 252) == field32 l 252 }

/-! ### Bays, elements, sequencer and schemes -/

/-- A lane entry (R74). -/
def LaneEntry.ofBytes (l : List Byte) : LaneEntry :=
  { mask := BitVec.ofNat 8 (fieldLe l 0 1), cassType := BitVec.ofNat 8 (fieldLe l 1 1), polarity := BitVec.ofNat 8 (fieldLe l 2 1)
    lflags := BitVec.ofNat 8 (fieldLe l 3 1), ratio := fields32 l 8 4, rsvZero := zeroAt l 4 4 && zeroAt l 24 8 }

/-- A three-phase set of a group (R139). -/
def SetEntry.ofBytes (l : List Byte) : SetEntry :=
  { kind := fieldLe l 0 1, rot := fieldLe l 1 1, chA := fieldLe l 2 1, chB := fieldLe l 3 1, chC := fieldLe l 4 1, chN := fieldLe l 5 1
    nom := field32 l 8 }

/-- A group entry (R139). -/
def GroupEntry.ofBytes (l : List Byte) : GroupEntry :=
  { chan := fieldsLe l 0 2 16, sets := (entries 12 ((l.drop 32).take 48)).map SetEntry.ofBytes, fsrc := fieldsLe l 80 1 3
    fAvg := fieldLe l 83 1, vMin := field32 l 84, iMin := field32 l 88, rocofT := fieldLe l 92 4, fHoldT := fieldLe l 96 4
    pwrV := fieldLe l 100 1, pwrI := fieldLe l 101 1, pwrSign := fieldLe l 102 1 }

/-- The eight setting records that follow a header (R168, R246). -/
def recordsAt (l : List Byte) (ofs : Nat) : List (List (BitVec 32)) := (List.range 8).map (fun g => fields32 l (ofs + 128 * g) 32)

/-- An element entry (R167). -/
def ElemEntry.ofBytes (l : List Byte) : ElemEntry :=
  { group := fieldLe l 0 1, pos := fieldLe l 1 1, etype := fieldLe l 2 2, base := fieldLe l 4 4, setI := fieldLe l 8 1, setV := fieldLe l 9 1
    opts := fieldLe l 10 1, dirRef := fieldLe l 11 1, blk := fieldsLe l 12 4 4, dirReq := fieldLe l 28 1, recs := recordsAt l 32 }

/-- A user curve (R221): the entries from NPTS on are 0. -/
def UserCurve.ofBytes (l : List Byte) : UserCurve :=
  let n := fieldLe l 0 1
  { tru := field32 l 4, m := fields32 l 8 n, t := fields32 l 136 n
    rsvZero := zeroAt l 1 3 && zeroAt l (8 + 4 * n) (128 - 4 * n) && zeroAt l (136 + 4 * n) (128 - 4 * n) }

/-- A slot entry (R228). -/
def SlotEntry.ofBytes (l : List Byte) : SlotEntry :=
  { use := fieldLe l 0 1, posSrc := fieldLe l 1 1, group := fieldLe l 2 1, setCc := fieldLe l 3 1, posA := fieldLe l 4 4, posB := fieldLe l 8 4
    tripDo := fieldsLe l 12 1 2, closeDo := fieldLe l 14 1, retripDo := fieldLe l 15 1, ilkClose := fieldLe l 16 4, ilkOpen := fieldLe l 20 4
    recPermit := fieldLe l 24 4, blk79 := fieldLe l 28 4, bfiExt := fieldLe l 32 4, closeReq := fieldLe l 36 4, loReset := fieldLe l 40 4
    bft := fieldsLe l 48 1 (fieldLe l 45 1)
    src := (List.range (fieldLe l 44 1)).map (fun i => { point := fieldLe l (64 + 8 * i) 4, cls := fieldLe l (68 + 8 * i) 1 })
    recs := recordsAt l 320 }

/-- A bus-blocking entry (R248). -/
def BusBlock.ofBytes (l : List Byte) : BusBlock :=
  { fail := fieldLe l 1 1, text := fieldLe l 4 4, mem := fieldsLe l 8 4 (fieldLe l 0 1) }

/-- An intertrip entry (R249). -/
def Intertrip.ofBytes (l : List Byte) : Intertrip :=
  { cls := fieldLe l 1 1, recv := fieldLe l 4 4, perm := fieldLe l 8 4, tpulse := fieldLe l 12 4, tgt := BitVec.ofNat 64 (fieldLe l 16 8)
    send := fieldsLe l 24 4 (fieldLe l 0 1) }

/-- A load-shed entry (R250). -/
def ShedStage.ofBytes (l : List Byte) : ShedStage :=
  { trig := fieldLe l 0 4, slots := BitVec.ofNat 64 (fieldLe l 4 8), fr := field32 l 12, trest := fieldLe l 16 4, tstep := fieldLe l 20 4
    rflags := fieldLe l 24 1 }

/-! ### Schedule and subscriptions -/

/-- A schedule entry (R55). -/
def SchedEntry.ofBytes (l : List Byte) : SchedEntry :=
  { unit := fieldLe l 0 1, phase := fieldLe l 1 1, order := fieldLe l 2 2, kernel := fieldLe l 4 2, tableVer := fieldLe l 6 2
    inst := fieldLe l 8 2, rsvZero := zeroAt l 10 2, cost := fieldLe l 12 4 }

/-- A MAC address: its first byte on the wire is the highest. -/
def macAt (l : List Byte) (ofs : Nat) : BitVec 48 := BitVec.ofNat 48 (leNat ((l.drop ofs).take 6).reverse)

/-- A stream descriptor (R107) with its string; 32 zero bytes are none (R111). -/
def StreamDesc.ofBytes (str l : List Byte) : Option StreamDesc :=
  if zeroAt l 0 32 then none
  else some { dstMac := macAt l 0, appid := fieldLe l 6 2, form := fieldLe l 8 1, rate := fieldLe l 9 1, d := fieldLe l 10 1
              nasdu := fieldLe l 11 1, nmemb := fieldLe l 12 1, sync := fieldLe l 13 1, confRev := fieldLe l 16 4
              svid := cstring str (fieldLe l 20 4), rsvZero := zeroAt l 14 2 && zeroAt l 24 8 }

/-- A GOOSE descriptor (R108) with its strings; 32 zero bytes are none (R111). -/
def GooseDesc.ofBytes (str l : List Byte) : Option GooseDesc :=
  if zeroAt l 0 32 then none
  else some { dstMac := macAt l 0, appid := fieldLe l 6 2, pair := fieldLe l 8 1, nmemb := fieldLe l 10 2, confRev := fieldLe l 12 4
              gocbRef := cstring str (fieldLe l 16 4), datSet := cstring str (fieldLe l 20 4)
              goId := if fieldLe l 24 4 = 0xFFFFFFFF then none else some (cstring str (fieldLe l 24 4))
              maxRate := fieldLe l 28 2, rsvZero := zeroAt l 9 1 && zeroAt l 30 2 }

/-- An intake map entry (R109). DESIGN CHOICE (log entry 110): its reserved bits, for which R111 names no cause, are ignored. -/
def InMap.ofBytes (l : List Byte) : InMap :=
  { goose := bitAt l 1 7, sub := fieldLe l 0 2 % 4096, member := fieldLe l 2 2, point := fieldLe l 4 4 % 2 ^ 20, mtype := fieldLe l 8 1
    phe := bitAt l 9 0, invert := bitAt l 9 1, subst := fieldLe l 9 1 / 4 % 4, backupEn := bitAt l 9 4, backup := fieldLe l 10 1
    scale := field32 l 12 }

/-! ### Programs, recorder plans, field I/O, identity -/

/-- A list of `n` point indices at a byte offset of its section; one beyond the section names no point. -/
def pointList (sect : List Byte) (ofs n : Nat) : List Nat :=
  (List.range n).map (fun i => if ofs + 4 * i + 4 ≤ sect.length then fieldLe sect (ofs + 4 * i) 4 else noPoint)

/-- A task entry (R279); its lists lie in the section. -/
def TaskEntry.ofBytes (sect l : List Byte) : TaskEntry :=
  { kind := fieldLe l 0 1, unit := fieldLe l 1 1, prog := fieldLe l 2 2, period := fieldLe l 4 4, offset := fieldLe l 8 4
    maxrel := fieldLe l 12 2, trig := pointList sect (fieldLe l 28 4) (fieldLe l 14 2), ins := pointList sect (fieldLe l 20 4) (fieldLe l 16 2)
    outs := pointList sect (fieldLe l 24 4) (fieldLe l 18 2), wcet := fieldLe l 32 4 }

/-- A trigger entry (R253). -/
def TrigEntry.ofBytes (l : List Byte) : TrigEntry := { kind := fieldLe l 0 1, point := fieldLe l 4 4, level := field32 l 8 }

/-- A recorder plan (R252); `img` is the size of its replay image. -/
def Plan.ofBytes (l : List Byte) (img : Nat) : Plan :=
  let ts := entries 16 ((l.drop 32).take (16 * fieldLe l 1 1))
  { use := fieldLe l 0 1 != 0, retrig := fieldLe l 3 1, pflags := fieldLe l 6 1, pre := fieldLe l 8 4, post := fieldLe l 12 4
    maxlen := fieldLe l 16 4, lanes := BitVec.ofNat 16 (fieldLe l 20 2), wfthr := fieldLe l 22 2, bays := BitVec.ofNat 64 (fieldLe l 24 8)
    trg := ts.map TrigEntry.ofBytes, ana := fieldsLe l 544 4 (fieldLe l 2 1), bin := fieldsLe l 800 4 (fieldLe l 4 2), imgSize := img, raw := l
    rsvZero := zeroAt l 7 1 && zeroAt l 1824 32 && ts.all (fun t => zeroAt t 1 3 && zeroAt t 12 4) && fieldLe l 0 1 ≤ 1 }

/-- A fault-locator entry (R266). -/
def FlEntry.ofBytes (l : List Byte) : FlEntry :=
  { en := fieldLe l 0 1 == 1, method := fieldLe l 1 1, setI := fieldLe l 2 1, setV := fieldLe l 3 1, r1 := field32 l 4, x1 := field32 l 8
    r0 := field32 l 12, x0 := field32 l 16, len := field32 l 20, flimin := field32 l 24, grd := field32 l 28, vprop := field32 l 32
    wfref := field32 l 36, enOk := fieldLe l 0 1 ≤ 1 }

/-- An event-recorder plan entry (R480). -/
def EvrPlan.ofBytes (l : List Byte) : EvrPlan :=
  { kind := fieldLe l 0 2, suppress := bitAt l 2 0, pin := bitAt l 2 1, first := fieldLe l 4 4, last := fieldLe l 8 4
    snappt := fieldsLe l 12 4 (fieldLe l 3 1), rsvZero := fieldLe l 2 1 ≤ 3 && zeroAt l 44 4 }

/-- The field I/O section (R347): 128 inputs, 16 fast channels, 96 outputs, 6 groups. -/
def FieldCfg.ofBytes (l : List Byte) : FieldCfg :=
  let di := entries 8 (l.take 1024)
  let fc := entries 16 ((l.drop 1024).take 256)
  let dout := entries 8 ((l.drop 1280).take 768)
  let gr := entries 8 ((l.drop 2048).take 48)
  { dis := di.map (fun e => { en := bitAt e 0 0, inv := bitAt e 0 1, filt := fieldLe e 2 2, oscn := fieldLe e 4 2, oscr := fieldLe e 6 2 })
    fasts := fc.map (fun e => { cnt := bitAt e 0 0, frq := bitAt e 0 1, fgate := fieldLe e 4 4, fto := fieldLe e 8 4 })
    dos := dout.map (fun e => { en := bitAt e 0 0, retry := bitAt e 0 1, olEn := bitAt e 0 2, par := bitAt e 0 3, rbt := fieldLe e 1 1, olth := fieldLe e 2 2 })
    holdt := gr.map (fun e => fieldLe e 0 2)
    rsvZero := di.all (fun e => fieldLe e 0 1 ≤ 3 && zeroAt e 1 1) && fc.all (fun e => fieldLe e 0 1 ≤ 3 && zeroAt e 1 3 && zeroAt e 12 4) &&
      dout.all (fun e => fieldLe e 0 1 ≤ 15 && zeroAt e 4 4) && gr.all (fun e => zeroAt e 2 6) }

/-- The identity section (R491). -/
def Identity.ofBytes (l : List Byte) : Identity :=
  { part := field32 l 0, serialA := fieldLe l 4 8, serialB := fieldLe l 12 8, fwMin := field32 l 20, built := fieldLe l 24 8
    station := cstring ((l.drop 32).take 64) 0 }

/-! ### The Block (R489, R490) -/

/-- An entry of a section table (R305, R489): kind, offset, length and CRC-32C; its reserved field is zero. -/
structure SectRow where
  kind : Nat
  ofs  : Nat
  len  : Nat
  crc  : Nat
  rsv0 : Bool

/-- The section table of a header whose NSECT stands at `at_`. -/
def sections (l : List Byte) (at_ : Nat) : List SectRow :=
  (List.range (fieldLe l at_ 2)).map (fun i =>
    { kind := fieldLe l (48 + 16 * i) 2, ofs := fieldLe l (52 + 16 * i) 4, len := fieldLe l (56 + 16 * i) 4, crc := fieldLe l (60 + 16 * i) 4
      rsv0 := zeroAt l (50 + 16 * i) 2 })

/-- The bytes of a section. -/
def SectRow.slice (l : List Byte) (x : SectRow) : List Byte := (l.drop x.ofs).take x.len

/-- The bytes of the section of a kind; empty where the table has none. -/
def sectionOf (l : List Byte) (at_ kind : Nat) : List Byte :=
  match (sections l at_).find? (fun x => x.kind == kind) with
  | some x => x.slice l
  | none => []

/-- A section lies between the table and the trailer, and its CRC-32C holds. -/
def SectRow.ok (l : List Byte) (at_ length : Nat) (x : SectRow) : Bool :=
  x.rsv0 && decide (48 + 16 * fieldLe l at_ 2 ≤ x.ofs) && decide (x.ofs + x.len + 96 ≤ length) && (crc32c (x.slice l)).toNat == x.crc

/-- Where the last section ends: up to there the bytes are signed (R489). -/
def signedEnd (l : List Byte) (at_ : Nat) : Nat := ((sections l at_).map (fun x => x.ofs + x.len)).foldl Nat.max 0

/-- The trailer: the last 96 bytes, r followed by s, each big-endian (R434). -/
def trailerOf (l : List Byte) : BitVec 768 := BitVec.ofNat 768 (beNat (l.drop (l.length - 96)))

/-- MAGIC, BFLAGS, LENGTH, NSECT, the section table with every kind once, the CRCs, BLOCK_ID, and the reserved fields (R489, R490, R492 step
2). DESIGN CHOICE: a wrong BLOCK_ID or a reserved field that is not 0 counts as malformed, as R492 gives no other code (log entry 5). -/
def blockFormOk (l : List Byte) : Bool :=
  let ss := sections l 28
  l.take 4 == [0x49, 0x5A, 0x42, 0x4B] && decide (fieldLe l 6 2 < 2) && fieldLe l 24 4 == l.length && fieldLe l 28 2 == 14 &&
  zeroAt l 30 2 && zeroAt l 36 12 && (List.range 14).all (fun k => (ss.filter (fun x => x.kind == k + 1)).length == 1) &&
  ss.all (SectRow.ok l 28 l.length) && fieldLe l 8 16 == (sha128 (ss.flatMap (SectRow.slice l))).toNat

/-- Tables of a fixed number of entries have it; the others hold whole entries (log entry 5). -/
def BlockImg.sizesOk (m : BlockImg) : Bool :=
  m.ident.length == 128 && m.lanes.length == 512 && m.groups.length == 8192 && m.elems.length % 1056 == 0 && m.curves.length == 16896 &&
  m.slots.length == 86016 && m.busBlocks.length % 136 == 0 && m.intertrips.length % 64 == 0 && m.sheds.length % 64 == 0 &&
  m.sched.length % 16 == 0 && m.streams.length % 32 == 0 && m.gooses.length % 32 == 0 && m.inMap.length % 16 == 0 &&
  decide (640 ≤ m.progs.length) && m.plans.length == 29696 && m.fls.length == 3072 && m.evrPlans.length % 48 == 0 && m.field.length == 2096

/-- The parts of each section in the order of R490's table, by kind from 1, with the bytes behind them. -/
def BlockImg.sections (m : BlockImg) : List (List Byte) :=
  List.mapIdx (fun i t => t ++ at! m.tails i)
    [m.ident, m.lanes ++ m.groups, m.elems ++ m.curves, m.slots ++ m.busBlocks ++ m.intertrips ++ m.sheds, m.sched,
     m.streams ++ m.gooses ++ m.inMap ++ m.strings, [], m.progs, m.plans ++ m.fls ++ m.evrPlans, [], m.field, [], [], []]

/-- The parts are those of the sections received: one after another, with nothing else (log entry 5). -/
def BlockImg.partsOk (l : List Byte) (m : BlockImg) : Bool := m.sections == (List.range 14).map (fun k => sectionOf l 28 (k + 1))

/-- The Block that its bytes spell, where its sections have these parts. -/
def BlockImg.block (m : BlockImg) (l : List Byte) : Block :=
  { m.rest with
    formOk := blockFormOk l && m.partsOk l && m.sizesOk, format := fieldLe l 4 2, converted := bitAt l 6 0, convBy := none
    blockId := BitVec.ofNat 128 (fieldLe l 8 16), length := fieldLe l 24 4, signer := fieldLe l 32 4
    hash := sha384 (l.take (signedEnd l 28)), sig := trailerOf l
    ident := Identity.ofBytes m.ident
    lanes := (entries 32 m.lanes).map LaneEntry.ofBytes, groups := (entries 128 m.groups).map GroupEntry.ofBytes
    elems := (entries 1056 m.elems).map ElemEntry.ofBytes, curves := (entries 264 m.curves).map UserCurve.ofBytes
    slots := (entries 1344 m.slots).map SlotEntry.ofBytes, busBlocks := (entries 136 m.busBlocks).map BusBlock.ofBytes
    intertrips := (entries 64 m.intertrips).map Intertrip.ofBytes, sheds := (entries 64 m.sheds).map ShedStage.ofBytes
    sched := (entries 16 m.sched).map SchedEntry.ofBytes
    streams := (entries 32 m.streams).map (StreamDesc.ofBytes m.strings), gooses := (entries 32 m.gooses).map (GooseDesc.ofBytes m.strings)
    inMap := (entries 16 m.inMap).map InMap.ofBytes
    tasks := (entries 64 (m.progs.take 640)).map (TaskEntry.ofBytes m.progs)
    plans := ((entries 1856 m.plans).zipIdx).map (fun e => Plan.ofBytes e.1 (m.imgSizes.getD e.2 0))
    fls := (entries 64 m.fls).map FlEntry.ofBytes, evrPlans := (entries 48 m.evrPlans).map EvrPlan.ofBytes
    field := FieldCfg.ofBytes m.field }

/-! ### The Hood (R305) and the update package (R501) -/

/-- MAGIC, FORMAT, TASKS, LENGTH, NSECT and the section table with its CRCs (R305, R316): every section of a kind of its own. DESIGN CHOICE
(log entry 5): a kind that a Hood does not need may be absent. -/
def hoodFormOk (l : List Byte) : Bool :=
  let ss := sections l 44
  l.take 4 == [0x48, 0x4F, 0x4F, 0x44] && fieldLe l 4 2 == 1 && decide (fieldLe l 6 2 < 1024) && fieldLe l 40 4 == l.length &&
  decide (1 ≤ fieldLe l 44 2) && decide (fieldLe l 44 2 ≤ 5) && zeroAt l 46 2 &&
  ss.all (fun x => decide (1 ≤ x.kind) && decide (x.kind ≤ 5) && (ss.filter (fun y => y.kind == x.kind)).length == 1 && x.ok l 44 l.length)

/-- The Hood that its bytes spell; signed are, as in a Block, the bytes up to the end of its last section (log entry 5). -/
def HoodImg.hood (m : HoodImg) (l : List Byte) : Hood :=
  let tasks := sectionOf l 44 1
  let sched := sectionOf l 44 5
  { m.rest with
    formOk := hoodFormOk l && decide (64 * m.ntasks ≤ tasks.length) && sched.length % 16 == 0
    hash := sha384 (l.take (signedEnd l 44)), sig := trailerOf l
    tasks := BitVec.ofNat 10 (fieldLe l 6 2), hoodId := BitVec.ofNat 128 (fieldLe l 8 16)
    baseId := BitVec.ofNat 128 (fieldLe l 24 16), length := fieldLe l 40 4
    entries := (entries 64 (tasks.take (64 * m.ntasks))).map (TaskEntry.ofBytes tasks)
    sched := (entries 16 sched).map SchedEntry.ofBytes }

/-- The update package that its bytes spell (R501): MAGIC is "IZUP", FORMAT 1, the reserved fields 0, the ciphertext CLEN bytes. -/
def Package.ofBytes (l : List Byte) : Package :=
  { formOk := l.take 4 == [0x49, 0x5A, 0x55, 0x50] && fieldLe l 4 2 == 1 && zeroAt l 6 2 && zeroAt l 197 59 && fieldLe l 68 4 + 256 == l.length
    fromVer := field32 l 8, toVer := field32 l 12, fromHash := (l.drop 16).take 32, devFp := BitVec.ofNat 128 (fieldLe l 48 16)
    secLvl := fieldLe l 64 4, clen := fieldLe l 68 4, epk := BitVec.ofNat 776 (beNat ((l.drop 72).take 97))
    nonce := (l.drop 169).take 12, gtag := (l.drop 181).take 16, head := l.take 256, cipher := l.drop 256 }

/-- The info of the content key (R501): the header with GTAG and the reserved bytes zeroed. -/
def Package.info (p : Package) : List Byte :=
  p.head.take 6 ++ [0, 0] ++ (p.head.drop 8).take 173 ++ List.replicate 75 0

/-- The difference that the package holds, decrypted with the device's private key (R501): none where EPK is no point of the curve or GTAG
does not hold. -/
def Package.plain (d : Nat) (p : Package) : Option (List Byte) :=
  (ecdh d p.epk).bind (fun z => gcmOpen (hkdf384 z p.info) p.nonce p.gtag p.cipher)

end Sys2Proof
end

