-- ==== Sys2Proof/Machine/Float.lean ====
section
/-! DEFINITION. The binary32 arithmetic of R65: round to nearest even, denormals flushed to zero with their sign kept,
no fused operation, and Cedun's function library as the correctly rounded value of the exact function. -/

namespace Sys2Proof.F

/-- A binary32 value, opened: NaN, an infinity, or sign and magnitude `m · 2 ^ e` (a denormal operand reads as zero). -/
inductive V where
  | nan
  | inf (neg : Bool)
  | fin (neg : Bool) (m : Nat) (e : Int)
  deriving DecidableEq, Repr

/-- Open a binary32 word. Denormal operands are flushed to zero with their sign kept (R65). -/
def dec (x : F32) : V :=
  let n := x.toNat
  let neg := n.testBit 31
  let ex : Nat := (n / 2 ^ 23) % 256
  let mt : Nat := n % 2 ^ 23
  if ex = 255 then (if mt = 0 then .inf neg else .nan)
  else if ex = 0 then .fin neg 0 0
  else .fin neg (mt + 2 ^ 23) ((ex : Int) - 150)

/-- The quiet NaN the model answers; the spec fixes no payload (log entry 14). -/
def nan : F32 := 0x7FC00000#32

/-- An infinity. -/
def infBits (neg : Bool) : F32 := if neg then 0xFF800000#32 else 0x7F800000#32

/-- A zero. -/
def zeroBits (neg : Bool) : F32 := if neg then 0x80000000#32 else 0#32

/-- A denormal operand is flushed to zero with its sign kept (R65). -/
def flush (x : F32) : F32 := match dec x with
  | .fin a 0 _ => zeroBits a
  | _ => x

/-- Bit length. -/
def bitLen (n : Nat) : Nat := if n = 0 then 0 else n.log2 + 1

/-- Round `m · 2 ^ e`, plus something strictly between 0 and one unit of `m` where `sticky`, to the nearest binary32,
ties to even; overflow to infinity, denormal results to zero (R65): a magnitude that the rounding takes up to 2^-126 is
normal. -/
def round (neg : Bool) (m : Nat) (e : Int) (sticky : Bool) : F32 :=
  if m = 0 then zeroBits neg else
  let l := bitLen m
  let (q, e', half, rest) :=
    if l ≤ 24 then (m * 2 ^ (24 - l), e - ((24 - l : Nat) : Int), false, sticky)
    else
      let d := l - 24
      let r := m % 2 ^ d
      (m / 2 ^ d, e + (d : Int), decide (2 ^ (d - 1) ≤ r), sticky || decide (r % 2 ^ (d - 1) ≠ 0))
  let q1 := if half && (rest || q % 2 = 1) then q + 1 else q
  let (q2, e2) := if q1 = 2 ^ 24 then (2 ^ 23, e' + 1) else (q1, e')
  let be : Int := e2 + 150
  if be ≥ 255 then infBits neg
  else if be < 1 then (if be = 0 ∧ q = 2 ^ 24 - 1 then zeroBits neg ||| 0x00800000#32 else zeroBits neg)
  else BitVec.ofNat 32 ((if neg then 2 ^ 31 else 0) + be.toNat * 2 ^ 23 + (q2 - 2 ^ 23))

/-- Round the rational `n / d` times `2 ^ e`. -/
def roundRat (neg : Bool) (n d : Nat) (e : Int) : F32 :=
  if n = 0 then zeroBits neg else
  let k := (bitLen d + 30) - bitLen n
  let n' := n * 2 ^ k
  round neg (n' / d) (e - (k : Int)) (decide (n' % d ≠ 0))

/-- Round an exact signed rational. -/
def ofRat (n : Int) (d : Nat) : F32 := roundRat (decide (n < 0)) n.natAbs d 0

/-- An integer as binary32, rounded to nearest even. -/
def ofInt (n : Int) : F32 := round (decide (n < 0)) n.natAbs 0 false

/-- A natural number as binary32, rounded to nearest even. -/
def ofNat (n : Nat) : F32 := round false n 0 false

/-- Signed value of a finite magnitude at exponent `e0 ≤ e`. -/
def align (neg : Bool) (m : Nat) (e e0 : Int) : Int :=
  let v : Int := (m * 2 ^ (e - e0).toNat : Nat)
  if neg then -v else v

/-- Negation. -/
def neg (x : F32) : F32 := x ^^^ 0x80000000#32

/-- Magnitude. -/
def abs (x : F32) : F32 := x &&& 0x7FFFFFFF#32

/-- Sum, rounded once. -/
def add (x y : F32) : F32 :=
  match dec x, dec y with
  | .nan, _ => nan
  | _, .nan => nan
  | .inf a, .inf b => if a = b then infBits a else nan
  | .inf a, .fin .. => infBits a
  | .fin .., .inf b => infBits b
  | .fin a m e, .fin b m' e' =>
    if m = 0 ∧ m' = 0 then zeroBits (a && b)
    else if m = 0 then round b m' e' false
    else if m' = 0 then round a m e false
    else
      let e0 := min e e'
      let v := align a m e e0 + align b m' e' e0
      if v = 0 then zeroBits false else round (decide (v < 0)) v.natAbs e0 false

/-- Difference. -/
def sub (x y : F32) : F32 := add x (neg y)

/-- Product, rounded once. -/
def mul (x y : F32) : F32 :=
  match dec x, dec y with
  | .nan, _ => nan
  | _, .nan => nan
  | .inf a, .inf b => infBits (a != b)
  | .inf a, .fin b m _ => if m = 0 then nan else infBits (a != b)
  | .fin a m _, .inf b => if m = 0 then nan else infBits (a != b)
  | .fin a m e, .fin b m' e' => round (a != b) (m * m') (e + e') false

/-- Quotient, correctly rounded. -/
def div (x y : F32) : F32 :=
  match dec x, dec y with
  | .nan, _ => nan
  | _, .nan => nan
  | .inf _, .inf _ => nan
  | .inf a, .fin b _ _ => infBits (a != b)
  | .fin a _ _, .inf b => zeroBits (a != b)
  | .fin a m e, .fin b m' e' =>
    if m' = 0 then (if m = 0 then nan else infBits (a != b))
    else roundRat (a != b) m m' (e - e')

/-- Square root, correctly rounded. -/
def sqrt (x : F32) : F32 :=
  match dec x with
  | .nan => nan
  | .inf a => if a then nan else infBits false
  | .fin a m e =>
    if m = 0 then zeroBits a else if a then nan else
    let sh : Nat := if e % 2 = 0 then 40 else 41
    let n := m * 2 ^ sh
    let r := Nat.sqrt n
    round false r ((e - (sh : Int)) / 2) (decide (r * r ≠ n))

/-- Unordered operands. -/
def unord (x y : F32) : Bool := dec x == .nan || dec y == .nan

/-- Is a NaN. -/
def isNaN (x : F32) : Bool := dec x == .nan

/-- Is an infinity. -/
def isInf (x : F32) : Bool := match dec x with | .inf _ => true | _ => false

/-- Sign of the difference of two ordered values: -1, 0 or 1. -/
def cmp (x y : F32) : Int :=
  match dec x, dec y with
  | .inf a, .inf b => if a = b then 0 else if a then -1 else 1
  | .inf a, _ => if a then -1 else 1
  | _, .inf b => if b then 1 else -1
  | .fin a m e, .fin b m' e' =>
    let e0 := min e e'
    let d := align a m e e0 - align b m' e' e0
    if d < 0 then -1 else if d = 0 then 0 else 1
  | _, _ => 0

/-- `x < y`; false where unordered. -/
def lt (x y : F32) : Bool := !unord x y && cmp x y == -1
/-- `x ≤ y`; false where unordered. -/
def le (x y : F32) : Bool := !unord x y && cmp x y != 1
/-- `x ≥ y`, the operate comparison of R20; false where unordered. -/
def ge (x y : F32) : Bool := le y x
/-- `x > y`; false where unordered. -/
def gt (x y : F32) : Bool := lt y x
/-- `x = y`; false where unordered. -/
def eq (x y : F32) : Bool := !unord x y && cmp x y == 0
/-- The larger. -/
def max (x y : F32) : F32 := if lt x y then y else x
/-- The smaller. -/
def min (x y : F32) : F32 := if lt y x then y else x
/-- Is (plus or minus) zero; a denormal reads as zero (R65). -/
def isZero (x : F32) : Bool := match dec x with | .fin _ m _ => m == 0 | _ => false
/-- Has its sign bit set. -/
def isNeg (x : F32) : Bool := x.getLsbD 31
/-- Is finite. -/
def isFin (x : F32) : Bool := match dec x with | .fin .. => true | _ => false

/-- Half-even rounding of `n / d` to an integer. -/
def rndDiv (n : Int) (d : Nat) : Int :=
  let q := n / (d : Int)
  let r := n % (d : Int)
  if 2 * r < (d : Int) then q
  else if 2 * r > (d : Int) then q + 1
  else if q % 2 = 0 then q else q + 1

/-- A finite value as an exact fraction (numerator, denominator); 0 for NaN and infinities. -/
def toFrac (x : F32) : Int × Nat :=
  match dec x with
  | .fin a m e =>
    let s : Int := if a then -1 else 1
    if e ≥ 0 then (s * ((m * 2 ^ e.toNat : Nat) : Int), 1) else (s * (m : Int), 2 ^ (-e).toNat)
  | _ => (0, 1)

/-- Nearest integer, ties to even; 0 for NaN, saturating infinities at the given bound. -/
def toIntRne (x : F32) (bound : Nat) : Int :=
  match dec x with
  | .nan => 0
  | .inf a => if a then -(bound : Int) else bound
  | .fin .. => let (n, d) := toFrac x; rndDiv n d

/-- Truncation toward zero. -/
def toIntTrunc (x : F32) : Int :=
  let (n, d) := toFrac x
  if n < 0 then -((n.natAbs / d : Nat) : Int) else ((n.natAbs / d : Nat) : Int)

/-- Truncation toward minus infinity (floor). -/
def toIntFloor (x : F32) : Int := let (n, d) := toFrac x; n / (d : Int)

/-! ### Fixed-point evaluation of the library, at scale `2 ^ p` -/

/-- Product of two fixed-point numbers. -/
def fmul (p : Nat) (a b : Int) : Int := (a * b) / ((2 ^ p : Nat) : Int)
/-- Quotient of two fixed-point numbers. -/
def fdiv (p : Nat) (a b : Int) : Int := if b = 0 then 0 else (a * ((2 ^ p : Nat) : Int)) / b

/-- Sum of a Taylor series of exp: next term = term · x / k. -/
def expSer (p : Nat) (x : Int) : Nat → Nat → Int → Int → Int
  | 0, _, _, acc => acc
  | n + 1, k, t, acc =>
    let t' := fmul p t x / ((k + 1 : Nat) : Int)
    expSer p x n (k + 1) t' (acc + t')

/-- exp of a fixed-point number of small magnitude. -/
def expFix (p : Nat) (x : Int) : Int := expSer p x (p / 2 + 8) 0 (2 ^ p) (2 ^ p)

/-- Series of atanh: Σ z^(2k+1) / (2k+1). -/
def atanhSer (p : Nat) (z2 : Int) : Nat → Nat → Int → Int → Int
  | 0, _, _, acc => acc
  | n + 1, k, t, acc =>
    let t' := fmul p t z2
    atanhSer p z2 n (k + 2) t' (acc + t' / ((k + 2 : Nat) : Int))

/-- atanh of a fixed-point number of magnitude at most 1/3. -/
def atanhFix (p : Nat) (z : Int) : Int := atanhSer p (fmul p z z) (p / 3 + 4) 1 z z

/-- ln 2. -/
def ln2 (p : Nat) : Int := 2 * atanhFix p (((2 ^ p : Nat) : Int) / 3)

/-- Series of arctan by Euler: next term = term · 2k/(2k+1) · t²/(1+t²). -/
def atanSer (p : Nat) (w : Int) : Nat → Nat → Int → Int → Int
  | 0, _, _, acc => acc
  | n + 1, k, t, acc =>
    let t' := fmul p t w * ((2 * k : Nat) : Int) / ((2 * k + 1 : Nat) : Int)
    atanSer p w n (k + 1) t' (acc + t')

/-- arctan of a fixed-point number of magnitude at most 1. -/
def atanFix (p : Nat) (t : Int) : Int :=
  let one : Int := ((2 ^ p : Nat) : Int)
  let d := one + fmul p t t
  let t0 := fdiv p t d
  atanSer p (fdiv p (fmul p t t) d) (p + 8) 1 t0 t0

/-- π by Machin's formula. -/
def piFix (p : Nat) : Int :=
  let one : Int := ((2 ^ p : Nat) : Int)
  4 * (4 * atanFix p (one / 5) - atanFix p (one / 239))

/-- Series of sine or cosine: next term = -term · x² / (k (k+1)). -/
def trigSer (p : Nat) (x2 : Int) : Nat → Nat → Int → Int → Int
  | 0, _, _, acc => acc
  | n + 1, k, t, acc =>
    let t' := -(fmul p t x2) / ((k * (k + 1) : Nat) : Int)
    trigSer p x2 n (k + 2) t' (acc + t')

/-- Sine of a fixed-point number of magnitude at most about 1. -/
def sinFix (p : Nat) (x : Int) : Int := trigSer p (fmul p x x) (p / 4 + 8) 2 x x
/-- Cosine of a fixed-point number of magnitude at most about 1. -/
def cosFix (p : Nat) (x : Int) : Int := trigSer p (fmul p x x) (p / 4 + 8) 1 (2 ^ p) (2 ^ p)

/-- Fixed-point image of `n / d`. -/
def fixRat (p : Nat) (n : Int) (d : Nat) : Int := (n * ((2 ^ p : Nat) : Int)) / (d : Int)

/-- Round a fixed-point approximation `v · 2 ^ (e - p)`. -/
def roundFix (p : Nat) (v : Int) (e : Int) : F32 := round (decide (v < 0)) v.natAbs (e - (p : Int)) true

/-- Ziv's loop: raise the precision until the approximation's error cannot change the rounded value. -/
def ziv (f : Nat → Int × Int) : Nat → Nat → F32
  | 0, p => let (v, e) := f p; roundFix p v e
  | n + 1, p =>
    let (v, e) := f p
    let w : Int := 2 ^ (p / 2 : Nat)
    let lo := roundFix p (v - w) e
    let hi := roundFix p (v + w) e
    if lo = hi then lo else ziv f n (2 * p)

/-- Precision to start with, and how often it may double. -/
def zp : Nat := 128
/-- Doublings. -/
def zn : Nat := 4

/-- e^x. -/
def exp (x : F32) : F32 :=
  match dec x with
  | .nan => nan
  | .inf a => if a then 0 else infBits false
  | .fin a m _ =>
    if m = 0 then 0x3F800000#32
    else if ge x 0x42B40000#32 then infBits false
    else if a && lt x 0xC2B40000#32 then 0
    else
      let (n, d) := toFrac x
      ziv (fun p =>
        let xf := fixRat p n d
        let l := ln2 p
        let k := xf / l
        (expFix p (xf - k * l), k)) zn zp

/-- Fixed-point ln of the finite positive value `m · 2 ^ e`. -/
def lnFix (p : Nat) (m : Nat) (e : Int) : Int :=
  let l := bitLen m
  let one : Int := ((2 ^ p : Nat) : Int)
  let r := fixRat p m (2 ^ (l - 1))
  2 * atanhFix p (fdiv p (r - one) (r + one)) + (e + (l : Int) - 1) * ln2 p

/-- ln x (ln 0 = −∞, ln of a negative argument NaN). -/
def ln (x : F32) : F32 :=
  match dec x with
  | .nan => nan
  | .inf a => if a then nan else infBits false
  | .fin a m e =>
    if m = 0 then infBits true
    else if a then nan
    else if x = 0x3F800000#32 then 0
    else ziv (fun p => (lnFix p m e, 0)) zn (2 * zp)

/-- Odd integer, even integer or no integer: 1, 0 or 2. -/
def parity (y : F32) : Nat :=
  let (n, d) := toFrac y
  if n % (d : Int) ≠ 0 then 2 else ((n / (d : Int)) % 2).natAbs

/-- Exact square root of `m · 2 ^ e`, where it has one. -/
def dySqrt (m : Nat) (e : Int) : Option (Nat × Int) :=
  let (m, e) := if e % 2 = 0 then (m, e) else (2 * m, e - 1)
  let r := Nat.sqrt m
  if r * r = m then some (r, e / 2) else none

/-- Exact `2 ^ j`-th root. -/
def dyRoot : Nat → Nat → Int → Option (Nat × Int)
  | 0, m, e => some (m, e)
  | j + 1, m, e => match dySqrt m e with
    | some (m', e') => dyRoot j m' e'
    | none => none

/-- Strip factors of two from a mantissa. -/
def strip : Nat → Nat → Int → Nat × Int
  | 0, m, e => (m, e)
  | n + 1, m, e => if m % 2 = 0 ∧ m ≠ 0 then strip n (m / 2) (e + 1) else (m, e)

/-- x^y for a positive finite x and finite non-zero y. -/
def powPos (neg : Bool) (m : Nat) (e : Int) (y : F32) : F32 :=
  let (yn, yd) := toFrac y
  let g := Nat.gcd yn.natAbs yd
  let (kn, kd) := (yn / (g : Int), yd / g)
  let (m, e) := strip 24 m e
  let exact : Option F32 :=
    if kn.natAbs ≤ 64 then
      match dyRoot (Nat.log2 kd) m e with
      | some (r, re) =>
        let k := kn.natAbs
        if kn ≥ 0 then some (round neg (r ^ k) (re * (k : Int)) false)
        else some (roundRat neg 1 (r ^ k) (-(re * (k : Int))))
      | none => none
    else none
  match exact with
  | some v => v
  | none =>
    let sgn (v : F32) : F32 := if neg then v ^^^ 0x80000000#32 else v
    let est := (lnFix 64 m e * kn) / (kd : Int)
    if est ≥ (90 * 2 ^ 64 : Int) then sgn (infBits false)
    else if est ≤ (-90 * 2 ^ 64 : Int) then sgn 0
    else sgn (ziv (fun p =>
      let q := p + 160
      let xf := (lnFix q m e * kn) / (kd : Int)
      let l := ln2 q
      let k := xf / l
      (expFix q (xf - k * l) / (2 ^ 160 : Int), k)) zn zp)

/-- x^y (IEEE 754-2019 clause 9.2). -/
def pow (x y : F32) : F32 :=
  if x = 0x3F800000#32 then 0x3F800000#32
  else if isZero y then 0x3F800000#32
  else if isNaN x || isNaN y then nan
  else match dec x, dec y with
    | .fin a m e, .inf b =>
      if m = 0 then (if b then infBits false else 0)
      else
        let c := cmp (abs x) 0x3F800000#32
        if c = 0 then 0x3F800000#32
        else if (c = 1) != b then infBits false else (let _ := a; let _ := e; 0)
    | .inf a, .inf b => if b then 0 else (let _ := a; infBits false)
    | .inf a, .fin b _ _ =>
      let odd := parity y = 1
      if b then zeroBits (a && odd) else infBits (a && odd)
    | .fin a m e, .fin b _ _ =>
      let odd := parity y = 1
      if m = 0 then (if b then infBits (a && odd) else zeroBits (a && odd))
      else if a && parity y = 2 then nan
      else powPos (a && odd) m e y
    | _, _ => nan

/-- Sine and cosine share the reduction to |r| ≤ π/4: quadrant and fixed-point remainder. -/
def trigRed (p : Nat) (n : Int) (d : Nat) : Int × Int :=
  let q := p + 192
  let h := piFix q / 2
  let xf := fixRat q n d
  let k := (2 * xf + h) / (2 * h)
  (k % 4, (xf - k * h) / (2 ^ 192 : Int))

/-- sin x. -/
def sin (x : F32) : F32 :=
  match dec x with
  | .nan => nan
  | .inf _ => nan
  | .fin a m _ =>
    if m = 0 then zeroBits a else
    let (n, d) := toFrac x
    ziv (fun p =>
      let (k, r) := trigRed p n d
      ((if k = 0 then sinFix p r else if k = 1 then cosFix p r else if k = 2 then -(sinFix p r) else -(cosFix p r)), 0))
      zn (2 * zp)

/-- cos x. -/
def cos (x : F32) : F32 :=
  match dec x with
  | .nan => nan
  | .inf _ => nan
  | .fin _ m _ =>
    if m = 0 then 0x3F800000#32 else
    let (n, d) := toFrac x
    ziv (fun p =>
      let (k, r) := trigRed p n d
      ((if k = 0 then cosFix p r else if k = 1 then -(sinFix p r) else if k = 2 then -(cosFix p r) else sinFix p r), 0))
      zn (2 * zp)

/-- tan x. -/
def tan (x : F32) : F32 :=
  match dec x with
  | .nan => nan
  | .inf _ => nan
  | .fin a m _ =>
    if m = 0 then zeroBits a else
    let (n, d) := toFrac x
    ziv (fun p =>
      let (k, r) := trigRed p n d
      ((if k % 2 = 0 then fdiv p (sinFix p r) (cosFix p r) else -(fdiv p (cosFix p r) (sinFix p r))), 0))
      zn (2 * zp)

/-- Fixed-point atan2 of two exact fractions, not both zero. -/
def atan2Fix (p : Nat) (yn : Int) (yd : Nat) (xn : Int) (xd : Nat) : Int :=
  let a : Nat := yn.natAbs * xd
  let b : Nat := xn.natAbs * yd
  let pi := piFix p
  let t := if a ≤ b then atanFix p (fixRat p a b) else pi / 2 - atanFix p (fixRat p b a)
  let t := if xn < 0 then pi - t else t
  if yn < 0 then -t else t

/-- atan2 y x, in radians. -/
def atan2 (y x : F32) : F32 :=
  match dec y, dec x with
  | .nan, _ => nan
  | _, .nan => nan
  | .fin a 0 _, .fin b m _ => if b then ziv (fun p => (if a then -(piFix p) else piFix p, 0)) zn zp
      else (let _ := m; zeroBits a)
  | .fin a _ _, .inf b => if b then ziv (fun p => (if a then -(piFix p) else piFix p, 0)) zn zp else zeroBits a
  | .inf a, .fin _ _ _ => ziv (fun p => ((if a then -(piFix p) else piFix p) / 2, 0)) zn zp
  | .inf a, .inf b => ziv (fun p =>
      let v := if b then 3 * piFix p / 4 else piFix p / 4
      (if a then -v else v, 0)) zn zp
  | .fin _ _ _, .fin _ _ _ =>
    let (yn, yd) := toFrac y
    let (xn, xd) := toFrac x
    ziv (fun p => (atan2Fix p yn yd xn xd, 0)) zn (2 * zp)

/-- √(1 − (n/d)²) in fixed point, for |n/d| ≤ 1. -/
def coFix (p : Nat) (n : Int) (d : Nat) : Int := ((((d * d - n.natAbs * n.natAbs) * 2 ^ (2 * p)) / (d * d)).sqrt : Nat)

/-- asin x; NaN beyond ±1. -/
def asin (x : F32) : F32 :=
  match dec x with
  | .nan => nan
  | .inf _ => nan
  | .fin a m _ =>
    if m = 0 then zeroBits a else
    let (n, d) := toFrac x
    if d < n.natAbs then nan else ziv (fun p => (atan2Fix p n d (coFix p n d) (2 ^ p), 0)) zn (2 * zp)

/-- acos x; NaN beyond ±1. -/
def acos (x : F32) : F32 :=
  match dec x with
  | .nan => nan
  | .inf _ => nan
  | .fin .. =>
    if x = 0x3F800000#32 then 0 else
    let (n, d) := toFrac x
    if d < n.natAbs then nan else ziv (fun p => (atan2Fix p (coFix p n d) (2 ^ p) n d, 0)) zn (2 * zp)

/-- atan x. -/
def atan (x : F32) : F32 := atan2 x 0x3F800000#32

/-- log10 x (log 0 = −∞, of a negative argument NaN). -/
def log10 (x : F32) : F32 :=
  match dec x with
  | .nan => nan
  | .inf a => if a then nan else infBits false
  | .fin a m e =>
    if m = 0 then infBits true
    else if a then nan
    else if x = 0x3F800000#32 then 0
    else ziv (fun p => (fdiv p (lnFix p m e) (lnFix p 10 0), 0)) zn (2 * zp)

/-! ### Complex values -/

/-- Complex sum. -/
def cadd (a b : Cx) : Cx := { re := add a.re b.re, im := add a.im b.im }
/-- Complex difference. -/
def csub (a b : Cx) : Cx := { re := sub a.re b.re, im := sub a.im b.im }
/-- Complex product. -/
def cmul (a b : Cx) : Cx :=
  { re := sub (mul a.re b.re) (mul a.im b.im), im := add (mul a.re b.im) (mul a.im b.re) }
/-- Conjugate. -/
def conj (a : Cx) : Cx := { re := a.re, im := neg a.im }
/-- Scale by a real. -/
def cscale (k : F32) (a : Cx) : Cx := { re := mul k a.re, im := mul k a.im }
/-- Divide by a real. -/
def cdivr (a : Cx) (k : F32) : Cx := { re := div a.re k, im := div a.im k }
/-- Squared magnitude. -/
def cabs2 (a : Cx) : F32 := add (mul a.re a.re) (mul a.im a.im)
/-- Magnitude. -/
def cabs (a : Cx) : F32 := sqrt (cabs2 a)
/-- Sum of a list, left to right from zero. -/
def sum (l : List F32) : F32 := l.foldl add 0
/-- Largest of a list, 0 for none. -/
def maxL (l : List F32) : F32 := l.foldl max 0

/-! ### Constants -/

/-- 1. -/
def one : F32 := 0x3F800000#32
/-- 2. -/
def two : F32 := 0x40000000#32
/-- 3. -/
def three : F32 := 0x40400000#32
/-- π as binary32. -/
def pi : F32 := 0x40490FDB#32
/-- 2π as binary32. -/
def twoPi : F32 := 0x40C90FDB#32
/-- √2 as binary32. -/
def sqrt2 : F32 := 0x3FB504F3#32
/-- √3 as binary32. -/
def sqrt3 : F32 := 0x3FDDB3D7#32
/-- Positive infinity. -/
def pinf : F32 := 0x7F800000#32
/-- The constant a = −0.5 + j0.8660254 of R150. -/
def opA : Cx := { re := 0xBF000000#32, im := 0x3F5DB3D7#32 }
/-- Degrees to radians: x · π / 180. -/
def rad (x : F32) : F32 := div (mul x pi) (ofNat 180)

end Sys2Proof.F
end

