-- ==== Sys2Proof/Parts.lean ====
section
/-! DEFINITION. The parts of the machine's state, block by block (R24): what each block holds, with its value at reset.
`Machine/State.lean` joins them. A cycle count is a count of main-clock cycles since power-up; an instant is a count of
nanoseconds since the PTP epoch; a grid number is second × 9,600 + tick index. -/

namespace Sys2Proof

/-! ### Signal space (R30 to R36) and forces (R317) -/

/-- The signal space: allocated points in rising index order (an unlisted index reads type 0, invalid), the force table,
and the points written this tick whose value or quality changed, with their record before the tick (R35 CHANGED). -/
structure Sig where
  pts    : List (Nat × Point) := []
  forces : List ForceEntry := []
  chg    : List (Nat × Point) := []
  deriving DecidableEq, Repr, Inhabited

/-! ### Life states (R40 to R47), errors (R38, R39) and unit cycle maxima (R62) -/

/-- Role, health and what the boot found. `cause` is the CAUSE of R425; `excess` counts load above R71 and `excessT` the ticks for
which its alarm stands. -/
structure Life where
  booted    : Bool := false
  role      : Nat := 0
  variant   : Nat := 0
  unit      : Nat := 0
  issue     : Nat := 2
  strapBad  : Bool := false
  hwBad     : Bool := false
  healthy   : Bool := false
  cause     : Nat := 0
  prevCause : Bool := false
  lost      : Nat := 0
  sealBad   : Bool := false
  sickTicks : Option Nat := none
  leaving   : Bool := false
  blockOk   : Bool := false
  cellLow   : Bool := false
  resetCause : Nat := 0x10000
  eccCorr   : List Nat := [0, 0, 0, 0, 0, 0, 0]
  eccDisc   : List Nat := [0, 0, 0]
  excess    : Nat := 0
  excessT   : Nat := 0
  used      : List (List Nat) := List.replicate 10 [0, 0, 0, 0, 0, 0]
  fwVer     : BitVec 32 := 0x00030002
  selfOk    : Bool := true
  deriving DecidableEq, Repr, Inhabited

/-! ### Time-sync unit (R349 to R376) -/

/-- A port register TSU_PORTp (R351), whether its SFP is a 1000BASE-T one (R353), the newest receive stamp (R372) and the newest
stamp of an event message sent. -/
structure TsuPort where
  mac    : Bool := false
  forced : Bool := false
  corr   : Int := 0
  copper : Bool := false
  last   : Nat := 0
  sent   : Nat := 0
  deriving DecidableEq, Repr, Inhabited

/-- A master heard on a pair (R355, R356, R360): its newest Announce, when it came and on which LANs, and whether it may be chosen,
which a second Announce allows. `known` is false of no master. -/
structure PtpMaster where
  known : Bool := false
  ann   : Announce := {}
  ready : Bool := false
  lastT : Nat := 0
  lastA : Option Nat := none
  lastB : Option Nat := none
  deriving DecidableEq, Repr, Inhabited

/-- The TSU: its registers, tick generation, sources, servo and status. `clk` is SEC:NSEC:FRAC as one count of 2^-32 ns; the
integral of the servo is held in 2^-20 ppb; `seen` is the latest instant of an event of the generation that was stamped (R372). -/
structure Tsu where
  run      : Bool := false
  clk      : Nat := 0
  latNsec  : BitVec 32 := 0
  latFrac  : BitVec 32 := 0
  mpRead   : BitVec 64 := 0
  inc      : Nat := 0x411AAAAAB
  incAt    : Nat := 0
  stepSec  : Int := 0
  stepNsec : Int := 0
  stepAt   : Nat := 0
  gen      : BitVec 16 := 0
  arm      : Bool := false
  done     : Bool := false
  incRej   : Bool := false
  ppsEn    : Bool := false
  irigEn   : Bool := false
  ports    : List TsuPort := [{}, {}, {}, {}]
  statTick : Nat := 0
  id       : TickId := {}
  stretched : Bool := false
  cyc      : Nat := 0
  starts   : List Nat := []
  st       : Nat := 0
  src      : Nat := 0
  lanB     : Bool := false
  avoid    : Option Bool := none
  monOfs   : Option (Int × Nat) := none
  qual     : List Bool := [false, false, false, false, false]
  qualSince : List Nat := [0, 0, 0, 0, 0]
  disq     : List (Nat × Nat) := []
  refInc   : Nat := 0x411AAAAAB
  integ    : Int := 0
  incHist  : List Nat := []
  everLocked : Bool := false
  leftAt   : Option Nat := none
  holdAt   : Option Nat := none
  withinT  : Option Nat := none
  lastOfs  : Int := 0
  estErr   : Option Nat := none
  entryErr : Option Nat := none
  partnerErr : Option Nat := none
  partnerGlobal : Bool := false
  jumps    : List Int := []
  pOfs     : Option Int := none
  pend     : Option Int := none
  asym     : Bool := false
  asymDiff : Int := 0
  divT     : Option Nat := none
  diverged : Bool := false
  utcOfs   : Option Nat := none
  utcH     : List (Nat × Nat) := []
  lsp      : Bool := false
  lsdel    : Bool := false
  leapAt   : Option (Nat × Bool) := none
  initDone : Bool := false
  initOpen : Bool := false
  loadTick : Nat := 0
  secSet   : Bool := false
  secGlobal : Bool := false
  heard    : List (List PtpMaster) := [[], []]
  masters  : List PtpMaster := [{}, {}]
  pathDelay : Nat := 0
  delayReqs : Nat := 0
  irigN    : Nat := 0
  irigLast : Option Nat := none
  irigT    : Nat := 0
  irigTq   : Nat := 0xF
  irigOfs  : Option Int := none
  ppsN     : Nat := 0
  ppsLast  : Option Nat := none
  ppsOfs   : Option Int := none
  refused  : Nat := 0
  applied  : Nat := 0
  seen     : Nat := 0
  deriving DecidableEq, Repr, Inhabited

/-! ### Analog front end (R72 to R102) -/

/-- A conversion kept for the tick windows: its start edge, slot, code, and for slot 4 whether it was ground. -/
structure Conv where
  at_    : Nat := 0
  slot   : Nat := 0
  code   : Int := 0
  ground : Bool := false
  mask   : BitVec 5 := 0
  deriving DecidableEq, Repr, Inhabited

/-- A cassette in use: its memory, the edge from which its channels may be valid, the edge at which it was withdrawn (R86). -/
structure CassUse where
  cass : Cassette := {}
  from_ : Nat := 0
  gone : Option Nat := none
  deriving DecidableEq, Repr, Inhabited

/-- A lane: scan position, the mask under which the conversion in progress began (R76), conversion counter and latch (R100), window
conversions, reference state, calibration sums of the running second and of the one before (R89), cassettes, and wavefront ring
(R99). O_L and G_L are exact fractions. DESIGN CHOICE: the factory values of O_L and G_L, which the spec does not give, are 0 and 1
for every lane. -/
structure Lane where
  mask     : BitVec 5 := 0
  curMask  : BitVec 5 := 0
  pos      : Nat := 0
  start    : Nat := 0
  count    : Nat := 0
  base     : Nat := 0
  latCount : Nat := 0
  latOfs   : Nat := 0
  latId    : TickId := {}
  lats     : List (Nat × Nat × TickId) := []
  convs    : List Conv := []
  s4count  : Nat := 0
  excl     : Bool := false
  refSum   : Int := 0
  refN     : Nat := 0
  gndSum   : Int := 0
  gndN     : Nat := 0
  secRef   : Int × Nat := (0, 0)
  secGnd   : Int × Nat := (0, 0)
  oL       : Int × Nat := (0, 1)
  gL       : Int × Nat := (1, 1)
  factO    : Int × Nat := (0, 1)
  factG    : Int × Nat := (1, 1)
  refState : Nat := 0
  gross    : Bool := false
  ovr      : Bool := false
  present  : Bool := false
  usable   : Bool := false
  mismatch : Bool := false
  memBad   : Bool := false
  cass     : Cassette := {}
  cassRead : Bool := false
  validFrom : Nat := 0
  goneAt   : Option Nat := none
  past     : List CassUse := []
  k        : List F32 := [0, 0, 0, 0]
  wf       : List (BitVec 32) := []
  wfOn     : Bool := false
  deriving DecidableEq, Repr, Inhabited

/-- The analog front end. -/
structure Afe where
  lanes : List Lane := List.replicate 16 {}
  last  : List (BitVec 32 × BitVec 16) := List.replicate 64 (0x01000000#32, 0x41#16)
  deriving DecidableEq, Repr, Inhabited

/-! ### Process-bus intake (R103 to R137) -/

/-- A sample of a stream by continuous sample index: completion instant of its frame, port, raw members, and its
judgement once made (R116, R122). -/
structure SvSample where
  n        : Nat := 0
  done     : Nat := 0
  port     : Nat := 0
  arrived  : Bool := true
  sim      : Bool := false
  synchBad : Bool := false
  raws     : List (Int × BitVec 32) := []
  verdict  : Option Judged := none
  deriving DecidableEq, Repr, Inhabited

/-- A frame remembered for duplicate recognition (R119): redundancy key, first sample index, port, content. -/
structure Seen where
  key  : Option Nat := none
  n    : Nat := 0
  port : Nat := 0
  body : FrameBody := .other
  deriving DecidableEq, Repr, Inhabited

/-- State of a sampled-value stream (R113 to R127, R136). `counts` are offsets 1 to 12 of R136; `debt` is what the token
bucket lacks of its depth, in units of 1/(10 × NASDU × 10^9) frame; `nextJ` is the first sample not yet judged; `late` are
the samples found late since the recorder last took them (R265); `misRow` says that its points carry the row of STATE 3 (R113). -/
structure Stream where
  synch    : Nat := 0
  sim      : Bool := false
  counts   : List Nat := [0, 0, 0, 0, 0, 0, 0, 0, 0, 0, 0, 0]
  margin   : Option Nat := none
  samples  : List SvSample := []
  nextJ    : Option Nat := none
  started  : Bool := false
  valid    : Bool := false
  everValid : Bool := false
  run      : Nat := 0
  backup   : Bool := false
  debt     : Nat := 0
  debtT    : Nat := 0
  mism     : Bool := false
  misRow   : Bool := false
  recover  : Bool := false
  lastA    : Option Nat := none
  lastB    : Option Nat := none
  seen     : List Seen := []
  late     : List Nat := []
  deriving DecidableEq, Repr, Inhabited

/-- A GOOSE frame waiting for its deadline (R128): completion, end of its time allowed to live, whether it failed the
content check, its content. -/
structure GooseWait where
  done  : Nat := 0
  ends  : Nat := 0
  bad   : Bool := false
  gs    : GooseState := {}
  deriving DecidableEq, Repr, Inhabited

/-- State of a GOOSE control block (R127 to R131, R137). `debt` is in units of 1/(10 × 10^9) frame, `keys` the redundancy keys of
frames taken with their content, `dupMism` the second copies whose content differed (R119). -/
structure Gcb where
  sim     : Bool := false
  testf   : Bool := false
  events  : Nat := 0
  stNum   : Nat := 0
  lastSt  : Option Nat := none
  waits   : List GooseWait := []
  queue   : List GooseState := []
  cur     : Option GooseState := none
  ends    : Option Nat := none
  dropped : Bool := false
  wasDrop : Bool := false
  mism    : Bool := false
  got     : Bool := false
  dirty   : Bool := false
  debt    : Nat := 0
  debtT   : Nat := 0
  keys    : List (Nat × FrameBody) := []
  dupMism : Nat := 0
  excess  : Nat := 0
  deriving DecidableEq, Repr, Inhabited

/-- The intake: streams, control blocks, port counts (R135: passed, filtered, FCS errors, duplicates), the CP receive
buffer allowance per port (R104), whether the coming tick's deadline has been judged, and which streams' members with a backup are
fed from it in this tick, by the own decision or the mirrored one (R124, R132), and the ring frames forwarded last, by port and
identity (R456). -/
structure Pbi where
  streams  : List Stream := List.replicate 96 {}
  gcbs     : List (Nat × Gcb) := []
  fed      : List Bool := List.replicate 96 false
  ports    : List (List Nat) := List.replicate 4 [0, 0, 0, 0]
  cpDebt   : List Nat := [0, 0, 0, 0]
  cpT      : List Nat := [0, 0, 0, 0]
  cpKeys   : List Nat := []
  judged   : Bool := false
  svHold   : List (Nat × List (Int × BitVec 16)) := []
  cages    : List Sfp := [.sx, .sx, .sx, .sx, .sfpp, .sfpp]
  hsrSent  : List (Nat × Nat) := []
  deriving DecidableEq, Repr, Inhabited

/-! ### Phasor engine and synchrophasors (R138 to R164) -/

/-- A report of a synchrophasor stream being formed: its instant T as a grid number, UTC_OFS at T, and per data block the phasor sums with
their qualities, frequency and ROCOF, analog values, digital values. -/
structure SyncAcc where
  t     : Nat := 0
  utc   : Nat := 0
  sums  : List (List (Cx × BitVec 16)) := []
  freqs : List ((F32 × BitVec 16) × (F32 × BitVec 16)) := []
  analog : List (List (F32 × BitVec 16)) := []
  digital : List (List (Bool × BitVec 16)) := []
  deriving DecidableEq, Repr, Inhabited

/-- A synchrophasor stream's state (R162 to R164, R468). -/
structure SyncState where
  on     : Bool := false
  viaPair : Bool := false
  accs   : List SyncAcc := []
  ready  : List SyncAcc := []
  cfgTicks : Nat := 0
  deriving DecidableEq, Repr, Inhabited

/-- The phasor engine: channel histories (newest first), group states. -/
structure Phe where
  hist   : List (List (F32 × BitVec 16)) := List.replicate 448 []
  pres   : List (List (F32 × BitVec 16)) := List.replicate 448 []
  groups : List GroupState := List.replicate 64 {}
  syncs  : List SyncState := List.replicate 8 {}
  deriving DecidableEq, Repr, Inhabited

/-! ### Event recorder (R472 to R488) -/

/-- A copy of the event recorder's directory (R472): its sequence number, the write position, the bad segments, SEQ and TAG of the last
record staged, the SEQ of the last clear, its CRC-32C. -/
structure EvrDir where
  n        : Nat := 0
  wpos     : Nat := 0
  bad      : List Nat := []
  lastSeq  : Nat := 0
  lastTag  : BitVec 128 := 0
  clearSeq : Nat := 0
  crc      : BitVec 32 := 0
  deriving DecidableEq, Repr, Inhabited

/-- The event recorder: records by position (MRAM), the staging queue, chain state, both copies of the directory, tombstone cell, the ticks
that an erase has run (R483), whether Crown position 4,095 is taken (R488), and the events raised since the last phase F (tick-driven and
engine-local). -/
structure Evr where
  mem      : List (Nat × EvRec) := []
  wpos     : Nat := 0
  bad      : List Nat := []
  lastSeq  : Nat := 0
  lastTag  : BitVec 128 := 0
  lastWritten : Nat := 0
  clearSeq : Nat := 0
  queue    : List EvRec := []
  readBack : List (Nat × EvRec) := []
  pathFail : Nat := 0
  wrap     : Bool := false
  erasing  : Bool := false
  eraseN   : Nat := 0
  crownFull : Bool := false
  dirA     : EvrDir := {}
  dirB     : EvrDir := {}
  maxStaged : Nat := 0
  lost     : Nat := 0
  lostPend : Nat := 0
  tombDrop : Nat := 0
  fromPartner : Nat := 0
  toPartner : Nat := 0
  pathBad  : Bool := false
  actEv    : List EvRec := []
  tickEv   : List EvRec := []
  localEv  : List EvRec := []
  clearReq : Option (Nat × BitVec 128 × Nat × Nat) := none
  tomb     : List (Option (EvRec × Bool)) := List.replicate 32 none
  toSend   : List EvRec := []
  failTicks : Option Nat := none
  stopped  : Bool := false
  deriving DecidableEq, Repr, Inhabited

/-! ### Logic units and tasks (R279 to R303) -/

/-- A cause for the error task (R294): code, task entry or 0xF, subject. -/
structure ErrCause where
  code : Nat := 0
  task : Nat := 0xF
  subj : Nat := 0
  deriving DecidableEq, Repr, Inhabited

/-- The logic units: LTC, task states, what TE6, TE7, BLU0, BLU1 run and their working state, the error queue and its
discard count, causes of the present tick, ticks of the logic-overrun alarm left, selector changes ignored (R206), and
whether the task set has been loaded. -/
structure Logic where
  ltc     : Nat := 0
  tasks   : List TaskState := List.replicate 10 {}
  cur     : List (Option Nat) := [none, none, none, none]
  work    : List Work := [{}, {}, {}, {}]
  errQ    : List (BitVec 64) := []
  errLost : Nat := 0
  causes  : List ErrCause := []
  overrun : Nat := 0
  selIgn  : Nat := 0
  selLast : Option Int := none
  deriving DecidableEq, Repr, Inhabited

/-- The Hood unit (R304 to R323): the Hood held, the swap tick of an armed one, results of the last swap, the chain of
applied Hoods, how many of them are marked applied and by which LTC each other one is to be (R315), and the Hoods found unmarked at the
last start. -/
structure HoodUnit where
  held    : Option Hood := none
  loaded  : Bool := false
  armed   : Option Nat := none
  lastS   : Nat := 0
  swapped : Bool := false
  aband   : Bool := false
  lastId  : BitVec 128 := 0
  lastTasks : BitVec 10 := 0
  carried : Nat := 0
  fresh   : Nat := 0
  changed : Nat := 0
  gone    : Nat := 0
  relForces : Nat := 0
  refused : Nat := 0
  chain   : List Hood := []
  marked  : Nat := 0
  marks   : List Nat := []
  cand    : Option Hood := none
  storedUnapplied : List (BitVec 128) := []
  deriving DecidableEq, Repr, Inhabited

/-! ### Field I/O (R324 to R348) -/

/-- An accepted edge waiting for presentation (R328): state, instant its run began with its generation, acceptance. -/
structure DiEdge where
  val   : Bool := false
  start : Stamp := {}
  acc   : Nat := 0
  deriving DecidableEq, Repr, Inhabited

/-- What an input's last raw change replaced: the run before it and the count. -/
structure DiRun where
  seen    : Bool := false
  since   : Nat := 0
  start   : Stamp := {}
  counted : List Nat := []
  lastCnt : Option Nat := none
  deriving DecidableEq, Repr, Inhabited

/-- A digital input (R327 to R329): raw state with the beginning of its run (`since` for the filter, `start` its stamp), the run before
it (`back`), accepted state, queue, oscillation count, and what its point shows. -/
structure DiState where
  seen    : Bool := false
  raw     : Bool := false
  since   : Nat := 0
  start   : Stamp := {}
  back    : Option DiRun := none
  acc     : Option Bool := none
  accAt   : Stamp := {}
  waits   : List DiEdge := []
  counted : List Nat := []
  lastCnt : Option Nat := none
  osc     : Bool := false
  shown   : Option Bool := none
  shownAt : Stamp := {}
  dirty   : Bool := true
  deriving DecidableEq, Repr, Inhabited

/-- A fast channel (R330 to R333); `edges` are rising edges, newest first. -/
structure FastState where
  count : BitVec 32 := 0
  edges : List Nat := []
  short : Bool := false
  now   : Bool := false
  ovf   : Bool := false
  frange : Bool := false
  deriving DecidableEq, Repr, Inhabited

/-- A digital output (R335 to R339): committed value and switch of the last two commits, faults, retries, persistence
counts of MISS, OL, EXT, PDRV. -/
structure OutState where
  cmd     : Bool := false
  prevCmd : Bool := false
  sw      : Bool := false
  prevSw  : Bool := false
  rb      : Bool := false
  ilim    : Bool := false
  tsd     : Bool := false
  retryAt : Nat := 0
  retries : Nat := 0
  latch   : Bool := false
  onFor   : Nat := 0
  miss    : Nat := 0
  ol      : Nat := 0
  ext     : Nat := 0
  pdrv    : Nat := 0
  deriving DecidableEq, Repr, Inhabited

/-- An output group (R341, R344): consecutive ticks of the six supply conditions, SUP, measured voltage in mV, and the hold
keeper: ticks since the last commit, holding, expired. -/
structure OutGroup where
  conds   : List Nat := [0, 0, 0, 0, 0, 0]
  sup     : Nat := 0
  supMir  : Nat := 0
  mv      : Nat := 0
  missed  : Nat := 0
  holding : Bool := false
  expired : Bool := false
  deriving DecidableEq, Repr, Inhabited

/-- The field I/O block; `en` is the output enable, `cmpN` the pair's output comparison: readings of a standby in step that differ from
its own committed values (R339). -/
structure Fio where
  dis   : List DiState := List.replicate 128 {}
  fasts : List FastState := List.replicate 16 {}
  outs  : List OutState := List.replicate 96 {}
  grps  : List OutGroup := List.replicate 6 {}
  en    : Bool := false
  cmpN  : Nat := 0
  deriving DecidableEq, Repr, Inhabited

end Sys2Proof
end

