-- ==== Sys2Proof/Machine/Operands.lean ====
section
/-! DEFINITION. Operand forms: ticks and instants (R48, R51, R66), qualities (R34, R94), values of points (R33), and the
signal space's reads and writes (R28, R32 to R36, R319). -/

namespace Sys2Proof

/-! ### Ticks -/

/-- Nanoseconds from the second to the start of tick `k` (R48, R66). -/
def tickNs (k : Nat) : Nat := k * 1000000000 / 9600

/-- Start of a tick as nanoseconds since the PTP epoch. -/
def TickId.instant (t : TickId) : Nat := t.sec * 1000000000 + tickNs t.k

/-- Grid number of a tick. -/
def TickId.grid (t : TickId) : Nat := t.sec * 9600 + t.k

/-- Start of grid number `g`. -/
def gridNs (g : Nat) : Nat := (g / 9600) * 1000000000 + tickNs (g % 9600)

/-- The identity of grid number `g` in a generation. -/
def gridId (g : Nat) (gen : BitVec 16) : TickId := { sec := g / 9600, k := g % 9600, gen := gen }

/-- The tick start as a stamp (R66). -/
def TickId.stamp (t : TickId) : Stamp := { sec := t.sec, nsec := tickNs t.k, gen := t.gen }

/-- An instant as a stamp. -/
def stampOf (ns : Nat) (gen : BitVec 16) : Stamp := { sec := ns / 1000000000, nsec := ns % 1000000000, gen := gen }

/-- Ticks of a time in units of 0.1 ms: ⌈setting × 9.6⌉ (R21). -/
def ticksOf01 (x : Nat) : Nat := (x * 96 + 99) / 100

/-- Ticks of a time in milliseconds (R21). -/
def ticksOfMs (x : Nat) : Nat := (x * 96 + 9) / 10

/-! ### Quality (R34) -/

/-- Validity, with the never-written code 10 ranked as invalid. -/
def qVal (q : BitVec 16) : Nat :=
  let v := q.toNat % 4
  if v = 2 then 1 else v

/-- Validity invalid. -/
def qBad (q : BitVec 16) : Bool := qVal q == 1
/-- Validity questionable. -/
def qQuest (q : BitVec 16) : Bool := qVal q == 3
/-- Validity good. -/
def qGood (q : BitVec 16) : Bool := qVal q == 0
/-- Good or questionable. -/
def qOk (q : BitVec 16) : Bool := !qBad q

/-- Rank of a validity: invalid above questionable above good (R94). -/
def qRank (v : Nat) : Nat := if v = 0 then 0 else if v = 3 then 1 else 2

/-- The worse of two validities. -/
def qWorse (a b : Nat) : Nat := if qRank a ≥ qRank b then a else b

/-- Combine two qualities as R94: the worst validity, the OR of the other bits. -/
def qComb (a b : BitVec 16) : BitVec 16 :=
  ((a ||| b) &&& 0x1FFC#16) ||| BitVec.ofNat 16 (qWorse (qVal a) (qVal b))

/-- Combine many, from good. -/
def qAll (qs : List (BitVec 16)) : BitVec 16 := qs.foldl qComb 0#16

/-- Write 01 in place of validity 10 and clear bits 13 to 15 (R34, R125). -/
def qNorm (q : BitVec 16) : BitVec 16 :=
  (q &&& 0x1FFC#16) ||| BitVec.ofNat 16 (qVal q)

/-- Invalid with a cause bit. -/
def qInvalid (b : BitVec 16) : BitVec 16 := b ||| 1#16
/-- Questionable with cause bits. -/
def qDoubt (b : BitVec 16) : BitVec 16 := b ||| 3#16

/-- Test bit 11. -/
def qTest (q : BitVec 16) : Bool := q.getLsbD 11

/-- A reader in a bay whose mode is on or blocked treats a test-flagged input as invalid (R126, R177). -/
def qIn (mode : Nat) (q : BitVec 16) : BitVec 16 :=
  if qTest q && (mode == 1 || mode == 2) then (q &&& 0xFFFC#16) ||| 1#16 else q

/-! ### Values (R33) -/

/-- A Boolean as VALUE. -/
def vBool (b : Bool) : BitVec 64 := if b then 1 else 0
/-- A real as VALUE. -/
def vReal (x : F32) : BitVec 64 := x.setWidth 64
/-- A complex as VALUE. -/
def vCx (c : Cx) : BitVec 64 := (c.im.setWidth 64 <<< 32) ||| c.re.setWidth 64
/-- An unsigned integer as VALUE. -/
def vNat (n : Nat) : BitVec 64 := BitVec.ofNat 64 n
/-- A signed integer as VALUE. -/
def vInt (n : Int) : BitVec 64 := BitVec.ofInt 64 n
/-- An enumeration as VALUE: bytes 0 to 3. -/
def vEnum (n : Int) : BitVec 64 := (BitVec.ofInt 32 n).setWidth 64

/-- VALUE as a real. -/
def Point.real (p : Point) : F32 := p.value.setWidth 32
/-- VALUE as a complex. -/
def Point.cx (p : Point) : Cx := { re := p.value.setWidth 32, im := (p.value >>> 32).setWidth 32 }
/-- VALUE as a Boolean. -/
def Point.bool (p : Point) : Bool := p.value.getLsbD 0
/-- VALUE as an enumeration. -/
def Point.enum (p : Point) : Int := (p.value.setWidth 32 : BitVec 32).toInt

/-! ### The space (R30, R36) -/

/-- Read a point; an unlisted index is unallocated: type 0, value 0, TS 0, invalid (R36). -/
def rdPt : List (Nat × Point) → Nat → Point
  | [], _ => {}
  | (j, p) :: t, i => if i = j then p else if i < j then {} else rdPt t i

/-- Write a point's record, keeping the canonical form: indices rising, no record equal to an unallocated one. -/
def wrPt : List (Nat × Point) → Nat → Point → List (Nat × Point)
  | [], i, p => if p = {} then [] else [(i, p)]
  | (j, q) :: t, i, p =>
    if i = j then (if p = {} then t else (i, p) :: t)
    else if i < j then (if p = {} then (j, q) :: t else (i, p) :: (j, q) :: t)
    else (j, q) :: wrPt t i p

/-- Indices strictly above a bound and rising, and no default record. -/
def ptsWfFrom : Nat → List (Nat × Point) → Bool
  | _, [] => true
  | lo, (j, p) :: t => decide (lo ≤ j) && decide (p ≠ {}) && ptsWfFrom (j + 1) t

/-- The canonical form of the space. -/
def ptsWf (l : List (Nat × Point)) : Bool := ptsWfFrom 0 l

/-- A pending write of a point: value, quality, stamp; `typ` is the fixed type of a hardware-owned point, `edge` that the
stamp is that of an input edge or sample, `mir` that the value comes from the mirror. -/
structure PtWrite where
  idx   : Nat := 0
  value : BitVec 64 := 0
  qual  : BitVec 16 := 0
  typ   : BitVec 8 := 0
  stamp : Option Stamp := none
  edge  : Bool := false
  mir   : Bool := false
  deriving DecidableEq, Repr, Inhabited

/-- Set or clear one bit. -/
def setBit8 (x : BitVec 8) (i : Nat) (b : Bool) : BitVec 8 :=
  if b then x ||| (1#8 <<< i) else x &&& ~~~(1#8 <<< i)

/-- FORCED (R35). -/
def Point.forced (p : Point) : Bool := p.flags.getLsbD 0
/-- RECORDED (R35). -/
def Point.recorded (p : Point) : Bool := p.flags.getLsbD 2
/-- PUBLISHED (R35). -/
def Point.published (p : Point) : Bool := p.flags.getLsbD 3

/-- Engine-local points of the health, time, pair and statistics regions are written without allocation (R64). -/
def localRegion (i : Nat) : Bool := decide (0xF0000 ≤ i) && decide (i < 0xF4000)

/-- Points of the intake statistics are unsigned integers, subscribed or not (R135), the reserved offsets 4 to 31 of a port too. DESIGN
CHOICE: the reserved indices 0xF3680 to 0xF37FF, which stand under no such heading, read TYPE 0 (log entry 127). -/
def statPt (i : Nat) : Bool :=
  (decide (0xF3000 ≤ i) && decide (i < 0xF3680)) || (decide (0xF3800 ≤ i) && decide (i < 0xF4000))

/-- Ranges of the engine-local regions (R62, R98, R225, R278, R294, R303, R323, R376, R417, R488; the first two are log entry 90's):
first point, number of points, TYPE. -/
def localRuns : List (Nat × Nat × Nat) :=
  [(0xF0000, 6, 4), (0xF0008, 7, 4), (0xF0010, 3, 4), (0xF0160, 2, 4), (0xF0180, 16, 4), (0xF0190, 32, 6), (0xF0200, 7, 4), (0xF0210, 16, 4),
   (0xF0240, 1, 4), (0xF0248, 80, 4), (0xF02A0, 18, 4), (0xF02C0, 10, 4), (0xF02E0, 8, 4), (0xF1000, 2, 4), (0xF1002, 2, 3),
   (0xF1004, 8, 4), (0xF2000, 10, 4), (0xF2010, 160, 4)]

/-- The largest cycles of a unit and phase (R62): units 0 to 9, phases 0 to 5. -/
def spentPt (i : Nat) : Bool := decide (0xF0100 ≤ i) && decide (i < 0xF0150) && decide (i % 8 < 6)

/-- TYPE of an engine-local point, 0 where the spec gives none. -/
def localTyp (i : Nat) : Nat :=
  if statPt i || spentPt i then 4
  else ((localRuns.find? (fun x => decide (x.1 ≤ i) && decide (i < x.1 + x.2.1))).map (·.2.2)).getD 0

/-- The record before this tick, where the point changed in this tick already; else its present record. -/
def Sig.oldOf (s : Sig) (i : Nat) (p : Point) : Point :=
  match s.chg.find? (fun e => e.1 == i) with
  | some (_, o) => o
  | none => p

/-- Store a record, keeping CHANGED (R35) and the list of points changed in this tick. -/
def Sig.store (s : Sig) (i : Nat) (p : Point) : Sig :=
  let cur := rdPt s.pts i
  let old := s.oldOf i cur
  let ch := decide (p.value ≠ old.value) || decide (p.qual ≠ old.qual)
  let p' := { p with flags := setBit8 p.flags 1 ch }
  { s with pts := wrPt s.pts i p'
           chg := if s.chg.any (fun e => e.1 == i) then s.chg else if ch then s.chg ++ [(i, cur)] else s.chg }

/-- VALUE with the bytes that a TYPE does not use at 0 (R33). -/
def fitValue (typ : BitVec 8) (v : BitVec 64) : BitVec 64 :=
  if typ = 1 then v &&& 1 else if typ = 2 then v &&& 3 else if typ = 5 || typ = 6 || typ = 8 then v &&& 0xFFFFFFFF else v

/-- TYPE of the point that a write goes to: its own; of a hardware-owned point, the write's. -/
def PtWrite.typOf (w : PtWrite) (p : Point) : BitVec 8 := if localRegion w.idx then w.typ else p.typ

/-- The record a writer's output makes of the present record; VALUE fits the TYPE (R33), QUALITY carries no 10 (R34). -/
def PtWrite.apply (w : PtWrite) (id : TickId) (p : Point) : Point :=
  let st := w.stamp.getD (TickId.stamp id)
  { p with value := fitValue (w.typOf p) w.value, qual := qNorm w.qual, sec := BitVec.ofNat 64 st.sec, nsec := BitVec.ofNat 32 st.nsec
           gen := st.gen
           typ := w.typOf p
           flags := setBit8 (setBit8 p.flags 4 (!w.edge)) 5 w.mir }

/-- Write a point as its writer: a forced point keeps its forced value and the write goes to the underlying record
(R319); a point that is not allocated is not written. -/
def Sig.write (id : TickId) (s : Sig) (w : PtWrite) : Sig :=
  let cur := rdPt s.pts w.idx
  if cur.typ = 0 && !localRegion w.idx then s
  else if cur.forced then
    { s with forces := s.forces.map (fun f => if f.point = w.idx then { f with under := w.apply id f.under } else f) }
  else s.store w.idx (w.apply id cur)

/-- Write many. -/
def Sig.writes (id : TickId) (s : Sig) (ws : List PtWrite) : Sig := ws.foldl (Sig.write id) s

/-- Read a point. -/
def Sig.rd (s : Sig) (i : Nat) : Point := rdPt s.pts i

/-- The force on a point. -/
def Sig.force (s : Sig) (i : Nat) : Option ForceEntry := s.forces.find? (fun f => f.point == i)

/-- The record that a point's writer sees: beneath a force the underlying one (R319). -/
def Sig.under (s : Sig) (i : Nat) : Point := match s.force i with | some f => f.under | none => s.rd i

/-- A Boolean write. -/
def wB (i : Nat) (b : Bool) (q : BitVec 16 := 0) : PtWrite := { idx := i, value := vBool b, qual := q, typ := 1 }
/-- A real write. -/
def wR (i : Nat) (x : F32) (q : BitVec 16 := 0) : PtWrite := { idx := i, value := vReal x, qual := q, typ := 6 }
/-- A complex write. -/
def wC (i : Nat) (x : Cx) (q : BitVec 16 := 0) : PtWrite := { idx := i, value := vCx x, qual := q, typ := 7 }
/-- An unsigned write. -/
def wN (i : Nat) (n : Nat) (q : BitVec 16 := 0) : PtWrite := { idx := i, value := vNat n, qual := q, typ := 4 }
/-- A signed write. -/
def wI (i : Nat) (n : Int) (q : BitVec 16 := 0) : PtWrite := { idx := i, value := vInt n, qual := q, typ := 3 }
/-- An enumeration write. -/
def wE (i : Nat) (n : Int) (q : BitVec 16 := 0) : PtWrite := { idx := i, value := vEnum n, qual := q, typ := 5 }
/-- A double-point write. -/
def wD (i : Nat) (n : Nat) (q : BitVec 16 := 0) : PtWrite := { idx := i, value := BitVec.ofNat 64 (n % 4), qual := q, typ := 2 }

/-- A Boolean point that reads true with validity good or questionable (R174). -/
def Sig.isTrue (s : Sig) (i : Nat) : Bool := let p := s.rd i; p.bool && qOk p.qual

/-! ### Bays, slots and modes (R31, R141, R166, R177) -/

/-- Base of bay `b`. -/
def bayBase (b : Nat) : Nat := b * 0x2000

/-- Base of an auxiliary slot's 256 points. -/
def auxBase (s : Nat) : Nat := 0x60000 + (s - 48) * 0x100

/-- Base of a phasor group's results (R141). -/
def groupBase (g : Nat) : Nat := if g < 48 then bayBase g else 0x61400 + (g - 48) * 0x200

/-- Mode point of a group's bay or slot (R177). -/
def modePt (g : Nat) : Nat := if g < 48 then bayBase g + 0x1C00 else auxBase g + 0xF0

/-- Mode in force of a bay or slot; a mode never written reads as the default 1. -/
def Sig.mode (s : Sig) (g : Nat) : Nat :=
  let p := s.rd (modePt g)
  if p.value = 0 then 1 else p.value.toNat

/-- A point that reads true to a reader in bay or slot mode `mode`, its quality good or questionable (R126, R174, R232). -/
def Sig.isTrueIn (mode : Nat) (s : Sig) (i : Nat) : Bool := let p := s.rd i; p.bool && qOk (qIn mode p.qual)

/-- Base of a slot's points (R229). -/
def slotBase (s : Nat) : Nat := if s < 48 then bayBase s + 0x1000 else auxBase s

/-- The attribute that a record is published as: those of the trip, close, retrip and bf_trip points of a slot in mode Blocked have value
0, and in Test/blocked the test bit (R245). -/
def Sig.attr (s : Sig) (i : Nat) (p : Point) : Point :=
  match (List.range 64).find? (fun k => decide (slotBase k + 2 ≤ i) && decide (i ≤ slotBase k + 5)) with
  | some k => if s.mode k = 2 then { p with value := 0 } else if s.mode k = 4 then { p with qual := p.qual ||| 0x800 } else p
  | none => p

/-- A published attribute. -/
def Sig.published (s : Sig) (i : Nat) : Point := s.attr i (s.rd i)

/-- Group in force (R204). -/
def Sig.grp (s : Sig) : Nat :=
  let v := (s.rd 0x63402).value.toNat
  if 1 ≤ v ∧ v ≤ 8 then v else 1

/-! ### Association lists and small helpers -/

/-- A word whose bit k is the k-th Boolean. -/
def packBits (l : List Bool) : Nat := l.foldr (fun b n => boolNat b + 2 * n) 0

/-- Look up a key. -/
def lkup {α : Type} (l : List (Nat × α)) (k : Nat) : Option α := (l.find? (fun e => e.1 == k)).map (·.2)

/-- Set a key, keeping rising order. -/
def lset {α : Type} : List (Nat × α) → Nat → α → List (Nat × α)
  | [], k, v => [(k, v)]
  | (j, w) :: t, k, v => if k = j then (k, v) :: t else if k < j then (k, v) :: (j, w) :: t else (j, w) :: lset t k v

/-- Remove a key. -/
def ldel {α : Type} (l : List (Nat × α)) (k : Nat) : List (Nat × α) := l.filter (fun e => e.1 != k)

/-- Replace the entry at `i` of a list. -/
def setAt {α : Type} (l : List α) (i : Nat) (v : α) : List α := l.set i v

/-- Map a list with its indices. -/
def mapI {α β : Type} (f : Nat → α → β) (l : List α) : List β := l.zipIdx.map (fun e => f e.2 e.1)

/-- Insert into a list sorted by a key. -/
def insBy {α : Type} (key : α → Nat) (x : α) : List α → List α
  | [] => [x]
  | y :: t => if key x < key y then x :: y :: t else y :: insBy key x t

/-- Sort by a key, stable. -/
def sortBy {α : Type} (key : α → Nat) (l : List α) : List α := l.foldl (fun acc x => insBy key x acc) []

/-- Schedule entries of a unit and phase in ORDER (R55, R59). -/
def schedOf (b : Block) (u ph : Nat) : List SchedEntry :=
  sortBy (·.order) (b.sched.filter (fun x => x.unit == u && x.phase == ph))

/-- A set-or-clear of one bit of a 64-bit word. -/
def setBit64 (x : BitVec 64) (i : Nat) (b : Bool) : BitVec 64 :=
  if b then x ||| (1#64 <<< i) else x &&& ~~~(1#64 <<< i)

/-- Saturating decrement of a tick counter. -/
def dec1 (n : Nat) : Nat := n - 1

/-! ### Protocol maps (R471) -/

/-- The points that a protocol maps. -/
def ProtoMaps.points (m : ProtoMaps) (proto : Nat) : List Nat :=
  (at! m.maps proto).filterMap (fun o => match o.target with | .point i => some i | .control _ => none)

/-- The slots whose control a protocol maps. -/
def ProtoMaps.slots (m : ProtoMaps) (proto : Nat) : List Nat :=
  (at! m.maps proto).filterMap (fun o => match o.target with | .control k => some k | .point _ => none)

/-- Registers that a point occupies in Modbus: two for a real (R466), else as many as its value needs (log entry 123). -/
def modbusRegs (typ : Nat) : Nat := if typ = 5 ∨ typ = 6 then 2 else if typ = 3 ∨ typ = 4 then 4 else 1

/-- The points of every map. -/
def ProtoMaps.allPoints (m : ProtoMaps) : List Nat := (List.range 5).flatMap m.points

end Sys2Proof
end

