-- ==== Sys2Proof/Machine/Afe.lean ====
section
/-! DEFINITION. The analog front end (R72 to R102): conversions, tick windows, calibration, cassettes, over-range, the
sample word, lane status and the wavefront ring. Cycles are main-clock cycles since power-up. -/

namespace Sys2Proof

/-- Enabled slots of a mask, ascending (R72). -/
def maskSlots (m : BitVec 5) : List Nat := (List.range 5).filter (fun j => m.getLsbD j)

/-- Number of enabled slots. -/
def maskN (m : BitVec 5) : Nat := (maskSlots m).length

/-- The next enabled slot after `j`, wrapping to the lowest (R72, R96). -/
def nextSlot (m : BitVec 5) (j : Nat) : Nat :=
  match (maskSlots m).find? (fun x => decide (j < x)) with
  | some x => x
  | none => (maskSlots m).headD 0

/-- Full scale of a cassette type (R83), binary32; `none` for an unknown code. -/
def cassFs (t : BitVec 8) : Option F32 :=
  if t = 0x01 then some (F.ofRat 70711 1000)
  else if t = 0x05 then some (F.ofRat 353553 1000)
  else if t = 0x10 then some (F.ofNat 300)
  else if t = 0x20 then some (F.ofNat 16)
  else none

/-- K = FS × RATIO / 8,388,608 in binary32 (R87). -/
def scaleK (t : BitVec 8) (ratio : F32) : F32 :=
  match cassFs t with
  | some fs => F.div (F.mul fs ratio) (F.ofNat 8388608)
  | none => 0

/-- K of the four inputs of a lane entry. -/
def laneK (e : LaneEntry) : List F32 := (List.range 4).map (fun j => scaleK e.cassType (at! e.ratio j))

/-- Cassette delay d_ch in main-clock cycles, from units of 0.1 ns; ties up (R78, R84). -/
def delayCycles (d : Int) : Int := (d * 49152 + 1000000) / 2000000

/-- Reference nominal code (R88). -/
def refNominal : Int := 117965

/-- A conversion over-ranges (R95). -/
def Conv.over_ (c : Conv) : Bool := c.code == -131072 || c.code == 131071

/-- The delay of a slot's channel; 0 for slot 4. -/
def Lane.delay (l : Lane) (slot : Nat) : Int := if slot < 4 then delayCycles (at! l.cass.delay slot) else 0

/-- Cycles of a conversion's interval that lie in the window of a tick start (R78). -/
def overlap (l : Lane) (c : Conv) (t : Nat) : Nat :=
  let e : Int := (c.at_ : Int) - l.delay c.slot
  let h : Int := 80 * maskN c.mask
  let lo := Max.max (e - h) ((t : Int) - 12800)
  let hi := Min.min (e + h) ((t : Int) + 12800)
  (hi - lo).toNat

/-- The conversion's interval reaches into the window. -/
def overlaps (l : Lane) (c : Conv) (t : Option Nat) : Bool :=
  match t with
  | some t => decide (0 < overlap l c t)
  | none => false

/-- Gross check of a slot-4 conversion: within ±10 % of full scale of its nominal and not over-ranged (R90, R95). -/
def grossBad (c : Conv) : Bool :=
  c.over_ || decide ((c.code - (if c.ground then 0 else refNominal)).natAbs * 10 > 131072)

/-- What one tick sample shows: value and the causes of R94. -/
structure SampleWord where
  sample : BitVec 24 := 0
  ovf    : Bool := false
  nbq    : Bool := false
  calr   : Bool := false
  test   : Bool := false
  fail   : Bool := false
  badRef : Bool := false
  deriving DecidableEq, Repr, Inhabited

/-- QUALITY of a sample (R94). -/
def SampleWord.qual (w : SampleWord) : BitVec 16 :=
  qAll [if w.fail then qInvalid 0x40 else 0, if w.badRef then qInvalid 0x10 else 0, if w.ovf then qDoubt 0x4 else 0,
    if w.nbq then qDoubt 0x200 else 0, if w.calr then qDoubt 0x200 else 0, if w.test then 0x800 else 0]

/-- The sample word (R93). -/
def SampleWord.word (w : SampleWord) : BitVec 32 :=
  w.sample.setWidth 32 ||| (BitVec.ofNat 32 (qVal w.qual) <<< 24) ||| (if w.ovf then 0x04000000 else 0)
    ||| (if w.nbq then 0x08000000 else 0) ||| (if w.calr then 0x10000000 else 0) ||| (if w.test then 0x40000000 else 0)

/-- The calibrated sample before clamping (R91): round half to even of an exact value. -/
def calibrate (l : Lane) (e : LaneEntry) (slot : Nat) (sum : Int) : Int :=
  let (on, od) := l.oL
  let (gn, gd) := l.gL
  let (an, ad) := F.toFrac (at! l.cass.gain slot)
  let num : Int := (sum * (od : Int) - 25600 * on) * gn * an * 64
  let den : Nat := 25600 * od * gd * ad
  let y : Int := num + (at! l.cass.offset slot) * (den : Int)
  F.rndDiv (if e.polarity.getLsbD slot then -y else y) den

/-- Clamp to 24 bits signed (R91). -/
def clamp24 (y : Int) : BitVec 24 :=
  BitVec.ofInt 24 (if y < -8388608 then -8388608 else if y > 8388607 then 8388607 else y)

/-- A cassette serves the window of tick start `t` (R85, R86): the window begins after its memory was read and holds no conversion
made after its withdrawal. -/
def CassUse.serves (l : Lane) (t : Nat) (u : CassUse) : Bool :=
  decide (u.from_ = 0 ∨ u.from_ + 12800 ≤ t) &&
    (match u.gone with
     | none => true
     | some g => !l.convs.any (fun c => decide (g ≤ c.at_) && decide (0 < overlap { l with cass := u.cass } c t)))

/-- The present cassette and those before it, newest first. -/
def Lane.uses (l : Lane) : List CassUse :=
  (if l.usable then [{ cass := l.cass, from_ := l.validFrom, gone := l.goneAt }] else []) ++ l.past

/-- The lane with the cassette that serves a window: its GAIN, OFFSET and DELAY apply (R86). -/
def Lane.serving (l : Lane) (t : Nat) : Option Lane :=
  (l.uses.find? (CassUse.serves l t)).map (fun u => { l with cass := u.cass })

/-- The tick sample of a channel aligned to the tick start `starts[1]` (R78, R90 to R96); `starts` is newest first.
`fv` is the value the spec does not state for an invalid sample (log entry 6). DESIGN CHOICE: an over-range conversion counts as at
or before the end of a window (R95) when its interval begins before that end. -/
def tickSample (e : LaneEntry) (starts : List Nat) (test : Bool) (fv : BitVec 24) (l0 : Lane) (slot : Nat) : SampleWord :=
  let served := starts[1]?.bind l0.serving
  let l := served.getD l0
  if !l.mask.getLsbD slot then { fail := true, test := test } else
  match starts[1]? with
  | none => { fail := true, test := test, sample := fv }
  | some t =>
    let own := l.convs.filter (fun c => c.slot == slot)
    let inWin := own.filter (fun c => decide (0 < overlap l c t))
    let cyc := (inWin.map (fun c => overlap l c t)).foldl (· + ·) 0
    let sum := (inWin.map (fun c => (overlap l c t : Int) * c.code)).foldl (· + ·) 0
    let fail := served.isNone || decide (cyc ≠ 25600) || l.convs.any (fun c => c.mask != l.mask && decide (0 < overlap l c t))
    let gross := l.mask.getLsbD 4 && l.convs.any (fun c =>
      c.slot == 4 && decide (t ≤ c.at_ + 12800) && decide (c.at_ < t + 12800) && grossBad c)
    let refBad := l.mask.getLsbD 4 && l.refState == 3
    let overs := own.filter (fun c => c.over_ &&
      (overlaps l c starts[1]? || overlaps l c starts[2]? || overlaps l c starts[3]?))
    let latest := (own.filter (fun c => c.over_ &&
      decide ((c.at_ : Int) - l.delay slot - 80 * maskN c.mask < (t : Int) + 12800))).foldl
        (fun (a : Conv) c => if a.at_ ≤ c.at_ then c else a) {}
    let ovf := !overs.isEmpty
    let nbq := l.convs.any (fun c =>
      let n : Conv := { c with slot := slot, at_ := c.at_ + 160 }
      c.over_ && c.slot != slot && nextSlot c.mask c.slot == slot &&
        ((overlaps l n starts[1]? && !overlaps l n starts[0]?) || (overlaps l n starts[2]? && !overlaps l n starts[1]?)))
    let v := if fail || refBad then fv else clamp24 (calibrate l e slot sum)
    { sample := if ovf then (if latest.code > 0 then 0x7FFFFF else 0x800000) else v
      ovf := ovf, nbq := nbq, calr := l.mask.getLsbD 4 && l.refState == 2, test := test, fail := fail
      badRef := gross || refBad }

/-! ### Conversions (R72, R73, R88, R95, R99, R100) -/

/-- The slot after the one in progress: the next of the mask, or, DESIGN CHOICE, the lowest of a new mask (R72, R76, log entry 127). -/
def Lane.nextPos (l : Lane) : Nat := if l.curMask = l.mask then nextSlot l.mask l.pos else (maskSlots l.mask).headD 0

/-- A lane completes the conversion in progress, which stands under the mask it began with, and starts the next enabled slot on the
same edge. -/
def laneConvert (code : BitVec 18) (l : Lane) : Lane :=
  if l.mask = 0 then l else
  let ground := l.pos == 4 && l.s4count % 2 == 1
  let c : Conv := { at_ := l.start, slot := l.pos, code := code.toInt, ground := ground, mask := l.curMask }
  let count4 := l.pos == 4 && !l.excl
  let word : BitVec 32 := code.setWidth 32 ||| (BitVec.ofNat 32 l.pos <<< 18)
    ||| (if c.over_ then 0x00200000 else 0) ||| (if ground then 0x00400000 else 0)
  { l with
    pos := l.nextPos, curMask := l.mask, start := l.start + 160, count := l.count + 1, convs := l.convs ++ [c]
    s4count := if l.pos == 4 then l.s4count + 1 else l.s4count
    excl := if l.pos == 4 then false else l.excl || c.over_
    refSum := if count4 && !ground then l.refSum + c.code else l.refSum
    refN := if count4 && !ground then l.refN + 1 else l.refN
    gndSum := if count4 && ground then l.gndSum + c.code else l.gndSum
    gndN := if count4 && ground then l.gndN + 1 else l.gndN
    wf := if l.wfOn then (word :: l.wf).take 65536 else l.wf }

/-! ### Calibration (R89, R92) -/

/-- |a/b − c/d| ≤ p/q for positive denominators. -/
def withinFrac (a : Int × Nat) (c : Int × Nat) (p q : Nat) : Bool :=
  decide ((a.1 * (c.2 : Int) - c.1 * (a.2 : Int)).natAbs * q ≤ p * (a.2 * c.2))

/-- |g/f − 1| ≤ p/q. -/
def withinRel (g f : Int × Nat) (p q : Nat) : Bool :=
  decide ((g.1 * (f.2 : Int) - f.1 * (g.2 : Int)).natAbs * q ≤ p * (f.1.natAbs * g.2))

/-- A second ends: its sums are those that R89 evaluates. DESIGN CHOICE: a slot-4 conversion that starts before a second's edge and
ends after it counts in the later second (log entry 111). -/
def laneSecond (l : Lane) : Lane :=
  { l with secRef := (l.refSum, l.refN), secGnd := (l.gndSum, l.gndN), refSum := 0, refN := 0, gndSum := 0, gndN := 0 }

/-- The evaluation of R89 over the sums of the previous second. A second without a reference or a ground conversion is not
evaluated (log entry 20). -/
def laneCalibrate (l : Lane) : Lane :=
  if !l.mask.getLsbD 4 then { l with refState := 0, oL := l.factO, gL := l.factG }
  else if l.secRef.2 = 0 || l.secGnd.2 = 0 then l
  else
    let o : Int × Nat := l.secGnd
    let dN : Int := l.secRef.1 * (l.secGnd.2 : Int) - l.secGnd.1 * (l.secRef.2 : Int)
    let g : Int × Nat := if dN > 0 then (refNominal * ((l.secRef.2 * l.secGnd.2 : Nat) : Int), dN.toNat) else (0, 1)
    let good := decide (dN > 0) && withinRel g l.factG 5 1000 && withinFrac o l.factO (2 * 131072) 1000
    let fair := decide (dN > 0) && withinRel g l.factG 2 100 && withinFrac o l.factO 131072 100
    { l with
      refState := if good then 1 else if fair then 2 else 3
      oL := if good then o else l.oL
      gL := if good then g else l.gL }

/-- The AFE reference has failed on every supervised lane at once (R92, R45). -/
def allRefFailed (a : Afe) : Bool :=
  let sup := a.lanes.filter (fun l => l.mask.getLsbD 4)
  !sup.isEmpty && sup.all (fun l => l.refState == 3)

/-! ### Cassettes (R84 to R87) -/

/-- Every GAIN, OFFSET and DELAY in its range (R84). -/
def cassRangesOk (c : Cassette) : Bool :=
  (List.range 4).all (fun j =>
    let g := at! c.gain j
    F.ge g (F.ofRat 95 100) && F.le g (F.ofRat 105 100)
      && decide (-65536 ≤ at! c.offset j) && decide (at! c.offset j ≤ 65535)
      && decide (0 ≤ at! c.delay j) && decide (at! c.delay j ≤ 3000))

/-- The memory itself is good (R85). -/
def cassMemOk (c : Cassette) : Bool := c.magicOk && c.format == 1 && c.crcOk && cassRangesOk c

/-- The cassette in use joins those before it, with the edge at which it went. -/
def Lane.retire (now : Nat) (l : Lane) : List CassUse :=
  let u : CassUse := { cass := l.cass, from_ := l.validFrom, gone := some (l.goneAt.getD now) }
  ((if l.usable then [u] else []) ++ l.past).take 2

/-- PRES_N falls: the cassette is detected and its memory is to be read (R85); the one withdrawn before keeps the edge at which it
went (R86). -/
def cassInsert (l : Lane) : Lane :=
  if l.present then l
  else { l with present := true, cassRead := false, past := l.retire (l.goneAt.getD 0), usable := false, goneAt := none }

/-- The memory has been read: the cassette is judged and, if usable, its channels become valid from the first sample whose
window begins after now (R85 to R87). -/
def cassComplete (e : LaneEntry) (now : Nat) (c : Cassette) (l : Lane) : Lane :=
  if !l.present then l else
  let mism := c.typ != e.cassType
  let bad := !cassMemOk c
  { l with cass := c, cassRead := true, mismatch := mism, memBad := bad, usable := !mism && !bad
           validFrom := now + 1, goneAt := none, past := l.retire now, k := laneK e }

/-- PRES_N rises: channels are invalid from the first window with a later conversion (R86). -/
def cassWithdraw (now : Nat) (l : Lane) : Lane :=
  if !l.present then l
  else { l with present := false, cassRead := false, mismatch := false, memBad := false, goneAt := some now }

/-- The 60 s re-read: the same contents change nothing, others count as withdrawal and insertion (R85, R86). -/
def cassReread (e : LaneEntry) (now : Nat) (c : Cassette) (l : Lane) : Lane :=
  if !l.present || c = l.cass then l
  else cassComplete e now c (cassInsert (cassWithdraw now l))

/-! ### Phase A -/

/-- Advance a lane to a tick start: conversions the commands have not delivered by then are skipped (log entry 20), old
conversions leave, a second's sums are closed at its end, and the latch of R100 is taken. DESIGN CHOICE (log entry 20): where
conversions were skipped the wavefront ring is empty from then on, since it holds conversions in order without a gap (R99). -/
def laneAdvance (id : TickId) (now keep : Nat) (l : Lane) : Lane :=
  let skip := if l.mask = 0 || now ≤ l.start + 160 then 0 else (now - l.start - 160 + 159) / 160
  let start := l.start + 160 * skip
  let k : Int := if l.mask = 0 then 0 else -(((start : Int) - now) / 160)
  let count := l.count + skip
  let pos := if skip = 0 then l.pos else (List.range ((skip - 1) % maskN l.mask)).foldl (fun p _ => nextSlot l.mask p) l.nextPos
  let l := if id.k = 0 then laneSecond l else l
  let lat : Nat × Nat × TickId := (((count : Int) + k).toNat, ((start : Int) + 160 * k - now).toNat, id)
  { l with start := start, count := count, pos := pos, curMask := if skip = 0 then l.curMask else l.mask, wf := if skip = 0 then l.wf else []
           convs := l.convs.filter (fun c => decide (keep ≤ c.at_ + 14000))
           latCount := lat.1, latOfs := lat.2.1, latId := id, lats := if l.wfOn then (lat :: l.lats).take 160 else [] }

/-- The scan mask of the running Block takes effect at the start of the activation tick (R76): the conversion in progress is
still one of the old mask. DESIGN CHOICE: the lane's start, from which slot 4's reference and ground conversions are counted
(R88), is the edge at which its mask leaves 0; a change of a running lane's mask goes on counting. An over-range of before the lane
stopped still excludes its next slot-4 conversion (R95). DESIGN CHOICE: REF_STATE of a lane whose slot 4 has just been enabled shows
0 until its first evaluation (log entry 111), and a lane whose MASK is 0 keeps no wavefront ring: WF_ON reads 0 whatever WF_KEEP says
(log entry 127). -/
def laneRemask (e : LaneEntry) (now : Nat) (l : Lane) : Lane :=
  let m : BitVec 5 := e.mask.setWidth 5
  let keepWf := e.lflags.getLsbD 0 && m != 0
  let l1 := { l with wfOn := keepWf, wf := if keepWf then l.wf else [], k := laneK e }
  let l1 := if l1.present && l1.cassRead then
      { l1 with mismatch := l1.cass.typ != e.cassType, usable := !l1.memBad && l1.cass.typ == e.cassType }
    else l1
  if m = l.mask then l1
  else
    let l2 := if l.mask = 0 then { l1 with curMask := m, pos := (maskSlots m).headD 0, start := now, s4count := 0 } else l1
    { l2 with mask := m
              refState := if m.getLsbD 4 then (if l.mask.getLsbD 4 then l.refState else 0) else 0
              oL := if m.getLsbD 4 then l.oL else l.factO, gL := if m.getLsbD 4 then l.gL else l.factG }

/-- The window statistics of R98 for the last committed window. -/
def laneWindow (starts : List Nat) (l : Lane) : Lane :=
  match starts[1]? with
  | none => l
  | some t =>
    { l with gross := l.mask.getLsbD 4 && l.convs.any (fun c =>
               c.slot == 4 && decide (t ≤ c.at_ + 12800) && decide (c.at_ < t + 12800) && grossBad c)
             ovr := l.convs.any (fun c => c.slot != 4 && c.over_ && decide (0 < overlap l c t)) }

/-- A sample point takes a committed sample. -/
def sampleWrite (aligned : TickId) (i : Nat) (w : BitVec 32) (q : BitVec 16) : PtWrite :=
  { idx := i, value := w.setWidth 64, qual := q, typ := 8, stamp := some (TickId.stamp aligned), edge := true }

/-- Commit of phase A (R79): the samples of all 64 local channels, and their point writes; the point of a disabled slot never
changes (R77), it was set at the activation (R94). `pts` are a channel's sample points, `test` says that its bay is in a test mode; `aligned` is the identity of the
previous tick. -/
def afeCommit (b : Block) (starts : List Nat) (aligned : TickId) (pts : Nat → List Nat) (test : Nat → Bool)
    (fv : Nat → BitVec 24) (a : Afe) : Afe × List PtWrite :=
  let ws := (List.range 64).map (fun ch =>
    let e := at! b.lanes (ch / 4)
    tickSample e starts (test ch) (fv ch) (at! a.lanes (ch / 4)) (ch % 4))
  ({ a with lanes := a.lanes.map (laneWindow starts), last := ws.map (fun w => (w.word, w.qual)) },
   (mapI (fun ch (w : SampleWord) =>
     if (at! a.lanes (ch / 4)).mask.getLsbD (ch % 4) then (pts ch).map (fun i => sampleWrite aligned i w.word w.qual) else []) ws).flatten)

/-- Lane status word (R98). -/
def laneStatus (l : Lane) : Nat :=
  l.mask.toNat + 32 * maskN l.mask + 256 * l.refState + 1024 * boolNat l.gross
    + 65536 * (if l.present && l.cassRead then l.cass.typ.toNat else 0)
    + 2 ^ 24 * boolNat l.present + 2 ^ 25 * boolNat l.mismatch + 2 ^ 26 * boolNat l.memBad + 2 ^ 27 * boolNat l.ovr
    + 2 ^ 28 * boolNat l.wfOn

/-- Lane status points (R98). -/
def laneWrites (a : Afe) : List PtWrite :=
  (mapI (fun n (l : Lane) => [wN (0xF0180 + n) (laneStatus l), wR (0xF0190 + n) (F.ofRat l.gL.1 l.gL.2),
    wR (0xF01A0 + n) (F.ofRat l.oL.1 l.oL.2)]) a.lanes).flatten

/-- "Analog lane fault" (R98). -/
def laneFault (a : Afe) : Bool := a.lanes.any (fun l => l.mismatch || l.memBad || l.refState == 3)
/-- "Analog calibration drift" (R98). -/
def laneDrift (a : Afe) : Bool := a.lanes.any (fun l => l.refState == 2)

end Sys2Proof
end

