-- ==== Sys2Proof/Machine/Flange.lean ====
section
/-! DEFINITION. The Flange unit (R207 to R223): accumulation, operate and reset of inverse-time curves. -/

namespace Sys2Proof

/-- Full scale of an accumulator: one whole operate time (R208). -/
def fluFS : Nat := 2 ^ 48

/-- Settings of a curve stage (R211): TMIN and TRD in ticks, curve code, TMS, RESET, MMAX, and PUA = PU × NOM. -/
structure CurveSet where
  tmin  : Nat := 0
  trd   : Nat := 0
  curve : Nat := 1
  tms   : F32 := 0
  reset : Nat := 1
  mmax  : F32 := 0
  pua   : F32 := 0
  deriving DecidableEq, Repr, Inhabited

/-- Constants k, α, c and tr of the standard curves as binary32 of the decimal figures (R213); tr 0: none. -/
def stdCurve (c : Nat) : F32 × F32 × F32 × F32 :=
  match c with
  | 1 => (F.ofRat 14 100, F.ofRat 2 100, 0, 0)
  | 2 => (F.ofRat 135 10, F.one, 0, 0)
  | 3 => (F.ofNat 80, F.two, 0, 0)
  | 4 => (F.ofNat 120, F.one, 0, 0)
  | 5 => (F.ofRat 515 10000, F.ofRat 2 100, F.ofRat 114 1000, F.ofRat 485 100)
  | 6 => (F.ofRat 1961 100, F.two, F.ofRat 491 1000, F.ofRat 216 10)
  | _ => (F.ofRat 282 10, F.two, F.ofRat 1217 10000, F.ofRat 291 10)

/-- Largest index of an ascending list at or below m. -/
def lastLe (m : F32) : List F32 → Nat → Nat
  | [], i => i - 1
  | x :: t, i => if F.le x m then lastLe m t (i + 1) else i - 1

/-- User curve time of m (R222). -/
def userTime (c : UserCurve) (tms m : F32) : F32 :=
  let n := c.m.length
  if F.lt m (c.m.headD F.pinf) then F.pinf
  else if F.ge m (at! c.m (n - 1)) then F.mul tms (at! c.t (n - 1))
  else
    let i := lastLe m c.m 0
    let lmi := F.ln (at! c.m i)
    let lti := F.ln (at! c.t i)
    let g := F.div F.one (F.sub (F.ln (at! c.m (i + 1))) lmi)
    let u := F.mul (F.sub (F.ln m) lmi) g
    let lt := F.add lti (F.mul u (F.sub (F.ln (at! c.t (i + 1))) lti))
    F.mul tms (F.exp lt)

/-- Operate time tt at multiple m (R214). -/
def curveTime (curves : List UserCurve) (s : CurveSet) (m : F32) : F32 :=
  if s.curve < 64 then
    let (k, al, c, _) := stdCurve s.curve
    let den := F.sub (F.pow m al) F.one
    if F.le den 0 then F.pinf else F.mul s.tms (F.add (F.div k den) c)
  else userTime (at! curves (s.curve - 64)) s.tms m

/-- Tick count tk after its limits (R214). -/
def curveTicks (curves : List UserCurve) (s : CurveSet) (mag : F32) : F32 :=
  let m := F.min (F.div mag s.pua) s.mmax
  let tk := F.mul (curveTime curves s m) (F.ofNat 9600)
  F.max (F.max tk (F.ofNat s.tmin)) F.one

/-- A binary32 fraction scaled by 2^48 to an integer, half to even. -/
def scale48 (x : F32) : Nat :=
  let (n, d) := F.toFrac x
  (F.rndDiv (n * (2 ^ 48 : Int)) d).toNat

/-- Increment of an accumulator at a magnitude (R214). -/
def curveInc (curves : List UserCurve) (s : CurveSet) (mag : F32) : Nat :=
  let tk := curveTicks curves s mag
  if F.isInf tk then 0 else scale48 (F.div F.one tk)

/-- Reset constant TR_C (R218). -/
def resetConst (curves : List UserCurve) (s : CurveSet) : F32 :=
  if s.curve < 64 then (stdCurve s.curve).2.2.2 else (at! curves (s.curve - 64)).tru

/-- Decrement of an inverse reset at a magnitude (R218). -/
def curveDec (curves : List UserCurve) (s : CurveSet) (mag : F32) : Nat :=
  let m := F.div mag s.pua
  let rd := F.sub F.one (F.mul m m)
  let trk := F.mul (F.div (F.mul s.tms (resetConst curves s)) rd) (F.ofNat 9600)
  scale48 (F.div F.one trk)

/-- One phase of a flange slot: accumulator, reset counter, state. -/
structure FluPh where
  acc : Nat := 0
  ctr : Nat := 0
  st  : Nat := 0
  deriving DecidableEq, Repr, Inhabited

/-- Accumulation of a started phase (R214, R219). -/
def fluAccumulate (curves : List UserCurve) (s : CurveSet) (mag : F32) (p : FluPh) : FluPh :=
  let acc := Nat.min (p.acc + curveInc curves s mag) fluFS
  { acc := acc, ctr := 0, st := if acc = fluFS then 4 else 1 }

/-- The end of a definite reset: the accumulator is cleared (R218). -/
def fluClear (_ : FluPh) : FluPh := {}

/-- Definite reset of a phase whose start is clear (R218). -/
def fluDefinite (s : CurveSet) (p : FluPh) : FluPh :=
  if p.st = 0 then fluClear p
  else if p.ctr < s.trd then { p with ctr := p.ctr + 1, st := 2 }
  else fluClear p

/-- Inverse reset of a phase whose start is clear (R218). -/
def fluInverse (curves : List UserCurve) (s : CurveSet) (mag : F32) (p : FluPh) : FluPh :=
  let acc := p.acc - curveDec curves s mag
  { acc := acc, ctr := 0, st := if acc = 0 then 0 else 3 }

/-- One phase evaluation: `str` its start, `held` no decision (R220), `mag` its magnitude (0 while blocked). -/
def fluPhase (curves : List UserCurve) (s : CurveSet) (str held : Bool) (mag : F32) (p : FluPh) : FluPh :=
  if held then p
  else if str then fluAccumulate curves s mag p
  else if s.reset = 0 then fluClear p
  else if s.reset = 1 then fluDefinite s p
  else fluInverse curves s mag p

/-- Phase `k` of a slot. -/
def FluSlot.ph (f : FluSlot) (k : Nat) : FluPh := { acc := at! f.acc k, ctr := at! f.ctr k, st := at! f.st k }

/-- Put a phase back. -/
def FluSlot.setPh (f : FluSlot) (k : Nat) (p : FluPh) : FluSlot :=
  { f with acc := setAt f.acc k p.acc, ctr := setAt f.ctr k p.ctr, st := setAt f.st k p.st }

/-- Operate bit of a phase (R215). -/
def FluSlot.op (f : FluSlot) (k : Nat) : Bool := at! f.acc k == fluFS

/-- Time left to operate (R210): of the first started phase with the largest accumulator. -/
def fluTtop (curves : List UserCurve) (s : CurveSet) (strs : List Bool) (mags : List F32) (f : FluSlot) : F32 :=
  let best := (List.range 3).foldl (fun (b : Option Nat) k =>
    if at! strs k then
      match b with
      | none => some k
      | some j => if at! f.acc j < at! f.acc k then some k else b
    else b) none
  match best with
  | none => F.pinf
  | some k =>
    if curveInc curves s (at! mags k) = 0 then F.pinf
    else F.div (F.mul (F.sub F.one (F.ofRat ((at! f.acc k : Nat) : Int) fluFS)) (curveTicks curves s (at! mags k))) (F.ofNat 9600)

end Sys2Proof
end

