-- ==== Sys2Proof/Machine/Phasor.lean ====
section
/-! DEFINITION. The phasor engine (R138 to R158): histories, phasors, rms and THD, sequence components, power, frequency
and rate of change of frequency, in the order of R149. The arguments of the library functions are formed in binary32 from
left to right as the rules write them (log entry 15). -/

namespace Sys2Proof

/-- The stream (and its delay D) behind process-bus channel `ch`, and its point: the intake map's PHE entries in order
(R13). -/
def pbChan (b : Block) (ch : Nat) : Option InMap :=
  (b.inMap.filter (fun m => m.phe && !m.goose))[ch - 64]?

/-- Latency of a channel (R140): 1 for a local channel, D for a process-bus channel. -/
def chanLat (b : Block) (ch : Nat) : Nat :=
  if ch < 64 then 1 else
  match pbChan b ch with
  | some m => (((b.streams[m.sub]?).getD none).map (·.d)).getD 1
  | none => 1

/-- Channels of a group: position and channel number. -/
def GroupEntry.chans (e : GroupEntry) : List (Nat × Nat) :=
  (e.chan.zipIdx.filter (fun x => x.1 != 0xFFFF)).map (fun x => (x.2, x.1))

/-- Alignment A_g (R140). -/
def groupAlign (b : Block) (e : GroupEntry) : Nat :=
  (e.chans.map (fun x => chanLat b x.2)).foldl Nat.max 1

/-- The group and position that name a channel, if any (R138). -/
def chanHome (b : Block) (ch : Nat) : Option (Nat × Nat) :=
  (b.groups.zipIdx.findSome? (fun g => (g.1.chans.find? (fun x => x.2 == ch)).map (fun x => (g.2, x.1))))

/-- Sample points of a local channel: those of its positions (R141), or the one that the map allocates (R77). -/
def localPts (b : Block) (ch : Nat) : List Nat :=
  let ps := (mapI (fun g (e : GroupEntry) => (e.chans.filter (fun x => x.2 == ch)).map (fun x => groupBase g + x.1)) b.groups).flatten
  if ps.isEmpty then ((b.map.filter (fun m => m.writer == .afe && m.chan == ch)).map (·.point)).take 1 else ps

/-- The first sample point of a local channel. -/
def localPt (b : Block) (ch : Nat) : Option Nat := (localPts b ch).head?

/-- Primary value of a sample word: float(SAMPLE) × K (R87, R143). -/
def wordValue (w : BitVec 32) (k : F32) : F32 := F.mul (F.ofInt ((w.setWidth 24 : BitVec 24).toInt)) k

/-- Used group (R142). -/
def GroupEntry.used (e : GroupEntry) : Bool := !e.chans.isEmpty || e.sets.any (fun s => s.kind != 0)

/-! ### Phasors (R143 to R148) -/

/-- The history's samples from the group's reference instant on: newest first. -/
def histFrom (h : List (F32 × BitVec 16)) (ofs : Nat) : List (F32 × BitVec 16) := h.drop ofs

/-- Window length L as binary32 (R144). -/
def winLen (fT : Nat) : F32 := F.ofRat 960000 fT

/-- Weights w_0 … of the window: ones and the fractional last (R144); a last weight of 0 is left out. -/
def winWeights (fT : Nat) : List F32 :=
  let n := 960000 / fT
  let w := F.sub (winLen fT) (F.ofNat n)
  List.replicate n F.one ++ (if F.isZero w then [] else [w])

/-- θ_i = 2π h f_t i / 9,600 (R145). -/
def theta (fT h i : Nat) : F32 :=
  F.div (F.mul (F.mul (F.mul F.twoPi (F.ofNat h)) (F.ofRat fT 100)) (F.ofNat i)) (F.ofNat 9600)

/-- Coefficients of a window: weight, e^jθ_i, e^j2θ_i. -/
def coefs (fT h : Nat) : List (F32 × Cx × Cx) :=
  (winWeights fT).zipIdx.map (fun x =>
    let t := theta fT h x.2
    let t2 := F.mul F.two t
    (x.1, { re := F.cos t, im := F.sin t }, { re := F.cos t2, im := F.sin t2 }))

/-- Phasor X_h of a window (R145). -/
def phasorX (L : F32) (cs : List (F32 × Cx × Cx)) (xs : List F32) : Cx :=
  let S := (cs.zip xs).foldl (fun (a : Cx) c => F.cadd a (F.cscale (F.mul c.1.1 c.2) c.1.2.1)) {}
  let C := cs.foldl (fun (a : Cx) c => F.cadd a (F.cscale c.1 c.2.2)) {}
  let num := F.csub (F.cscale L S) (F.cmul C (F.conj S))
  let mc := F.cabs C
  let den := F.sub (F.mul L L) (F.mul mc mc)
  F.cscale F.sqrt2 (F.cdivr num den)

/-- Reference rotation: cos φ_ref − j sin φ_ref (R145). -/
def refRot (fnom h kref : Nat) : Cx :=
  let phi := F.div (F.mul (F.mul (F.mul F.twoPi (F.ofNat h)) (F.ofNat fnom)) (F.ofNat (kref % (9600 / fnom)))) (F.ofNat 9600)
  { re := F.cos phi, im := F.neg (F.sin phi) }

/-- Results of one channel position: phasors X_h and Y_h for h = 1 to 13, rms, THD, their quality. -/
structure ChanResult where
  ys   : List Cx := []
  q    : BitVec 16 := 0x81
  rms  : F32 := 0
  thd  : F32 := 0
  thdQ : BitVec 16 := 0x81
  deriving DecidableEq, Repr, Inhabited

/-- Quality of a window (R157). -/
def winQual (need : Nat) (h : List (F32 × BitVec 16)) (lim : Bool) : BitVec 16 :=
  let q := qAll ((h.take need).map (·.2))
  let q := if h.length < need then qComb q (qInvalid 0x80) else q
  if lim then qComb q (qDoubt 0x8) else q

/-- Compute a position (R145, R148). -/
def chanCompute (fnom fT kref : Nat) (tab : List (List (F32 × Cx × Cx))) (h : List (F32 × BitVec 16)) (lim : Bool) :
    ChanResult :=
  let L := winLen fT
  let ws := winWeights fT
  let xs := (h.take ws.length).map (·.1)
  let Xs := tab.map (fun cs => phasorX L cs xs)
  let q := winQual ws.length h lim
  let rms := F.sqrt (F.div (F.sum ((ws.zip xs).map (fun p => F.mul p.1 (F.mul p.2 p.2)))) L)
  let x1 := Xs.headD {}
  let m1 := F.cabs x1
  let thd := F.div (F.sqrt (F.sum ((Xs.drop 1).map F.cabs2))) m1
  { ys := Xs.zipIdx.map (fun x => F.cmul x.1 (refRot fnom (x.2 + 1) kref)), q := q, rms := rms
    thd := if F.isZero m1 then 0 else thd, thdQ := if F.isZero m1 then qComb q 1 else q }

/-- Y_1 of a position result. -/
def ChanResult.y1 (r : ChanResult) : Cx := r.ys.headD {}

/-! ### Sequence components and power (R150, R151) -/

/-- The three phases of a set after the exchange of ROT. -/
def SetEntry.abc (s : SetEntry) : List Nat := if s.rot = 1 then [s.chA, s.chC, s.chB] else [s.chA, s.chB, s.chC]

/-- X0, X1, X2 from phase phasors (R150). -/
def seqComp (a b c : Cx) : Cx × Cx × Cx :=
  let k := F.opA
  let kk (x : Cx) := F.cmul (F.cmul k k) x
  (F.cdivr (F.cadd (F.cadd a b) c) F.three,
   F.cdivr (F.cadd (F.cadd a (F.cmul k b)) (kk c)) F.three,
   F.cdivr (F.cadd (F.cadd a (kk b)) (F.cmul k c)) F.three)

/-- Sequence results of a set: X0, X1, X2, residual with qualities. DESIGN CHOICE: the VALUE of the invalid X0 of KIND 3 and of an invalid
residual is 0 (log entry 111). -/
def setCompute (s : SetEntry) (rs : Nat → ChanResult) : List (Cx × BitVec 16) :=
  if s.kind = 0 then [] else
  let p := s.abc
  let a := rs (at! p 0)
  let b := rs (at! p 1)
  let c := rs (at! p 2)
  let q := qAll [a.q, b.q, c.q]
  let (x0, x1, x2) := seqComp a.y1 b.y1 c.y1
  let res := if s.chN = 0xFF then ({}, 1#16) else ((rs s.chN).y1, (rs s.chN).q)
  [(if s.kind = 3 then {} else x0, if s.kind = 3 then qComb q 1 else q), (x1, q), (x2, q), res]

/-- Power results P_A … PF (R151): value and quality, ten of them. DESIGN CHOICE: R151 has PWR_SIGN = 1 negate P and Q; the model
negates the per-phase points P_A to Q_C as well, so that P and Q stay their sums. A PWR_SIGN above 1, which R142 does not refuse,
counts as 0, and the VALUE of an invalid per-phase point of KIND 3, and of PF where S is 0, is 0 (log entry 111). -/
def powerCompute (e : GroupEntry) (rs : Nat → ChanResult) : List (F32 × BitVec 16) :=
  match e.sets[e.pwrV]?, e.sets[e.pwrI]? with
  | some v, some i =>
    let vp := v.abc
    let ip := i.abc
    let V (k : Nat) := (rs (at! vp k))
    let I (k : Nat) := (rs (at! ip k))
    let sg (x : F32) : F32 := if e.pwrSign = 1 then F.neg x else x
    if v.kind = 3 then
      let t := F.csub (F.cmul (V 0).y1 (F.conj (I 0).y1)) (F.cmul (V 1).y1 (F.conj (I 2).y1))
      let q := qAll [(V 0).q, (V 1).q, (I 0).q, (I 2).q]
      let t : Cx := { re := sg t.re, im := sg t.im }
      let S := F.cabs t
      [(0, 1), (0, 1), (0, 1), (t.re, q), (0, 1), (0, 1), (0, 1), (t.im, q), (S, q),
       (if F.isZero S then 0 else F.div t.re S, if F.isZero S then qComb q 1 else q)]
    else
      let sp (k : Nat) : Cx := let z := F.cmul (V k).y1 (F.conj (I k).y1); { re := sg z.re, im := sg z.im }
      let q (k : Nat) := qComb (V k).q (I k).q
      let t := F.cadd (F.cadd (sp 0) (sp 1)) (sp 2)
      let qt := qAll [q 0, q 1, q 2]
      let S := F.cabs t
      [((sp 0).re, q 0), ((sp 1).re, q 1), ((sp 2).re, q 2), (t.re, qt),
       ((sp 0).im, q 0), ((sp 1).im, q 1), ((sp 2).im, q 2), (t.im, qt), (S, qt),
       (if F.isZero S then 0 else F.div t.re S, if F.isZero S then qComb qt 1 else qt)]
  | _, _ => []

/-! ### Frequency (R152 to R156) -/

/-- Quarter-cycle distance Q (R154). -/
def quarter (fnom : Nat) : Nat := 9600 / (4 * fnom)

/-- Threshold of a set (R153). -/
def setThreshold (e : GroupEntry) (s : SetEntry) : F32 :=
  if s.kind = 1 then F.mul e.iMin s.nom
  else if s.kind = 2 then F.div (F.mul e.vMin s.nom) F.sqrt3
  else F.mul e.vMin s.nom

/-- Next magnitude state (R153). -/
def magState (thr m : F32) (above : Bool) : Bool :=
  if F.lt m thr then false
  else if F.ge m (F.mul 0x3F8CCCCD#32 thr) then true
  else above

/-- wrap to (−π, π] (R154). -/
def wrapPi (d : F32) : F32 :=
  if F.gt d F.pi then F.sub d F.twoPi
  else if F.le d (F.neg F.pi) then F.add d F.twoPi
  else d

/-- f_raw of a set source (R154). -/
def fRaw (fnom : Nat) (x1 x1q : Cx) : F32 :=
  let d := wrapPi (F.sub (F.atan2 x1.im x1.re) (F.atan2 x1q.im x1q.re))
  let den := F.div (F.mul F.twoPi (F.ofNat (quarter fnom))) (F.ofNat 9600)
  F.add (F.ofNat fnom) (F.div d den)

/-- Quality of a frequency by its value (R154). -/
def fRangeQ (f : F32) : BitVec 16 :=
  if F.lt f (F.ofNat 35) || F.gt f (F.ofNat 75) || F.isNaN f then qInvalid 0x8
  else if F.lt f (F.ofNat 40) || F.gt f (F.ofNat 70) then qDoubt 0x8
  else 0

/-- F_T for the next tick (R154). -/
def fTrack (f : F32) : Nat :=
  let v := F.toIntRne (F.mul f (F.ofNat 100)) 7000
  if v < 4000 then 4000 else if v > 7000 then 7000 else v.toNat

/-- The end of F_HOLD (R155): f reads invalid and F_T becomes nominal. DESIGN CHOICE: f keeps bit 7, old data (log entry 111). -/
def holdExpire (fnom : Nat) (g : GroupState) : GroupState :=
  { g with fQ := qInvalid 0x80, fT := fnom * 100 }

/-- Frequency of a group for one tick (R153 to R157). `x1s` are X1 and its quality per set; `stF` is the point `st.freq` as the
previous tick left it. -/
def freqStep (fnom : Nat) (e : GroupEntry) (x1s : List (Option (Cx × BitVec 16))) (stF : F32 × BitVec 16)
    (g : GroupState) : GroupState :=
  let Q := quarter fnom
  let above := mapI (fun k (x : Option (Cx × BitVec 16)) =>
    match x, e.sets[k]? with
    | some (c, _), some s => magState (setThreshold e s) (F.cabs c) (at! g.above k)
    | _, _ => false) x1s
  let hist := mapI (fun k (x : Option (Cx × BitVec 16)) =>
    match x with
    | some x => (x :: at! g.x1H k).take (Q + 1)
    | none => []) x1s
  let usable (src : Nat) : Option (F32 × BitVec 16) :=
    if src ≤ 3 then
      let h := at! hist src
      match h.head?, h[Q]? with
      | some x, some y => if at! above src && qGood x.2 && qGood y.2 then some (fRaw fnom x.1 y.1, qComb x.2 y.2) else none
      | _, _ => none
    else if src = 0x10 then (if qGood stF.2 then some stF else none)
    else none
  let pick := e.fsrc.zipIdx.findSome? (fun s => (usable s.1).map (fun r => (s.2 + 1, r)))
  let nA := e.fAvg * (9600 / fnom)
  let g1 : GroupState :=
    match pick with
    | some (src, r) =>
      let rs := (r :: (if src = g.src then g.raws else [])).take nA
      let f := F.div (F.sum (rs.reverse.map (·.1))) (F.ofNat rs.length)
      let q := qAll (fRangeQ f :: (if rs.length < nA then qDoubt 0x200 else 0) :: rs.map (·.2))
      { g with above := above, x1H := hist, src := src, raws := rs, f := f, fQ := q, fEver := true, holdT := 0
               fT := fTrack f }
    | none =>
      let base := { g with above := above, x1H := hist, src := 0, raws := [], holdT := g.holdT + 1 }
      if !g.fEver then { base with f := F.ofNat fnom, fQ := qInvalid 0x80, fT := fnom * 100 }
      else if g.holdT + 1 > e.fHoldT then holdExpire fnom base
      else { base with fQ := qDoubt 0x80 }
  let nR := e.rocofT
  let fh := ((g1.f, g1.fQ) :: g.fH).take (nR + 1)
  match fh[nR]? with
  | some (f0, q0) =>
    { g1 with fH := fh, rocof := F.div (F.sub g1.f f0) (F.div (F.ofNat nR) (F.ofNat 9600)), rocofQ := qComb g1.fQ q0 }
  | none => { g1 with fH := fh, rocof := 0, rocofQ := qInvalid 0x80 }

/-! ### One group and the whole engine -/

/-- Everything the PHE computes for one group in a tick: its next state and its point writes (R141). DESIGN CHOICE: in the first A_g
ticks after a clock step k_ref is that of the present grid less A_g, not an index of the grid before the step (log entry 111). -/
def groupTick (b : Block) (id : TickId) (gi : Nat) (e : GroupEntry) (hist : List (List (F32 × BitVec 16)))
    (stF : F32 × BitVec 16) (g : GroupState) : GroupState × List PtWrite :=
  let freqW (x : GroupState) : List PtWrite :=
    let base := groupBase gi
    [wR (base + 0x110) x.f x.fQ, wR (base + 0x111) x.rocof x.rocofQ, wR (base + 0x112) (F.ofRat g.fT 100) 0,
     wE (base + 0x113) x.src 0, wN (base + 0x114) (groupAlign b e) 0]
  if !e.used then
    (let x := freqStep b.fnom e [none, none, none, none] stF g; (x, freqW x))
  else
  let ag := groupAlign b e
  let kref := (TickId.grid id + 9600 * 2 - ag) % 9600
  let lim := (g.fT = 4000 || g.fT = 7000) && fRangeQ g.f != 0
  let tab := (List.range 13).map (fun h => coefs g.fT (h + 1))
  let res : List (Nat × ChanResult) := e.chans.map (fun x =>
    (x.1, chanCompute b.fnom g.fT kref tab (histFrom (at! hist x.2) (ag - chanLat b x.2)) lim))
  let rs (p : Nat) : ChanResult := (lkup res p).getD {}
  let seqs := e.sets.map (fun s => setCompute s rs)
  let x1s := seqs.map (fun l => l[1]?)
  let g' := freqStep b.fnom e x1s stF g
  let base := groupBase gi
  let chW := res.flatMap (fun r =>
    (mapI (fun h y => wC (if h = 0 then base + 0x10 + r.1 else base + 0x20 + 16 * (h - 1) + r.1) y r.2.q) r.2.ys)
      ++ [wR (base + 0xE0 + r.1) r.2.rms r.2.q, wR (base + 0xF0 + r.1) r.2.thd r.2.thdQ])
  let seqW := (mapI (fun s l => mapI (fun k (x : Cx × BitVec 16) => wC (base + 0x100 + 4 * s + k) x.1 x.2) l) seqs).flatten
  let pw := mapI (fun k (x : F32 × BitVec 16) => wR (base + 0x118 + k) x.1 x.2) (powerCompute e rs)
  (g', chW ++ seqW ++ freqW g' ++ pw)

/-- The sample of a local channel as every reader sees it (R319): its point's record where that is forced, else the sample last
committed. -/
def shownSample (b : Block) (sg : Sig) (afe : Afe) (ch : Nat) : BitVec 32 × BitVec 16 :=
  match (localPts b ch).find? (fun i => (sg.force i).isSome) with
  | some i => let p := sg.rd i; (p.value.setWidth 32, p.qual)
  | none => at! afe.last ch

/-- History update of R143: the newest sample of every channel, from its point where one is allocated. A member fed from
its backup channel enters the backup's sample of the same instant (R140). -/
def histStep (b : Block) (sg : Sig) (afe : Afe) (onBackup : Nat → Bool) (hist : List (List (F32 × BitVec 16))) :
    List (List (F32 × BitVec 16)) :=
  let kOf (ch : Nat) : F32 := at! (at! afe.lanes (ch / 4)).k (ch % 4)
  let loc := (List.range 64).map (fun ch =>
    let w := shownSample b sg afe ch
    ((wordValue w.1 (kOf ch), w.2) :: at! hist ch).take 256)
  let pbs := b.inMap.filter (fun m => m.phe && !m.goose)
  let rest := (List.range 384).map (fun j =>
    match pbs[j]? with
    | none => at! hist (64 + j)
    | some m =>
      let p := sg.rd m.point
      let d := chanLat b (64 + j)
      let v : F32 × BitVec 16 :=
        if onBackup m.sub && m.backupEn && !p.forced then
          match (at! loc m.backup)[d - 1]? with
          | some x => (x.1, x.2 ||| 0x400)
          | none => (0, qInvalid 0x480)
        else (p.real, p.qual)
      (v :: at! hist (64 + j)).take 256)
  loc ++ rest

/-- The presented sample of every channel, newest first, for the sample-based elements (R165): the value and quality of
the channel's point. -/
def presStep (b : Block) (sg : Sig) (afe : Afe) (pres : List (List (F32 × BitVec 16))) : List (List (F32 × BitVec 16)) :=
  let kOf (ch : Nat) : F32 := at! (at! afe.lanes (ch / 4)).k (ch % 4)
  let loc := (List.range 64).map (fun ch =>
    let w := shownSample b sg afe ch
    ((wordValue w.1 (kOf ch), w.2) :: at! pres ch).take 256)
  let pbs := b.inMap.filter (fun m => m.phe && !m.goose)
  loc ++ (List.range 384).map (fun j =>
    match pbs[j]? with
    | none => at! pres (64 + j)
    | some m => let p := sg.rd m.point; ((p.real, p.qual) :: at! pres (64 + j)).take 256)

/-- Phase B of the PHE (R149): histories, then the reference group, then all others in ascending order. -/
def pheTick (b : Block) (id : TickId) (sg : Sig) (afe : Afe) (onBackup : Nat → Bool) (ph : Phe) : Phe × List PtWrite :=
  let hist := histStep b sg afe onBackup ph.hist
  let outs := mapI (fun gi (g : GroupState) =>
    match b.groups[gi]? with
    | some e => groupTick b id gi e hist (let p := sg.rd 0x63400; (p.real, p.qual)) g
    | none => (g, [])) ph.groups
  let gs := outs.map (·.1)
  let rg := at! gs b.refGroup
  ({ ph with hist := hist, pres := presStep b sg afe ph.pres, groups := gs },
   [wR 0x63400 rg.f rg.fQ, wR 0x63401 rg.rocof rg.rocofQ] ++ (outs.map (·.2)).flatten)

end Sys2Proof
end

