-- ==== Sys2Proof/Machine/Elements.lean ====
section
/-! DEFINITION. The protection elements (R165 to R206, R541): inputs and their qualities, starts, timers, blocks, the
kernel of each type, and the common points. Setting words are read as log entry 16 says. -/

namespace Sys2Proof

/-- What an instance's kernel reads: the Block, the tick, the signal space as the schedule shows it (R176), its entry,
its group's entry and state, the settings in force, the effective mode, presented samples, and its breaker's position
(slot state for CLP). -/
structure ElEnv where
  b    : Block
  id   : TickId
  sg   : Sig
  e    : ElemEntry
  ge   : GroupEntry
  rc   : List (BitVec 32)
  grp  : Nat
  mode : Nat
  pres : List (List (F32 × BitVec 16))
  idx  : Nat

/-- Setting word as a real. -/
def ElEnv.r (v : ElEnv) (i : Nat) : F32 := at! v.rc i
/-- Setting word as ticks or an enumeration. -/
def ElEnv.n (v : ElEnv) (i : Nat) : Nat := (at! v.rc i).toNat
/-- A counting setting stored as binary32. -/
def ElEnv.c (v : ElEnv) (i : Nat) : Nat := (F.toIntRne (at! v.rc i) (2 ^ 31)).toNat
/-- Operate delay. -/
def ElEnv.T (v : ElEnv) : Nat := v.n 1
/-- Reset delay. -/
def ElEnv.TR (v : ElEnv) : Nat := v.n 2
/-- Cycle length Pc = 9,600 / FNOM ticks. -/
def ElEnv.pc (v : ElEnv) : Nat := 9600 / v.b.fnom
/-- Base of the group's results. -/
def ElEnv.gb (v : ElEnv) : Nat := groupBase v.e.group
/-- The current set. -/
def ElEnv.si (v : ElEnv) : SetEntry := at! v.ge.sets v.e.setI
/-- The voltage set. -/
def ElEnv.sv (v : ElEnv) : SetEntry := at! v.ge.sets v.e.setV
/-- OPTS bit. -/
def ElEnv.opt (v : ElEnv) (i : Nat) : Bool := v.e.opts.testBit i
/-- Rated current of the set. -/
def ElEnv.nomI (v : ElEnv) : F32 := v.si.nom
/-- Vn for phase-to-ground and zero-sequence quantities, or for phase-to-phase ones (R170). -/
def ElEnv.vn (v : ElEnv) (pp : Bool) : F32 := if pp then v.sv.nom else F.div v.sv.nom F.sqrt3
/-- Vn by the set's kind. -/
def ElEnv.vnK (v : ElEnv) : F32 := v.vn (v.sv.kind == 3)
/-- S_B (R170). -/
def ElEnv.sB (v : ElEnv) : F32 := F.mul (F.mul F.sqrt3 v.sv.nom) v.si.nom
/-- A point with its quality as the instance's mode sees it (R126). -/
def ElEnv.pt (v : ElEnv) (i : Nat) : Point := let p := v.sg.rd i; { p with qual := qIn v.mode p.qual }
/-- A complex result of the group. -/
def ElEnv.cx (v : ElEnv) (ofs : Nat) : Cx × BitVec 16 := let p := v.pt (v.gb + ofs); (p.cx, p.qual)
/-- A real result of the group. -/
def ElEnv.re (v : ElEnv) (ofs : Nat) : F32 × BitVec 16 := let p := v.pt (v.gb + ofs); (p.real, p.qual)
/-- Positions of phases A, B, C. -/
def SetEntry.phs (s : SetEntry) : List Nat := [s.chA, s.chB, s.chC]
/-- Harmonic h phasor of a position. -/
def ElEnv.y (v : ElEnv) (h c : Nat) : Cx × BitVec 16 := v.cx (if h = 1 then 0x10 + c else 0x20 + 16 * (h - 2) + c)
/-- Sequence component k of set s: 0 X0, 1 X1, 2 X2, 3 residual. -/
def ElEnv.seq (v : ElEnv) (s k : Nat) : Cx × BitVec 16 := v.cx (0x100 + 4 * s + k)
/-- 3I0 (R165): 3 × X0, or CH_N under MEAS_RES. -/
def ElEnv.i30 (v : ElEnv) : Cx × BitVec 16 :=
  if v.opt 0 then v.seq v.e.setI 3 else let x := v.seq v.e.setI 0; (F.cscale F.three x.1, x.2)
/-- 3V0: 3 × X0 of the voltage set, or its measured residual under OPTS bit 0 (R187). -/
def ElEnv.v30 (v : ElEnv) : Cx × BitVec 16 :=
  if v.opt 0 then v.seq v.e.setV 3 else let x := v.seq v.e.setV 0; (F.cscale F.three x.1, x.2)
/-- Presented sample i ticks back of a position, with quality. -/
def ElEnv.samp (v : ElEnv) (c i : Nat) : F32 × BitVec 16 :=
  let ch := v.ge.chan.getD c 0xFFFF
  let x := ((v.pres[ch]?).getD [])[i]?.getD (0, qInvalid 0x80)
  (x.1, qIn v.mode x.2)

/-- Reaction to an input (R201): 0 used, 1 hold, 2 blocked; `qh` is the reaction to a questionable one. -/
def react (qh : Nat) (q : BitVec 16) : Nat := if qBad q then 2 else if qQuest q then qh else 0

/-- Reaction of the sample-based elements: a sample whose only causes are bits 2 and 10 is used (R201). The test bit, bit 11, is
no cause: R177 has such a sample used in Test, and `qIn` makes it invalid in On and Blocked. -/
def reactS (q : BitVec 16) : Nat :=
  if qBad q then 2 else if qQuest q then (if q &&& 0x13F8#16 = 0 then 0 else 1) else 0

/-- A Boolean point that reads true with validity good or questionable, its test bit as the instance's mode sees it (R126,
R174). -/
def ElEnv.isTrue (v : ElEnv) (i : Nat) : Bool := let p := v.pt i; p.bool && qOk p.qual

/-- The directional decision of a reference instance for phase `p`, or its general one (R175). -/
def ElEnv.dirOf (v : ElEnv) (pos : Nat) (p : Option Nat) : Nat :=
  match v.b.elems.find? (fun x => x.group == v.e.group && x.pos == pos) with
  | none => 0
  | some d =>
    let i := match p with
      | some k => if d.etype = 0x0121 then d.base + 0x10 + k else d.base + 9
      | none => d.base + 9
    let x := v.pt i
    if qBad x.qual then 0 else x.value.toNat % 4

/-- The DIRREF condition of a start (R175). -/
def ElEnv.dirOk (v : ElEnv) (p : Option Nat) : Bool :=
  v.e.dirRef == 0xFF || v.dirOf v.e.dirRef p == v.e.dirReq

/-- The 60 instance of the voltage set reads op (R200). -/
def ElEnv.fuse (v : ElEnv) : Bool :=
  v.b.elems.any (fun x => x.etype == 0x01A1 && x.group == v.e.group && x.setV == v.e.setV && v.isTrue (x.base + 5))

/-- A sample point of the set changed source in this tick (R202). -/
def ElEnv.srcNow (v : ElEnv) (cs : List Nat) : List Bool := cs.map (fun c => (v.samp c 0).2.getLsbD 10)

/-- What a kernel decides in a tick: `kind` 0 evaluated, 1 hold, 2 blocked by inputs; per-phase starts; which phases held
or blocked; confirmation counts. -/
structure ElRes where
  st    : ElemState := {}
  kind  : Nat := 0
  strP  : List Bool := [false, false, false]
  str   : Bool := false
  single : Bool := false
  re    : List Nat := [0, 0, 0]
  conf  : List Nat := [0, 0, 0]
  meas  : F32 := 0
  meas2 : F32 := 0
  measQ : BitVec 16 := 0
  dir   : Nat := 0
  ownOp : Option (Bool × List Bool) := none
  mags  : List F32 := [0, 0, 0]
  qInh  : Bool := false
  deriving Inhabited

/-- Start of one phase or quantity (R171, R172): reaction, start and drop-off conditions, previous start and run. -/
def startStep (re : Nat) (start drop prev : Bool) (conf C : Nat) : Bool × Nat :=
  if re = 2 then (false, 0)
  else if re = 1 then (prev, conf)
  else if prev then (!drop, if drop then 0 else conf)
  else if start then (if conf + 1 ≥ C then (true, 0) else (false, conf + 1))
  else (false, 0)

/-- Operate timer (R173): previous and present start, whether a started phase is held; answers tmr, the hold count and
op. -/
def timerStep (T TR : Nat) (prev str held : Bool) (op : Bool) (tmr hold : Nat) : Nat × Nat × Bool :=
  if str then
    let t := if held then tmr else if prev then tmr + 1 else if hold < TR then tmr else 0
    (t, 0, decide (t ≥ T) || (prev && op))
  else
    let h := if prev then 1 else hold + 1
    (if h ≤ TR then tmr else 0, h, false)

/-- Three phases of an over-element on given magnitudes (R171). -/
def overPhases (v : ElEnv) (st : ElemState) (C : Nat) (pu drop : F32) (ms : List (F32 × Nat)) : ElRes :=
  let rs := mapI (fun p (x : F32 × Nat) =>
    startStep x.2 (F.ge x.1 pu && v.dirOk (some p)) (F.lt x.1 drop) (at! st.strP p) (at! st.conf p) C) ms
  { st := st, strP := rs.map (·.1), str := rs.any (·.1), conf := rs.map (·.2), re := ms.map (·.2)
    mags := ms.map (·.1) }

/-- A single-quantity result (R171, R175): its start in the general point only. -/
def single (v : ElEnv) (st : ElemState) (C re : Nat) (start drop : Bool) : ElRes :=
  let r := startStep re (start && v.dirOk none) drop st.str (at! st.conf 0) C
  { st := st, kind := re, single := true, str := r.1, conf := [r.2, 0, 0], re := [re, re, re] }

/-! ### Overcurrent (R178 to R183) -/

/-- 50P and 51P: phase phasors, or true rms with OPTS bit 1 (51P). -/
def kPhaseOc (v : ElEnv) (st : ElemState) : ElRes :=
  let is51 := v.e.etype == 0x0111
  let ms := v.si.phs.map (fun c =>
    if is51 && v.opt 1 then let x := v.re (0xE0 + c); (x.1, react 0 x.2)
    else let x := v.y 1 c; (F.cabs x.1, react 0 x.2))
  let pu := F.mul (v.r 3) v.nomI
  let r := overPhases v st (if is51 then 1 else v.n 5) pu (F.mul (v.r 4) pu) ms
  { r with meas := F.div (F.maxL (ms.map (·.1))) v.nomI }

/-- Magnitude of the single residual or sequence quantity of 50N, 50G, 51N, 51G, 46. -/
def ElEnv.resMag (v : ElEnv) : F32 × BitVec 16 :=
  if v.e.etype == 0x0131 then let x := v.seq v.e.setI 2; (F.cabs x.1, x.2)
  else if v.e.etype == 0x0105 || v.e.etype == 0x0113 then let x := v.seq v.e.setI 3; (F.cabs x.1, x.2)
  else let x := v.i30; (F.cabs x.1, x.2)

/-- 50N, 50G, 51N, 51G and 46. -/
def kResOc (v : ElEnv) (st : ElemState) : ElRes :=
  let x := v.resMag
  let pu := F.mul (v.r 3) v.nomI
  let c := if v.e.etype == 0x0103 || v.e.etype == 0x0105 then v.n 5 else 1
  let r := single v st c (react 0 x.2) (F.ge x.1 pu) (F.lt x.1 (F.mul (v.r 4) pu))
  { r with meas := F.div x.1 v.nomI, mags := [x.1, 0, 0] }

/-- Half a nominal cycle H (R179). -/
def ElEnv.half (v : ElEnv) : Nat := 4800 / v.b.fnom

/-- The run of confirming samples before this tick's: in the tick of a group switch the last sample that was not held is tested
against the new start condition (R205); `prev k` is the sample `k` + 1 ticks back. -/
def ElEnv.sampConf (v : ElEnv) (st : ElemState) (prev : Nat → F32 × BitVec 16) (pu : F32) (conf : Nat) : Nat :=
  if st.shown = v.grp || st.shown = 0 then conf else
  match (List.range 255).find? (fun k => reactS (prev k).2 != 1) with
  | some k => boolNat (reactS (prev k).2 == 0 && F.ge (F.abs (prev k).1) pu)
  | none => 0

/-- 50PS: two-of-two confirmation on samples, drop-off after H samples below (R179). -/
def kSamplePhase (v : ElEnv) (st : ElemState) : ElRes :=
  let pu := F.mul (v.r 3) v.nomI
  let dr := F.mul (v.r 4) pu
  let rs := mapI (fun p c =>
    let x := v.samp c 0
    let low := (List.range v.half).all (fun i => F.lt (F.abs (v.samp c i).1) dr)
    (F.abs x.1, reactS x.2,
     startStep (reactS x.2) (F.ge (F.abs x.1) pu && v.dirOk (some p)) low (at! st.strP p)
       (v.sampConf st (fun k => v.samp c (k + 1)) pu (at! st.conf p)) 2)) v.si.phs
  { st := st, strP := rs.map (·.2.2.1), str := rs.any (·.2.2.1), conf := rs.map (·.2.2.2), re := rs.map (·.2.1)
    meas := F.div (F.maxL (rs.map (·.1))) v.nomI, mags := rs.map (·.1) }

/-- Instantaneous residual i ticks back: the sum of the phases, or CH_N (R179, R188). -/
def ElEnv.resSamp (v : ElEnv) (s : SetEntry) (n : Bool) (i : Nat) : F32 × BitVec 16 :=
  if n then v.samp s.chN i
  else
    let a := v.samp s.chA i
    let b := v.samp s.chB i
    let c := v.samp s.chC i
    (F.add (F.add a.1 b.1) c.1, qAll [a.2, b.2, c.2])

/-- 50NS and 50GS. -/
def kSampleRes (v : ElEnv) (st : ElemState) : ElRes :=
  let useN := v.e.etype == 0x0106 || v.opt 0
  let pu := F.mul (v.r 3) v.nomI
  let dr := F.mul (v.r 4) pu
  let x := v.resSamp v.si useN 0
  let low := (List.range v.half).all (fun i => F.lt (F.abs (v.resSamp v.si useN i).1) dr)
  let st := { st with conf := setAt st.conf 0 (v.sampConf st (fun k => v.resSamp v.si useN (k + 1)) pu (at! st.conf 0)) }
  let r := single v st 2 (reactS x.2) (F.ge (F.abs x.1) pu) low
  { r with meas := F.div (F.abs x.1) v.nomI, mags := [F.abs x.1, 0, 0] }

/-- 46BC (R183). -/
def k46bc (v : ElEnv) (st : ElemState) : ElRes :=
  let x1 := v.seq v.e.setI 1
  let x2 := v.seq v.e.setI 2
  let m1 := F.cabs x1.1
  let low := F.lt m1 (F.mul (v.r 5) v.nomI)
  let q := F.div (F.cabs x2.1) m1
  let r := single v st 1 (react 1 (qComb x1.2 x2.2)) (!low && F.ge q (v.r 3)) (low || F.lt q (F.mul (v.r 4) (v.r 3)))
  { r with st := { st with low := low }, meas := if low then 0 else q }

/-! ### Directional elements (R184 to R189) -/

/-- c of R184. -/
def dirC (i u ej : Cx) : F32 :=
  F.div (F.cmul (F.cmul i (F.conj u)) ej).re (F.mul (F.cabs i) (F.cabs u))

/-- cos of an angle in degrees. -/
def cosD (x : F32) : F32 := F.cos (F.rad x)
/-- sin of an angle in degrees. -/
def sinD (x : F32) : F32 := F.sin (F.rad x)
/-- SW + 5°, limited to 90° (R184). -/
def sw5 (sw : F32) : F32 := F.min (F.add sw (F.ofNat 5)) (F.ofNat 90)

/-- Decision from c with its hysteresis (R184). -/
def dirDecide (sw c : F32) (ok : Bool) (prev : Nat) : Nat :=
  if !ok then 0
  else
    let cw := cosD sw
    let c5 := cosD (sw5 sw)
    if F.ge c cw then 1
    else if F.ge (F.neg cw) c then 2
    else if prev = 1 && !F.lt c c5 then 1
    else if prev = 2 && !F.lt (F.neg c5) c then 2
    else 0

/-- The end of memory polarisation after MEMT ticks (R185). -/
def memExpire (st : ElemState) : ElemState := { st with memOn := false, memSet := false, polLost := true }

/-- The polarising voltage and memory of 67P for one tick (R185). -/
def memStep (v : ElEnv) (st : ElemState) : ElemState :=
  let x := v.seq v.e.setV 1
  if qBad x.2 || v.fuse then { st with memOn := false, memSet := false, polLost := true }
  else if F.ge (F.cabs x.1) (F.mul (v.r 8) v.vnK) then
    let f := (v.sg.rd (v.gb + 0x110)).real
    let w := F.div (F.mul F.twoPi (F.sub f (F.ofNat v.b.fnom))) (F.ofNat 9600)
    { st with vMem := x.1, rRot := { re := F.cos w, im := F.sin w }, memN := 0, memOn := false, memSet := true
              polLost := false }
  else if st.memSet && decide (st.memN < v.n 9) then
    { st with vMem := F.cmul st.vMem st.rRot, memN := st.memN + 1, memOn := true, polLost := false }
  else memExpire st

/-- 67P (R185). -/
def k67P (v : ElEnv) (st : ElemState) : ElRes :=
  let x := v.seq v.e.setV 1
  let st := memStep v st
  let rca := v.r 5
  let ej : Cx := { re := cosD rca, im := sinD rca }
  let rot (p : Nat) : Cx := if p = 0 then st.vMem else if p = 1 then F.cmul (F.cmul F.opA F.opA) st.vMem else F.cmul F.opA st.vMem
  let is := v.si.phs.map (fun c => v.y 1 c)
  let dirs := mapI (fun p (i : Cx × BitVec 16) =>
    if st.polLost then (0, (0 : F32))
    else
      let c := dirC i.1 (rot p) ej
      if qQuest i.2 || qQuest x.2 then (at! st.dirP p, at! st.cDir p)
      else (dirDecide (v.r 6) c (F.ge (F.cabs i.1) (F.mul (v.r 7) v.nomI)) (at! st.dirP p), c)) is
  let dp := dirs.map (·.1)
  let gen := if dp.any (· == 1) then 1 else if dp.any (· == 2) then 2 else 0
  let pu := F.mul (v.r 3) v.nomI
  let nonDir := st.polLost && v.n 11 == 1
  let rs := mapI (fun p (i : Cx × BitVec 16) =>
    let m := F.cabs i.1
    (m, react 0 i.2, startStep (react 0 i.2) (F.ge m pu && (nonDir || at! dp p == v.n 10) && v.dirOk (some p))
      (F.lt m (F.mul (v.r 4) pu)) (at! st.strP p) (at! st.conf p) 1)) is
  { st := { st with dirP := dp, cDir := dirs.map (·.2) }
    kind := if st.polLost && v.n 11 == 0 then 2 else 0
    strP := rs.map (·.2.2.1), str := rs.any (·.2.2.1), conf := rs.map (·.2.2.2), re := rs.map (·.2.1), dir := gen
    meas := F.div (F.maxL (rs.map (·.1))) v.nomI, mags := rs.map (·.1) }

/-- 67N (R186). -/
def k67N (v : ElEnv) (st : ElemState) : ElRes :=
  let v0 := v.seq v.e.setV 0
  let pol := v.n 4
  let thr := F.mul (v.r 5) (v.vn false)
  let use0 := pol == 0 || (pol == 2 && F.ge (F.cabs v0.1) thr)
  let vp := if use0 then v0 else v.seq v.e.setV 2
  let io := if use0 then v.i30 else v.seq v.e.setI 2
  let u : Cx := { re := F.neg vp.1.re, im := F.neg vp.1.im }
  let q := qAll [vp.2, io.2, if pol == 2 then v0.2 else 0]
  let re := if v.fuse then 2 else react 1 q
  let m := F.cabs io.1
  let rca := v.r 8
  let c := dirC io.1 u { re := cosD rca, im := sinD rca }
  let d := if re = 0 then dirDecide (v.r 9) c (F.ge m (F.mul (v.r 6) v.nomI) && F.ge (F.cabs vp.1) thr) st.dir else st.dir
  let pu := F.mul (v.r 3) v.nomI
  let r := single v st 1 re (F.ge m pu && d == v.n 10) (F.lt m (F.mul (v.r 7) pu))
  { r with st := { st with cDir := [c, 0, 0] }, dir := d, meas := F.div m v.nomI, mags := [m, 0, 0] }

/-- U0 of R187: |3V0| / (3 × Vn). -/
def ElEnv.u0 (v : ElEnv) : F32 := F.div (F.cabs v.v30.1) (F.mul F.three (v.vn false))

/-- 67NW (R187). -/
def k67NW (v : ElEnv) (st : ElemState) : ElRes :=
  let a := v.v30
  let i := v.i30
  let re := if v.fuse then 2 else react 1 (qComb a.2 i.2)
  let dphi := v.r 7
  let s0 := F.cmul (F.cmul a.1 (F.conj i.1)) { re := cosD dphi, im := sinD dphi }
  let w := if v.n 3 = 0 then F.neg s0.re else s0.im
  let u := v.u0
  let lim := F.mul (v.r 4) v.sB
  let ok := F.ge u (v.r 5) && F.ge (F.cabs i.1) (F.mul (v.r 6) v.nomI)
  let d := if re ≠ 0 then st.dir else if ok && F.ge w lim then 1 else if ok && F.ge (F.neg w) lim then 2 else 0
  let wd := if v.n 9 = 1 then w else F.neg w
  let r := single v st 1 re (d == v.n 9)
    (F.lt wd (F.mul (F.mul (v.r 8) (v.r 4)) v.sB) || F.lt u (F.mul (v.r 8) (v.r 5)))
  { r with dir := d, meas := F.div w v.sB, meas2 := u }

/-- Close of a 67NT window: ρ from the sums, decision, Hold (R188). -/
def ntClose (v : ElEnv) (st : ElemState) : ElemState :=
  let p := F.mul st.wEv st.wEq
  let rho := if F.isZero p then 0 else F.div st.wN (F.sqrt p)
  { st with rho := rho, wst := 2, wHold := 0
            dir := if F.ge (F.neg (v.r 5)) rho then 1 else if F.ge rho (v.r 5) then 2 else 0 }

/-- Return of 67NT or FDIR to Idle. -/
def winIdle (st : ElemState) : ElemState :=
  { st with wst := 0, wn := 0, wq := 0, wN := 0, wEv := 0, wEq := 0, dir := 0, wHold := 0 }

/-- The sample of the present tick has been taken: a window takes each sample once. -/
def ElEnv.taken (v : ElEnv) (st : ElemState) : Bool := st.last == some v.id

/-- One sample into a 67NT window (R188). -/
def ntAdd (id : TickId) (v0 i0 : F32) (st : ElemState) : ElemState :=
  let q := F.add st.wq (F.div i0 (F.ofNat 9600))
  { st with wst := 1, last := some id, wn := st.wn + 1, wq := q, wN := F.add st.wN (F.mul v0 q), wEv := F.add st.wEv (F.mul v0 v0)
            wEq := F.add st.wEq (F.mul q q) }

/-- 67NT (R188, R202). -/
def k67NT (v : ElEnv) (st : ElemState) : ElRes :=
  let useN := v.opt 0
  let vs := v.resSamp v.sv useN 0
  let is := v.resSamp v.si useN 0
  let v0 := F.div vs.1 F.three
  let q := qComb vs.2 is.2
  let re := if v.fuse then 2 else react 0 q
  let uq := v.v30.2
  let u := v.u0
  let st1 :=
    if re = 2 then winIdle st
    else if qQuest q && st.wst != 2 then winIdle st
    else if st.wst = 0 then
      if !v.taken st && F.ge (F.abs v0) (F.mul (F.mul (v.r 3) F.sqrt2) (v.vn false)) then
        let s1 := ntAdd v.id v0 is.1 (winIdle st)
        if s1.wn ≥ v.c 4 then ntClose v s1 else s1
      else st
    else if st.wst = 1 then
      let s1 := if v.taken st then st else ntAdd v.id v0 is.1 st
      if s1.wn ≥ v.c 4 then ntClose v s1 else s1
    else
      if F.lt u (F.mul (v.r 7) (v.r 6)) || decide (st.wHold + 1 ≥ v.n 8) then winIdle st
      else { st with wHold := st.wHold + 1 }
  let on := st1.wst == 2 && st1.dir == v.n 9 && F.ge u (v.r 6) && qOk uq
  { st := st1, kind := re, single := true, str := on && v.dirOk none, dir := st1.dir, re := [re, re, re]
    meas := st1.rho, meas2 := u }

/-- Δx of R189, i ticks back. -/
def ElEnv.delta (v : ElEnv) (c i : Nat) : F32 := F.sub (v.samp c i).1 (v.samp c (i + v.pc)).1

/-- Replica current Δi_r of R189, i ticks back. -/
def ElEnv.replica (v : ElEnv) (c i : Nat) : F32 :=
  let d := v.delta c i
  let g := F.div (F.mul (F.sub d (v.delta c (i + 1))) (F.ofNat 9600)) (F.mul F.twoPi (F.ofNat v.b.fnom))
  F.add (F.mul (cosD (v.r 5)) d) (F.mul (sinD (v.r 5)) g)

/-- Close of an FDIR window (R189): the sums over its first NWIN samples, `wn` of which have come since the onset (a group switch
may shorten NWIN below that, R205). -/
def fdirClose (v : ElEnv) (st : ElemState) : ElemState :=
  let n := v.c 6
  let idxs := (List.range n).map (fun k => st.wn - 1 - k)
  let pairs := idxs.flatMap (fun i => (v.si.phs.zip v.sv.phs).map (fun c => (v.delta c.2 i, v.replica c.1 i)))
  let N := F.sum (pairs.map (fun p => F.mul p.1 p.2))
  let Ev := F.sum (pairs.map (fun p => F.mul p.1 p.1))
  let Ei := F.sum (pairs.map (fun p => F.mul p.2 p.2))
  let big := F.ge (F.sqrt (F.div Ev (F.ofNat (3 * n)))) (F.mul (F.mul (v.r 4) F.sqrt2) v.vnK)
  let rho := F.div N (F.sqrt (F.mul Ev Ei))
  { st with wst := 2, wHold := 0, rearm := 0, rho := if big then rho else 0
            dir := if !big then 0 else if F.ge (F.neg (v.r 7)) rho then 1 else if F.ge rho (v.r 7) then 2 else 0 }

/-- Quality of the samples that Δ and the replica use up to `n` ticks back (R189, R201). -/
def ElEnv.deltaQ (v : ElEnv) (cs : List Nat) (n : Nat) : BitVec 16 :=
  qAll (cs.flatMap (fun c => (List.range (n + 1)).flatMap (fun i => [(v.samp c i).2, (v.samp c (i + v.pc)).2])))

/-- FDIR (R189, R202). States: 0 armed, 1 window, 2 decision held or re-arming. A window begins with the onset sample, one tick
back, whose replica current reaches a further tick back. -/
def kFDIR (v : ElEnv) (st : ElemState) : ElRes :=
  let cs := v.si.phs ++ v.sv.phs
  let q := qAll (cs.map (fun c => (v.samp c 0).2))
  let wq := v.deltaQ cs (if st.wst = 0 then 2 else 1)
  let re := if v.fuse then 2 else react 0 q
  let lim := F.mul (F.mul (v.r 3) F.sqrt2) v.nomI
  let ovr (i : Nat) := v.si.phs.map (fun c => F.ge (F.abs (v.delta c i)) lim)
  let st1 :=
    if re = 2 then { winIdle st with rearm := 0 }
    else if !qGood wq && st.wst != 2 then winIdle st
    else if st.wst = 0 then
      if !v.taken st && ((ovr 0).zip (ovr 1)).any (fun p => p.1 && p.2) then
        let s1 := { st with wst := 1, wn := 2, last := some v.id }
        if s1.wn ≥ v.c 6 then fdirClose v s1 else s1
      else st
    else if st.wst = 1 then
      let s1 := if v.taken st then st else { st with wn := st.wn + 1, last := some v.id }
      if s1.wn ≥ v.c 6 then fdirClose v s1 else s1
    else
      let quiet := !(ovr 0).any id
      let rn := if v.taken st then st.rearm else if quiet then st.rearm + 1 else 0
      let s1 := { st with wHold := st.wHold + 1, rearm := rn, last := some v.id
                          dir := if st.wHold + 1 ≥ v.n 8 then 0 else st.dir }
      if s1.wHold ≥ v.n 8 && decide (rn ≥ v.pc) then { winIdle s1 with rearm := 0 } else s1
  let on := st1.wst == 2 && st1.dir == v.n 9 && st1.dir != 0 && v.dirOk none
  let (t, h, _) := timerStep 0 0 st.str on false st.op st.tmr st.held
  { st := { st1 with tmr := t, held := h }, kind := re, single := true, str := on, dir := st1.dir, re := [re, re, re]
    ownOp := some (on, [false, false, false]), meas := st1.rho }

/-! ### Thermal overload (R190, R191) -/

/-- Evaluation of 49 from the mean of I_eq² over 96 ticks (R190). -/
def thermalEval (v : ElEnv) (cold : Bool) (mean : F32) (st : ElemState) : ElemState :=
  let ib := F.mul (F.mul (v.r 4) (v.r 3)) v.nomI
  let u := F.div mean (F.mul ib ib)
  let tau := F.mul (if cold then v.r 6 else v.r 5) (F.ofNat 60)
  let alpha := F.sub F.one (F.exp (F.neg (F.div (F.ofRat 1 100) tau)))
  let d := F.mul (F.sub u st.theta) alpha
  let y := F.sub d st.cmp
  let s := F.add st.theta y
  let cmp := F.sub (F.sub s st.theta) y
  let th := F.max s 0
  let trip := v.r 7
  let op := if st.op then !F.lt th (F.mul (v.r 9) trip) else F.ge th trip
  let at1 := F.mul (v.r 8) trip
  let al := if st.alarm then !F.lt th (F.mul (F.mul (v.r 9) (v.r 8)) trip) else F.ge th at1
  let ttt := if F.gt u trip then F.mul tau (F.ln (F.div (F.sub u th) (F.sub u trip))) else F.pinf
  { st with theta := th, cmp := cmp, op := op, alarm := al, ttt := ttt }

/-- The 49 kernel: keeps I_eq² of the last ticks and evaluates in ticks whose k is a multiple of 96. -/
def k49 (v : ElEnv) (st : ElemState) : ElRes :=
  let ms := v.si.phs.map (fun c => if v.opt 1 then v.re (0xE0 + c) else let x := v.y 1 c; (F.cabs x.1, x.2))
  let q := qAll (ms.map (·.2))
  let ieq := F.maxL (ms.map (·.1))
  let bad := qBad q
  let st1 :=
    if v.id.k % 96 = 0 && !bad then
      let n := st.ieq.length
      let mean := if n = 0 then F.mul ieq ieq else F.div (F.sum st.ieq.reverse) (F.ofNat n)
      { thermalEval v (F.lt ieq (F.mul (F.mul (F.ofRat 5 100) (v.r 3)) v.nomI)) mean st with last := some v.id }
    else st
  let old := if v.id.k % 96 = 0 then [] else st.ieq
  let (t, h, _) := timerStep v.T v.TR st.str st1.op false st.op st.tmr st.held
  let st2 := { st1 with ieq := if bad then old else (F.mul ieq ieq :: old).take 96, tmr := t, held := h }
  { st := st2, kind := 0, single := true, str := st2.op, ownOp := some (st2.op, [false, false, false])
    meas := F.div ieq v.nomI, qInh := bad }

/-! ### Voltage, frequency and power (R192 to R196) -/

/-- Voltages of 27 and 59 by MEAS (R192). -/
def ElEnv.volts (v : ElEnv) : List (F32 × BitVec 16) :=
  let ys := v.sv.phs.map (fun c => v.y 1 c)
  if v.n 3 = 1 && v.sv.kind == 2 then
    let d (i j : Nat) := (F.cabs (F.csub (at! ys i).1 (at! ys j).1), qComb (at! ys i).2 (at! ys j).2)
    [d 0 1, d 1 2, d 2 0]
  else ys.map (fun y => (F.cabs y.1, y.2))

/-- 27 and 59 (R192). -/
def kVolt (v : ElEnv) (st : ElemState) : ElRes :=
  let under := v.e.etype == 0x0151
  let vs := v.volts
  let vn := v.vn (v.n 3 == 1)
  let pu := F.mul (v.r 4) vn
  let vb := F.mul (v.r 6) vn
  let fu := under && v.fuse
  let rs := mapI (fun p (x : F32 × BitVec 16) =>
    let re := if fu then 2 else react (if under then 1 else 0) x.2
    let m := x.1
    let (start, drop) :=
      if under then (F.ge pu m && F.ge m vb, F.lt (F.mul (F.mul (v.r 4) (v.r 5)) vn) m || F.lt m vb)
      else (F.ge m pu, F.lt m (F.mul (v.r 5) pu))
    (m, re, startStep re (start && v.dirOk (some p)) drop (at! st.strP p) (at! st.conf p) 1)) vs
  let sp := rs.map (·.2.2.1)
  let ratios := rs.map (fun x => F.div x.1 vn)
  { st := st, strP := sp, str := decide ((sp.filter id).length ≥ Nat.max (v.c 7) 1), conf := rs.map (·.2.2.2)
    re := rs.map (·.2.1), mags := rs.map (·.1)
    meas := if under then ratios.foldl F.min (ratios.headD 0) else F.maxL ratios }

/-- 59N (R193). -/
def k59N (v : ElEnv) (st : ElemState) : ElRes :=
  let x := if v.opt 0 then v.seq v.e.setV 3 else v.seq v.e.setV 0
  let den := if v.opt 0 then F.mul F.three (v.vn false) else v.vn false
  let u := F.div (F.cabs x.1) den
  let re := if v.fuse then 2 else react 0 x.2
  let r := single v st 1 re (F.ge u (v.r 3)) (F.lt u (F.mul (v.r 4) (v.r 3)))
  { r with meas := u }

/-- Reaction of 81 and 81R (R201): bit 7 blocks, bits 3 or 9 hold. -/
def reactF (q : BitVec 16) : Nat :=
  if qBad q then 2 else if qQuest q then (if q.getLsbD 7 then 2 else if q.getLsbD 3 || q.getLsbD 9 then 1 else 0) else 0

/-- 81 (R194). -/
def k81 (v : ElEnv) (st : ElemState) : ElRes :=
  let f := v.re 0x110
  let re := reactF f.2
  let r := if v.n 3 = 0 then single v st 1 re (F.ge (v.r 4) f.1) (F.lt (F.add (v.r 4) (v.r 5)) f.1)
    else single v st 1 re (F.ge f.1 (v.r 4)) (F.lt f.1 (F.sub (v.r 4) (v.r 5)))
  { r with meas := f.1 }

/-- 81R (R195). -/
def k81R (v : ElEnv) (st : ElemState) : ElRes :=
  let d := v.re 0x111
  let m := if v.n 3 = 0 then F.neg d.1 else if v.n 3 = 1 then d.1 else F.abs d.1
  let r := single v st 1 (reactF d.2) (F.ge m (v.r 4)) (F.lt m (F.mul (v.r 5) (v.r 4)))
  { r with meas := m }

/-- 32 (R196). -/
def k32 (v : ElEnv) (st : ElemState) : ElRes :=
  let p := v.re 0x11B
  let q := v.re 0x11F
  let x1 := v.seq v.e.setI 1
  let pa := F.add (F.mul p.1 (cosD (v.r 3))) (F.mul q.1 (sinD (v.r 3)))
  let low := F.lt (F.cabs x1.1) (F.mul (v.r 7) v.nomI)
  let re := if v.fuse then 2 else react 1 (qAll [p.2, q.2, x1.2])
  let sb := v.sB
  let r := if v.n 4 = 0 then
      single v st 1 re (!low && F.ge pa (F.mul (v.r 5) sb)) (low || F.lt pa (F.mul (F.sub (v.r 5) (v.r 6)) sb))
    else
      single v st 1 re (!low && F.ge (F.mul (v.r 5) sb) pa) (low || F.lt (F.mul (F.add (v.r 5) (v.r 6)) sb) pa)
  { r with meas := F.div pa sb }

/-! ### Supervising and adapting elements (R197 to R200) -/

/-- INR (R197): op.p follows str.p; T delays op, which then stays to the end of the start (R173), and TR holds it for TR ticks
after the last phase drops off, unless every phase whose start it follows is blocked: an invalid input clears op for its own phase, the
others are used normally (R201, R541). -/
def kINR (v : ElEnv) (st : ElemState) : ElRes :=
  let rs := mapI (fun p c =>
    let y1 := v.y 1 c
    let y2 := v.y 2 c
    let m := F.cabs y1.1
    let inr := F.ge m (F.mul (v.r 5) v.nomI) && F.lt m (F.mul (v.r 6) v.nomI)
    let h := F.div (F.cabs y2.1) m
    let re := react 1 (qComb y1.2 y2.2)
    (if inr then h else 0, re,
     startStep re (inr && F.ge h (v.r 3) && v.dirOk (some p)) (!inr || F.lt h (F.mul (v.r 4) (v.r 3))) (at! st.strP p) (at! st.conf p) 1)) v.si.phs
  let sp := rs.map (·.2.2.1)
  let str := sp.any id
  let held := (rs.zip sp).any (fun x => x.1.2.1 == 1 && x.2)
  let ovr := if str then sp else if st.str then st.strP else st.ovr
  let bad := (rs.zip ovr).all (fun x => x.1.2.1 == 2 || !x.2)
  let (tm, h, run) := timerStep v.T v.TR st.str str held st.run st.tmr st.held
  let hold := if run then v.TR else st.opHold - 1
  let op := !bad && (run || decide (0 < st.opHold)) && v.n 7 == 1
  { st := { st with opHold := if bad then 0 else hold, tmr := tm, held := h, run := run, ovr := ovr }, strP := sp, str := str
    conf := rs.map (·.2.2.2), re := rs.map (·.2.1)
    meas := F.maxL (rs.map (·.1)), ownOp := some (op, sp) }

/-- CLP moves to a state. -/
def clpGo (s : Nat) (st : ElemState) : ElemState := { st with clpSt := s, clpTmr := 0, clpEnd := 0 }

/-- CLP transitions (R198): 0 warm, 1 cold, 2 active. -/
def clpStep (v : ElEnv) (isOpen low : Bool) (st : ElemState) : ElemState :=
  if st.clpSt = 0 then
    let t := if isOpen then st.clpTmr + 1 else 0
    if isOpen && decide (t ≥ v.n 5) then clpGo 1 st else { st with clpTmr := t }
  else if st.clpSt = 1 then (if isOpen then st else clpGo 2 st)
  else
    let t := st.clpTmr + 1
    let e := if low then st.clpEnd + 1 else 0
    if decide (t ≥ v.n 6) || decide (e ≥ v.n 8) then clpGo 0 st else { st with clpTmr := t, clpEnd := e }

/-- Position point of a group's slot (R229). -/
def posPt (g : Nat) : Nat := (if g < 48 then bayBase g + 0x1000 else auxBase g) + 1

/-- CLP (R198). -/
def kCLP (v : ElEnv) (st : ElemState) : ElRes :=
  let ms := v.si.phs.map (fun c => let y := v.y 1 c; (F.cabs y.1, y.2))
  let below (k : F32) := ms.all (fun m => F.lt m.1 (F.mul k v.nomI))
  let pos := v.pt (posPt v.e.group)
  let isOpen := if v.n 3 = 1 then pos.value.toNat == 1 && qOk pos.qual else below (v.r 4)
  let bad := ms.any (fun m => qBad m.2) || (v.n 3 == 1 && qBad pos.qual)
  let st1 := if bad then st else clpStep v isOpen (below (v.r 7)) st
  { st := st1, single := true, str := false, qInh := bad
    ownOp := some (st1.clpSt == 2, [false, false, false]), meas := F.div (F.maxL (ms.map (·.1))) v.nomI }

/-- Residual harmonic h and rms of HIZ's input (R199). -/
def ElEnv.resH (v : ElEnv) (h : Nat) : Cx × BitVec 16 :=
  if v.opt 0 then v.y h v.si.chN
  else
    let ys := v.si.phs.map (fun c => v.y h c)
    (F.cadd (F.cadd (at! ys 0).1 (at! ys 1).1) (at! ys 2).1, qAll (ys.map (·.2)))

/-- True rms of the residual: CH_N's, or the phases' rms results summed as phasors in the direction of Y_1 (R199, log
entry 17). -/
def ElEnv.resRms (v : ElEnv) : F32 :=
  if v.opt 0 then (v.re (0xE0 + v.si.chN)).1
  else
    let xs := v.si.phs.map (fun c =>
      let y := (v.y 1 c).1
      let m := F.cabs y
      if F.isZero m then ({} : Cx) else F.cscale (F.div (v.re (0xE0 + c)).1 m) y)
    F.cabs (F.cadd (F.cadd (at! xs 0) (at! xs 1)) (at! xs 2))

/-- Cycles that HIZ keeps: the longest NW, so that a switch to a longer window counts what lies in it (R199, R205). -/
def hizWindow : Nat := 600

/-- One cycle of HIZ (R199): the first after power-up or an activation starts the averages and is not active. -/
def hizEval (v : ElEnv) (i3 e : F32) (st : ElemState) : ElemState :=
  if !st.hizInit then
    { st with hizInit := true, i3 := i3, e := e, a3 := i3, aE := e, act := (false :: st.act).take hizWindow }
  else
    let d := F.abs (F.sub i3 st.i3)
    let on := F.ge d (F.mul (v.r 3) (F.max st.a3 (F.mul (v.r 5) v.nomI))) ||
      F.ge e (F.mul (v.r 4) (F.max st.aE (F.mul (v.r 6) (F.mul v.nomI v.nomI))))
    let beta := F.sub F.one (F.exp (F.neg (F.div (F.ofNat v.pc) (F.mul (F.ofNat 9600) (v.r 7)))))
    let upd (a x : F32) : F32 := if st.str then a else F.add a (F.mul (F.sub x a) beta)
    { st with i3 := i3, e := e, a3 := upd st.a3 i3, aE := upd st.aE e, act := (on :: st.act).take hizWindow }

/-- HIZ (R199, R202). -/
def kHIZ (v : ElEnv) (st : ElemState) : ElRes :=
  let hs := (List.range 13).map (fun h => v.resH (h + 1))
  let q := qAll (hs.map (·.2))
  let rms := v.resRms
  let e := F.max (F.sub (F.mul rms rms) (F.sum (hs.map (fun x => F.cabs2 x.1)))) 0
  let i3 := F.cabs (at! hs 2).1
  let bad := qBad q
  let st1 :=
    if bad then { st with act := [] }
    else if v.id.k % v.pc = 0 && !qQuest q then { hizEval v i3 e st with last := some v.id }
    else st
  let cnt := ((st1.act.take (v.c 8)).filter id).length
  let r := single v { st1 with alarm := decide (cnt ≥ v.c 9) } 1 (if bad then 2 else 0) (decide (cnt ≥ v.c 10)) (!decide (cnt ≥ v.c 10))
  { r with meas := st1.i3, qInh := !qGood q }

/-- Declare fuse failure with its causes (R200). -/
def fuseDeclare (causes : Nat) (st : ElemState) : ElemState := { st with op := true, cause := causes, recT := 0 }

/-- Clear a latched fuse failure (R200). -/
def fuseClear (st : ElemState) : ElemState := { st with op := false, cause := 0, recT := 0, fuseT := 0 }

/-- The causes of R200 in this tick as a mask of point 0x11. A questionable current holds the current conditions as they were
last decided (R201); a change of source holds the three-phase cause for Pc ticks (R202). -/
def fuseCauses (v : ElEnv) (st : ElemState) : Nat × ElemState :=
  let x2v := v.seq v.e.setV 2
  let x2i := v.seq v.e.setI 2
  let x1i := v.seq v.e.setI 1
  let iq := qComb x2i.2 x1i.2
  let vs := v.sv.phs.map (fun c => let y := v.y 1 c; (F.cabs y.1, y.2))
  let m1 := F.cabs x1i.1
  let hist := (m1 :: st.magH).take (v.pc + 1)
  let curOk := if qQuest iq then st.curOk else F.lt (F.cabs x2i.1) (F.mul (v.r 4) v.nomI)
  let unb := !qBad iq && F.ge (F.cabs x2v.1) (F.mul (v.r 3) v.vnK) && curOk
  let low := vs.all (fun x => F.lt x.1 (F.mul (v.r 5) v.vnK))
  let first := low && !st.vLow
  let steady := match hist[v.pc]? with
    | some m0 => F.ge m1 (F.mul (v.r 6) v.nomI) && F.lt (F.abs (F.sub m1 m0)) (F.mul (v.r 7) v.nomI)
    | none => false
  let held := decide (0 < st.srcHold)
  let three := if qBad iq then false
    else if held then st.three
    else if first then (if qQuest iq then st.threeOk else steady)
    else low && st.threeOk
  let inv := vs.any (fun x => qBad x.2)
  let cb := (v.e.blk[0]?).any (fun i => i != 0xFFFFFFFF && v.isTrue i)
  (boolNat unb + 2 * boolNat three + 4 * boolNat inv + 8 * boolNat cb,
   { st with magH := hist, vLow := if held then st.vLow else low, threeOk := if held then st.threeOk else three, curOk := curOk
             three := three })

/-- 60 (R200). -/
def k60 (v : ElEnv) (st : ElemState) : ElRes :=
  let (cs, st1) := fuseCauses v st
  let x2v := v.seq v.e.setV 2
  let good := cs == 0 && v.sv.phs.all (fun c => F.ge (F.cabs (v.y 1 c).1) (F.mul (v.r 8) v.vnK)) &&
    F.lt (F.cabs x2v.1) (F.mul (v.r 3) v.vnK)
  let n := if cs = 0 then 0 else st.fuseT + 1
  let st2 := { st1 with fuseT := n, tmr := n - 1 }
  let st3 :=
    if st.op then
      let rt := if good then st.recT + 1 else 0
      if good && decide (rt ≥ Nat.max (v.n 9) 1) then fuseClear st2 else { st2 with recT := rt }
    else if cs ≠ 0 && decide (st2.tmr ≥ v.T) then fuseDeclare cs st2 else st2
  let iq := (v.seq v.e.setI 1).2
  { st := st3, single := true, str := cs != 0, ownOp := some (st3.op, [false, false, false]), qInh := !qGood iq }

/-- The kernel of an element type (R165). -/
def kernel (v : ElEnv) (st : ElemState) : ElRes :=
  match v.e.etype with
  | 0x0101 => kPhaseOc v st
  | 0x0111 => kPhaseOc v st
  | 0x0102 => kSamplePhase v st
  | 0x0103 => kResOc v st
  | 0x0105 => kResOc v st
  | 0x0112 => kResOc v st
  | 0x0113 => kResOc v st
  | 0x0131 => kResOc v st
  | 0x0104 => kSampleRes v st
  | 0x0106 => kSampleRes v st
  | 0x0121 => k67P v st
  | 0x0122 => k67N v st
  | 0x0123 => k67NW v st
  | 0x0124 => k67NT v st
  | 0x0125 => kFDIR v st
  | 0x0132 => k46bc v st
  | 0x0141 => k49 v st
  | 0x0151 => kVolt v st
  | 0x0152 => kVolt v st
  | 0x0153 => k59N v st
  | 0x0161 => k81 v st
  | 0x0162 => k81R v st
  | 0x0171 => k32 v st
  | 0x0181 => kINR v st
  | 0x0182 => kCLP v st
  | 0x0191 => kHIZ v st
  | _ => k60 v st

/-- Types that react phase by phase (R541). -/
def perPhase (t : Nat) : Bool := [0x0101, 0x0102, 0x0111, 0x0121, 0x0151, 0x0152, 0x0181].contains t

/-- Types that hold for Pc ticks after a channel changes source (R202); the 60 element holds its three-phase cause only. -/
def holdsSource (t : Nat) : Bool := [0x0124, 0x0125, 0x0191].contains t

/-- An inverse-time stage in force: CURVE set (R181, R211). -/
def ElEnv.curve (v : ElEnv) : Bool := v.opt 2 && [0x0111, 0x0112, 0x0113, 0x0131].contains v.e.etype

/-- The curve settings in force (R211). -/
def ElEnv.curveSet (v : ElEnv) : CurveSet :=
  { tmin := v.n 1, trd := v.n 2, curve := v.n 5, tms := v.r 6, reset := v.n 7, mmax := v.r 8
    pua := F.mul (v.r 3) v.nomI }

/-- What entering off clears (R177): start, operate, timer, directional and window states (the active cycles of HIZ, the cause and
the current history of 60, a cold-load activation among them); θ of 49 and the averages of HIZ stay. -/
def elemOff (st : ElemState) : ElemState :=
  { st with str := false, strP := [false, false, false], op := false, opP := [false, false, false], blk := false
            qInh := false, dir := 0, dirP := [0, 0, 0], cDir := [0, 0, 0], tmr := 0, held := 0, conf := [0, 0, 0]
            memOn := false, memSet := false, memN := 0, polLost := false, wst := 0, wn := 0, wq := 0, wN := 0, wEv := 0
            wEq := 0, wHold := 0, rearm := 0, opHold := 0, run := false, fuseT := 0, recT := 0, cause := 0, magH := [], vLow := false
            threeOk := false, three := false, curOk := false, act := [], ieq := [], clpSt := 0, clpTmr := 0, clpEnd := 0 }

/-- Outputs of a blocked instance (R174): str, op, per-phase points and tmr read 0. -/
def elemBlock (blk qInh : Bool) (st : ElemState) : ElemState :=
  { st with str := false, strP := [false, false, false], op := false, opP := [false, false, false], blk := blk
            qInh := qInh, tmr := 0, held := 0, conf := [0, 0, 0], opHold := 0, run := false, fuseT := 0, cause := 0, recT := 0 }

/-- The Flange step of an instance (R214 to R220). -/
def fluStep (v : ElEnv) (strs : List Bool) (re : List Nat) (mags : List F32) (f : FluSlot) : FluSlot :=
  let n := if v.e.etype = 0x0111 then 3 else 1
  (List.range n).foldl (fun (f : FluSlot) p =>
    let bl := at! re p == 2
    f.setPh p (fluPhase v.b.curves v.curveSet (at! strs p && !bl) (at! re p == 1) (if bl then 0 else at! mags p) (f.ph p))) f

/-- An instance's result: its next state and slot; `keep` that it holds. -/
structure ElNext where
  st    : ElemState := {}
  flu   : FluSlot := {}
  keep  : Bool := false
  deriving Inhabited

/-- Take a kernel's evaluation to the instance's next state (R173, R215, R541). -/
def elemFinish (v : ElEnv) (r : ElRes) (old : ElemState) (f : FluSlot) : ElNext :=
  let anyHeld := r.re.any (· == 1)
  let anyBlk := r.re.any (· == 2)
  let heldStarted := (r.re.zip r.strP).any (fun x => x.1 == 1 && x.2)
  let base := { r.st with str := r.str, strP := r.strP, conf := r.conf, meas := r.meas, meas2 := r.meas2, dir := r.dir
                          blk := false, qInh := r.qInh || anyHeld || anyBlk }
  if v.curve then
    let strs := if v.e.etype = 0x0111 then r.strP else [r.str, false, false]
    let f' := fluStep v strs r.re r.mags f
    let ops := (List.range 3).map (fun p => at! strs p && f'.op p)
    let t := if !r.str then 0 else if heldStarted then old.tmr else if old.str then old.tmr + 1 else 0
    { st := { base with tmr := t, held := 0, op := ops.any id, opP := ops, ttt := fluTtop v.b.curves v.curveSet strs r.mags f' }
      flu := f' }
  else
    match r.ownOp with
    | some (o, op) => { st := { base with op := o, opP := op }, flu := f }
    | none =>
      let (t, h, o) := timerStep v.T v.TR old.str r.str heldStarted old.op old.tmr old.held
      let opP := mapI (fun p s => if at! r.re p == 1 then at! old.opP p else s && o) r.strP
      { st := { base with tmr := t, held := h, op := o, opP := opP }, flu := f }

/-- A curve's slot while its instance is blocked (R220): the reset characteristic applies with m = 0. -/
def blockFlu (v : ElEnv) (f : FluSlot) : FluSlot :=
  if v.curve then fluStep v [false, false, false] [2, 2, 2] [0, 0, 0] f else f

/-- A blocked instance (R174, R201, R220): its measurements, directions and long-term states go on as its kernel finds them,
its outputs read 0. `blk` that a block point blocks it, `qInh` that an input which is not good does so too. A cycle that HIZ
evaluates while a block point blocks it updates the averages and is not active (R199). -/
def elemBlocked (v : ElEnv) (blk qInh : Bool) (r : ElRes) (old : ElemState) (f : FluSlot) : ElNext :=
  let act := if blk && v.e.etype == 0x0191 && r.st.last != old.last then (false :: old.act).take hizWindow else r.st.act
  let st := { r.st with act := act, meas := r.meas, meas2 := r.meas2, dir := r.dir, ttt := if v.curve then F.pinf else r.st.ttt }
  { st := elemBlock blk qInh st, flu := blockFlu v f }

/-- An input of the kernel is not good and holds or blocks the instance or a phase (R201). -/
def ElRes.inhibits (r : ElRes) : Bool := r.kind != 0 || r.re.any (· != 0) || r.qInh

/-- The positions whose change of source the instance waits for (R202). -/
def ElEnv.sources (v : ElEnv) : List Nat :=
  let res (s : SetEntry) : List Nat := if v.opt 0 && s.chN != 0xFF then s.phs ++ [s.chN] else s.phs
  if v.e.etype = 0x0124 then res v.si ++ res v.sv
  else if v.e.etype = 0x0125 || v.e.etype = 0x01A1 then v.si.phs ++ v.sv.phs
  else if v.e.etype = 0x0191 then res v.si
  else []

/-- One evaluation of an instance (R171 to R177, R201, R202, R223). `v.mode` 5 is off. A change of source is seen off or on, and a
sample held in the tick of a group switch leaves the sample before it judged by the new settings (R205). -/
def elemEval (v : ElEnv) (st0 : ElemState) (f0 : FluSlot) : ElNext :=
  let f1 := if !v.curve then { f0 with acc := [0, 0, 0], ctr := [0, 0, 0], st := [0, 0, 0] } else f0
  let st := { st0 with grp := v.grp, mode := v.mode }
  let now := v.srcNow v.sources
  let changed := decide (st.srcBits.length = now.length) && decide (st.srcBits ≠ now)
  let sh := if changed then v.pc else st.srcHold - 1
  let st := { st with srcBits := now, srcHold := sh }
  if v.mode = 5 then { st := elemOff { st with ttt := if v.curve then F.pinf else st.ttt }, flu := {} }
  else
    let holds := holdsSource v.e.etype && decide (0 < sh)
    let blks := if v.e.etype = 0x01A1 then v.e.blk.drop 1 else v.e.blk
    let r := if holds then { st := st, qInh := true, meas := st.meas, meas2 := st.meas2, dir := st.dir } else kernel v st
    if blks.any (fun i => i != 0xFFFFFFFF && v.isTrue i) then elemBlocked v true r.inhibits r st f1
    else if holds || r.kind = 1 then { st := { st with qInh := true, conf := r.st.conf }, flu := f1, keep := true }
    else if r.kind = 2 || (perPhase v.e.etype && r.re.all (· == 2) && v.e.etype != 0x0181) then elemBlocked v false true r st f1
    else elemFinish v r st f1

/-- The element-specific points of an instance, by offset with their qualities: as its state gives them (R183 to R200, R210). -/
def elemExtra (v : ElEnv) (st : ElemState) (f : FluSlot) : List (Nat × BitVec 64 × BitVec 16) :=
  if v.curve then
    (List.range 3).map (fun p => (0x10 + p, vReal (F.ofRat ((at! f.acc p : Nat) : Int) fluFS), 0#16)) ++ [(0x13, vReal st.ttt, 0#16)] ++
    (List.range 3).map (fun p => (0x14 + p, vEnum (at! f.st p : Nat), 0#16)) ++ [(0x17, vNat v.idx, 0#16)]
  else
    match v.e.etype with
    | 0x0121 =>
      mapI (fun p (d : Nat) => (0x10 + p, vEnum (d : Nat), 0#16)) st.dirP ++ [(0x13, vBool st.memOn, 0#16)] ++
        mapI (fun p (c : F32) => (0x14 + p, vReal c, 0#16)) st.cDir
    | 0x0122 => [(0x10, vReal (at! st.cDir 0), 0)]
    | 0x0132 => [(0x10, vReal (if st.low then 0 else st.meas), if st.low then 1 else 0)]
    | 0x0124 => [(0x10, vReal st.rho, 0), (0x11, vEnum st.wst, 0)]
    | 0x0125 => [(0x10, vReal st.rho, 0), (0x11, vEnum st.wst, 0)]
    | 0x0141 => [(0x10, vReal st.theta, 0), (0x11, vBool st.alarm, 0), (0x12, vReal st.ttt, 0)]
    | 0x0182 => [(0x10, vBool (st.clpSt == 1), 0), (0x11, vEnum st.clpSt, 0)]
    | 0x0191 =>
      let cnt := ((st.act.take (v.c 8)).filter id).length
      [(0x10, vBool (decide (cnt ≥ v.c 9)), 0), (0x11, vNat cnt, 0), (0x12, vReal st.i3, 0), (0x13, vReal st.e, 0)]
    | 0x01A1 => [(0x10, vBool (st.op && st.cause.testBit 1), 0), (0x11, vNat st.cause, 0)]
    | _ => []

/-- Output quality by mode (R177). -/
def modeQ (m : Nat) : BitVec 16 := if m = 3 ∨ m = 4 then 0x800 else if m = 5 then 1 else 0

/-- TYPE of a stored setting word (R168): ticks unsigned, an enumeration or a count so, else binary32. The engine writes the word
as it stands. -/
def elemSettings (v : ElEnv) : List PtWrite :=
  mapI (fun i w => ({ idx := v.e.base + 0x40 + i, value := BitVec.setWidth 64 w } : PtWrite)) v.rc

/-- The points an instance writes in a tick (R170, R205): a held one its group, mode and q_inh only. -/
def elemWrites (v : ElEnv) (n : ElNext) (old : ElemState) : List PtWrite :=
  let q := modeQ v.mode
  let b := v.e.base
  let st := n.st
  let pt (o : Nat) (x : Bool) := wB (b + o) x q
  [wE (b + 0xE) v.grp 0, wE (b + 0xF) v.mode 0] ++ (if old.shown = v.grp && !old.setsDue then [] else elemSettings v) ++
  (if n.keep then [pt 0xA true] else
   [pt 0 st.str, pt 1 (at! st.strP 0), pt 2 (at! st.strP 1), pt 3 (at! st.strP 2), pt 4 st.blk, pt 5 st.op,
    pt 6 (at! st.opP 0), pt 7 (at! st.opP 1), pt 8 (at! st.opP 2), wE (b + 9) st.dir q, pt 0xA st.qInh,
    wN (b + 0xB) st.tmr q, wR (b + 0xC) st.meas q, wR (b + 0xD) st.meas2 q] ++
   (elemExtra v st n.flu).map (fun x => { idx := b + x.1, value := x.2.1, qual := if x.2.2 = 0 then q else qComb x.2.2 q }))

/-- Environment of instance `i` under group `g`. -/
def elEnvAt (b : Block) (id : TickId) (sg : Sig) (pres : List (List (F32 × BitVec 16))) (g i : Nat) (e : ElemEntry) : ElEnv :=
  let rc := at! e.recs (g - 1)
  let m := if at! rc 0 = 0 then 5 else sg.mode e.group
  { b := b, id := id, sg := sg, e := e, ge := at! b.groups e.group, rc := rc, grp := g, mode := m, pres := pres, idx := i }

/-- The group that a CLP instance of phasor group `g` imposes in this tick: its CLPGRP from the tick in which it becomes active to
the tick in which it returns to warm (R198, R206), whatever the schedule's order; `els` are the states before the tick. -/
def clpGroup (b : Block) (id : TickId) (sg : Sig) (pres : List (List (F32 × BitVec 16))) (els : List ElemState) (flus : List FluSlot)
    (g : Nat) : Option Nat :=
  (b.elems.zipIdx.find? (fun x => x.1.etype == 0x0182 && x.1.group == g)).bind (fun x =>
    let v := elEnvAt b id sg pres sg.grp x.2 x.1
    if (at! els x.2).clpSt = 2 ∨ (elemEval v (at! els x.2) (at! flus x.2)).st.clpSt = 2 then some (v.c 9) else none)

/-- Environment of instance `i` under the group in force (R198, R204, R177). -/
def elEnv (b : Block) (id : TickId) (sg : Sig) (pres : List (List (F32 × BitVec 16))) (clp : Nat → Option Nat) (i : Nat) (e : ElemEntry) : ElEnv :=
  elEnvAt b id sg pres (if e.opts.testBit 3 then (clp e.group).getD sg.grp else sg.grp) i e

/-- Instance number of a schedule INSTANCE word: group × 64 + position (R55). -/
def schedElem (b : Block) (inst : Nat) : Option (Nat × ElemEntry) :=
  (b.elems.zipIdx.find? (fun x => x.1.group == inst / 64 && x.1.pos == inst % 64)).map (fun x => (x.2, x.1))

/-- What a unit's pass accumulates: its own view of the space, states, slots and writes. -/
structure UnitRun where
  sg    : Sig
  els   : List ElemState
  flus  : List FluSlot
  ws    : List PtWrite

/-- Evaluate one instance within its unit's pass. -/
def runElem (b : Block) (id : TickId) (pres : List (List (F32 × BitVec 16))) (clp : Nat → Option Nat) (u : UnitRun) (i : Nat)
    (e : ElemEntry) : UnitRun :=
  let v := elEnv b id u.sg pres clp i e
  let old := at! u.els i
  let n := elemEval v old (at! u.flus i)
  let ws := elemWrites v n old
  { sg := Sig.writes id u.sg ws, els := setAt u.els i { n.st with shown := v.grp, setsDue := false }, flus := setAt u.flus i n.flu, ws := u.ws ++ ws }

/-- The element kernels that unit `u` runs in phase C, from the space as the phase began (R29, R176): the first entry in ORDER
that names an instance is its element kernel, any further one writes no point (log entry 86). -/
def runUnit (b : Block) (id : TickId) (pres : List (List (F32 × BitVec 16))) (clp : Nat → Option Nat) (u : Nat) (r : UnitRun) : UnitRun :=
  ((schedOf b u 2).map (·.inst)).eraseDups.foldl (fun r n =>
    match schedElem b n with
    | some (i, e) => runElem b id pres clp r i e
    | none => r) r

/-- Elements of phase C on TE0 to TE5: every unit reads the space of the phase's start and its own writes. -/
def elemsPhase (b : Block) (id : TickId) (pres : List (List (F32 × BitVec 16))) (sg : Sig)
    (els : List ElemState) (flus : List FluSlot) : Sig × List ElemState × List FluSlot :=
  let r := (List.range 6).foldl (fun (a : List ElemState × List FluSlot × List PtWrite) u =>
    let x := runUnit b id pres (clpGroup b id sg pres els flus) u { sg := sg, els := a.1, flus := a.2.1, ws := [] }
    (x.els, x.flus, a.2.2 ++ x.ws)) (els, flus, [])
  (Sig.writes id sg r.2.2, r.1, r.2.1)

end Sys2Proof
end

