-- ==== Sys2Proof/Machine/Bsq.lean ====
section
/-! DEFINITION. The breaker sequencer (R226 to R246, R540): position, sources, breaker failure, transitions, control. -/

namespace Sys2Proof

/-- Rank of a trip class (R231). -/
def clsRank (c : Nat) : Nat := match c with | 1 => 2 | 2 => 4 | 3 => 1 | 4 => 3 | _ => 0

/-- The higher-ranked class. -/
def clsMax (a b : Nat) : Nat := if clsRank a ≥ clsRank b then a else b

/-- A slot's inputs as the BSQ step reads them (R233, R234); `restore` is the stage that asks it to close, and whether without the
interlock (R250). -/
structure SlotIn where
  e       : SlotEntry := {}
  rc      : List (BitVec 32) := []
  mode    : Nat := 1
  pos     : Nat := 0
  posQ    : BitVec 16 := 1
  posIn   : List ((BitVec 64 × BitVec 16) × Stamp) := []
  srcs    : List (Bool × Nat) := []
  srcBad  : Bool := false
  cc      : Bool := false
  ccBad   : Bool := false
  blk79   : Bool := false
  recOk   : Bool := true
  ilkClose : Bool := true
  ilkOpen : Bool := true
  bfiExt  : Bool := false
  closeReq : Bool := false
  loReset : Bool := false
  shed    : Bool := false
  restore : Option (Nat × Bool) := none
  pathBad : Bool := false
  grpUsed : Bool := false
  deriving DecidableEq, Repr, Inhabited

/-- Ticks of a time setting or an enumeration. -/
def SlotIn.n (x : SlotIn) (i : Nat) : Nat := (at! x.rc i).toNat
/-- A count stored as binary32. -/
def SlotIn.c (x : SlotIn) (i : Nat) : Nat := (F.toIntRne (at! x.rc i) 255).toNat
/-- TTMIN. -/
def SlotIn.ttmin (x : SlotIn) : Nat := x.n 1
/-- TTMAX. -/
def SlotIn.ttmax (x : SlotIn) : Nat := x.n 2
/-- TCLMAX. -/
def SlotIn.tclmax (x : SlotIn) : Nat := x.n 3
/-- Dead time of shot k + 1. -/
def SlotIn.td (x : SlotIn) (k : Nat) : Nat := x.n (5 + Nat.min k 3)

/-- Active sources in this tick: any, and the highest class; an open operate and a shed join them. -/
def SlotIn.active (x : SlotIn) : Bool := x.srcs.any (·.1) || x.shed
/-- The highest-ranked class among the active sources. -/
def SlotIn.cls (x : SlotIn) : Nat := (x.srcs.filter (·.1)).foldl (fun c s => clsMax c s.2) (if x.shed then 3 else 5)

/-- Open confirmed (R236). -/
def SlotIn.openConf (x : SlotIn) : Bool :=
  if x.pos == 1 && qGood x.posQ then !x.cc || !x.grpUsed else x.grpUsed && !x.cc

/-- Set or clear an alarm bit. -/
def SlotState.setAl (s : SlotState) (i : Nat) (b : Bool) : SlotState :=
  { s with alarm := if b then s.alarm ||| (1#16 <<< i) else s.alarm &&& ~~~(1#16 <<< i) }

/-- Enter a state: tmr reads 0 (R227); alarm bits 0, 5 and 6 follow, bit 5 not in the tick in which it set (R540). -/
def SlotState.enter (s : SlotState) (n : Nat) : SlotState :=
  let s1 := { s with state := n, tmr := 0, trip := n == 2, close := n == 3, redrive := false }
  let s2 := (s1.setAl 0 (n == 7)).setAl 6 (n == 6)
  if n == 1 && !s.bfNew then s2.setAl 5 false else s2

/-- Enter Tripping (R235 first row). -/
def tripEnter (cls : Nat) (s : SlotState) : SlotState :=
  { (s.enter 2) with from_ := s.state, tclass := cls, trips := s.trips + 1 }

/-- Leave Tripping with open confirmed: the seven lines of R235. -/
def tripEnd (x : SlotIn) (s : SlotState) : SlotState :=
  let c := s.tclass
  let en79 := x.n 0 == 1
  if c = 5 then { (s.enter 0) with shot := 0 }
  else if s.from_ = 4 then s.enter 6
  else if (c = 1 ∨ c = 2) ∧ s.from_ = 5 ∧ s.manual then s.enter 6
  else if c = 2 ∨ c = 4 then s.enter 6
  else if c = 1 ∧ en79 ∧ (s.from_ = 1 ∨ s.from_ = 5) ∧ s.shot < x.c 4 ∧ !x.blk79 then s.enter 4
  else if c = 1 ∧ en79 then s.enter 6
  else s.enter 0

/-- TTMAX expires: Failed, alarm bit 0 (R235, R240). -/
def tripFail (s : SlotState) : SlotState := { (s.enter 7) with retrip := false }

/-- The end of the dead time with permission: Closing, as a reclose. -/
def deadClose (s : SlotState) : SlotState := { (s.enter 3) with recl := true, manual := false }

/-- The dead time and TWAIT end without permission: Lockout. -/
def deadLock (s : SlotState) : SlotState := s.enter 6

/-- Position on in Closing (R235). -/
def closeDone (x : SlotIn) (s : SlotState) : SlotState :=
  if s.recl then { (s.enter 5) with shot := s.shot + 1, manual := false }
  else if x.n 10 > 0 then { (s.enter 5) with manual := true } else s.enter 1

/-- TCLMAX expires in Closing: Lockout or Open with alarm bit 1. -/
def closeFail (s : SlotState) : SlotState := (s.enter (if s.recl then 6 else 0)).setAl 1 true

/-- Reclaim ends (R235). -/
def reclaimEnd (s : SlotState) : SlotState := { (s.enter 1) with shot := 0 }

/-- An accepted reset from Lockout or Failed (R235, R241). -/
def slotReset (x : SlotIn) (s : SlotState) : SlotState := { (s.enter (if x.pos == 2 then 1 else 0)) with shot := 0 }

/-- An accepted close: Closing, as a manual or restoring close. -/
def closeStart (s : SlotState) : SlotState := { (s.enter 3) with recl := false, manual := true }

/-- Pos off with validity good or questionable. -/
def SlotIn.isOff (x : SlotIn) : Bool := x.pos == 1 && qOk x.posQ
/-- Pos on. -/
def SlotIn.isOn (x : SlotIn) : Bool := x.pos == 2 && qOk x.posQ

/-- Pass 2's transition of R235; `close` an accepted close, `reset` an accepted reset, `open_` an accepted open operate.
In a slot that makes no transition the state timer runs on. -/
def slotNext (x : SlotIn) (close reset open_ : Bool) (s : SlotState) : SlotState :=
  let act := x.active || open_
  let cls := x.cls
  let mOnly := cls == 5
  let stay := { s with tmr := s.tmr + 1 }
  match s.state with
  | 2 =>
    let s1 := if act then { stay with tclass := clsMax s.tclass cls } else stay
    if !act && decide (s1.tmr ≥ x.ttmin) && x.openConf then tripEnd x s1
    else if s1.tmr ≥ x.ttmax then tripFail s1
    else s1
  | 7 => if reset then slotReset x s else stay
  | st =>
    if act && !(mOnly && (st == 0 || st == 6)) then tripEnter cls s
    else if st = 4 then
      if x.isOn then { (s.enter 1) with shot := 0 }
      else if x.blk79 then deadLock s
      else if decide (stay.tmr ≥ x.td s.shot) && x.recOk then deadClose s
      else if decide (stay.tmr ≥ x.td s.shot + x.n 11) && !x.recOk then deadLock s
      else stay
    else if st = 3 then
      if x.isOn then closeDone x s else if stay.tmr ≥ x.tclmax then closeFail s else stay
    else if st = 5 then
      if stay.tmr ≥ (if s.manual then x.n 10 else x.n 9) then reclaimEnd s else stay
    else if st = 1 then
      if x.isOff then (s.enter 0).setAl 3 true else stay
    else if st = 0 then
      if x.isOn then s.enter 1 else if close then closeStart s else stay
    else if reset then slotReset x s
    else stay

/-- Slot modes in which operator controls are accepted (R245); for MMS, the request's Test flag decides (R460). -/
def ctlAllowed (mode : Nat) (test : Option Bool) : Bool :=
  match test with
  | none => mode == 1 || mode == 3
  | some false => mode == 1 || mode == 3
  | some true => mode == 3 || mode == 4

/-- The selection rule of an operate (R243). -/
def selOk (x : SlotIn) (value : Nat) (by_ : BitVec 128) (s : SlotState) : Bool :=
  x.n 19 == 1 || (s.sel == value && s.selBy == by_)

/-- Result of a close request (R242): of an operator control, or of none. An open operate accepted in the tick (`opened`) is an
active source of class M (R237, R243). -/
def closeResult (x : SlotIn) (q : Option CtlReq) (ilkFree opened : Bool) (s : SlotState) : Nat :=
  if s.state = 2 || x.active || opened then 2
  else if x.mode = 5 || (match q with | some c => !ctlAllowed x.mode c.test | none => false) then 3
  else if s.state ≠ 0 then 3
  else if !ilkFree && !x.ilkClose then 4
  else if (match q with | some c => !(c.direct || selOk x 2 c.by_ s) | none => false) then 5
  else 1

/-- Result of an open operate (R243). -/
def openResult (x : SlotIn) (q : CtlReq) (s : SlotState) : Nat :=
  if !ctlAllowed x.mode q.test then 3
  else if !(q.direct || selOk x 1 q.by_ s) then 5
  else if s.state = 7 then 3
  else if !x.ilkOpen then 4
  else 1

/-- Result of a lockout reset (kind 1) or a failed reset (kind 2) (R241). -/
def resetResult (x : SlotIn) (kind : Nat) (opened : Bool) (s : SlotState) : Nat :=
  let pOk := (x.pos == 1 || x.pos == 2) && qGood x.posQ
  if kind = 1 then (if s.state = 6 && !x.active && !opened && !x.blk79 && pOk then 1 else 3)
  else (if s.state = 7 && pOk then 1 else 3)

/-- End a selection. -/
def SlotState.unselect (s : SlotState) : SlotState := { s with sel := 0, selBy := 0, selTmr := 0 }

/-- Event record of kind 0x0003 (R475). -/
def ctlEvent (slot res : Nat) (origin : BitVec 128) : EvRec :=
  { kind := 3, subject := slot, value := res, arg := origin, rflags := 1 }

/-- Event of a slot that a restoration leaves out (kind 0x0004, R250). -/
def skipEvent (stage slot : Nat) : EvRec := { kind := 4, subject := slot, value := stage, rflags := 1 }

/-- A record, and who hears of it besides (R461). -/
abbrev Told := EvRec × Reply

/-- TSEL expires: result 7 (R243). -/
def selTimeout (s : SlotState) : SlotState := { s.unselect with cmdRes := 7 }

/-- What an operate comes to in a tick (R243): 8 where pos reaches the commanded state before TCLMAX or TTMAX expires, 9 where the
time expires first, nothing yet otherwise. -/
def ctlFinal (x : SlotIn) (c : CtlPend) : Option Nat :=
  if c.tmr ≥ (if c.value = 2 then x.tclmax else x.ttmax) then some 9
  else if (if c.value = 2 then x.isOn else x.isOff) then some 8
  else none

/-- The operates that terminate do so: cmd_res reads the last result, and a slot that an operator closed no longer waits for
restoration (R250). -/
def ctlTerminate (x : SlotIn) (s : SlotState) : SlotState :=
  { s with
    ctls := s.ctls.filter (fun c => (ctlFinal x c).isNone)
    cmdRes := ((s.ctls.filterMap (ctlFinal x)).getLast?).getD s.cmdRes
    shed := s.shed && !s.ctls.any (fun c => c.value == 2 && ctlFinal x c == some 8) }

/-- Their records. -/
def ctlEnds (slot : Nat) (x : SlotIn) (s : SlotState) : List Told :=
  s.ctls.filterMap (fun c => (ctlFinal x c).map (fun r => (ctlEvent slot r c.by_, c.reply)))

/-- Discrepancy of pos after TDISC ticks: alarm bit 2 (R230). -/
def discSet (s : SlotState) : SlotState := s.setAl 2 true

/-- Retrip sets (R239). -/
def retripGo (s : SlotState) : SlotState := { s with retrip := true }

/-- bf_trip sets, with alarm bit 5 (R239, R540). -/
def bfGo (s : SlotState) : SlotState := { (s.setAl 5 true) with bfTrip := true, bfHold := 0, bfNew := true }

/-- BF condition (R239). -/
def SlotIn.bfCond (x : SlotIn) : Bool := x.cc || (x.n 15 == 1 && !(x.pos == 1))

/-- Initiation of breaker failure (R239); a slot in mode Off runs no sequence (R245). -/
def SlotIn.bfInit (x : SlotIn) (s : SlotState) : Bool :=
  x.mode != 5 && ((s.state == 2 && (s.tclass == 1 || s.tclass == 2)) || x.bfiExt)

/-- Breaker failure of pass 1 (R239); `init` is the initiation. Retrip sets in the first tick of its condition; one that R240 has
cleared stays off. -/
def bfStep (x : SlotIn) (init : Bool) (s : SlotState) : SlotState :=
  let cond := x.bfCond
  let both := init && cond
  let bfi := if init then (if s.bfiOn then s.bfiTmr + 1 else 0) else 0
  let bf := if both then (if s.bfOn then s.bfTmr + 1 else 0) else 0
  let s1 := { s with bfiTmr := bfi, bfiOn := init, bfTmr := bf, bfOn := both }
  let trig := (x.n 16 == 1 && decide (bfi ≥ x.n 13)) || (x.n 16 == 2 && both && decide (bf ≥ x.n 13))
  let s2 := { (if !init then { s1 with retrip := false } else if trig && !s.trigOn && !s1.retrip then retripGo s1 else s1) with
              trigOn := init && trig }
  if s2.bfTrip then
    if cond || decide (s2.bfHold + 1 < x.ttmin) then { s2 with bfHold := s2.bfHold + 1 }
    else { s2 with bfTrip := false, bfHold := 0 }
  else if both && decide (bf ≥ x.n 14) then bfGo s2 else s2

/-- An instant as a number of nanoseconds. -/
def Stamp.ns (t : Stamp) : Nat := t.sec * 1000000000 + t.nsec

/-- Time stamp of the position input that has changed, the later of two (R230). -/
def posStamp (now : List ((BitVec 64 × BitVec 16) × Stamp)) (old : List (BitVec 64 × BitVec 16)) (ts : Stamp) : Stamp :=
  ((now.zipIdx.filter (fun i => old[i.2]? != some i.1.1)).map (fun i => i.1.2)).foldl
    (fun (a : Option Stamp) t => match a with | none => some t | some u => some (if u.ns ≤ t.ns then t else u)) none |>.getD ts

/-- Position with its stamp and discrepancy (R230). -/
def posStep (x : SlotIn) (s : SlotState) : SlotState :=
  let moved := decide (x.pos ≠ s.pos) || decide (x.posQ ≠ s.posQ)
  let odd := x.pos == 0 || x.pos == 3
  let s1 := { s with pos := x.pos, posQ := x.posQ, posTs := if moved then posStamp x.posIn s.posIn s.posTs else s.posTs
                     posIn := x.posIn.map (·.1)
                     disc := if odd then s.disc + 1 else 0 }
  if odd then (if s.disc ≥ x.n 18 then discSet s1 else s1) else s1.setAl 2 false

/-- Trip sources that rose in this tick. -/
def risen (now prev : List Bool) : Bool := (now.zipIdx).any (fun p => p.1 && !at! prev p.2)

/-- A select (R243): the result and the slot after it. -/
def selectSlot (x : SlotIn) (value : Nat) (origin : BitVec 128) (test : Option Bool) (heldElsewhere : Bool) (s : SlotState) :
    Nat × SlotState :=
  let r :=
    if x.n 19 == 1 || !ctlAllowed x.mode test then 3
    else if !(if value = 2 then s.state == 0 else s.state == 1 || s.state == 5) then 3
    else if s.sel ≠ 0 || heldElsewhere then 6
    else if !(if value = 2 then x.ilkClose else x.ilkOpen) then 4
    else 1
  (r, if r = 1 then { s with sel := value, selBy := origin, selTmr := 0, cmdRes := 1 } else { s with cmdRes := r })

/-- A cancel (R243). -/
def cancelSlot (origin : BitVec 128) (s : SlotState) : Nat × SlotState :=
  if s.sel ≠ 0 && s.selBy == origin then (1, { s.unselect with cmdRes := 1 }) else (5, s)

/-- What the operator controls of a tick come to, one after the other. -/
structure ReqAcc where
  s       : SlotState
  close   : Bool := false
  reset   : Bool := false
  open_   : Bool := false
  results : List Nat := []
  ev      : List EvRec := []

/-- A result of a control joins, with its record of kind 0x0003. -/
def ReqAcc.put (a : ReqAcc) (slot r : Nat) (by_ : BitVec 128) (s : SlotState) : ReqAcc :=
  { a with s := s, results := a.results ++ [r], ev := a.ev ++ [ctlEvent slot r by_] }

/-- An operate ends the selection it meets; an accepted one waits for its termination (R243). -/
def operated (x : SlotIn) (q : CtlReq) (r : Nat) (s : SlotState) : SlotState :=
  let t := { s with cmdRes := r, ctls := if r = 1 then s.ctls ++ [{ value := q.value, by_ := q.by_, reply := q.reply }] else s.ctls }
  if selOk x q.value q.by_ s then t.unselect else t

/-- One operator control (R241 to R245); `held` says that the station-wide single selection is taken elsewhere, `opened` that an
open operate of the tick is accepted. -/
def ctlReq (slot : Nat) (x : SlotIn) (held opened : Bool) (a : ReqAcc) (q : CtlReq) : ReqAcc :=
  if q.kind = 0 then
    let r := selectSlot x q.value q.by_ q.test held a.s
    a.put slot r.1 q.by_ { r.2 with selTo := if r.1 = 1 then q.reply else r.2.selTo }
  else if q.kind = 2 then
    let r := cancelSlot q.by_ a.s
    a.put slot r.1 q.by_ r.2
  else if q.kind = 3 then
    let r := if ctlAllowed x.mode none then resetResult x q.value opened a.s else 3
    { a.put slot r q.by_ { a.s with cmdRes := r } with reset := a.reset || r == 1 }
  else if q.value = 2 then
    let r := if a.close then 3 else closeResult x (some q) false opened a.s
    { a.put slot r q.by_ (operated x q r a.s) with close := a.close || r == 1 }
  else
    let r := openResult x q a.s
    { a.put slot r q.by_ (operated x q r a.s) with open_ := a.open_ || r == 1 }

/-- All operator controls of a slot in a tick; whether an open operate among them is accepted depends on no other (R243). -/
def ctlReqs (slot : Nat) (x : SlotIn) (held : Bool) (s : SlotState) : ReqAcc :=
  let opened := (s.reqs.foldl (ctlReq slot x held false) { s := s }).open_
  s.reqs.foldl (ctlReq slot x held opened) { s := s }

/-- Pass 1 of a slot: position, cc, breaker failure. -/
def slotPass1 (x : SlotIn) (s0 : SlotState) : SlotState :=
  let s := posStep x { s0 with cc := x.cc, ccBad := x.ccBad, bfNew := false }
  let s := s.setAl 7 x.srcBad
  let s := s.setAl 4 x.pathBad
  let s := if s.alarm.getLsbD 1 && x.pos == 2 && qGood x.posQ then s.setAl 1 false else s
  let s := if s.alarm.getLsbD 3 && x.pos == 2 && qGood x.posQ then s.setAl 3 false else s
  let prov := slotNext x false false (ctlReqs 0 x false s).open_ s
  let t := bfStep x (x.bfInit prov) s
  if x.mode = 5 then { t with bfTrip := false, bfHold := 0 } else t

/-- A restoration's close request of a stage (R250): the slot no longer waits; a refusal leaves it out, with a record. -/
def restoreAsk (slot : Nat) (x : SlotIn) (stage : Nat) (free opened taken : Bool) (s : SlotState) : Nat × SlotState × List EvRec :=
  let r := if taken then 3 else closeResult x none free opened s
  (r, { s with cmdRes := r, shed := false }, [ctlEvent slot r 0] ++ (if r = 1 then [] else [skipEvent stage slot]))

/-- Requests of this tick in order: operator, CLOSE_REQ, restoration, LO_RESET; answers the state, whether a close and a
reset were accepted, an open operate, and the event records. -/
def slotRequests (slot : Nat) (x : SlotIn) (held : Bool) (s0 : SlotState) : SlotState × Bool × Bool × Bool × List EvRec :=
  let a := ctlReqs slot x held s0
  let (s, cl, ev) :=
    if x.closeReq && !a.s.prevReq then
      let r := if a.close then 3 else closeResult x none false a.open_ a.s
      ({ a.s with cmdRes := r }, a.close || r == 1, a.ev ++ [ctlEvent slot r 0])
    else (a.s, a.close, a.ev)
  let (s, cl, ev) :=
    match x.restore with
    | some (stage, free) => let r := restoreAsk slot x stage free a.open_ cl s; (r.2.1, cl || r.1 == 1, ev ++ r.2.2)
    | none => (s, cl, ev)
  let (s, rs, ev) :=
    if x.loReset && !s.prevLo then
      let r := resetResult x 1 a.open_ s
      ({ s with cmdRes := r }, a.reset || r == 1, ev ++ [ctlEvent slot r 0])
    else (s, a.reset, ev)
  ({ s with reqs := [], results := a.results, prevReq := x.closeReq, prevLo := x.loReset }, cl, rs, a.open_, ev)

/-- Redrive of the trip output in Failed (R240). -/
def failedStep (x : SlotIn) (s : SlotState) : SlotState :=
  if s.state ≠ 7 then s
  else if s.redrive then
    if decide (s.redriveT + 1 ≥ x.ttmax) || x.openConf then { s with redrive := false, trip := false }
    else { s with redriveT := s.redriveT + 1 }
  else if risen (x.srcs.map Prod.fst) s.prevSrc && !x.openConf then { s with redrive := true, redriveT := 0, trip := true }
  else s

/-- The age of a selection (R243): TSEL counts from the tick of the select, and expires before the requests of its tick (log entry
91). -/
def selStep (slot : Nat) (x : SlotIn) (s : SlotState) : SlotState × List Told :=
  if s.sel = 0 then (s, [])
  else if s.selTmr + 1 ≥ x.n 17 then (selTimeout s, [(ctlEvent slot 7 s.selBy, s.selTo)])
  else ({ s with selTmr := s.selTmr + 1 }, [])

/-- Terminations of a tick; the others grow older. -/
def ctlStep (x : SlotIn) (s : SlotState) : SlotState :=
  let t := ctlTerminate x s
  { t with ctls := t.ctls.map (fun c => { c with tmr := c.tmr + 1 }) }

/-- The state of a slot after its requests: in mode Off 0 or 1 from pos, with every output off (R245), else the transition of R235
and, in a slot that was Failed before, R240. A listed slot that a stage sheds waits for restoration from now on (R250). -/
def slotMove (x : SlotIn) (cl rs op : Bool) (s : SlotState) : SlotState :=
  if x.mode = 5 then
    let n := if x.isOn then 1 else 0
    let t := if s.state = n then { s with tmr := s.tmr + 1 } else s.enter n
    { t with trip := false, close := false, retrip := false, redrive := false }
  else
    let t := slotNext x cl rs op { s with shed := s.shed || (x.shed && (s.state == 1 || s.state == 5)) }
    if s.state = 7 then failedStep x t else t

/-- Pass 2 of a slot with the backup trips of pass 1 as an active source of class XL (R234). -/
def slotPass2 (slot : Nat) (x0 : SlotIn) (backup held : Bool) (s : SlotState) : SlotState × List Told :=
  let x := if backup then { x0 with srcs := x0.srcs ++ [(true, 4)] } else x0
  let (s1, ev0) := selStep slot x s
  let (s2, cl, rs, op, ev1) := slotRequests slot x held s1
  let s3 := slotMove x cl rs op s2
  ({ ctlStep x s3 with prevSrc := x.srcs.map Prod.fst }, ev0 ++ ev1.map (fun e => (e, Reply.none)) ++ ctlEnds slot x s3)

/-! ### Reading a slot's inputs -/

/-- An optional point read as a permission: unused permits; true with validity good or questionable permits (R228). -/
def permits (mode : Nat) (sg : Sig) (i : Nat) : Bool := i == noPoint || sg.isTrueIn mode i
/-- An optional point read as a condition: unused is false. -/
def asserts (mode : Nat) (sg : Sig) (i : Nat) : Bool := i != noPoint && sg.isTrueIn mode i

/-- pos and its quality (R230): 0 intermediate, 1 off, 2 on, 3 bad; and the inputs it comes from with their stamps. -/
def readPos (mode : Nat) (sg : Sig) (e : SlotEntry) : Nat × BitVec 16 × List ((BitVec 64 × BitVec 16) × Stamp) :=
  let rd (i : Nat) : Point := let p := sg.rd i; { p with qual := qIn mode p.qual }
  let a := rd e.posA
  let b := rd e.posB
  let inp (p : Point) : (BitVec 64 × BitVec 16) × Stamp := ((p.value, p.qual), { sec := p.sec.toNat, nsec := p.nsec.toNat, gen := p.gen })
  if e.posSrc = 0 then
    let q := qComb a.qual b.qual
    (if qBad q then 0 else if a.bool then (if b.bool then 3 else 2) else if b.bool then 1 else 0, q, [inp a, inp b])
  else
    (if qBad a.qual then 0 else if e.posSrc = 1 then (if a.bool then 2 else 1) else a.value.toNat % 4, a.qual, [inp a])

/-- A trip source's activity and invalidity (R232). -/
def readSrc (b : Block) (mode : Nat) (sg : Sig) (s : TripSrc) : Bool × Bool :=
  let p := sg.rd s.point
  let q := qIn mode p.qual
  let off := b.elems.any (fun e =>
    decide (e.base + 5 ≤ s.point) && decide (s.point ≤ e.base + 8) &&
      (let m := (sg.rd (e.base + 0xF)).value.toNat; m == 2 || m == 4 || m == 5))
  (p.bool && qOk q && !off, qBad q)

/-- Current check (R238): cc and whether every phase reads invalid. -/
def readCc (b : Block) (mode : Nat) (pres : List (List (F32 × BitVec 16))) (e : SlotEntry) (ibf : F32) : Bool × Bool :=
  if e.group ≥ 64 then (false, false)
  else
    let ge : GroupEntry := at! b.groups e.group
    let s : SetEntry := at! ge.sets e.setCc
    let h := 4800 / b.fnom
    let thr := F.mul (F.mul F.sqrt2 ibf) s.nom
    let xs : List (List (F32 × BitVec 16)) :=
      s.phs.map (fun c => (((pres[ge.chan.getD c 0xFFFF]?).getD []).take h).map (fun x => (x.1, qIn mode x.2)))
    if xs.all (fun l => qBad (l.headD (0, 1)).2) then (true, true)
    else (xs.any (fun l => l.any (fun x => qOk x.2 && F.ge (F.abs x.1) thr)), false)

/-- Sources of a slot: its SRC entries and the intertrip channels that target it (R228, R249). -/
def slotSources (b : Block) (slot : Nat) (e : SlotEntry) : List TripSrc :=
  e.src ++ (b.intertrips.zipIdx.filter (fun c => c.1.tgt.getLsbD slot)).map
    (fun c => { point := 0x63811 + 2 * c.2, cls := c.1.cls })

/-- All inputs of a slot (R234 pass 1). -/
def slotInputs (b : Block) (sg : Sig) (pres : List (List (F32 × BitVec 16))) (shed : Bool) (restore : Option (Nat × Bool))
    (pathBad : Bool) (slot : Nat) (e : SlotEntry) : SlotIn :=
  let rc := at! e.recs (sg.grp - 1)
  let m := sg.mode slot
  let p := readPos m sg e
  let src := (slotSources b slot e).map (fun s => (readSrc b m sg s, s.cls))
  let cc := readCc b m pres e (at! rc 12)
  { e := e, rc := rc, mode := m, pos := p.1, posQ := p.2.1, posIn := p.2.2
    srcs := src.map (fun s => (s.1.1, s.2)), srcBad := src.any (·.1.2), cc := cc.1, ccBad := cc.2
    blk79 := asserts m sg e.blk79, recOk := permits m sg e.recPermit, ilkClose := permits m sg e.ilkClose
    ilkOpen := permits m sg e.ilkOpen, bfiExt := asserts m sg e.bfiExt, closeReq := asserts m sg e.closeReq
    loReset := asserts m sg e.loReset, shed := shed, restore := restore, pathBad := pathBad
    grpUsed := decide (e.group < 64) }

/-- The DO point of an output (R324). -/
def doPt (o : Nat) : Nat := 0x61080 + o

/-- The points a slot writes (R229, R245). -/
def slotWrites (slot : Nat) (x : SlotIn) (s : SlotState) : List PtWrite :=
  let b := slotBase slot
  let q : BitVec 16 := if x.mode = 3 ∨ x.mode = 4 then 0x800 else 0
  let drive := x.mode == 1 || x.mode == 3
  let out (o : Nat) (v : Bool) : List PtWrite := if o = 0xFF then [] else [wB (doPt o) (v && drive) q]
  [wE b s.state q,
   { idx := b + 1, value := BitVec.ofNat 64 s.pos, qual := qComb s.posQ q, stamp := some s.posTs, edge := true },
   wB (b + 2) s.trip q, wB (b + 3) s.close q, wB (b + 4) s.retrip q, wB (b + 5) s.bfTrip q,
   wB (b + 6) s.cc (if s.ccBad then qComb q 1 else q), wN (b + 7) s.shot q, wE (b + 8) s.tclass q, wN (b + 9) s.tmr q,
   wE (b + 0xA) s.sel q, wE (b + 0xB) s.cmdRes q, wN (b + 0xC) s.alarm.toNat q, wN (b + 0xD) s.trips q,
   wN (b + 0xE) s.bfTmr q, wB (b + 0xF) s.shed q, wN (b + 0x10) s.bfiTmr q] ++
  (x.e.tripDo.flatMap (fun o => out o s.trip)) ++ out x.e.closeDo s.close ++ out x.e.retripDo s.retrip

/-- Pass 2 over the slots in ascending order (R234); `h` says that a slot before holds a selection. -/
def bsqPass2 (single : Bool) (ins : List SlotIn) (backups : List Nat) :
    List SlotState → Nat → Bool → List (SlotState × List PtWrite × List Told)
  | [], _, _ => []
  | s :: rest, i, h =>
    let r : SlotState × List PtWrite × List Told :=
      match ins[i]? with
      | some x =>
        if x.e.use = 0 then (s, [wE (slotBase i) 0 1], [])
        else
          let r := slotPass2 i x (backups.contains i) (single && (h || rest.any (fun y => y.sel != 0))) s
          (r.1, slotWrites i x r.1, r.2)
      | none => (s, [], [])
    r :: bsqPass2 single ins backups rest (i + 1) (h || r.1.sel != 0)

/-- The BSQ step (R234): the next slot states, the point writes and the event records. -/
def bsqStep (b : Block) (sg : Sig) (pres : List (List (F32 × BitVec 16))) (sheds : BitVec 64)
    (restores : List (Nat × Nat × Bool)) (pathBad : SlotEntry → Bool) (sl : List SlotState) :
    List SlotState × List PtWrite × List Told :=
  let ins := mapI (fun i (e : SlotEntry) =>
    slotInputs b sg pres (sheds.getLsbD i) (lkup restores i) (pathBad e) i e) b.slots
  let p1 := mapI (fun i (s : SlotState) =>
    match ins[i]? with
    | some x => if x.e.use = 0 then s else slotPass1 x s
    | none => s) sl
  let backups : List Nat := (p1.zipIdx).flatMap (fun p =>
    match ins[p.2]? with
    | some x => if x.e.use ≠ 0 && p.1.bfTrip && x.mode != 2 && x.mode != 4 then x.e.bft else []
    | none => [])
  let outs := bsqPass2 b.singleSel ins backups p1 0 false
  (outs.map (·.1), (outs.map (·.2.1)).flatten, (outs.map (·.2.2)).flatten)

end Sys2Proof
end

