-- ==== Sys2Proof/Records.lean ====
section
/-! DEFINITION. State of the disturbance recorder and of the fault locators (R252 to R278). -/

namespace Sys2Proof

/-- A frame (R255): tick identity and LTC, analog values with their quality bytes, binary values with their invalid bits;
for replay (R270) the values read from outside the plan's bays, the operator actions of the tick, and what the bays' slots read that no
point outside them holds: supply states of output groups, other slots' selections, restoration close requests; UTC offset and time quality as
they stood (R277), and the BLOCK_ID of the Block in force (R261). -/
structure DrcFrame where
  id   : TickId := {}
  ltc  : Nat := 0
  vals : List F32 := []
  aq   : List (BitVec 8) := []
  bv   : List Bool := []
  bq   : List Bool := []
  outside : List (Nat × Point) := []
  acts : List Act := []
  sups : List (Nat × Nat) := []
  sels : List (Nat × Nat) := []
  asks : List (Nat × Nat) := []
  utc  : Nat := 0
  tq   : Nat := 0
  blk  : BitVec 128 := 0
  deriving DecidableEq, Repr, Inhabited

/-- The replay image (R270): states of the plan's bays at the start of a tick. -/
structure DrcImage where
  elems  : List (Nat × ElemState) := []
  flus   : List (Nat × FluSlot) := []
  slots  : List (Nat × SlotState) := []
  fls    : List (Nat × FlState) := []
  groups : List (Nat × GroupState) := []
  hists  : List (Nat × List (F32 × BitVec 16)) := []
  deriving DecidableEq, Repr, Inhabited

/-- A late-table entry (R265). -/
structure LateEntry where
  stream : Nat := 0
  member : Nat := 0
  smpCnt : Nat := 0
  sec    : Nat := 0
  value  : F32 := 0
  qual   : BitVec 16 := 0
  late   : Nat := 0
  deriving DecidableEq, Repr, Inhabited

/-- A wavefront snippet (R272, R273): its lane and mask, the counter from which it is cut, the cassette and calibration at its start,
flag bit 0, and, once they are copied, its words with the counter, the tick identity, the cycle offset (R100) and the main-clock
instant of the first of them. R273 gives its 64-byte header these contents and no offsets, so the header is held as fields. -/
structure Snip where
  lane   : Nat := 0
  mask   : BitVec 5 := 0
  first  : Int := 0
  count  : Nat := 0
  id     : TickId := {}
  ofs    : Nat := 0
  at_    : Nat := 0
  cass   : Cassette := {}
  oL     : Int × Nat := (0, 1)
  gL     : Int × Nat := (1, 1)
  flag   : Bool := false
  done   : Bool := false
  words  : List (BitVec 32) := []
  deriving DecidableEq, Repr, Inhabited

/-- A fault-location result entry (R268). -/
structure FlResult where
  bay    : Nat := 0
  n0     : Nat := 0
  nf     : Nat := 0
  loop   : Nat := 0
  result : Nat := 0
  d      : F32 := 0
  dl     : F32 := 0
  rf     : F32 := 0
  deriving DecidableEq, Repr, Inhabited

/-- A disturbance record (R256 to R261). STATE: 1 recording, 2 complete, 3 truncated, 4 interrupted. `kib` is the space it
reserves; `written` the frames written to MRAM; `cont` the end of a continuation that is to follow; `gone` the frames, by their
position, that read as missing, and `badBlks` their blocks (R264). -/
structure DrcRec where
  recno  : Nat := 0
  plan   : Nat := 0
  state  : Nat := 1
  flags  : BitVec 16 := 0
  first  : TickId := {}
  trig   : TickId := {}
  preFr  : Nat := 0
  prev   : Option Nat := none
  evrSeq : Nat := 0
  blockId : BitVec 128 := 0
  fwVer  : BitVec 32 := 0
  entry  : Plan := {}
  fs     : Nat := 0
  tlist  : List (Nat × Nat × Nat) := []
  frames : List DrcFrame := []
  written : Nat := 0
  firstLtc : Nat := 0
  endLtc : Nat := 0
  late   : List LateEntry := []
  snips  : List Snip := []
  fls    : List FlResult := []
  image  : Option DrcImage := none
  exported : Bool := false
  exporting : Bool := false
  kib    : Nat := 0
  utcOfs : Nat := 0
  tq     : Nat := 0
  gone   : List Nat := []
  badBlks : Nat := 0
  deriving DecidableEq, Repr, Inhabited

/-- A plan's running state: ring (newest first), trigger points' values and qualities of the previous tick, record running,
manual trigger named for this tick, a continuation to start (end, record continued, first trigger). -/
structure PlanState where
  ring : List (DrcFrame × Option DrcImage) := []
  prev : List (BitVec 64 × BitVec 16) := []
  run  : Option Nat := none
  manual : Bool := false
  cont : Option (Nat × Nat × TickId) := none
  deriving DecidableEq, Repr, Inhabited

/-- The disturbance recorder: records in the order of their numbers, plans, bad 64 KiB blocks, counts (R278), the fault
locators, ticks since a supply failure, and the plans' replay images as the present tick began (R270). -/
structure Drc where
  recs   : List DrcRec := []
  lastNo : Nat := 0
  plans  : List PlanState := List.replicate 16 {}
  bad    : List Nat := []
  refused : Nat := 0
  deleted : Nat := 0
  lateKept : Nat := 0
  lateLost : Nat := 0
  full   : Bool := false
  pfTrunc : Bool := false
  failTicks : Option Nat := none
  fls    : List FlState := List.replicate 48 {}
  start  : List (Option DrcImage) := []
  deriving DecidableEq, Repr, Inhabited

/-! ### Export (R276, R277) -/

/-- Options of an export (R276), each false or 0 at its default: revision 1999; one .cff file; format (0 BINARY32, 1 BINARY,
2 ASCII); secondary scaling; late samples reinstated; quality channels; snippets omitted. -/
structure ComOpts where
  rev99   : Bool := false
  single  : Bool := false
  fmt     : Nat := 0
  second  : Bool := false
  reinst  : Bool := false
  quality : Bool := false
  noSnip  : Bool := false
  deriving DecidableEq, Repr, Inhabited

/-- A channel of an exported set (R277): its channel word, name, unit and, in BINARY, its largest magnitude, which a and b map to
32,767. -/
structure ComChan where
  word : Nat := 0
  name : List Byte := []
  unit : List Byte := []
  peak : F32 := 0
  deriving DecidableEq, Repr, Inhabited

/-- A sample of an exported set: its number, its time stamp, analog and status values (none where missing or invalid). -/
structure ComRow where
  no     : Nat := 1
  stamp  : Nat := 0
  ana    : List (Option F32) := []
  status : List (Option Bool) := []
  deriving DecidableEq, Repr, Inhabited

/-- A snippet's set (R277): the lane, samp as a quotient, a channel per enabled slot, the tick from whose start the instants count with
that start in UTC, and per word its instant in main-clock cycles from there (R100), its slot and its code. -/
structure ComSnip where
  lane  : Nat := 0
  samp  : Nat × Nat := (0, 1)
  slots : List Nat := []
  id    : TickId := {}
  start : Int × Nat := (0, 0)
  words : List (Nat × Nat × Int) := []
  deriving DecidableEq, Repr, Inhabited

/-- What an exported set says (R277): start and trigger in UTC (seconds, nanoseconds), time quality, channels, rows, each change of
GEN with its frame number and the times before and after, reinstated values as (frame, channel, value), snippet sets. `timemult` is
in units of 10⁻⁷ µs. -/
structure ComSet where
  opts     : ComOpts := {}
  recno    : Nat := 0
  nrates   : Nat := 1
  samp     : Nat := 9600
  timemult : Nat := 1041666667
  start    : Int × Nat := (0, 0)
  trigger  : Int × Nat := (0, 0)
  tq       : Nat := 0
  analogs  : List ComChan := []
  statuses : List ComChan := []
  rows     : List ComRow := []
  gens     : List (Nat × TickId × TickId) := []
  reinst   : List (Nat × Nat × F32) := []
  snips    : List ComSnip := []
  deriving DecidableEq, Repr, Inhabited

end Sys2Proof
end

