-- ==== Sys2Proof/Services.lean ====
section
/-! DEFINITION. State of the pair, the host port, the command service, the station protocols, the Block store, the update
and the sealed area (R377 to R471, R489 to R516), and what the engine sends. -/

namespace Sys2Proof

/-! ### The pair (R377 to R417) -/

/-- The Hat latch and its loops (R377 to R381, R416, R521): action pending for the next tick (0 none, 1 grant, 2 revoke),
ticks without a phase E commit, ticks with an unsensed own loop, ticks since a valid witness frame, consecutive ticks with one, invalid
witness frames; the role before a grant of the present tick (R46), a revoke since the engine became unhealthy or leaves (R44). -/
structure Hat where
  latch   : Bool := false
  ownLoop : Bool := false
  ploop   : Bool := false
  granted : Bool := false
  revoked : Bool := false
  raceLost : Bool := false
  blocked : Bool := false
  wdog    : Bool := false
  blockAlarm : Bool := false
  act     : Nat := 0
  noCommit : Nat := 0
  loopBad : Nat := 0
  witMiss : Nat := 0
  witSeen : Bool := false
  lastWit : List Byte := []
  witRun  : Nat := 0
  witLost : Bool := false
  witBad  : Nat := 0
  grants  : Nat := 0
  blocks  : Nat := 0
  fresh   : Bool := false
  was     : Option Nat := none
  taken   : Bool := false
  deriving DecidableEq, Repr, Inhabited

/-- The witness of R388; `aAt` is the last unit A frame it accepted, as the grid number of the tick in which unit A sent it and its
start, and `aAgo` the bus ticks since (R386). -/
structure Witness where
  latA : Bool := false
  latB : Bool := false
  silA : Nat := 0
  silB : Nat := 0
  seq  : Nat := 0
  aAt  : Option (Nat × Nat) := none
  aAgo : Nat := 0
  deriving DecidableEq, Repr, Inhabited

/-- A planned handover (R403): H as LTC and as a tick identity. -/
structure Planned where
  at_ : Nat := 0
  id  : TickId := {}
  deriving DecidableEq, Repr, Inhabited

/-- The pair's state: partner seen, synchronism, mirror, digests, rolling copy, handover, plausibility (R383 to R417).
`copy` is 0 none, 1 VERIFY, 2 SEED, 3 sending; `heard` says for the coming and the last three ticks whether the partner was
heard; `err` is the code with which the joining engine waits (R414); `run` counts consecutive matching digests, `since` those after
the last applied epoch (R387, R399); `parts` are the completed chunks of the present copy, sent or received, `base` the base that
waits for its delta, `seeds` the lines to be written at the end of the next phase A (R399), `diffs` the recorded differing lines
(R398); `feltSeq` numbers the own Felt frames (R390); `w1Plan` is the start of a W1 frame due in the coming tick, and `w1Last` that
of unit B's last one (R386). -/
structure Pair where
  laneA   : Bool := false
  laneB   : Bool := false
  linkWas : Bool := false
  prole   : Nat := 0
  ppart   : BitVec 32 := 0
  pfw     : BitVec 32 := 0
  pblock  : BitVec 128 := 0
  phood   : BitVec 128 := 0
  feltGot : List Nat := []
  feltSeq : Nat := 0
  mirPrev : Bool := false
  heard   : List Bool := [false, false, false, false]
  psick   : Bool := false
  pevrBad : Bool := false
  synced  : Bool := false
  inStep  : Bool := false
  mixed   : Bool := false
  err     : Nat := 0
  startAlarm : Bool := false
  close   : Option (TickId × Nat × Nat) := none
  items   : List (Nat × MirrorItem) := []
  bridgeNow : Bool := false
  bridgeRun : Nat := 0
  bridged : Nat := 0
  staleT  : Nat := 0
  own     : Option (Nat × BitVec 128) := none
  matched : Nat := 0
  mismatched : Nat := 0
  run     : Nat := 0
  since   : Nat := 0
  applied : Bool := false
  seedNext : Bool := false
  resync  : Nat := 0
  copy    : Nat := 0
  epoch   : Nat := 0
  got     : List Nat := []
  parts   : List (List CopyItem) := []
  base    : Option (Nat × List CopyItem) := none
  seeds   : List CopyItem := []
  diffs   : List CopyItem := []
  epochs  : Nat := 0
  corrected : Nat := 0
  discarded : Nat := 0
  ho      : Option Planned := none
  hoA     : Bool := false
  hoTick  : Bool := false
  seq     : Nat := 0
  reported : TickId := {}
  sent    : Option EngFrame := none
  frame   : EngFrame := {}
  frameId : TickId := {}
  w1At    : Option Nat := none
  w1Plan  : Option Nat := none
  w1Last  : Option Nat := none
  pframe  : Option EngFrame := none
  pframeT : Option Nat := none
  mismT   : Nat := 0
  mismAlarm : Bool := false
  corrT   : Nat := 0
  bridT   : Nat := 0
  plaus   : List Nat := List.replicate 64 2
  plausS  : List Nat := List.replicate 96 2
  plausDi : Bool := false
  plausW  : Nat := 0
  plausC  : List PlausChan := List.replicate 64 {}
  plausV  : List PlausStream := List.replicate 96 {}
  plausD  : List Nat := List.replicate 128 0
  plausG  : List Nat := List.replicate 6 0
  laneErr : List Nat := [0, 0]
  deriving DecidableEq, Repr, Inhabited

/-! ### Host port and command service (R418 to R451) -/

/-- The status window as last refreshed (R424). -/
structure Window where
  seq    : BitVec 32 := 0
  role   : Nat := 0
  tick   : Nat := 0
  sec    : Nat := 0
  k      : Nat := 0
  gen    : BitVec 16 := 0
  health : BitVec 32 := 0
  alarm0 : BitVec 32 := 0
  alarm1 : BitVec 32 := 0
  grp    : Nat := 0
  ltc    : Nat := 0
  tsu    : BitVec 32 := 0
  pair   : BitVec 32 := 0
  trip   : BitVec 64 := 0
  pickup : BitVec 64 := 0
  evrSeq : Nat := 0
  recno  : Nat := 0
  user   : List (BitVec 64 × BitVec 16 × BitVec 16 × BitVec 32) := []
  deriving DecidableEq, Repr, Inhabited

/-- A snapshot bank (R447 to R450): header, block areas 0x0040 to 0x13FF, point area. -/
structure Bank where
  full    : Bool := false
  filling : Bool := false
  hdr     : SnapHdr := {}
  areas   : List Byte := []
  pts     : List Point := []
  deriving DecidableEq, Repr, Inhabited

/-- The host port: ID_MAGIC readable, mailbox memory, control registers (R429), window, snapshot registers (R447), running PIN_OUT
pulse, the edges of this tick and the last on which a Pin has fallen, by grid number and cycle, with the bank that took it (R446), Pins
forwarded for the coming tick with their cycle and DEFER (R449), the snapshot points after phase E of this tick and of the last (R450),
and the data of the last host read. -/
structure Hpi where
  magic    : Bool := false
  ram      : List (Nat × Byte) := []
  doorbell : BitVec 16 := 0
  done     : BitVec 16 := 0
  irqEn    : BitVec 20 := 0
  evt      : BitVec 4 := 0
  errOwned : Nat := 0
  errUnmap : Nat := 0
  win      : Window := {}
  pinCtrl  : BitVec 8 := 0
  pinSlots : BitVec 64 := 0
  pinLost  : Nat := 0
  pinSeq   : Nat := 0
  banks    : List Bank := [{}, {}]
  pulseEnd : Nat := 0
  edges    : List ((Nat × Nat) × Option Nat) := []
  pinNext  : List (Nat × Bool) := []
  snap     : List Point := []
  snapOld  : List Point := []
  data     : BitVec 64 := 0
  deriving DecidableEq, Repr, Inhabited

/-- A session (R435). `idle` is the STAT_TICK of its last command. -/
structure Session where
  id      : BitVec 32 := 0
  keyId   : Nat := 0
  carrier : Carrier := .host 0
  enonce  : BitVec 256 := 0
  hnonce  : BitVec 256 := 0
  authed  : Bool := false
  priv    : BitVec 9 := 0
  lastTag : Option Nat := none
  idle    : Nat := 0
  deriving DecidableEq, Repr, Inhabited

/-- A job (R442). STATE: 1 running, 2 done, 3 failed, 4 cancelled. -/
structure Job where
  no      : Nat := 0
  opcode  : Nat := 0
  state   : Nat := 1
  armed   : Bool := false
  final   : Nat := 0
  result  : BitVec 64 := 0
  endedAt : Nat := 0
  begun   : Nat := 0
  recno   : Nat := 0
  opts    : Nat := 0
  key     : BitVec 776 := 0
  priv    : BitVec 9 := 0
  deriving DecidableEq, Repr, Inhabited

/-- A transfer of a Block, a Hood or an update package (R442, R496, R502): its session, LENGTH, identity, and the chunks received, each
at its offset. -/
structure Xfer where
  session : BitVec 32 := 0
  length  : Nat := 0
  idv     : BitVec 128 := 0
  got     : List (Nat × List Byte) := []
  lastT   : Nat := 0
  deriving DecidableEq, Repr, Inhabited

/-- The command service: sessions, jobs, counters (R435, R442, R443 COUNTERS), accepted operator actions (R27). -/
structure Svc where
  sessions : List Session := []
  jobs     : List Job := []
  nextJob  : Nat := 1
  sigFails : Nat := 0
  refused  : Nat := 0
  acts     : List Action := []
  waits    : List (Carrier × Nat × Nat × Nat) := []
  deriving DecidableEq, Repr, Inhabited

/-! ### Station protocols (R452 to R471) -/

/-- A change-queue entry (R452), with whether the value or the quality has changed (R459). -/
structure ChgEntry where
  point : Nat := 0
  id    : TickId := {}
  rec_  : Point := {}
  vchg  : Bool := false
  qchg  : Bool := false
  deriving DecidableEq, Repr, Inhabited

/-- A report control block (R459): its buffered reports, an image due (R453), the tick of its last integrity report. -/
structure Rcb where
  on      : Bool := false
  assoc   : Nat := 0
  dataset : List Nat := []
  opts    : RcbOpts := {}
  ovfl    : Bool := false
  image   : Bool := false
  buffer  : List (List ChgEntry) := []
  seq     : Nat := 0
  intT    : Nat := 0
  deriving DecidableEq, Repr, Inhabited

/-- A TLS association (R458, R469). Services: 0 MMS, 1 command set; `front` over the service port, `pair` to the pair address. -/
structure Assoc where
  id      : Nat := 0
  service : Nat := 0
  suite   : Nat := 0
  group   : Nat := 0
  keyT    : Nat := 0
  recs    : Nat := 0
  pending : Nat := 0
  edition : Nat := 2
  front   : Bool := false
  pair    : Bool := false
  deriving DecidableEq, Repr, Inhabited

/-- An object of a station protocol's message beside its record: type identification, group and variation (256 × group + variation),
ASDU or number of registers (R464 to R467); address; UTC_OFS at the instant of its stamp (R359). -/
structure PtForm where
  typ  : Nat := 0
  addr : Nat := 0
  utc  : Nat := 0
  deriving DecidableEq, Repr, Inhabited

/-- The AddCauses of MMS control outcomes (R461). -/
inductive AddCause where
  | none | blockedByProcess | invalidPosition | blockedByMode | blockedByInterlocking | objectNotSelected | oneOfN
  | timeLimitOver | terminationPositive | terminationNegative
  deriving DecidableEq, Repr, Inhabited

/-- A station protocol's message (R453 to R468). Protocols as in `ProtoMaps`; `kind` 0 response, 1 report or spontaneous
data, 2 outcome of a control, 3 refusal or exception, 4 confirmation, 5 supervisory or test frame, 6 a termination; `code` the status,
exception, CROB status or IIN concerned; `res` and `cause` the cmd_res and AddCause of an outcome; `ev` that its points are events with
their time; `forms` how its points are carried; the edition of an MMS association, the common address of IEC 104. -/
structure StMsg where
  proto : Nat := 0
  conn  : Nat := 0
  kind  : Nat := 0
  code  : Nat := 0
  res   : Nat := 0
  cause : AddCause := .none
  ovfl  : Bool := false
  ev    : Bool := false
  var   : Nat := 0
  pts   : List (Nat × Point) := []
  forms : List PtForm := []
  edition : Nat := 0
  ca    : Nat := 0
  data  : List Byte := []
  deriving DecidableEq, Repr, Inhabited

/-- An IEC 60870-5-104 connection (R464): open, to the pair address, data transfer started, frames sent and not acknowledged, frames
received and not yet acknowledged, a test frame outstanding, an image due (R453), messages that wait while k frames are unacknowledged;
the ticks since which the oldest sent frame or test frame and the oldest received one wait, and of the last frame received. -/
structure Conn104 where
  open_   : Bool := false
  pair    : Bool := false
  started : Bool := false
  unacked : Nat := 0
  toAck   : Nat := 0
  test    : Bool := false
  image   : Bool := false
  wait    : List StMsg := []
  sentT   : Nat := 0
  rxT     : Nat := 0
  lastT   : Nat := 0
  deriving DecidableEq, Repr, Inhabited

/-- A DNP3 master's view (R465). -/
structure Dnp3 where
  pair    : Bool := false
  unsol   : Bool := false
  classes : List (Nat × Nat) := []
  ovfl    : Bool := false
  events  : List ChgEntry := []
  deriving DecidableEq, Repr, Inhabited

/-- The communication processor. `prpT` is the tick of the last PRP supervision frame (R455). -/
structure Cp where
  queue  : List ChgEntry := []
  ovfTicks : Nat := 0
  pubs   : List PubState := List.replicate 128 {}
  rcbs   : List Rcb := List.replicate 256 {}
  assocs : List Assoc := []
  crl    : List Nat := []
  conns  : List Conn104 := List.replicate 4 {}
  dnps   : List Dnp3 := List.replicate 4 {}
  gi103  : Bool := false
  holdsPair : Bool := false
  prpT   : Option Nat := none
  deriving DecidableEq, Repr, Inhabited

/-! ### Block store, update, sealed area (R489 to R516) -/

/-- An activation being prepared or armed (R497, R498): the Block, whether it is the previous one, its job, NTICK, and A
once it is prepared. -/
structure Activation where
  blk   : Block := {}
  prev  : Bool := false
  job   : Nat := 0
  ntick : Nat := 0
  at_   : Option Nat := none
  deriving DecidableEq, Repr, Inhabited

/-- A slot of the Block store (R493): its Block, the chain of Hoods above it, and how many of them are marked applied (R315). -/
structure StoreSlot where
  blk    : Option Block := none
  chain  : List Hood := []
  marked : Nat := 0
  deriving DecidableEq, Repr, Inhabited

/-- A copy of the directory (R493): its sequence number, the slots in the roles current, previous, converted-current and
converted-previous, and its CRC-32C. -/
structure DirCopy where
  seq      : Nat := 0
  cur      : Option (Fin 4) := none
  prev     : Option (Fin 4) := none
  convCur  : Option (Fin 4) := none
  convPrev : Option (Fin 4) := none
  crc      : BitVec 32 := 0
  deriving DecidableEq, Repr, Inhabited

/-- The Block store and what is staged beside it (R493, R494, R498): its slots, both copies of the directory, the slots in force as
current and previous, the LTC by which the directory is due, and whether what was written last fails its read-back. -/
structure Store where
  slots   : Vector StoreSlot 4 := Vector.replicate 4 {}
  dirA    : DirCopy := {}
  dirB    : DirCopy := {}
  curAt   : Option (Fin 4) := none
  prevAt  : Option (Fin 4) := none
  dirDue  : Option Nat := none
  bad     : Bool := false
  xfer    : Option Xfer := none
  checked : Bool := false
  hoodX   : Option Xfer := none
  act     : Option Activation := none
  partnerOk : Option Nat := none
  deriving DecidableEq, Repr, Inhabited

/-- Firmware update (R501 to R508). STAGE: 0 empty, 1 receiving, 2 staged, 3 boot pending. `hash` and `altHash` are the SHA-256 hashes of
the running image and of that in the other slot, `cut` that a power loss has interrupted the update boot once. -/
structure Upd where
  stage   : Nat := 0
  hash    : List Byte := List.replicate 32 0
  altHash : List Byte := []
  cut     : Bool := false
  xfer    : Option Xfer := none
  pkg     : Option Package := none
  slot    : Bool := false
  altVer  : BitVec 32 := 0
  confirmed : Bool := true
  fellBack : Bool := false
  fallPend : Bool := false
  secNew  : Nat := 0
  begun   : Nat := 0
  matches_ : Nat := 0
  lastFail : Nat := 0
  deriving DecidableEq, Repr, Inhabited

/-- An enrolled key (R510, R512). -/
structure KeyRec where
  id   : Nat := 0
  key  : BitVec 776 := 0
  priv : BitVec 9 := 0
  deriving DecidableEq, Repr, Inhabited

/-- The sealed area (R510 to R515): identity key present and its generation (0: none made yet), firmware decryption key (the private
number), Cedun's firmware and debug verification keys, enrolled keys, SECLVL, clock, generation, UTC offset, tamper latch, debug access;
serial number; the front button is held. -/
structure Sca where
  ident   : Bool := false
  identN  : Nat := 0
  fwKey   : Option Nat := some 1
  cedunFw : BitVec 776 :=
    0x04aa87ca22be8b05378eb1c71ef320ad746e1d3b628ba79b9859f741e082542a385502f25dbf55296c3a545e3872760ab73617de4a96262c6f5d9e98bf9292dc29f8f41dbd289a147ce9da3113b5f0b8c00a60b1ce1d7e819d7a431d7c90ea0e5f
  cedunDbg : BitVec 776 :=
    0x04aa87ca22be8b05378eb1c71ef320ad746e1d3b628ba79b9859f741e082542a385502f25dbf55296c3a545e3872760ab73617de4a96262c6f5d9e98bf9292dc29f8f41dbd289a147ce9da3113b5f0b8c00a60b1ce1d7e819d7a431d7c90ea0e5f
  keys    : List KeyRec := []
  nextKey : Nat := 1
  secLvl  : Nat := 0
  rtc     : Nat := 0
  gen     : BitVec 16 := 0
  utc     : Option Nat := none
  tamper  : Bool := false
  debug   : Bool := false
  serial  : BitVec 64 := 0
  button  : Bool := false
  deriving DecidableEq, Repr, Inhabited

/-- An indicator of the front panel (R530). -/
inductive Lamp where
  | off
  | on
  | hz1
  | hz4
  deriving DecidableEq, Repr, Inhabited

/-- The front panel's indicators (R530): RUN, HAT and ALARM. They have no state of their own: State.panel says what they show. -/
structure Panel where
  run   : Lamp
  hat   : Lamp
  alarm : Lamp
  deriving DecidableEq, Repr, Inhabited

/-- The supply (R525): feeds of at least 33.0 V, and a failure detected. -/
structure Psu where
  feedA  : Bool := true
  feedB  : Bool := true
  failed : Bool := false
  deriving DecidableEq, Repr, Inhabited

/-! ### What the engine sends -/

/-- A response of R433. -/
structure Resp where
  status  : Nat := 0
  opcode  : Nat := 0
  tag     : Nat := 0
  session : Nat := 0
  ntick   : Nat := 0
  errOfs  : Nat := 0xFFFFFFFF
  payload : List Byte := []
  deriving DecidableEq, Repr, Inhabited

/-- A member of a synchrophasor frame as it is sent: binary32 or a 16-bit integer (R161, R164). -/
inductive SyncVal where
  | real (x : F32)
  | int (x : BitVec 16)
  deriving DecidableEq, Repr, Inhabited

/-- A data block of a synchrophasor frame (R161, R164): IDCODE, STAT, phasors (two members each), FREQ and DFREQ, analogs, digital
words of 16 points. -/
structure SyncBlock where
  idcode   : Nat := 0
  stat     : BitVec 16 := 0
  phasors  : List (SyncVal × SyncVal) := []
  freq     : SyncVal := .real 0
  dfreq    : SyncVal := .real 0
  analogs  : List SyncVal := []
  digitals : List (BitVec 16) := []
  deriving DecidableEq, Repr, Inhabited

/-- A data block of a configuration frame (R161, R468): IDCODE, group, and the points of its members. -/
structure C37Block where
  idcode   : Nat := 0
  group    : Nat := 0
  phasors  : List Nat := []
  analogs  : List Nat := []
  digitals : List Nat := []
  deriving DecidableEq, Repr, Inhabited

/-- What a configuration frame describes (R468). -/
structure C37Cfg where
  timeBase  : Nat := 9600
  rate      : Nat := 50
  fnom      : Nat := 50
  floatFmt  : Bool := true
  polar     : Bool := false
  floatFreq : Bool := true
  blocks    : List C37Block := []
  deriving DecidableEq, Repr, Inhabited

/-- The content of a frame of the Felt link (R390): mirror items and CLOSE, digests, the two parts of a chunk and the closing digest
of an epoch, a Pin, a record, a forwarded command, a configuration, what a check found, the time of the active engine, and a control
frame that tells of nothing but its sender (R387, log entry 128). -/
inductive FeltFrame where
  | mirror (ltc : Nat) (x : MirrorItem)
  | close (id : TickId) (ltc n : Nat)
  | digest (ltc : Nat) (d : BitVec 128)
  | chunkBase (epoch chunk : Nat) (items : List CopyItem)
  | chunkDelta (epoch chunk : Nat) (lines : BitVec 1024) (items : List CopyItem)
  | epochDigest (epoch : Nat) (d : BitVec 128)
  | pin (id : TickId) (offset : Nat)
  | record (r : EvRec)
  | forward (x : Forwarded)
  | config (b : Block) (hoods : List Hood)
  | checkResult (opcode code : Nat)
  | time (est : Option Nat) (glob : Bool)
  | control
  deriving DecidableEq, Repr, Inhabited

/-- A GOOSE frame (R462, R463): the publication, its counters, timeAllowedToLive in ticks, the test flag, the simulation bit and ndsCom,
the edition and whether the lengths are fixed, the pairs of ports, priority and VLAN, the members with their qualities. -/
structure GooseFrame where
  pub      : Nat := 0
  stNum    : Nat := 0
  sqNum    : Nat := 0
  tal      : Nat := 0
  test     : Bool := false
  sim      : Bool := false
  ndsCom   : Bool := false
  edition  : Nat := 2
  fixedLen : Bool := false
  process  : Bool := false
  station  : Bool := true
  priority : Nat := 4
  vlan     : Nat := 0
  vals     : List (BitVec 64 × BitVec 16) := []
  deriving DecidableEq, Repr, Inhabited

/-- What leaves the engine: the list `out` of the state is cleared at the start of each TICK (log entry 11). -/
inductive Emit where
  | engineFrame (start : Nat) (f : EngFrame)
  | witnessFrame (start : Nat) (bytes : List Byte)
  | felt (lane seq role : Nat) (healthy recBad : Bool) (crc : BitVec 32) (x : FeltFrame)
  | pinOut (cycle : Nat)
  | goose (f : GooseFrame)
  | sv (pub : SvPub) (smpCnt synch : Nat) (first second : List (Int × BitVec 16))
  | synchro (stream soc fracsec quality : Nat) (blocks : List SyncBlock)
  | c37Config (stream kind : Nat) (cfg : C37Cfg)
  | prpSupervision
  | service (icmp : Bool)
  | arp (pairAddr : BitVec 32)
  | delayRequest (port stamp : Nat)
  | pdelayResp (port received sent : Nat)
  | hsr (f : Frame)
  | response (assoc : Nat) (r : Resp)
  | station (m : StMsg)
  | tls (assoc kind : Nat)
  deriving DecidableEq, Repr, Inhabited

end Sys2Proof
end

