-- ==== Sys2Proof/Config.lean ====
section
/-! DEFINITION. Free values: constants without a body for what the spec states no value of (log entries 5, 6, 10). Nothing
can evaluate them, so a statement holds whatever they are. -/

namespace Sys2Proof.Config

/-- Bits of SAMPLE in a sample that reads invalid (R91 to R94 state none): by the LTC of its commit and the channel. -/
opaque sampleBits : Nat → Nat → BitVec 24

/-- The loop FL takes for one faulted phase without earth (R268 states none): by the LTC and the bay. -/
opaque flLoop : Nat → Nat → Nat

/-- Whether the parity of an IRIG-B frame is odd (R357 names a parity and states no sense of it). -/
opaque irigOddParity : Bool

/-- A random SESSION (R435). -/
opaque session : Nat → BitVec 32

/-- A random ENONCE (R435). -/
opaque nonce : Nat → BitVec 256

/-- The device identity public key of a key generation (R510, R515): made by the engine. -/
opaque identKey : Nat → BitVec 776

/-- Sum modulo 2^64 of the CRC-64 (ECMA-182) of line number and content of the lines that hold an item of the dynamic state (R395
item 4): the state map that lays them out is the firmware's. -/
opaque lineCrc : CopyItem → BitVec 64

/-- How many lines an item of the dynamic state takes (R395). -/
opaque lineCount : CopyItem → Nat

/-- Whether an engine writes the lines of an item in a tick with the content they had (R395 counts them): by the LTC and the item. -/
opaque rewrites : Nat → CopyItem → Bool

/-- The chunk whose lines hold an item (R397: the state map is the firmware's). -/
opaque chunkOf : CopyItem → Nat

/-- The line map of a chunk's delta (R397): the lines that hold its items. -/
opaque lineMap : List CopyItem → BitVec 1024

/-- The bytes under the closing digest of an epoch (R397): e and its completed chunks, as the state map lays them out. -/
opaque copyBytes : Nat → List (List CopyItem) → List Byte

/-- The bytes under the CRC-32C of a Felt frame (R390 gives no layout): its sequence number, its sender's role, health and failed
recorder, its content. -/
opaque feltBytes : Nat → Nat → Bool → Bool → FeltFrame → List Byte

/-- Bytes of an exported COMTRADE file (R276, R277), whose text the standard lays out: the set, FILE. -/
opaque comtrade : ComSet → Nat → List Byte

/-- Name and unit that a Block gives a recorder channel (R277; no section of R490 holds them): by BLOCK_ID and channel word. -/
opaque chanName : BitVec 128 → Nat → List Byte × List Byte

/-- A reinstated grid value for which the record holds only one of the two samples that R114 takes: by the record, the frame and
the channel (R277). -/
opaque reinstated : DrcRec → Nat → Nat → F32

/-- ORDER of the executing entry and cycles spent of a unit on a Pin's edge (R450), which depend on the instant within the phase: by the
counter of free values and the unit. -/
opaque unitSnapshot : Nat → List Byte

/-- The result word of SELFTEST (R443 gives its width only). -/
opaque selftestWord : Nat → BitVec 32

/-- RESULT of an export job (R443: "gives files and sizes"). -/
opaque exportResult : ComSet → BitVec 64

/-- Count of a fast channel after an edge that ends a phase shorter than 4 µs, where counts may be lost or gained (R331): by the
channel, the count before and the instant. -/
opaque fastCount : Nat → BitVec 32 → Nat → BitVec 32

/-- Version of a firmware's own cycle table (R61): by the firmware version, as in all that follow. -/
opaque tableVersion : BitVec 32 → Nat

/-- A firmware knows a cycle table version (R61). -/
opaque tableKnown : BitVec 32 → Nat → Bool

/-- A firmware knows a kernel identifier (R61). -/
opaque kernelKnown : BitVec 32 → Nat → Bool

/-- Charged cost of a kernel under a firmware's cycle table (R55, R57, R61): by KERNEL, INSTANCE and the setting record in force
(empty where the item has none). -/
opaque kernelCost : BitVec 32 → Nat → Nat → List (BitVec 32) → Nat

/-- Worst-case charged cost of a function-block program under a firmware's cycle table (R58, R61). -/
opaque fbCost : BitVec 32 → Program → Nat

/-- Family of a firmware's cycle table, for which a function-block code image is built (R302). -/
opaque tableFamily : BitVec 32 → Nat

/-- What a KERNEL of phase D on TE0 to TE5 runs (R55 states no identifiers): by KERNEL and INSTANCE. -/
opaque schemeKernel : Nat → Nat → SchemeItem

/-- The 16-bit integer form of a synchrophasor member (R161 gives no factors): by the stream, the kind of member (0 phasor part, 1
FREQ, 2 DFREQ) and its value. -/
opaque syncInt : Nat → Nat → F32 → BitVec 16

/-- The running firmware can read the state map of another version (R411): by the two versions. -/
opaque mapReadable : BitVec 32 → BitVec 32 → Bool

/-- The main-clock edge within the tick at which a plain register write completes (R446): by the counter of free values. -/
opaque writeCycle : Nat → Nat

/-- RESULT of a job to which R443 gives none: by the counter of free values. -/
opaque jobResult : Nat → BitVec 64

/-- PROGRESS of JOB_STATUS (R443 gives its unit only): by the counter of free values. -/
opaque jobProgress : Nat → BitVec 16

/-- The parts of a Block's sections, in kind order, that the spec does not delimit or lay out (R490, log entry 5): whatever they are, they
are the sections' own bytes. -/
opaque blockParts : List (List Byte) → BlockImg

/-- The same of a Hood's bytes (R305). -/
opaque hoodParts : List Byte → HoodImg

/-- The Block FORMAT of a firmware other than 3.2 (R489). -/
opaque blockFormat : BitVec 32 → Nat

/-- A firmware can convert a Hood (R506). -/
opaque hoodConverts : BitVec 32 → Hood → Bool

end Sys2Proof.Config
end

