-- ==== Sys2Proof/Machine/Clock.lean ====
section
/-! DEFINITION. The time-sync unit (R48 to R51, R349 to R376): the clock and tick generation, steps, sources, the servo,
jump observations and refusals, estimated error, status points. An instant is in ns since the PTP epoch. -/

namespace Sys2Proof

/-- 2^32, the fraction's scale. -/
def fracOne : Nat := 4294967296
/-- Nominal TSU_INC (R350). -/
def incNom : Nat := 0x411AAAAAB
/-- Half-width of TSU_INC's range (R350). -/
def incHalf : Nat := 0x500000

/-- The clock in whole ns. -/
def Tsu.ns (t : Tsu) : Nat := t.clk / fracOne

/-- Largest grid number whose start is at or before an instant (R48). -/
def gridAt (ns : Nat) : Nat :=
  let sec := ns / 1000000000
  let k := ((ns % 1000000000 + 1) * 9600 - 1) / 1000000000
  sec * 9600 + Nat.min k 9599

/-- Main-clock cycles until the clock first reaches an instant (R48). -/
def cyclesTo (t : Tsu) (ns : Nat) : Nat := (ns * fracOne - t.clk + t.inc - 1) / t.inc

/-- Grid number of the next tick: after a stretched tick the first boundary of the new grid at least 25,590 cycles away
(R51), else the following one; the first tick after power-up is the first whose start the clock has reached or reaches. -/
def nextGrid (t : Tsu) : Nat :=
  if t.starts.isEmpty then (let g := gridAt t.ns; if gridNs g * fracOne = t.clk then g else g + 1)
  else if t.stretched then gridAt ((t.clk + 25589 * t.inc) / fracOne) + 1
  else TickId.grid t.id + 1

/-- The next tick begins (R48, R51). STAT_TICK of the first tick is 0. -/
def advanceTick (t : Tsu) : Tsu :=
  let g := nextGrid t
  let n := cyclesTo t (gridNs g)
  { t with clk := t.clk + n * t.inc, cyc := t.cyc + n, starts := ((t.cyc + n) :: t.starts).take 5
           statTick := if t.starts.isEmpty then 0 else t.statTick + 1
           id := gridId g t.gen, stretched := false, incAt := 0 }

/-- A main-clock cycle of the present tick: none after the next tick's first edge. -/
def tickCycle (t : Tsu) (n : Nat) : Nat := Nat.min n (cyclesTo t (gridNs (nextGrid t)))

/-- The clock at main-clock cycle `n` of the tick. -/
def Tsu.clkAt (t : Tsu) (n : Nat) : Nat := t.clk + tickCycle t n * t.inc

/-- TSU_INC becomes `x` from main-clock cycle `n` of the tick on (R350), no earlier than its last change. From that edge on the clock
reads as if the tick had begun at the new `clk` with the new increment (log entry 85). -/
def setInc (n x : Nat) (t : Tsu) : Tsu :=
  let m := Nat.max (tickCycle t n) t.incAt
  { t with clk := t.clk + m * t.inc - m * x, inc := x, incAt := m }

/-- The stamp of an edge of 1PPS or IRIG-B (R354): the clock at the first main-clock edge of the tick at or after it. -/
def edgeStamp (t : Tsu) (ns : Nat) : Nat := (t.clk + cyclesTo t ns * t.inc) / fracOne

/-- Fixed corrections of a port in MAC mode (R353). A 1000BASE-T module has its own; every other one has those of 1000BASE-X. -/
def TsuPort.fix (p : TsuPort) (x copper : Int) : Int := if p.mac || p.forced then (if p.copper then copper else x) else 0

/-- The instant of an event that comes at `ns`: none lies before the present tick start or before one that came earlier in the generation
(R372), so an operand that does is taken as that one. -/
def Tsu.eventAt (t : Tsu) (ns : Nat) : Nat := Nat.max ns (Nat.max t.ns t.seen)

/-- An event at `ns` has come (R372). -/
def Tsu.note (ns : Nat) (t : Tsu) : Tsu := { t with seen := t.eventAt ns }

/-- The receive stamp of a frame that the port sees at `raw` (R353); stamps of a port never decrease (R372). -/
def TsuPort.rx (p : TsuPort) (raw : Nat) : Nat := Nat.max ((raw : Int) + p.fix (-112) (-344) + p.corr).toNat p.last
/-- The transmit stamp of an event message. -/
def TsuPort.tx (p : TsuPort) (raw : Nat) : Nat := Nat.max ((raw : Int) + p.fix 96 232 - p.corr).toNat p.sent

/-- A port has taken a receive stamp. -/
def Tsu.rxNote (port stamp : Nat) (t : Tsu) : Tsu := { t with ports := t.ports.modify port (fun p => { p with last := stamp }) }
/-- A port has taken a transmit stamp. -/
def Tsu.txNote (port stamp : Nat) (t : Tsu) : Tsu := { t with ports := t.ports.modify port (fun p => { p with sent := stamp }) }

/-- The record of an applied step (R475, kind 0x0021). -/
def stepEvent (clkBefore clkAfter : Nat) (genBefore genAfter : BitVec 16) : EvRec :=
  let b := clkBefore / fracOne
  let a := clkAfter / fracOne
  { kind := 0x21, value := a / 1000000000, old := b / 1000000000
    arg := BitVec.ofNat 128 ((a % 1000000000) + 2 ^ 32 * (b % 1000000000) + 2 ^ 64 * genAfter.toNat + 2 ^ 80 * genBefore.toNat) }

/-- Holdover growth after `dt` ns (R362): 100 ns/s for 1,000 s, then 2 µs/s. -/
def growth (dt : Nat) : Nat :=
  let a := Nat.min dt 1000000000000
  (a * 100 + (dt - a) * 2000) / 1000000000

/-- H of R365: growth since the clock was last locked. -/
def jumpH (t : Tsu) : Nat :=
  if t.st = 2 then 0 else match t.leftAt with | some x => growth (t.ns - x) | none => 0

/-- Mean TSU_INC of the last 60 s locked, from one value a second (log entry 24). -/
def meanInc (t : Tsu) : Nat :=
  if t.incHist.isEmpty then t.inc else (t.incHist.foldl (· + ·) 0 + t.incHist.length / 2) / t.incHist.length

/-- Leaving STATE 2: INC_REF becomes the holdover increment and I is 0. -/
def leaveLocked (t : Tsu) : Tsu :=
  if t.st = 2 then { t with refInc := meanInc t, integ := 0, leftAt := some t.ns } else t

/-- The instants of a master's Announces, moved. -/
def PtpMaster.shift (m : Nat → Nat) (p : PtpMaster) : PtpMaster :=
  { p with lastT := m p.lastT, lastA := p.lastA.map m, lastB := p.lastB.map m }

/-- A step of the clock by `d` ns moves no elapsed time of the TSU (log entry 93); the offsets measured before it count no more, and
the stamps of the ports begin a new generation (R372). -/
def Tsu.shift (d : Int) (t : Tsu) : Tsu :=
  let m (x : Nat) : Nat := ((x : Int) + d).toNat
  { t with
    qualSince := t.qualSince.map m, leftAt := t.leftAt.map m, holdAt := t.holdAt.map m, divT := t.divT.map m
    heard := t.heard.map (fun l => l.map (PtpMaster.shift m)), masters := t.masters.map (PtpMaster.shift m)
    irigT := m t.irigT, irigOfs := none, ppsLast := t.ppsLast.map m, ppsOfs := none, monOfs := none, seen := 0
    ports := t.ports.map (fun p : TsuPort => { p with last := 0, sent := 0 }) }

/-- Add a step of `ns` to the clock, increment the generation, set STEP_DONE and stretch the tick (R352). It ends a refusal (R368). -/
def stepClock (ns : Int) (t : Tsu) : Tsu × List EvRec :=
  let clk := ((t.clk : Int) + ns * (fracOne : Int)).toNat
  let t := (leaveLocked t).shift ns
  ({ t with clk := clk, gen := t.gen + 1, done := true, stretched := true, applied := t.applied + 1, pend := none, disq := []
            jumps := [], withinT := none, st := if t.st = 4 || t.st = 2 then (if t.src = 0 then 3 else 1) else t.st },
   [stepEvent t.clk clk t.gen (t.gen + 1)])

/-- The step in the step registers, in ns. -/
def Tsu.stepNs (t : Tsu) : Int := t.stepSec * 1000000000 + t.stepNsec

/-- CLOCK_STEP_APPLY (R352): the armed step when STAT_TICK has reached TSU_STEP_AT. -/
def stepDue (t : Tsu) : Bool := t.run && t.arm && t.statTick == t.stepAt
/-- See `stepDue`. -/
def applyArmed (t : Tsu) : Tsu × List EvRec :=
  if stepDue t then
    let (u, e) := stepClock t.stepNs t
    ({ u with arm := false, secSet := true, secGlobal := false }, e)
  else (t, [])

/-! ### Registers (R350, R351) -/

/-- A write to TSU_INC that counts from main-clock cycle `n` of the tick on. -/
def writeInc (v : BitVec 64) (n : Nat) (t : Tsu) : Tsu :=
  let x := v.toNat % 2 ^ 40
  if incNom - incHalf ≤ x ∧ x ≤ incNom + incHalf then setInc n x t else { t with incRej := true }

/-- A read of TSU_SEC at main-clock cycle `n` of the tick latches NSEC and FRAC. -/
def readSec (n : Nat) (t : Tsu) : Tsu :=
  let c := t.clkAt n
  { t with mpRead := BitVec.ofNat 64 (c / fracOne / 1000000000), latNsec := BitVec.ofNat 32 (c / fracOne % 1000000000)
           latFrac := BitVec.ofNat 32 (c % fracOne) }

/-- Write 1 to clear STEP_DONE and INC_REJ. -/
def clearCtrl (v : BitVec 32) (t : Tsu) : Tsu :=
  { t with done := t.done && !v.getLsbD 1, incRej := t.incRej && !v.getLsbD 2 }

/-- A write to a TSU register (R351), at the start of the tick; read-only ones and reserved addresses ignore it. -/
def writeTsu (role : Nat) (addr : Nat) (v : BitVec 64) (t : Tsu) : Tsu :=
  if addr = 0x10 then writeInc v 0 t
  else if addr = 0x20 then { t with stepSec := v.toInt }
  else if addr = 0x28 then
    (let x := (v.setWidth 32 : BitVec 32).toInt
     if -999999999 ≤ x ∧ x ≤ 999999999 then { t with stepNsec := x } else t)
  else if addr = 0x30 then { t with stepAt := v.toNat }
  else if addr = 0x38 then (if role = 0 || role = 5 then { t with gen := v.setWidth 16 } else t)
  else if addr = 0x40 then { clearCtrl (v.setWidth 32) t with arm := v.getLsbD 0, ppsEn := v.getLsbD 3, irigEn := v.getLsbD 4 }
  else if addr = 0x50 || addr = 0x54 || addr = 0x58 || addr = 0x5C then
    { t with ports := t.ports.modify ((addr - 0x50) / 4) (fun p =>
        { p with mac := v.getLsbD 0, corr := ((v >>> 16).setWidth 16 : BitVec 16).toInt }) }
  else t

/-! ### Sources (R355 to R360) -/

/-- Inaccuracy of a source's code by its time quality (R362); `none` where the source does not qualify. -/
def irigInacc (c : TimeCfg) (tq : Nat) : Option Nat :=
  if !c.irigExt then some 1000
  else if tq = 0 then some 100
  else if 1 ≤ tq ∧ tq ≤ 0xB then some (10 ^ (tq - 1))
  else none

/-- Announce timeout: 3 s (log entry 23). -/
def announceTimeout : Nat := 3000000000
/-- Two Announces of a master within this span let it be chosen: 4 s (log entry 23). -/
def announceWindow : Nat := 4000000000

/-- The first difference decides. -/
def lexLt : List Nat → List Nat → Bool
  | a :: as, b :: bs => decide (a < b) || (a == b && lexLt as bs)
  | _, _ => false

/-- The data set comparison of the best master clock algorithm (R355, log entry 23): grandmasters by priority1, class, accuracy,
variance, priority2 and identity; of one grandmaster the fewer steps, then the sender. -/
def Announce.better (a b : Announce) : Bool :=
  if a.clockId == b.clockId then lexLt [a.stepsRemoved, a.sender.toNat, a.portNo] [b.stepsRemoved, b.sender.toNat, b.portNo]
  else lexLt [a.prio1, a.clockClass, a.accuracy, a.variance, a.prio2, a.clockId.toNat] [b.prio1, b.clockClass, b.accuracy, b.variance, b.prio2, b.clockId.toNat]

/-- The master chosen of those heard. -/
def pickMaster (l : List PtpMaster) : PtpMaster :=
  (l.filter (·.ready)).foldl (fun x m => if !x.known || m.ann.better x.ann then m else x) {}

/-- Masters whose Announces have timed out are forgotten, and the choice is made anew. -/
def masterStep (t : Tsu) : Tsu :=
  let h := t.heard.map (fun l => l.filter (fun m : PtpMaster => decide (t.ns < m.lastT + (if m.ready then announceTimeout else announceWindow))))
  { t with heard := h, masters := h.map pickMaster }

/-- The master of the pair that carries a source. -/
def Tsu.master (t : Tsu) (src : Nat) : PtpMaster := at! t.masters (src - 1)

/-- The chosen PTP master that gives UTC_OFS and the leap second (R359): that of the source in use, else of the first PTP source listed
that has one. -/
def timeMaster (c : TimeCfg) (t : Tsu) : PtpMaster :=
  if (t.src = 1 || t.src = 2) && (t.master t.src).known then t.master t.src
  else match c.src.find? (fun s => (s == 1 || s == 2) && (t.master s).known) with
    | some s => t.master s
    | none => {}

/-- The LAN on which a master is received (R356): LAN A when both receive it, but for a LAN left under R367. -/
def lanOf (t : Tsu) (m : PtpMaster) : Bool :=
  let on (x : Option Nat) : Bool := match x with | some n => decide (t.ns < n + announceTimeout) | none => false
  if on m.lastA && on m.lastB then t.avoid == some false else if on m.lastA || on m.lastB then on m.lastB else t.lanB

/-- The port of the source in use follows its master from LAN to LAN (R356). -/
def lanStep (t : Tsu) : Tsu :=
  let b := if t.src = 1 || t.src = 2 then lanOf t (t.master t.src) else false
  if b = t.lanB then t else { t with lanB := b, jumps := [], monOfs := none }

/-- Whether a source qualifies now (R357, R358, R360). Sources: 1 PTP station, 2 PTP process, 3 IRIG-B, 4 1PPS. -/
def qualifies (c : TimeCfg) (t : Tsu) (src : Nat) : Bool :=
  if src = 1 || src = 2 then
    let m := t.master src
    m.known && decide (m.ann.clockClass ≤ c.classMax) && decide (t.ns < m.lastT + announceTimeout)
  else if src = 3 then
    decide (3 ≤ t.irigN) && (irigInacc c t.irigTq).isSome && decide (t.ns < t.irigT + 2000000000)
  else if src = 4 then
    decide (3 ≤ t.ppsN) && t.secSet && (match t.ppsLast with | some p => decide (t.ns < p + 2000000000) | none => false)
  else false

/-- Inaccuracy of the source in use (R355, R362); `none`: unknown. -/
def srcInacc (c : TimeCfg) (t : Tsu) : Option Nat :=
  if t.src = 1 || t.src = 2 then
    let a := (t.master t.src).ann
    some (if c.profile = 0 then 250 * (a.stepsRemoved + 1) else if c.profile = 1 then a.inaccuracy.getD 1000 else 1000)
  else if t.src = 3 then irigInacc c t.irigTq
  else if t.src = 4 then some 100
  else if t.src = 5 then t.partnerErr.map (· + 10)
  else some 0

/-- Stamp uncertainty (R353, R354): ±8 ns at the medium, ±40 ns at the media access layer, ±4.07 ns for the edges. -/
def stampUnc (t : Tsu) : Nat :=
  if t.src = 1 || t.src = 2 then
    let p := at! t.ports ((if t.src = 1 then 2 else 0) + boolNat t.lanB)
    if p.mac || p.forced then 40 else 8
  else if t.src = 3 || t.src = 4 then 5
  else 0

/-- An Announce of the master that gives UTC_OFS and the leap second (R359). -/
def takeUtc (c : TimeCfg) (a : Announce) (t : Tsu) : Tsu :=
  let m := timeMaster c t
  if m.known && m.ann.sender == a.sender && m.ann.portNo == a.portNo then
    { t with utcOfs := a.utcOffset.or t.utcOfs, lsp := a.leap61 || a.leap59, lsdel := a.leap59 }
  else t

/-- An Announce arrives on a LAN of a pair (R355, R360). One that has come 255 steps or more gives no master. -/
def announceReceive (c : TimeCfg) (src : Nat) (lanB : Bool) (a : Announce) (t : Tsu) : Tsu :=
  if 255 ≤ a.stepsRemoved then t
  else
    let same (m : PtpMaster) : Bool := m.ann.sender == a.sender && m.ann.portNo == a.portNo
    let l := at! t.heard (src - 1)
    let old := (l.find? same).getD {}
    let again := match (if lanB then old.lastB else old.lastA) with | some x => decide (t.ns < x + announceWindow) | none => false
    let m : PtpMaster :=
      { known := true, ann := a, ready := old.ready || again, lastT := t.ns
        lastA := if lanB then old.lastA else some t.ns, lastB := if lanB then some t.ns else old.lastB }
    takeUtc c a (masterStep { t with heard := t.heard.set (src - 1) (m :: l.filter (fun x => !same x)) })

/-- A PTP message arrives (R355). -/
def ptpReceive (c : TimeCfg) (src : Nat) (lanB : Bool) (m : PtpMsg) (t : Tsu) : Tsu :=
  if m.domain ≠ c.domain then t
  else match m.kind with
    | .announce a => announceReceive c src lanB a t
    | .delay d => { t with pathDelay := d }
    | .pdelayReq _ => t
    | .other => t

/-- A Pdelay_Req is answered in the profiles with the peer delay mechanism (R355): the instant at which the answer leaves. -/
def pdelayAnswer (c : TimeCfg) (m : PtpMsg) : Option Nat :=
  match m.kind with
  | .pdelayReq a => if m.domain = c.domain && decide (c.profile ≤ 1) then some a else none
  | _ => none

/-! ### IRIG-B (R357): the places of the fields in a frame are those of IRIG Standard 200 and IEEE C37.118.1 (log entry 121) -/

/-- `w` elements from element `p` on, the first the least significant. -/
def IrigFrame.get (f : IrigFrame) (p w : Nat) : Nat := (f.bits >>> p).toNat % 2 ^ w

/-- Seconds of the day as the BCD fields have them. -/
def IrigFrame.secOfDay (f : IrigFrame) : Nat :=
  (f.get 20 4 + 10 * f.get 25 2) * 3600 + (f.get 10 4 + 10 * f.get 15 3) * 60 + (f.get 1 4 + 10 * f.get 6 3)

/-- Day of the year, from 1. -/
def IrigFrame.day (f : IrigFrame) : Nat := f.get 30 4 + 10 * f.get 35 4 + 100 * f.get 40 2

/-- Year of the century. -/
def IrigFrame.year (f : IrigFrame) : Nat := f.get 50 4 + 10 * f.get 55 4

/-- The frame is of a supported format, its BCD fields are digits in their ranges and agree with SBS where it is present. -/
def IrigFrame.coded (f : IrigFrame) : Bool :=
  (f.fmt == 4 || f.fmt == 6 || f.fmt == 7) &&
  [(1, 4), (10, 4), (20, 4), (30, 4), (35, 4), (50, 4), (55, 4)].all (fun e => decide (f.get e.1 e.2 ≤ 9)) &&
  decide (f.get 1 4 + 10 * f.get 6 3 ≤ 60) && decide (f.get 10 4 + 10 * f.get 15 3 ≤ 59) && decide (f.get 20 4 + 10 * f.get 25 2 ≤ 23) &&
  decide (1 ≤ f.day) && decide (f.day ≤ (if f.year % 4 = 0 then 366 else 365)) &&
  (f.fmt == 6 || f.get 80 9 + 512 * f.get 90 8 == f.secOfDay)

/-- The coded time in seconds since 1970, of the years 2000 to 2099; second 60 counts as 59, as the UTC offset has then changed. -/
def IrigFrame.time (f : IrigFrame) : Nat :=
  (10957 + 365 * f.year + (f.year + 3) / 4 + f.day - 1) * 86400 + f.secOfDay - (if f.get 1 4 + 10 * f.get 6 3 = 60 then 1 else 0)

/-- Local time offset in seconds: UTC is the coded time plus it. -/
def IrigFrame.localOfs (f : IrigFrame) : Int :=
  let x : Int := f.get 65 4 * 3600 + f.get 70 1 * 1800
  if f.get 64 1 = 1 then -x else x

/-- The parity over elements 1 to 75. -/
def IrigFrame.parityOk (f : IrigFrame) : Bool :=
  (((List.range 75).filter (fun i => f.bits.getLsbD (i + 1))).length % 2 == 1) == Config.irigOddParity

/-- The frame's time as TAI (R359): local time where the extensions give its offset, plus UTC_OFS. -/
def irigTai (c : TimeCfg) (f : IrigFrame) (t : Tsu) : Int :=
  (f.time : Int) + (if c.irigExt then f.localOfs else 0) + t.utcOfs.getD c.utcDef

/-- IRIG_FRAME (R357): a frame is valid when its fields and, with the extensions, its parity are right and its time is 1 s after that
of the right frame before it; the first is none's successor (log entry 23). A valid one gives the offset of the clock at Pr. -/
def irigReceive (c : TimeCfg) (f : IrigFrame) (t : Tsu) : Tsu :=
  if !t.irigEn then t
  else if !(f.coded && (f.parityOk || !c.irigExt)) then { t with irigN := 0, irigOfs := none }
  else
    let tai := irigTai c f t
    let valid := t.irigLast == some (tai.toNat - 1) && decide (0 < tai)
    let x : Int := edgeStamp t f.edge - c.irigDly
    let t := if valid then { t with irigN := t.irigN + 1, irigT := t.ns, irigOfs := some (x - tai * 1000000000) }
      else { t with irigN := 0, irigOfs := none }
    let t := { t with irigLast := some tai.toNat, irigTq := if c.irigExt then f.get 71 4 else t.irigTq }
    if valid && c.irigExt && !(timeMaster c t).known then { t with lsp := f.get 60 1 == 1, lsdel := f.get 61 1 == 1 } else t

/-- PPS_EDGE (R354, R358): stamped, less its cable delay, and taken as the nearest whole second of the clock. -/
def ppsReceive (c : TimeCfg) (instant : Nat) (t : Tsu) : Tsu :=
  if !t.ppsEn then t else
  let x := edgeStamp t instant - c.ppsDly
  let ok := match t.ppsLast with
    | some p => decide (p + 999999000 ≤ x) && decide (x ≤ p + 1000001000)
    | none => false
  let r : Int := x % 1000000000
  { t with ppsN := if ok then t.ppsN + 1 else 1, ppsLast := some x, ppsOfs := some (if 2 * r ≤ 1000000000 then r else r - 1000000000) }

/-! ### State changes (R361) -/

/-- EST_ERR at this instant (R362); `none`: unknown. -/
def estNow (t : Tsu) : Option Nat :=
  if t.st = 0 then none
  else if t.st = 3 || t.st = 4 then t.entryErr.map (· + growth (t.ns - t.holdAt.getD t.ns))
  else t.estErr

/-- HOLDOVER_ENTRY (R361): no source qualifies; TSU_INC is frozen at the mean of the last 60 s locked. -/
def holdoverGo (st : Nat) (t : Tsu) : Tsu :=
  if t.st = 0 then { t with src := 0, st := if st = 4 then 4 else 0, holdAt := some t.ns } else
  let e := estNow t
  let u := leaveLocked t
  setInc 0 u.refInc { u with st := st, src := 0, integ := 0, holdAt := some t.ns, entryErr := e, withinT := none, monOfs := none
                             jumps := [], estErr := e }

/-- A source is disqualified until its refusal ends (R365). -/
def refusedSrc (t : Tsu) (s : Nat) : Bool := t.disq.any (fun e => e.1 == s)

/-- The source to follow (R360): the one in use while it qualifies, unless a preferred one has qualified for HOLDOFF. -/
def pickSource (c : TimeCfg) (t : Tsu) : Nat :=
  let ok (s : Nat) : Bool := s != 0 && at! t.qual s
  match c.src.find? ok with
  | none => 0
  | some best =>
    if ok t.src && c.src.contains t.src then
      (c.src.find? (fun s => s == t.src || (ok s && decide (at! t.qualSince s + c.holdoff * 1000000000 ≤ t.ns)))).getD t.src
    else best

/-- Follow a source: STATE becomes Acquiring from Free or Holdover; I is 0 when the source changes. -/
def followSource (s : Nat) (t : Tsu) : Tsu :=
  if s = t.src then t
  else { t with src := s, integ := 0, jumps := [], monOfs := none, withinT := if t.st = 2 then t.withinT else none
                lanB := if s = 1 || s = 2 then lanOf t (t.master s) else false
                st := if t.st = 2 then 2 else if t.st = 4 then 4 else 1, estErr := estNow t }

/-- SOURCE_SWITCH and HOLDOVER_ENTRY (R360, R361). In roles 2 and 5 the partner is followed (R370). While a refusal is open a source
stays in use while it qualifies, and another is followed only once its offset is found within the threshold (R366). -/
def sourceStep (c : TimeCfg) (role : Nat) (t : Tsu) : Tsu :=
  if role = 2 || role = 5 then
    (if refusedSrc t 5 then (if t.src = 0 then t else holdoverGo 4 t) else if t.st = 4 then t else followSource 5 t)
  else if !t.disq.isEmpty then (if t.src = 0 || at! t.qual t.src then t else holdoverGo 4 t)
  else
    let s := pickSource c t
    if s = 0 then (if t.src = 0 then t else holdoverGo 3 t) else followSource s t

/-- Update what qualifies (R360); a source refused does not (R365). -/
def qualStep (c : TimeCfg) (t : Tsu) : Tsu :=
  let q := (List.range 5).map (fun s => s != 0 && c.src.contains s && qualifies c t s && !refusedSrc t s)
  { t with qual := q, qualSince := mapI (fun s b => if b && !at! t.qual s then t.ns else at! t.qualSince s) q }

/-- TSU_LOCK (R361): the offset has stayed within 1 µs for 10 s. -/
def lockStep (t : Tsu) : Tsu :=
  match t.withinT with
  | some w =>
    if t.st = 1 && t.src ≠ 0 && decide (w + 10000000000 ≤ t.ns) then
      { t with st := 2, everLocked := true, incHist := [t.inc] }
    else t
  | none => t

/-- Clamp. -/
def clampI (lo hi x : Int) : Int := if x < lo then lo else if x > hi then hi else x

/-- The servo's two steps at one measurement (R361), whose write of TSU_INC counts from cycle `n` of the tick on; I and c in 2^-20 ppb, Δ
in 1/1024 s (log entry 24). -/
def servo (c : TimeCfg) (o : Int) (interval n : Nat) (t : Tsu) : Tsu :=
  let lim : Int := (c.slew : Int) * 1048576
  let d : Int := ((if interval = 0 then 1 else interval : Nat) : Int)
  let i := clampI (-lim) lim (t.integ + o * 16 * 1048576 / d)
  let cc := clampI (-lim) lim (i + o * 128 * 1048576 / d)
  let den : Int := 1000000000 * 1048576
  let num : Int := (t.refInc : Int) * (den - cc)
  let v := (2 * num + den) / (2 * den)
  setInc n (clampI ((incNom - incHalf : Nat) : Int) ((incNom + incHalf : Nat) : Int) v).toNat { t with integ := i }

/-- The source in use counts as global (R363). -/
def srcGlobal (c : TimeCfg) (role : Nat) (t : Tsu) : Bool :=
  if t.src = 1 || t.src = 2 then (let a := (t.master t.src).ann; (a.clockClass == 6 || a.clockClass == 7) && a.traceable)
  else if t.src = 3 then c.irigExt && t.irigTq == 0
  else if t.src = 4 then t.secGlobal
  else if t.src = 5 then (role == 2 || role == 5) && t.partnerGlobal
  else false

/-- The TSU reports a global source within its stated accuracy (R363). -/
def tsuGlobal (c : TimeCfg) (role : Nat) (t : Tsu) : Bool :=
  t.st == 2 && srcGlobal c role t && (match estNow t with | some e => decide (e ≤ c.accLim) | none => false)

/-- The monitored LAN was measured with the used one: at most half an interval ago (log entry 122). -/
def monFresh (m : Measurement) (t : Tsu) : Option Int :=
  match t.monOfs with
  | some (o, x) => if t.ns * 2048 ≤ x * 2048 + m.interval * 1000000000 then some o else none
  | none => none

/-- The two LANs agree again (R367). -/
def lanAgree (c : TimeCfg) (o o' : Int) (t : Tsu) : Tsu :=
  if (o - o').natAbs ≤ c.jump then { t with asym := false, avoid := none } else t

/-- A measurement within the threshold: the servo acts and the lock condition is followed. -/
def goodMeasure (c : TimeCfg) (role : Nat) (m : Measurement) (t : Tsu) : Tsu :=
  let t := servo c m.offset m.interval m.cycle { t with jumps := [] }
  let within := decide (m.offset.natAbs ≤ 1000)
  let t := if t.st = 2 && !within then { leaveLocked t with st := 1 } else t
  let t := { t with lastOfs := m.offset, withinT := if within then (match t.withinT with | some w => some w | none => some t.ns) else none
                    secSet := t.secSet || m.src != 4
                    secGlobal := if m.src = 4 then t.secGlobal else srcGlobal c role t
                    estErr := (srcInacc c t).map (fun x => m.offset.natAbs + stampUnc t + x) }
  lockStep (match monFresh m t with | some o => lanAgree c o m.offset t | none => t)

/-- The TSU moves to the other LAN (R367): `used` and `mon` are the offsets of the two. -/
def lanMove (used mon : Int) (t : Tsu) : Tsu :=
  { t with lanB := !t.lanB, avoid := some t.lanB, asym := true, asymDiff := used - mon, jumps := [], lastOfs := mon, monOfs := some (used, t.ns) }

/-- A jump observation of the source in use with the run before it: JUMP_N of one sign within JUMP of one another are a step, which is
refused (R365). -/
def jumpNote (c : TimeCfg) (m : Measurement) (t : Tsu) : Tsu × List EvRec :=
  let like (x : Int) : Bool := decide ((x > 0) = (m.offset > 0)) && decide ((x - m.offset).natAbs ≤ c.jump)
  let js := (t.jumps.reverse.takeWhile like).reverse ++ [m.offset]
  let t := { t with jumps := js, lastOfs := m.offset, withinT := none }
  if js.length < c.jumpN then (t, [])
  else
    let mean := F.rndDiv (js.foldl (· + ·) 0) js.length
    ({ holdoverGo 4 t with pend := some (-mean), disq := t.disq.filter (fun e => e.1 != t.src) ++ [(t.src, 0)], refused := t.refused + 1 },
     [{ kind := 0x20, subject := t.src, value := (BitVec.ofInt 64 (-mean)).toNat }])

/-- A jump observation of the source in use (R365); with the other LAN within JUMP the TSU moves there (R367). -/
def jumpMeasure (c : TimeCfg) (m : Measurement) (t : Tsu) : Tsu × List EvRec :=
  match monFresh m t with
  | some o => if o.natAbs ≤ c.jump then (lanMove m.offset o t, []) else jumpNote c m t
  | none => jumpNote c m t

/-- A measurement on the LAN that the source in use only monitors (R356, R367). -/
def monitorMeasure (c : TimeCfg) (m : Measurement) (t : Tsu) : Tsu :=
  let u := { t with monOfs := some (m.offset, t.ns) }
  if !t.jumps.isEmpty then (if m.offset.natAbs ≤ c.jump then lanMove t.lastOfs m.offset u else u)
  else if m.offset.natAbs > c.jump + jumpH t && t.lastOfs.natAbs ≤ c.jump then { u with asym := true, asymDiff := t.lastOfs - m.offset }
  else lanAgree c t.lastOfs m.offset u

/-- The offset of a refused source (R366): JUMP_N consecutive ones within the threshold end its refusal. -/
def returnMeasure (c : TimeCfg) (m : Measurement) (within : Bool) (t : Tsu) : Tsu :=
  let rest := t.disq.filter (fun e => e.1 != m.src)
  let n := if within then (t.disq.find? (fun e => e.1 == m.src)).elim 0 (·.2) + 1 else 0
  if n < c.jumpN then { t with disq := rest ++ [(m.src, n)] }
  else if rest.isEmpty then { t with disq := [], pend := none, st := if t.st = 4 then 3 else t.st }
  else { t with disq := rest }

/-- While a refusal is open, a source may be followed whose offset lies within the threshold (R366): any that qualifies where none is in
use, else the one that R360 takes; in roles 2 and 5 the partner. -/
def mayFollow (c : TimeCfg) (role src : Nat) (t : Tsu) : Bool :=
  if role = 2 || role = 5 then src == 5 && t.st == 4
  else !t.disq.isEmpty && at! t.qual src && (t.src == 0 || pickSource c t == src)

/-- The check of a source that is not followed: the return of a refused one (R366), another one during a refusal, and, against the
partner, the own listed source that would be followed (R370). -/
def otherMeasure (c : TimeCfg) (role : Nat) (m : Measurement) (t : Tsu) : Tsu :=
  let within := decide (m.offset.natAbs ≤ c.jump + jumpH t)
  if refusedSrc t m.src then returnMeasure c m within t
  else if within && mayFollow c role m.src t then goodMeasure c role m { followSource m.src t with st := 1 }
  else if t.src = 5 && c.src.find? (fun s => s != 0 && at! t.qual s) == some m.src then
    match t.pOfs with
    | some p =>
      let bad := decide ((m.offset - p).natAbs > 1000)
      { t with divT := if bad then (match t.divT with | some x => some x | none => some t.ns) else none
               diverged := t.diverged && bad }
    | none => t
  else t

/-- The Sync intervals that a profile accepts, in 1/1024 s (R355): 2^−4 to 2^1 s, in profile 2 to 2^4 s. -/
def syncInterval (c : TimeCfg) (n : Nat) : Bool :=
  [64, 128, 256, 512, 1024, 2048].contains n || (c.profile == 2 && [4096, 8192, 16384].contains n)

/-- A measurement as the servo takes it: of IRIG-B and 1PPS the offset of the last valid frame or edge, of these and of the partner with
an interval of 1 s; of PTP one whose interval the profile accepts. -/
def takeMeasure (c : TimeCfg) (m : Measurement) (t : Tsu) : Option Measurement :=
  if m.src = 3 then t.irigOfs.map (fun o => { m with offset := o, interval := 1024 })
  else if m.src = 4 then t.ppsOfs.map (fun o => { m with offset := o, interval := 1024 })
  else if m.src = 5 then some { m with interval := 1024 }
  else if (m.src = 1 || m.src = 2) && syncInterval c m.interval then some m
  else none

/-- A frame or an edge is measured once; the partner's figures come with its offset (R370). -/
def noteMeasure (m : Measurement) (t : Tsu) : Tsu :=
  if m.src = 3 then { t with irigOfs := none }
  else if m.src = 4 then { t with ppsOfs := none }
  else if m.src = 5 then { t with partnerErr := m.partnerErr, partnerGlobal := m.partnerGlobal, pOfs := some m.offset }
  else t

/-- SERVO_MEASUREMENT (R361, R365 to R367, R370). -/
def measure (c : TimeCfg) (role : Nat) (m0 : Measurement) (t0 : Tsu) : Tsu × List EvRec :=
  if !t0.run then (t0, [])
  else match takeMeasure c m0 t0 with
    | none => (t0, [])
    | some m =>
      let t := noteMeasure m t0
      if m.src = t.src then
        if m.src ≤ 2 && m.lanB != t.lanB then (monitorMeasure c m t, [])
        else if m.offset.natAbs > c.jump + jumpH t then jumpMeasure c m t
        else (goodMeasure c role m t, [])
      else if m.src ≤ 2 && m.lanB != lanOf t (t.master m.src) then (t, [])
      else (otherMeasure c role m t, [])

/-- PAIR_TIME_DIVERGENCE (R370): a disagreement of more than 1 µs for 10 s. -/
def divergeStep (t : Tsu) : Tsu :=
  match t.divT with
  | some x => if t.src = 5 && decide (x + 10000000000 ≤ t.ns) then { t with diverged := true } else t
  | none => t

/-- INIT_WAIT_EXPIRY (R369). -/
def initExpire (c : TimeCfg) (t : Tsu) : Tsu :=
  if t.initOpen && decide (t.loadTick + c.initWait ≤ t.statTick) then { t with initOpen := false } else t

/-- INITIAL_ALIGNMENT (R369): one step to the first listed source that qualifies, in role 0 within INIT_WAIT. -/
def initAlign (c : TimeCfg) (role src : Nat) (offset : Int) (t : Tsu) : Tsu × List EvRec :=
  match takeMeasure c { src := src, offset := offset } t with
  | some m =>
    if t.initOpen && role == 0 && c.initStep && c.src.find? (fun s => qualifies c t s) == some src then
      let (u, e) := stepClock (-m.offset) t
      ({ u with initOpen := false, initDone := true, secSet := true, secGlobal := srcGlobal c role { t with src := src } }, e)
    else (t, [])
  | none => (t, [])

/-- PARTNER_ALIGNMENT (R370): in role 5, one step when the offset exceeds JUMP, then the partner's generation. -/
def partnerAlign (c : TimeCfg) (role : Nat) (offset : Int) (gen : BitVec 16) (t : Tsu) : Tsu × List EvRec :=
  if role ≠ 5 then (t, [])
  else if offset.natAbs > c.jump then
    let (u, e) := stepClock (-offset) t
    ({ u with gen := gen, secSet := true, secGlobal := t.partnerGlobal }, e)
  else ({ t with gen := gen }, [])

/-- UTC_OFS in force (R359). -/
def utcOf (c : TimeCfg) (t : Tsu) : Nat := t.utcOfs.getD c.utcDef

/-- UTC_OFS as it stood at the tick with grid number `g` (R359): `utcH` holds its changes, newest first. -/
def utcAt (c : TimeCfg) (t : Tsu) (g : Nat) : Nat :=
  match t.utcH.find? (fun e => decide (e.1 ≤ g)) with
  | some e => e.2
  | none => (t.utcH.getLast?.map (·.2)).getD (utcOf c t)

/-- A change of UTC_OFS is noted with the tick that sees it. -/
def utcNote (c : TimeCfg) (t : Tsu) : Tsu :=
  if t.utcH.head?.map (·.2) = some (utcOf c t) then t else { t with utcH := ((TickId.grid t.id, utcOf c t) :: t.utcH).take 16 }

/-- The pending leap second falls now (R359). -/
def leapDue (c : TimeCfg) (t : Tsu) : Bool :=
  t.lsp && ((t.id.sec - utcOf c t) % 86400 == (if t.lsdel then 86399 else 0))

/-- LEAP_SECOND (R359): UTC_OFS changes and the clock runs on. -/
def leapStep (c : TimeCfg) (t : Tsu) : Tsu :=
  if leapDue c t then
    { t with utcOfs := some (if t.lsdel then utcOf c t - 1 else utcOf c t + 1), lsp := false, leapAt := some (TickId.grid t.id, t.lsdel) }
  else t

/-- The TSU's own work at a tick: masters, qualification, source choice and LAN, lock, one INC a second, leap second, divergence, and in
roles 2 and 5 the offset to the partner's clock, measured once per tick (R356, R360, R361, R370). -/
def tsuTick (c : TimeCfg) (role : Nat) (partner : Option (Int × Option Nat × Bool)) (t0 : Tsu) : Tsu × List EvRec :=
  let t := lanStep (sourceStep c role (qualStep c (masterStep t0)))
  let r := match partner with
    | some (o, e, g) =>
      if role = 2 || role = 5 then measure c role { src := 5, offset := o, partnerErr := e, partnerGlobal := g } t else (t, [])
    | none => ({ t with pOfs := none }, [])
  let t := lockStep r.1
  let t := if t.st = 2 && t.id.k = 0 then { t with incHist := (t.inc :: t.incHist).take 60 } else t
  (divergeStep (if t.id.k = 0 then leapStep c t else t), r.2)

/-! ### Status (R364, R376) -/

/-- FRACSEC code (R364). -/
def fracsecCode (glob : Bool) (e : Option Nat) : Nat :=
  if glob then 0 else
  match e with
  | none => 0xF
  | some e =>
    if e ≤ 100 then 3 else if e ≤ 1000 then 4 else if e ≤ 10000 then 5 else if e ≤ 100000 then 6
    else if e ≤ 1000000 then 7 else if e ≤ 10000000 then 8 else if e ≤ 100000000 then 9
    else if e ≤ 1000000000 then 0xA else if e ≤ 10000000000 then 0xB else 0xF

/-- STAT bits [8:6] (R364). -/
def statTq (e : Option Nat) : Nat :=
  match e with
  | none => 7
  | some e =>
    if e ≤ 100 then 1 else if e ≤ 1000 then 2 else if e ≤ 10000 then 3 else if e ≤ 100000 then 4
    else if e ≤ 1000000 then 5 else if e ≤ 10000000 then 6 else 7

/-- Time since STATE last left 2 in ns; `none` while it has not been reached. -/
def sinceLockNs (t : Tsu) : Option Nat :=
  if t.st = 2 then some 0 else t.leftAt.map (fun x => t.ns - x)

/-- The same in whole seconds. -/
def sinceLock (t : Tsu) : Option Nat := (sinceLockNs t).map (· / 1000000000)

/-- UNLOCK (R376): less than 10 s, from 10 to 100 s, more than 100 s. -/
def unlockCode (t : Tsu) : Nat :=
  if t.st = 2 then 0 else match sinceLockNs t with
    | some n => if n < 10000000000 then 1 else if n ≤ 100000000000 then 2 else 3
    | none => 3

/-- The status word (R376). -/
def tsuStatus (c : TimeCfg) (role : Nat) (t : Tsu) : Nat :=
  t.st + 8 * t.src + 64 * boolNat (tsuGlobal c role t) + 128 * boolNat t.lanB + 256 * unlockCode t
    + 1024 * fracsecCode (tsuGlobal c role t) (estNow t) + 2 ^ 14 * boolNat t.lsp + 2 ^ 15 * boolNat (t.lsp && t.lsdel)
    + 2 ^ 16 * boolNat t.initDone + 2 ^ 17 * boolNat t.asym

/-- Frequency correction against nominal in ppb (R376). -/
def freqPpb (t : Tsu) : Int := F.rndDiv (((t.inc : Int) - (incNom : Int)) * 1000000000) incNom

/-- The TSU's points (R376). -/
def tsuWrites (c : TimeCfg) (role : Nat) (t : Tsu) : List PtWrite :=
  let none64 := 2 ^ 64 - 1
  [wN 0xF1000 (tsuStatus c role t), wN 0xF1001 ((estNow t).getD none64), wI 0xF1002 t.lastOfs, wI 0xF1003 (t.pend.getD 0),
   { idx := 0xF1004, value := vInt (freqPpb t), qual := 0, typ := 4 }, wN 0xF1005 ((sinceLock t).getD none64),
   wN 0xF1006 t.gen.toNat, wN 0xF1007 (utcOf c t), wN 0xF1008 (timeMaster c t).ann.clockId.toNat,
   wN 0xF1009 t.pathDelay, wN 0xF100A t.refused, wN 0xF100B t.applied]

/-- Power-up (R41, R369, R371): the clock is loaded from the sealed-area clock, which counts as a step for the
generation. -/
def tsuPowerUp (sec : Nat) (gen : BitVec 16) (utc : Option Nat) (t : Tsu) : Tsu :=
  { run := true, clk := sec * 1000000000 * fracOne, gen := gen + 1, initOpen := true
    latNsec := 0, ports := t.ports.map (fun p => { forced := p.forced, copper := p.copper }), utcOfs := utc }

end Sys2Proof
end

