-- ==== Sys2Proof/Machine/Logic.lean ====
section
/-! DEFINITION. Logic tasks (R279 to R303): timers, edges and counters, the bit-logic instructions, the function-block
operations (log entry 8), the ranking and running of tasks in the slices, release, overrun, abandonment, completion. -/

namespace Sys2Proof

/-! ### Timers, edges and counters (R295, R296) -/

/-- Elapsed time since the previous evaluation, at most PT. -/
def tmrAdv (it : ItemState) (L pt : Nat) : Nat := Nat.min (it.et + (L - it.lp.getD L)) pt

/-- A new timer: ET is PT for TOF. -/
def newItem (p : ProgItem) : ItemState := { ident := p.ident, kind := p.kind, et := if p.kind = 2 then p.preset else 0 }

/-- TON. -/
def tonEval (pt L : Nat) (i : Bool) (it : ItemState) : Bool × ItemState :=
  let et := if i then (if it.prevIn then tmrAdv it L pt else 0) else 0
  (i && decide (et ≥ pt), { it with et := et, prevIn := i, lp := some L })

/-- TOF. -/
def tofEval (pt L : Nat) (i : Bool) (it : ItemState) : Bool × ItemState :=
  let et := if i then 0 else if it.prevIn then 0 else tmrAdv it L pt
  (i || decide (et < pt), { it with et := et, prevIn := i, lp := some L })

/-- TP. -/
def tpEval (pt L : Nat) (i : Bool) (it : ItemState) : Bool × ItemState :=
  let start := i && !it.prevIn && !it.run
  let et := if start then 0 else if it.run then tmrAdv it L pt else it.et
  let run := (it.run || start) && decide (et < pt)
  (run, { it with et := et, run := run, prevIn := i, lp := some L })

/-- Rising-edge detector. -/
def redgeEval (i : Bool) (it : ItemState) : Bool × ItemState := (i && !it.m, { it with m := i })
/-- Falling-edge detector. -/
def fedgeEval (i : Bool) (it : ItemState) : Bool × ItemState := (!i && it.m, { it with m := i })

/-- Up-counter, saturating at 2^32 − 1. -/
def ctuEval (pv : Nat) (i : Bool) (it : ItemState) : Bool × ItemState :=
  let cv := if i && !it.prevIn then Nat.min (it.cv + 1) (2 ^ 32 - 1) else it.cv
  (decide (cv ≥ pv), { it with cv := cv, prevIn := i })

/-! ### Bit logic (R297, R298) -/

/-- What a cycle sees: its input image, its release LTC, its program, and the TYPE of a point. -/
structure CycleEnv where
  img  : List ImgEntry := []
  L    : Nat := 0
  prog : Program := {}
  typ  : Nat → BitVec 8 := fun _ => 1

/-- A point as the cycle reads it: its own working copy, else its input image; a point in neither reads 0, invalid. -/
def cycRead (v : CycleEnv) (w : Work) (i : Nat) : BitVec 64 × BitVec 16 × BitVec 8 :=
  match w.outs.find? (fun o => o.1 == i) with
  | some o => (o.2.1, o.2.2, v.typ i)
  | none =>
    match v.img.find? (fun e => e.point == i) with
    | some e => (e.value, e.qual, e.typ)
    | none => (0, 1, 0)

/-- The operand of a point instruction under MOD (R298). -/
def bluOperand (v : CycleEnv) (w : Work) (m : BitVec 4) (i : Nat) : Bool :=
  let (x, q, t) := cycRead v w i
  let raw := if t = 2 then
      let d := x.toNat % 4
      match (m >>> 2).toNat with
      | 0 => d == 2
      | 1 => d == 1
      | _ => d == 0 || d == 3
    else x.getLsbD 0
  let n := if m.getLsbD 0 then !raw else raw
  if m.getLsbD 1 && qBad q then false else n

/-- Write a point of the working copy with validity good (R286). -/
def cycWrite (w : Work) (i : Nat) (x : BitVec 64) (q : BitVec 16) : Work :=
  if w.outs.any (fun o => o.1 == i) then { w with outs := w.outs.map (fun o => if o.1 = i then (i, x, q) else o) }
  else { w with outs := w.outs ++ [(i, x, q)] }

/-- One instruction is charged and the position moves on. -/
def bluTick (w : Work) : Work := { w with pc := w.pc + 1, charge := w.charge + 1 }

/-- NOP. -/
def bluOpNop (w : Work) : Work := bluTick w
/-- LD. -/
def bluOpLd (v : CycleEnv) (m : BitVec 4) (i : Nat) (w : Work) : Work := bluTick { w with acc := bluOperand v w m i }
/-- ST. -/
def bluOpSt (m : BitVec 4) (i : Nat) (w : Work) : Work :=
  bluTick (cycWrite w i (vBool (if m.getLsbD 0 then !w.acc else w.acc)) 0)
/-- AND. -/
def bluOpAnd (v : CycleEnv) (m : BitVec 4) (i : Nat) (w : Work) : Work :=
  bluTick { w with acc := w.acc && bluOperand v w m i }
/-- OR. -/
def bluOpOr (v : CycleEnv) (m : BitVec 4) (i : Nat) (w : Work) : Work :=
  bluTick { w with acc := w.acc || bluOperand v w m i }
/-- XOR. -/
def bluOpXor (v : CycleEnv) (m : BitVec 4) (i : Nat) (w : Work) : Work :=
  bluTick { w with acc := w.acc != bluOperand v w m i }
/-- SET. -/
def bluOpSet (i : Nat) (w : Work) : Work := bluTick (if w.acc then cycWrite w i (vBool true) 0 else w)
/-- RST. -/
def bluOpRst (i : Nat) (w : Work) : Work := bluTick (if w.acc then cycWrite w i (vBool false) 0 else w)
/-- LDK. -/
def bluOpLdk (i : Nat) (w : Work) : Work := bluTick { w with acc := i == 1 }
/-- LDV. -/
def bluOpLdv (v : CycleEnv) (i : Nat) (w : Work) : Work := bluTick { w with acc := qGood (cycRead v w i).2.1 }
/-- LDQ. -/
def bluOpLdq (v : CycleEnv) (i : Nat) (w : Work) : Work := bluTick { w with acc := qOk (cycRead v w i).2.1 }
/-- LDS. -/
def bluOpLds (v : CycleEnv) (i : Nat) (w : Work) : Work :=
  let q := (cycRead v w i).2.1
  bluTick { w with acc := q.getLsbD 10 || q.getLsbD 7 }
/-- ANDB: push (ACC, AND); the stack holds 16 entries and a checked program never exceeds it (R299). -/
def bluOpAndb (v : CycleEnv) (m : BitVec 4) (i : Nat) (w : Work) : Work :=
  bluTick { w with stack := ((w.acc, false) :: w.stack).take 16, acc := bluOperand v w m i }
/-- ORB: push (ACC, OR). -/
def bluOpOrb (v : CycleEnv) (m : BitVec 4) (i : Nat) (w : Work) : Work :=
  bluTick { w with stack := ((w.acc, true) :: w.stack).take 16, acc := bluOperand v w m i }
/-- CLB: pop (v, op); ACC = v op ACC. On an empty stack, which no checked program has, ACC stays. -/
def bluOpClb (w : Work) : Work :=
  bluTick (match w.stack with
    | (x, o) :: t => { w with stack := t, acc := if o then x || w.acc else x && w.acc }
    | [] => w)

/-- Evaluate a timer of the program's table by its kind. -/
def cycTimer (v : CycleEnv) (kind i : Nat) (input : Bool) (w : Work) : Bool × Work :=
  let it := at! w.timers i
  let pt := (at! v.prog.timers i).preset
  let r := if kind = 1 then tonEval pt v.L input it else if kind = 2 then tofEval pt v.L input it else tpEval pt v.L input it
  (r.1, { w with timers := setAt w.timers i r.2 })
/-- Evaluate an edge detector. -/
def cycEdge (kind i : Nat) (input : Bool) (w : Work) : Bool × Work :=
  let it := at! w.edges i
  let r := if kind = 4 then redgeEval input it else fedgeEval input it
  (r.1, { w with edges := setAt w.edges i r.2 })
/-- Evaluate an up-counter. -/
def cycCtu (v : CycleEnv) (i : Nat) (input : Bool) (w : Work) : Bool × Work :=
  let r := ctuEval (at! v.prog.counters i).preset input (at! w.counters i)
  (r.1, { w with counters := setAt w.counters i r.2 })

/-- ACC takes a block's Q. -/
def accQ (r : Bool × Work) : Work := bluTick { r.2 with acc := r.1 }
/-- TON instruction. -/
def bluOpTon (v : CycleEnv) (i : Nat) (w : Work) : Work := accQ (cycTimer v 1 i w.acc w)
/-- TOF instruction. -/
def bluOpTof (v : CycleEnv) (i : Nat) (w : Work) : Work := accQ (cycTimer v 2 i w.acc w)
/-- TP instruction. -/
def bluOpTp (v : CycleEnv) (i : Nat) (w : Work) : Work := accQ (cycTimer v 3 i w.acc w)
/-- REDGE instruction. -/
def bluOpRedge (i : Nat) (w : Work) : Work := accQ (cycEdge 4 i w.acc w)
/-- FEDGE instruction. -/
def bluOpFedge (i : Nat) (w : Work) : Work := accQ (cycEdge 5 i w.acc w)
/-- CTU instruction. -/
def bluOpCtu (v : CycleEnv) (i : Nat) (w : Work) : Work := accQ (cycCtu v i w.acc w)
/-- CRS instruction. -/
def bluOpCrs (i : Nat) (w : Work) : Work :=
  bluTick (if w.acc then { w with counters := w.counters.modify i (fun it => { it with cv := 0 }) } else w)
/-- JC: skipped instructions charge nothing. -/
def bluOpJc (i : Nat) (w : Work) : Work := let w1 := bluTick w; if w.acc then { w1 with pc := w1.pc + i } else w1
/-- JNC. -/
def bluOpJnc (i : Nat) (w : Work) : Work := let w1 := bluTick w; if w.acc then w1 else { w1 with pc := w1.pc + i }
/-- END: the cycle completes. -/
def bluOpEnd (w : Work) : Work := { bluTick w with done := true }

/-- Execute one instruction word (R297). An opcode that no checked program holds acts as NOP. -/
def bluStep (v : CycleEnv) (word : BitVec 32) (w : Work) : Work :=
  let m : BitVec 4 := (word >>> 20).setWidth 4
  let i : Nat := word.toNat % 2 ^ 20
  match (word >>> 24).toNat with
  | 0x01 => bluOpLd v m i w
  | 0x02 => bluOpSt m i w
  | 0x03 => bluOpAnd v m i w
  | 0x04 => bluOpOr v m i w
  | 0x05 => bluOpXor v m i w
  | 0x06 => bluOpSet i w
  | 0x07 => bluOpRst i w
  | 0x08 => bluOpLdk i w
  | 0x09 => bluOpLdv v i w
  | 0x0A => bluOpLdq v i w
  | 0x0B => bluOpLds v i w
  | 0x10 => bluOpAndb v m i w
  | 0x11 => bluOpOrb v m i w
  | 0x12 => bluOpClb w
  | 0x20 => bluOpTon v i w
  | 0x21 => bluOpTof v i w
  | 0x22 => bluOpTp v i w
  | 0x23 => bluOpRedge i w
  | 0x24 => bluOpFedge i w
  | 0x25 => bluOpCtu v i w
  | 0x26 => bluOpCrs i w
  | 0x30 => bluOpJc i w
  | 0x31 => bluOpJnc i w
  | 0x3F => bluOpEnd w
  | _ => bluOpNop w

/-! ### Function blocks (R300, R301, log entry 8) -/

/-- Wrap an integer to a type (R300). -/
def wrapInt (bits : Nat) (signed : Bool) (x : Int) : Int :=
  if signed then (BitVec.ofInt bits x).toInt else ((BitVec.ofInt bits x).toNat : Int)

/-- Limits of an integer type. -/
def intMax (bits : Nat) (signed : Bool) : Int := if signed then 2 ^ (bits - 1) - 1 else 2 ^ bits - 1
/-- Lower limit. -/
def intMin (bits : Nat) (signed : Bool) : Int := if signed then -(2 ^ (bits - 1)) else 0

/-- REAL to integer: half to even, saturating, NaN gives 0 (R300). -/
def realToInt (bits : Nat) (signed : Bool) (x : F32) : Int :=
  if F.isNaN x then 0
  else
    let v := F.toIntRne x (2 ^ 65)
    if v > intMax bits signed then intMax bits signed else if v < intMin bits signed then intMin bits signed else v

/-- A REAL of the operand stack. -/
def asReal (x : Int) : F32 := BitVec.ofInt 32 x
/-- A REAL onto the operand stack. -/
def ofReal (x : F32) : Int := (x.toNat : Int)

/-- Integer operations: 0 add, 1 subtract, 2 multiply, 3 divide, 4 MOD, 5 and, 6 or, 7 xor. Division or MOD by 0 gives 0
and reports cause 0x13. -/
def fbInt (op bits : Nat) (signed : Bool) (a b : Int) : Int × Bool :=
  let w := wrapInt bits signed
  match op with
  | 0 => (w (a + b), false)
  | 1 => (w (a - b), false)
  | 2 => (w (a * b), false)
  | 3 => if b = 0 then (0, true) else (w (Int.tdiv a b), false)
  | 4 => if b = 0 then (0, true) else (w (Int.tmod a b), false)
  | 5 => (w ((BitVec.ofInt bits a &&& BitVec.ofInt bits b).toInt), false)
  | 6 => (w ((BitVec.ofInt bits a ||| BitVec.ofInt bits b).toInt), false)
  | _ => (w ((BitVec.ofInt bits a ^^^ BitVec.ofInt bits b).toInt), false)

/-- Real operations: 0 add, 1 subtract, 2 multiply, 3 divide, 4 pow; binary32 under R65. -/
def fbReal (op : Nat) (a b : F32) : F32 :=
  match op with
  | 0 => F.add a b
  | 1 => F.sub a b
  | 2 => F.mul a b
  | 3 => F.div a b
  | _ => F.pow a b

/-- Real functions of the library (R65): 0 √, 1 sin, 2 cos, 3 tan, 4 asin, 5 acos, 6 atan, 7 e^x, 8 ln, 9 log10, 10 |x|. -/
def fbFn (fn : Nat) (x : F32) : F32 :=
  match fn with
  | 0 => F.sqrt x
  | 1 => F.sin x
  | 2 => F.cos x
  | 3 => F.tan x
  | 4 => F.asin x
  | 5 => F.acos x
  | 6 => F.atan x
  | 7 => F.exp x
  | 8 => F.ln x
  | 9 => F.log10 x
  | _ => F.abs (F.flush x)

/-- The standard blocks of R300 on the operand stack: 1 TON, 2 TOF, 3 TP, 4 R_TRIG, 5 F_TRIG, 6 CTU, 7 CTD, 8 CTUD, 9 SR,
10 RS. Each leaves its Q; CTUD leaves QU on top and QD below it. ET and CV are read by `loadEt` and `loadCv`. -/
def fbBlock (v : CycleEnv) (kind n : Nat) (w : Work) : Work :=
  let pop (k : Nat) : Bool := at! w.fstack k != 0
  let push (k : Nat) (r : Bool × Work) : Work := { r.2 with fstack := (boolNat r.1 : Int) :: w.fstack.drop k }
  match kind with
  | 1 => push 1 (cycTimer v 1 n (pop 0) w)
  | 2 => push 1 (cycTimer v 2 n (pop 0) w)
  | 3 => push 1 (cycTimer v 3 n (pop 0) w)
  | 4 => push 1 (cycEdge 4 n (pop 0) w)
  | 5 => push 1 (cycEdge 5 n (pop 0) w)
  | 6 => -- CTU: reset on top, count below
    let w1 := if pop 0 then { w with counters := w.counters.modify n (fun it => { it with cv := 0 }) } else w
    if pop 0 then push 2 (decide (0 ≥ (at! v.prog.counters n).preset), { w1 with counters := w1.counters.modify n (fun it => { it with prevIn := pop 1 }) })
    else push 2 (cycCtu v n (pop 1) w1)
  | 7 => -- CTD: load on top, count below
    let pv := (at! v.prog.counters n).preset
    let it := at! w.counters n
    let cv := if pop 0 then pv else if pop 1 && !it.prevIn then it.cv - 1 else it.cv
    push 2 (decide (cv = 0), { w with counters := setAt w.counters n { it with cv := cv, prevIn := pop 1 } })
  | 8 => -- CTUD: load, reset, down, up
    let pv := (at! v.prog.counters n).preset
    let it := at! w.counters n
    let up := pop 3 && !it.prevIn
    let dn := pop 2 && !it.m
    let cv := if pop 1 then 0 else if pop 0 then pv
      else if up && dn then it.cv else if up then Nat.min (it.cv + 1) (2 ^ 32 - 1) else if dn then it.cv - 1 else it.cv
    { w with
      counters := setAt w.counters n { it with cv := cv, prevIn := pop 3, m := pop 2 }
      fstack := (boolNat (decide (cv ≥ pv)) : Int) :: (boolNat (decide (cv = 0)) : Int) :: w.fstack.drop 4 }
  | 9 => -- SR: reset on top, set below; set dominant
    let it := at! w.edges n
    let q := pop 1 || (!pop 0 && it.m)
    push 2 (q, { w with edges := setAt w.edges n { it with m := q } })
  | _ => -- RS: reset on top, set below; reset dominant
    let it := at! w.edges n
    let q := !pop 0 && (pop 1 || it.m)
    push 2 (q, { w with edges := setAt w.edges n { it with m := q } })

/-- One function-block operation and the cause it reports, if any. A bound point is read as an integer of its type, a
REAL as its binary32 bits, a quality as a WORD; of a complex point `loadPoint` and `storePoint` take the first REAL, `loadImag` and
`storeImag` the second (R301). A stored value fits the point's TYPE (R33). -/
def fbStep (v : CycleEnv) (i : FbInstr) (w0 : Work) : Work × Option Nat :=
  let w := { w0 with pc := w0.pc + 1 }
  let a := at! w.fstack 0
  let b := at! w.fstack 1
  let put (k : Nat) (x : Int) : Work := { w with fstack := x :: w.fstack.drop k }
  match i with
  | .const x => (put 0 x, none)
  | .loadVar n => (put 0 (at! w.vars n), none)
  | .storeVar n => ({ w with vars := setAt w.vars n a, fstack := w.fstack.drop 1 }, none)
  | .loadPoint p =>
    let (x, _, t) := cycRead v w p
    (put 0 (if t = 3 then x.toInt else if t = 5 then (x.setWidth 32 : BitVec 32).toInt
      else if t = 7 then (x.toNat % 2 ^ 32 : Nat) else (x.toNat : Int)), none)
  | .loadImag p => (put 0 ((cycRead v w p).1.toNat / 2 ^ 32 : Nat), none)
  | .loadQuality p => (put 0 ((cycRead v w p).2.1.toNat : Int), none)
  | .storePoint p =>
    let (x, q, t) := cycRead v w p
    let y := if t = 7 then ((x >>> 32) <<< 32) ||| (BitVec.ofInt 32 a).setWidth 64 else fitValue t (BitVec.ofInt 64 a)
    ({ (cycWrite w p y q) with fstack := w.fstack.drop 1 }, none)
  | .storeImag p =>
    let (x, q, _) := cycRead v w p
    ({ (cycWrite w p ((x.setWidth 32).setWidth 64 ||| ((BitVec.ofInt 32 a).setWidth 64 <<< 32)) q) with fstack := w.fstack.drop 1 }, none)
  | .storeQuality p =>
    let x := (cycRead v w p).1
    ({ (cycWrite w p x (qNorm (BitVec.ofInt 16 a))) with fstack := w.fstack.drop 1 }, none)
  | .intOp op bits sg => let r := fbInt op bits sg b a; (put 2 r.1, if r.2 then some 0x13 else none)
  | .realOp op => (put 2 (ofReal (fbReal op (asReal b) (asReal a))), none)
  | .realFn fn => (put 1 (ofReal (fbFn fn (asReal a))), none)
  | .loadEt n => (put 0 ((at! w.timers n).et : Nat), none)
  | .loadCv n => (put 0 ((at! w.counters n).cv : Nat), none)
  | .boolOp op =>
    let x := a != 0
    let y := b != 0
    (match op with
     | 0 => put 2 (boolNat (x && y) : Nat)
     | 1 => put 2 (boolNat (x || y) : Nat)
     | 2 => put 2 (boolNat (x != y) : Nat)
     | _ => put 1 (boolNat (!x) : Nat), none)
  | .cmpInt op =>
    (put 2 (boolNat (match op with
      | 0 => decide (b < a) | 1 => decide (b ≤ a) | 2 => decide (b = a)
      | 3 => decide (b ≥ a) | 4 => decide (b > a) | _ => decide (b ≠ a)) : Nat), none)
  | .cmpReal op =>
    let x := asReal b
    let y := asReal a
    (put 2 (boolNat (match op with
      | 0 => F.lt x y | 1 => F.le x y | 2 => F.eq x y | 3 => F.ge x y | 4 => F.gt x y | _ => !F.eq x y) : Nat), none)
  | .realToInt bits sg => (put 1 (realToInt bits sg (asReal a)), none)
  | .intToReal => (put 1 (ofReal (F.ofInt a)), none)
  | .arrayRead base len =>
    if 0 ≤ a ∧ a < len then (put 1 (at! w.vars (base + a.toNat)), none) else (put 1 0, some 0x12)
  | .arrayWrite base len =>
    let w' := { w with fstack := w.fstack.drop 2 }
    if 0 ≤ a ∧ a < len then ({ w' with vars := setAt w'.vars (base + a.toNat) b }, none) else (w', some 0x12)
  | .block k n => (fbBlock v k n w, none)
  | .jumpIf t => ({ w with pc := if a != 0 then t else w.pc, fstack := w.fstack.drop 1 }, none)
  | .jump t => ({ w with pc := t }, none)
  | .ret => ({ w with done := true }, none)

/-! ### Running a cycle -/

/-- Run a bit-logic cycle for at most `n` instructions (R60, R297). -/
def runBlu (v : CycleEnv) : Nat → Work → Work × Nat
  | 0, w => (w, 0)
  | n + 1, w =>
    if w.done then (w, n + 1)
    else match v.prog.words[w.pc]? with
      | some x => runBlu v n (bluStep v x w)
      | none => ({ w with done := true }, n + 1)

/-- Run a function-block cycle within an allowance of TE cycles: each operation charges its table cost when issued, and
the slice ends at the last whole operation that fits (R60). Answers the state, the allowance left, and causes with their
positions. -/
def runFb (v : CycleEnv) : Nat → Nat → Work → List (Nat × Nat) → Work × Nat × List (Nat × Nat)
  | 0, left, w, cs => (w, left, cs)
  | f + 1, left, w, cs =>
    if w.done then (w, left, cs)
    else match v.prog.code[w.pc]? with
      | none => ({ w with done := true }, left, cs)
      | some (i, c) =>
        if c ≤ left then
          let r := fbStep v i w
          runFb v f (left - c) { r.1 with charge := w.charge + c }
            (match r.2 with | some k => cs ++ [(k, w.pc)] | none => cs)
        else (w, left, cs)

/-- What a unit may charge in a logic slice: 0 TE6, 1 TE7, 2 BLU0, 3 BLU1. R60 gives the sum of both slices, 56,623 and 14,155;
each slice has 80 % of its phase, as R56 and R52 give it (log entry 87). -/
def allowance (slice u : Nat) : Nat :=
  if slice = 1 then (if u < 2 then 17302 else 4325) else (if u < 2 then 39321 else 9830)

/-- Unit index of a UNIT code. -/
def unitIx (unit : Nat) : Nat := unit - 6

/-- A period-1 cyclic task runs in phase D (R280). -/
def TaskEntry.tickRate (e : TaskEntry) : Bool := e.kind == 1 && e.period == 1

/-- Rank key of a task (R287): lower runs first. -/
def taskRank (i : Nat) (e : TaskEntry) : Nat :=
  if e.kind = 3 then 0 else if e.kind = 2 then 1 else 2 + e.period * 16 + i

/-- The highest-ranked task of a unit that is released and not complete. -/
def pickTask (b : Block) (ts : List TaskState) (u : Nat) : Option Nat :=
  (b.tasks.zipIdx.filter (fun e =>
    e.1.kind != 0 && unitIx e.1.unit == u && !e.1.tickRate && ((at! ts e.2).st == 2 || (at! ts e.2).st == 3))).foldl
    (fun (best : Option Nat) e =>
      match best with
      | none => some e.2
      | some j => if taskRank e.2 e.1 < taskRank j (at! b.tasks j) then some e.2 else some j) none

/-- The cycle environment of a task. -/
def cycEnv (b : Block) (typ : Nat → BitVec 8) (t : Nat) (ts : TaskState) : CycleEnv :=
  { img := ts.image, L := ts.relLtc, prog := at! b.progs (at! b.tasks t).prog, typ := typ }

/-- The working state a cycle starts with (R285, R297): ACC 0, empty stack, copies of outputs and private data. -/
def cycStart (ts : TaskState) : Work :=
  { outs := ts.outs, timers := ts.timers, edges := ts.edges, counters := ts.counters, vars := ts.vars }

/-- Put a task on its unit: the displaced one keeps its working state in its own record (R288). -/
def loadTask (lg : Logic) (u : Nat) (t : Option Nat) : Logic :=
  if at! lg.cur u = t then lg
  else
    let ts1 := match at! lg.cur u with
      | some o => lg.tasks.modify o (fun x => { x with work := at! lg.work u })
      | none => lg.tasks
    let w := match t with
      | some n => (at! ts1 n).work
      | none => {}
    { lg with tasks := ts1, cur := setAt lg.cur u t, work := setAt lg.work u w }

/-- Queue a cause for the present tick. -/
def Logic.cause (lg : Logic) (c : ErrCause) : Logic := { lg with causes := lg.causes ++ [c] }

/-- Run the current task of a unit within an allowance; answers what is left of it. -/
def runCur (b : Block) (typ : Nat → BitVec 8) (u left : Nat) (lg : Logic) : Logic × Nat :=
  match at! lg.cur u with
  | none => (lg, 0)
  | some t =>
    let ts := at! lg.tasks t
    let v := cycEnv b typ t ts
    let w := at! lg.work u
    if v.prog.fb then
      let r := runFb v (left + 1) left w []
      let lg1 := { lg with work := setAt lg.work u r.1, tasks := lg.tasks.modify t (fun x => { x with st := 3 }) }
      (r.2.2.foldl (fun l c => l.cause { code := c.1, task := t, subj := c.2 % 65536 }) lg1, r.2.1)
    else
      let r := runBlu v left w
      ({ lg with work := setAt lg.work u r.1, tasks := lg.tasks.modify t (fun x => { x with st := 3 }) }, r.2)

/-- Take a task whose cycle is done off its unit; it waits for phase E with its working state. -/
def unloadDone (u : Nat) (lg : Logic) : Logic :=
  match at! lg.cur u with
  | some t =>
    if (at! lg.work u).done then
      { lg with tasks := lg.tasks.modify t (fun x => { x with work := at! lg.work u, st := 4 })
                cur := setAt lg.cur u none, work := setAt lg.work u {} }
    else lg
  | none => lg

/-- A logic slice of a unit (R60, R288): at the start and after each completion the highest-ranked task runs. -/
def runSlices (b : Block) (typ : Nat → BitVec 8) (u : Nat) : Nat → Nat → Logic → Logic
  | 0, _, lg => lg
  | n + 1, left, lg =>
    match pickTask b lg.tasks u with
    | none => loadTask lg u none
    | some t =>
      let r := runCur b typ u left (loadTask lg u (some t))
      let done := (at! r.1.work u).done
      let lg1 := unloadDone u r.1
      if done && decide (0 < r.2) then runSlices b typ u n r.2 lg1 else lg1

/-- A slice of all units, 1 in phase B and 2 in phase C. A task state of 4 marks a cycle complete and waiting for phase E. -/
def logicSlice (b : Block) (slice : Nat) (typ : Nat → BitVec 8) (lg : Logic) : Logic :=
  (List.range 4).foldl (fun l u => runSlices b typ u 11 (allowance slice u) l) lg

/-- A released task of period 1 runs to completion (R58, R280). -/
def runTickRate (b : Block) (typ : Nat → BitVec 8) (lg : Logic) (t : Nat) : Logic :=
  if (at! b.tasks t).tickRate && (at! lg.tasks t).st == 2 then
    let ts := at! lg.tasks t
    let v := cycEnv b typ t ts
    if v.prog.fb then
      let r := runFb v 65536 65536 ts.work []
      let l1 := { lg with tasks := lg.tasks.modify t (fun x => { x with work := { r.1 with done := true }, st := 4 }) }
      r.2.2.foldl (fun l c => l.cause { code := c.1, task := t, subj := c.2 % 65536 }) l1
    else
      let r := runBlu v 65537 ts.work
      { lg with tasks := lg.tasks.modify t (fun x => { x with work := { r.1 with done := true }, st := 4 }) }
  else lg

/-- Phase D: the tick-rate tasks of TE6, TE7, BLU0 and BLU1, each unit's in ORDER (R25, R52, R59). -/
def logicTickRate (b : Block) (typ : Nat → BitVec 8) (lg : Logic) : Logic :=
  ((List.range 4).flatMap (fun u => (schedOf b (u + 6) 3).map (·.inst))).foldl (runTickRate b typ) lg

/-! ### Release, overrun, completion (R282 to R294) -/

/-- Copy an input list from the space into a staging image (R283). -/
def copyImage (sg : Sig) (ins : List Nat) : List ImgEntry :=
  ins.map (fun i => let p := sg.rd i
    { point := i, value := p.value, qual := p.qual, gen := p.gen, typ := p.typ, flags := p.flags })

/-- A cyclic task is due at an LTC (R282). -/
def dueAt (e : TaskEntry) (ltc : Nat) : Bool :=
  e.kind == 1 && decide (e.period ≠ 0) && decide (((ltc : Int) - (e.offset : Int)) % (e.period : Int) = 0)

/-- Phase F: staging images and trigger copies of every task that may be released in the next tick (R283); the event task's image
includes its trigger points (R293). -/
def stageTasks (b : Block) (sg : Sig) (lg : Logic) : Logic :=
  { lg with tasks := mapI (fun i (t : TaskState) =>
      match b.tasks[i]? with
      | none => t
      | some e =>
        if e.kind = 0 then t
        else if e.kind = 1 && !dueAt e (lg.ltc + 1) then t
        else
          let trg := e.trig.map (fun p => let x := sg.rd p; (p, x.bool, qBad x.qual))
          { t with staging := copyImage sg (e.ins ++ e.trig.filter (fun p => !e.ins.contains p)), prevTrg := t.curTrg, curTrg := trg }) lg.tasks }

/-- Release a task (R283): the staging image becomes its input image; a cycle of it starts. -/
def releaseTask (ltc : Nat) (t : TaskState) : TaskState :=
  let t1 := { t with st := 2, image := t.staging, relLtc := ltc, pend := false }
  { t1 with work := cycStart t1 }

/-- A due release that finds the cycle running is skipped (R290). -/
def skipRelease (t : TaskState) : TaskState := { t with skip := true, skipped := t.skipped + 1 }

/-- A cycle is abandoned: its working copy is discarded (R291). -/
def abandonTask (t : TaskState) : TaskState := { t with st := 1, aband := true, abandN := t.abandN + 1, work := {} }

/-- The task's cycle is running or released. -/
def TaskState.busy (t : TaskState) : Bool := t.st == 2 || t.st == 3 || t.st == 4

/-- A task is taken off its unit, as at an abandonment. -/
def dropTask (i : Nat) (lg : Logic) : Logic :=
  { lg with work := mapI (fun u (w : Work) => if at! lg.cur u = some i then {} else w) lg.work
            cur := lg.cur.map (fun c => if c = some i then none else c) }

/-- Event record of a skipped release (kind 0x0010) or an abandoned cycle (kind 0x0011). -/
def taskEvent (kind t value : Nat) : EvRec := { kind := kind, subject := t, value := value, rflags := 1 }

/-- Skip of task `i`'s release: counts, cause 0x10, the alarm for 1 s, and the event record (R290). -/
def doSkip (i : Nat) (lg : Logic) : Logic × List EvRec :=
  let lg1 := { lg with tasks := lg.tasks.modify i skipRelease, overrun := 9600 }
  (lg1.cause { code := 0x10, task := i, subj := 0 }, [taskEvent 0x10 i (at! lg1.tasks i).skipped])

/-- Abandonment of task `i` and its fresh release (R291). -/
def doAbandon (i : Nat) (lg : Logic) : Logic × List EvRec :=
  let r := (at! lg.tasks i).relLtc
  let lg1 := dropTask i { lg with tasks := lg.tasks.modify i (fun t => releaseTask lg.ltc (abandonTask t)) }
  (lg1.cause { code := 0x11, task := i, subj := 0 }, [taskEvent 0x11 i r])

/-- Phase A for cyclic task `i` (R282, R290, R291); a task that a Hood swap has released in this tick is left (R309). -/
def cyclicRelease (i : Nat) (e : TaskEntry) (lg : Logic) : Logic × List EvRec :=
  let t := at! lg.tasks i
  if !dueAt e lg.ltc || (t.st == 2 && t.relLtc == lg.ltc && decide (0 < lg.ltc)) then (lg, [])
  else if !t.busy then ({ lg with tasks := lg.tasks.modify i (releaseTask lg.ltc) }, [])
  else if decide (e.maxrel ≠ 0) && decide (lg.ltc ≥ t.relLtc + e.maxrel * e.period) then doAbandon i lg
  else doSkip i lg

/-- The event task's trigger fired between the last two copies (R293). -/
def eventFires (t : TaskState) : Bool :=
  t.curTrg.any (fun x => x.2.1 && !x.2.2 && t.prevTrg.any (fun y => y.1 == x.1 && !y.2.1 && !y.2.2))

/-- Phase A for the event task (R292, R293). -/
def eventRelease (i : Nat) (lg : Logic) : Logic :=
  let t := at! lg.tasks i
  let fire := eventFires t
  if t.busy then
    if fire then
      { lg with tasks := lg.tasks.modify i (fun t => if t.pend then { t with skipped := t.skipped + 1 } else { t with pend := true }) }
    else lg
  else if t.pend || fire then
    { lg with tasks := lg.tasks.modify i (fun t =>
        releaseTask lg.ltc { t with skipped := if t.pend && fire then t.skipped + 1 else t.skipped }) }
  else lg

/-- An error queue entry (R294). -/
def errWord (ltc : Nat) (c : ErrCause) : BitVec 64 :=
  BitVec.ofNat 64 (c.code % 256 + (c.task % 16) * 2 ^ 8 + (c.subj % 65536) * 2 ^ 16 + (ltc % 2 ^ 32) * 2 ^ 32)

/-- Queue the causes of the tick in the order of R294's table and then of SUBJECT; a full queue or no error task counts
them only. -/
def flushCauses (hasErr : Bool) (lg : Logic) : Logic :=
  let cs := sortBy (fun (c : ErrCause) => c.code * 65536 + c.subj) lg.causes
  let lg1 := cs.foldl (fun (l : Logic) c =>
    if hasErr && decide (l.errQ.length < 16) then { l with errQ := l.errQ ++ [errWord lg.ltc c] }
    else { l with errLost := l.errLost + 1 }) lg
  { lg1 with causes := [] }

/-- The error task's image: what its input list names, and the queued entries as points 0xF_02A1 on with their number, named or
not (R294). -/
def errImage (q : List (BitVec 64)) (img : List ImgEntry) : List ImgEntry :=
  img.filter (fun e => !(decide (0xF02A0 ≤ e.point) && decide (e.point ≤ 0xF02B0))) ++
    ((BitVec.ofNat 64 q.length) :: (List.range 16).map (fun i => q.getD i 0)).zipIdx.map (fun x =>
      ({ point := 0xF02A0 + x.2, value := x.1, qual := 0, typ := 4 } : ImgEntry))

/-- Phase A for the error task (R294). -/
def errorRelease (i : Nat) (lg : Logic) : Logic :=
  let t := at! lg.tasks i
  if lg.errQ.isEmpty then lg
  else if t.busy then { lg with tasks := lg.tasks.modify i (fun t => { t with pend := true }) }
  else { lg with tasks := lg.tasks.modify i (fun t =>
           releaseTask lg.ltc { t with staging := errImage lg.errQ t.staging }), errQ := [] }

/-- An error task is configured. -/
def hasErrTask (b : Block) : Bool := (at! b.tasks 9).kind == 3

/-- Releases of phase A, after the operator actions: cyclic entries, the event task, the causes, the error task. -/
def logicRelease (b : Block) (lg : Logic) : Logic × List EvRec :=
  let r := b.tasks.zipIdx.foldl (fun (a : Logic × List EvRec) e =>
    if e.1.kind = 1 then let x := cyclicRelease e.2 e.1 a.1; (x.1, a.2 ++ x.2) else a) (lg, [])
  let lg2 := b.tasks.zipIdx.foldl (fun (l : Logic) e => if e.1.kind = 2 then eventRelease e.2 l else l) r.1
  let lg3 := flushCauses (hasErrTask b) lg2
  (if hasErrTask b then errorRelease 9 lg3 else lg3, r.2)

/-- Commit of a completed cycle (R285, R289): private state, counts and LTCs. -/
def completeTask (ltc : Nat) (t : TaskState) : TaskState :=
  let w := t.work
  { t with st := 1, skip := false, aband := false, cycles := t.cycles + 1, doneLtc := ltc
           maxChg := Nat.max t.maxChg w.charge, maxDur := Nat.max t.maxDur (ltc - t.relLtc + 1)
           timers := w.timers, edges := w.edges, counters := w.counters, vars := w.vars, outs := w.outs, work := {} }

/-- The output writes of a completed cycle (R285): every point of its output list. -/
def taskWrites (e : TaskEntry) (t : TaskState) : List PtWrite :=
  (t.work.outs.filter (fun o => e.outs.contains o.1)).map (fun o => { idx := o.1, value := o.2.1, qual := o.2.2 })

/-- Phase E of the logic: every completed cycle commits, and the causes that cycles of the tick raised are queued after those of
phase A, which come before them in R294's table. -/
def logicCommit (b : Block) (lg : Logic) : Logic × List PtWrite :=
  let ws := b.tasks.zipIdx.flatMap (fun e => let t := at! lg.tasks e.2; if t.st = 4 then taskWrites e.1 t else [])
  (flushCauses (hasErrTask b) { lg with tasks := lg.tasks.map (fun t => if t.st = 4 then completeTask lg.ltc t else t) }, ws)

/-- Task points of R303 and the error queue's points. -/
def logicPoints (b : Block) (lg : Logic) : List PtWrite :=
  [wN 0xF0240 lg.ltc, wN 0xF02A0 lg.errQ.length, wN 0xF02B1 lg.errLost] ++
  (List.range 16).map (fun i => wN (0xF02A1 + i) ((lg.errQ[i]?).getD 0).toNat) ++
  (mapI (fun i (t : TaskState) =>
    let e : TaskEntry := at! b.tasks i
    let st := if e.kind = 0 then 0 else if t.st = 0 then 1 else if t.st = 4 then 3 else t.st
    let word := st + 4 * boolNat t.skip + 8 * boolNat t.aband + 16 * boolNat t.pend + (if e.kind = 0 then 0 else e.unit * 256)
    let p := 0xF0248 + 8 * i
    [wN p word, wN (p + 1) t.cycles, wN (p + 2) t.skipped, wN (p + 3) t.abandN, wN (p + 4) t.relLtc, wN (p + 5) t.doneLtc,
     wN (p + 6) t.maxChg, wN (p + 7) t.maxDur]) lg.tasks).flatten

end Sys2Proof
end

