-- ==== Sys2Proof/Machine/Hood.lean ====
section
/-! DEFINITION. On-line change and forcing (R304 to R323, R538): the force table, the signal-space map across a change,
instance data across a swap, the Hood unit. -/

namespace Sys2Proof

/-! ### Forces (R317 to R321) -/

/-- The record that a forced point shows from the tick `id` on (R319): QVAL with bit 10, FORCED, the tick start; a forced
local sample carries SUBST (R93). -/
def forcedRec (id : TickId) (p : Point) (qval : BitVec 16) (value : BitVec 64) : Point :=
  let st := TickId.stamp id
  { p with value := if p.typ = 8 then value ||| 0x20000000 else value, qual := qNorm (qval ||| 0x400)
           sec := BitVec.ofNat 64 st.sec, nsec := BitVec.ofNat 32 st.nsec, gen := st.gen
           flags := setBit8 (setBit8 p.flags 0 true) 4 true }

/-- Set or change a force (R319, R320); SET_LTC of a point that is forced already is kept. -/
def forceSet (id : TickId) (ltc point : Nat) (qval : BitVec 16) (value : BitVec 64) (session : Nat) (s : Sig) : Sig :=
  let p := s.rd point
  let e : ForceEntry := { point := point, typ := p.typ, qval := qval ||| 0x400, value := value, session := session
                          setLtc := ltc, under := p }
  let s' : Sig := match s.force point with
    | some _ => { s with forces := s.forces.map (fun f : ForceEntry =>
        if f.point = point then { e with setLtc := f.setLtc, under := f.under } else f) }
    | none => { s with forces := s.forces ++ [e] }
  s'.store point (forcedRec id p qval value)

/-- Release a force (R320): the point takes its underlying record. -/
def forceRelease (point : Nat) (s : Sig) : Sig :=
  match s.force point with
  | some f =>
    let s' : Sig := { s with forces := s.forces.filter (fun x => x.point != point) }
    s'.store point { f.under with flags := setBit8 f.under.flags 0 false }
  | none => s

/-- The points a release names: one, or all for 0xFFFF_FFFF (R443). -/
def releaseList (point : Nat) (s : Sig) : List Nat :=
  if point = 0xFFFFFFFF then s.forces.map (·.point) else if (s.force point).isSome then [point] else []

/-- Release one force or all. -/
def forceReleaseAll (point : Nat) (s : Sig) : Sig := (releaseList point s).foldl (fun s i => forceRelease i s) s

/-- A bay or auxiliary slot is present: a part with 24 slots has no bays 24 to 47 (R5). -/
def bayPresent (part g : Nat) : Bool := !(part == 0x00414824 && decide (24 ≤ g) && decide (g < 48))

/-- A point of a bay that a part does not have (R5). -/
def absentPt (part i : Nat) : Bool := decide (i < 0x60000) && !bayPresent part (i / 0x2000)

/-- Points that the engine writes under every Block: the modes of bays and auxiliary slots (R177), `st.grp` (R204), `st.sim` (R127),
`st.freq` and `st.rocof` (R141). DESIGN CHOICE (log entry 127): the map names the command path as the writer of `st.grp` also where
the Block names a selector, which R28's list of writers does not hold. -/
def fixedPts (part : Nat) : List MapPoint :=
  ((List.range 64).filter (bayPresent part)).map (fun g => { point := modePt g, typ := 5, writer := .cmd }) ++
  [{ point := 0x63400, typ := 6, writer := .phe }, { point := 0x63401, typ := 6, writer := .phe },
   { point := 0x63402, typ := 5, writer := .cmd }, { point := 0x63403, typ := 1, writer := .cmd }]

/-- The whole map of a Block: what it lists, and the fixed points it does not list. -/
def fullMap (b : Block) : List MapPoint := b.map ++ (fixedPts b.ident.part.toNat).filter (fun f => !b.map.any (fun m => m.point == f.point))

/-- The map entry of a point. -/
def mapEntry (b : Block) (i : Nat) : Option MapPoint := (fullMap b).find? (fun m => m.point == i)

/-- TYPE of a point under a Block: its map's, that of a point which exists without an entry, or an engine-local point's own. -/
def mapTyp (b : Block) (i : Nat) : Nat := if localRegion i then localTyp i else ((mapEntry b i).map (·.typ)).getD 0

/-- A new map has no such point with its present TYPE (R321). -/
def losesPoint (old new : Block) (i : Nat) : Bool :=
  match mapEntry old i with
  | some m => !(fullMap new).any (fun x => x.point == i && x.typ == m.typ)
  | none => false

/-- Points whose commands exist are never forceable (R318). -/
def neverForced (i : Nat) : Bool :=
  i == 0x63402 || i == 0x63403 || (List.range 64).any (fun g => modePt g == i)

/-- A point may be forced (R318, R538). -/
def forceable (b : Block) (i : Nat) : Bool :=
  b.fpol != 0 && decide (i < 0xF0000) && !neverForced i && !absentPt b.ident.part.toNat i &&
    (match mapEntry b i with | some m => m.forceable && m.typ != 0 | none => false)

/-- VALUE and QVAL are valid for a TYPE (R33, R34). -/
def forceValueOk (typ : Nat) (qval : BitVec 16) (v : BitVec 64) : Bool :=
  let lim (n : Nat) : Bool := decide (v.toNat < 2 ^ n)
  decide (qval.toNat < 8192) && decide (qval.toNat % 4 ≠ 2) &&
  (if typ = 1 then lim 1 else if typ = 2 then lim 2 else if typ = 5 || typ = 6 then lim 32
   else if typ = 8 then lim 31 && decide ((v >>> 24).toNat % 4 ≠ 2)
   else typ == 3 || typ == 4 || typ == 7)

/-- The record of a force released at a swap or an activation (R321, kind 0x0014). -/
def releaseEvent (f : ForceEntry) : EvRec :=
  { kind := 0x14, rflags := 1, subject := f.point, value := f.value.toNat, arg := BitVec.ofNat 128 f.session }

/-! ### The map across a change (R28, R313, R499) -/

/-- Members of the published datasets and the protocol map (R35): GOOSE and sampled-value publications, synchrophasor streams,
mapped points. -/
def publishedPts (b : Block) : List Nat :=
  b.proto.allPoints ++ b.proto.goosePubs.flatMap (·.members) ++ b.proto.svPubs.flatMap (fun p => p.chans.filterMap (localPt b)) ++
    b.proto.syncs.flatMap (fun y => y.items.flatten ++ y.analogs.flatten ++ y.digitals.flatten)

/-- What a change of the running configuration makes of the signal space (R35, R538): the forcing policy, the map, the members
of publications. -/
structure NewMap where
  fpol : Nat
  map  : List MapPoint
  pubs : List Nat

/-- The map that a Block gives. -/
def newMap (b : Block) : NewMap := { fpol := b.fpol, map := fullMap b, pubs := publishedPts b }

/-- FLAGS that a map gives a point (R35): RECORDED as its entry says, PUBLISHED by membership. -/
def NewMap.flags (n : NewMap) (i : Nat) (f : BitVec 8) : BitVec 8 :=
  setBit8 (setBit8 f 2 (n.map.any (fun m => m.point == i && m.recorded))) 3 (n.pubs.contains i)

/-- The record of a point under a new map: kept where its TYPE is kept (and, at an activation, its writer), else as a point
added reads: value 0, time stamp 0, invalid. -/
def mapRec (n : NewMap) (keep : Bool) (m : MapPoint) (p : Point) : Point :=
  if keep && p.typ == BitVec.ofNat 8 m.typ then { p with flags := n.flags m.point p.flags }
  else { typ := BitVec.ofNat 8 m.typ, flags := n.flags m.point 0 }

/-- Forces that a new map does not allow any longer: the point is gone or has another TYPE (R321), or forces are forbidden
(R538). -/
def NewMap.lostForces (n : NewMap) (s : Sig) : List ForceEntry :=
  s.forces.filter (fun f => n.fpol == 0 || !n.map.any (fun m => m.point == f.point && BitVec.ofNat 8 m.typ == f.typ))

/-- Points of the engine-local regions whose FLAGS a new map may change: those written, mapped or published. -/
def NewMap.locals (n : NewMap) (s : Sig) : List Nat :=
  (s.pts.map Prod.fst ++ n.map.map (·.point) ++ n.pubs).filter localRegion

/-- Carry the space to a new map; `keep` says whether a point's record may be kept; what a force shows always is, its writer's record
beneath it follows `keep`. A map changes only the FLAGS of points of the
engine-local regions. -/
def NewMap.remap (n : NewMap) (keep : MapPoint → Bool) (s0 : Sig) : Sig :=
  let s := (n.lostForces s0).foldl (fun s f => forceRelease f.point s) s0
  let new := n.map.filter (fun m => !localRegion m.point)
  let gone := s.pts.filter (fun e => !localRegion e.1 && !new.any (fun m => m.point == e.1))
  let pts0 := gone.foldl (fun l e => wrPt l e.1 {}) s.pts
  let pts := (n.locals s).foldl (fun l i => let p := rdPt l i; wrPt l i { p with flags := n.flags i p.flags }) pts0
  { s with
    pts := new.foldl (fun l m => wrPt l m.point (mapRec n (keep m || (s.force m.point).isSome) m (rdPt l m.point))) pts
    forces := s.forces.map (fun f => match new.find? (fun m => m.point == f.point) with
      | some m => { f with under := mapRec n (keep m) m f.under }
      | none => f) }

/-! ### Instance data (R311, R312) -/

/-- What the passage of instances counts and records. -/
structure Carry where
  carried : Nat := 0
  fresh   : Nat := 0
  changed : Nat := 0
  events  : List EvRec := []
  deriving DecidableEq, Repr, Inhabited

/-- An instance of an old program: a timer, edge detector or counter with its private data, or a function-block instance with its
variables; its identity and type identity. -/
structure OldInst where
  ident : Nat := 0
  typ   : Nat := 0
  item  : Option ItemState := none
  data  : List Int := []
  deriving DecidableEq, Repr, Inhabited

/-- What a new instance finds among the old ones (R312): the one with its identity and type identity. -/
def carryFind (old : List OldInst) (fb : Bool) (ident typ : Nat) : Option OldInst × Carry :=
  match old.find? (fun x => x.ident == ident) with
  | some x =>
    if x.item.isNone == fb && x.typ == typ then (some x, { carried := 1 })
    else (none, { changed := 1, events := [{ kind := 0x13, rflags := 1, subject := ident, value := typ, old := x.typ }] })
  | none => (none, { fresh := 1 })

/-- The new private datum of a timer, edge detector or counter. -/
def carryItem (old : List OldInst) (p : ProgItem) : ItemState × Carry :=
  let r := carryFind old false p.ident p.kind
  ((r.1.bind (·.item)).getD (newItem p), r.2)

/-- Join counts. -/
def Carry.add (a b : Carry) : Carry :=
  { carried := a.carried + b.carried, fresh := a.fresh + b.fresh, changed := a.changed + b.changed, events := a.events ++ b.events }

/-- All timers, edge detectors or counters of a list. -/
def carryItems (old : List OldInst) (ps : List ProgItem) : List ItemState × Carry :=
  ps.foldl (fun a p => let (i, c) := carryItem old p; (a.1 ++ [i], a.2.add c)) ([], {})

/-- The variables of a program as it starts: their initial values. -/
def Program.initVars (p : Program) : List Int := (List.range p.nvars).map (fun i => (p.vars0[i]?).getD 0)

/-- The variables of a program whose function-block instances take over old data. -/
def carryVars (old : List OldInst) (p : Program) : List Int × Carry :=
  p.insts.foldl (fun a i =>
    let r := carryFind old true i.ident i.typ
    let vs := match r.1 with
      | some x => mapI (fun k v => if decide (i.base ≤ k) && decide (k < i.base + i.len) then (x.data[k - i.base]?).getD v else v) a.1
      | none => a.1
    (vs, a.2.add r.2)) (p.initVars, {})

/-- The instances of a task, of its program `p`. -/
def TaskState.insts (p : Program) (t : TaskState) : List OldInst :=
  (t.timers ++ t.edges ++ t.counters).map (fun x => { ident := x.ident, typ := x.kind, item := some x }) ++
  p.insts.map (fun i => { ident := i.ident, typ := i.typ, data := (t.vars.drop i.base).take i.len })

/-- The identities that a program's identity table names (R311). -/
def Program.idents (p : Program) : List Nat := (p.timers ++ p.edges ++ p.counters).map (·.ident) ++ p.insts.map (·.ident)

/-- Working copies of the outputs as a program starts with them (R285, R313): the underlying values of its output points, with the
quality 0 of a variable whose program has assigned none (R286). -/
def startOuts (sg : Sig) (outs : List Nat) : List (Nat × BitVec 64 × BitVec 16) := outs.map (fun i => (i, (sg.under i).value, 0))

/-- A task's state with a new program: instances passed over, counters kept, largest charge and duration restarted. -/
def swapTask (sg : Sig) (old : List OldInst) (e : TaskEntry) (p : Program) (t : TaskState) : TaskState × Carry :=
  let (ts, c1) := carryItems old p.timers
  let (es, c2) := carryItems old p.edges
  let (cs, c3) := carryItems old p.counters
  let (vs, c4) := carryVars old p
  ({ t with timers := ts, edges := es, counters := cs, vars := vs, outs := startOuts sg e.outs
            work := {}, maxChg := 0, maxDur := 0, st := if t.st = 0 then 1 else if t.busy then 1 else t.st }, ((c1.add c2).add c3).add c4)

/-! ### The Hood (R304 to R315) -/

/-- Tasks a Hood replaces, ascending. -/
def Hood.taskList (h : Hood) : List Nat := (List.range 10).filter (fun t => h.tasks.getLsbD t)

/-- The new entry of a replaced task, its program index into the joined program list. -/
def Hood.entry (h : Hood) (base t : Nat) : TaskEntry :=
  let e := at! h.entries ((h.taskList.findIdx? (· == t)).getD 0)
  { e with prog := base + e.prog }

/-- The running configuration after a Hood (R304). -/
def hoodBlock (b : Block) (h : Hood) : Block :=
  { b with
    tasks := mapI (fun t e => if h.tasks.getLsbD t then h.entry b.progs.length t else e) b.tasks
    progs := b.progs ++ h.progs
    map := (b.map.filter (fun m => !h.delMap.contains m.point && !h.addMap.any (fun a => a.point == m.point))) ++ h.addMap
    sched := (b.sched.filter (fun s => !(decide (6 ≤ s.unit) && h.tasks.getLsbD s.inst))) ++ h.sched }

/-- Swap tick S is admissible for a cyclic entry (R308). -/
def swapDue (e : TaskEntry) (s : Nat) : Bool := e.kind != 1 || dueAt e s

/-- S is a release tick of every replaced task under its old and its new entry (R308). -/
def swapTickOk (b : Block) (h : Hood) (s : Nat) : Bool :=
  h.taskList.all (fun t => swapDue (at! b.tasks t) s && swapDue (h.entry b.progs.length t) s)

/-- Points that a Hood removes or retypes. -/
def hoodTouches (b : Block) (h : Hood) (i : Nat) : Bool :=
  h.delMap.contains i || h.addMap.any (fun m => m.point == i && (match mapEntry b i with | some o => o.typ != m.typ | none => false))

/-- STATE of the Hood unit (R323): 0 none, 1 loaded, 2 armed. -/
def HoodUnit.state (u : HoodUnit) : Nat := if u.armed.isSome then 2 else if u.loaded then 1 else 0

/-- Abandon the running cycle of a replaced task: cause 0x11 and the event record (R309, R291). -/
def swapAbandon (t : Nat) (lg : Logic) : Logic × List EvRec :=
  let x := at! lg.tasks t
  if x.busy then
    let lg := dropTask t { lg with tasks := lg.tasks.modify t abandonTask }
    (lg.cause { code := 0x11, task := t, subj := 0 }, [taskEvent 0x11 t x.relLtc])
  else (lg, [])

/-- Everything a swap at the present tick does (R309, R312, R313, R321). -/
structure SwapResult where
  blk    : Block
  lg     : Logic
  sg     : Sig
  carry  : Carry
  gone   : Nat
  aband  : Bool
  freed  : Nat
  events : List EvRec
  deriving DecidableEq, Repr, Inhabited

/-- The program of a task entry; an unused entry (KIND 0) has none. -/
def taskProg (b : Block) (e : TaskEntry) : Program := if e.kind = 0 then {} else at! b.progs e.prog

/-- The swap of a Hood (R309). An entry that is unused before or after it holds no instance there (R312). -/
def hoodSwapGo (b : Block) (h : Hood) (lg0 : Logic) (sg0 : Sig) : SwapResult :=
  let ts := h.taskList
  let (lg1, ev1) := ts.foldl (fun (a : Logic × List EvRec) t => let (l, e) := swapAbandon t a.1; (l, a.2 ++ e)) (lg0, [])
  let old := ts.flatMap (fun t => (at! lg1.tasks t).insts (taskProg b (at! b.tasks t)))
  let b' := hoodBlock b h
  let lost := (newMap b').lostForces sg0
  let sg := (newMap b').remap (fun _ => true) sg0
  let (tasks, c) := ts.foldl (fun (a : List TaskState × Carry) t =>
    let e := at! b'.tasks t
    let (x, c) := swapTask sg old e (taskProg b' e) (at! a.1 t)
    let x := if e.kind = 1 then releaseTask lg1.ltc x else x
    (a.1.set t x, a.2.add c)) (lg1.tasks, {})
  let news := ts.flatMap (fun t => (taskProg b' (at! b'.tasks t)).idents)
  { blk := b', lg := { lg1 with tasks := tasks }, sg := sg, carry := c
    gone := (old.filter (fun x => !news.contains x.ident)).length
    aband := !ev1.isEmpty, freed := lost.length
    events := ev1 ++ [{ kind := 0x12, rflags := 1, subject := h.tasks.toNat, arg := h.hoodId }] ++ c.events ++ lost.map releaseEvent }

/-- The Hood unit after a swap at S (R309, R315, R323): the Hood joins the chain, its mark is due within 1 s. -/
def swapUnit (r : SwapResult) (h : Hood) (ltc : Nat) (u : HoodUnit) : HoodUnit :=
  { u with held := none, loaded := false, armed := none, lastS := ltc, swapped := true, aband := r.aband, lastId := h.hoodId
           lastTasks := h.tasks, carried := r.carry.carried, fresh := r.carry.fresh, changed := r.carry.changed, gone := r.gone
           relForces := r.freed, chain := u.chain ++ [h], marks := u.marks ++ [ltc + 9600] }

/-- HOOD_APPLIED_MARK (R315): the Hoods swapped are marked applied in the Block store. -/
def hoodMark (u : HoodUnit) : HoodUnit :=
  if u.marks.isEmpty then u else { u with marked := u.chain.length, marks := [] }

/-- The marks that fall due at an LTC (R315): each Hood has its own within 1 s of its swap. -/
def hoodMarkDue (ltc : Nat) (u : HoodUnit) : HoodUnit :=
  let due := u.marks.takeWhile (fun n => decide (n ≤ ltc))
  { u with marked := u.marked + due.length, marks := u.marks.drop due.length }

/-- What a Block activation leaves of the Hood unit (R315, R323): no Hood and no chain, the counts of the last swap, the number of
forces released. The chain of the old Block stays in its slot of the store. -/
def HoodUnit.activated (freed : Nat) (u : HoodUnit) : HoodUnit :=
  { u with held := none, loaded := false, armed := none, cand := none, chain := [], marked := 0, marks := [], relForces := freed }

/-- Status points (R323). -/
def hoodWrites (b : Option Block) (sg : Sig) (u : HoodUnit) : List PtWrite :=
  let fpol := (b.map (·.fpol)).getD 0
  let tasks := match u.held with | some h => h.tasks | none => u.lastTasks
  let idv := match u.held with | some h => h.hoodId | none => u.lastId
  let word := u.state + 4 * boolNat u.swapped + 8 * boolNat u.aband + 16 * boolNat (fpol == 2)
    + 32 * boolNat (!sg.forces.isEmpty) + 256 * tasks.toNat + 2 ^ 24 * u.chain.length
  [wN 0xF02C0 word, wN 0xF02C1 (u.armed.getD u.lastS), wN 0xF02C2 (idv.toNat % 2 ^ 64), wN 0xF02C3 u.carried, wN 0xF02C4 u.fresh,
   wN 0xF02C5 u.changed, wN 0xF02C6 u.gone, wN 0xF02C7 u.relForces, wN 0xF02C8 sg.forces.length, wN 0xF02C9 u.refused]

/-- HOOD_ID of the last of a chain of applied Hoods; 0 where there is none. -/
def lastHood (chain : List Hood) : BitVec 128 := ((chain.getLast?).map (·.hoodId)).getD 0

/-- The Hood unit of an engine whose Block came with a chain of applied Hoods: the last of them is the last applied (R315, R323). -/
def hoodOfChain (chain : List Hood) (u : HoodUnit) : HoodUnit :=
  { u with chain := chain, marked := chain.length, lastId := lastHood chain
           lastTasks := ((chain.getLast?).map (·.tasks)).getD 0 }

/-- What a reset leaves of the Hood unit (R315): the chain in the slot of the Block that the directory names; a Hood whose mark
was not completed is not applied at the boot, and a loaded or armed Hood is discarded. -/
def hoodAfterReset (x : StoreSlot) : HoodUnit :=
  hoodOfChain (x.chain.take x.marked) { storedUnapplied := (x.chain.drop x.marked).map (·.hoodId) }

end Sys2Proof
end

