-- ==== Sys2Proof/Machine/Intake.lean ====
section
/-! DEFINITION. The process-bus intake (R103 to R137, R539): the port filter, duplicates, token buckets, content checks,
placement and judgement of samples, presentation, GOOSE states, substitution, republished local channels, statistics. -/

namespace Sys2Proof

/-- Rate of a stream in Hz (R107). -/
def StreamDesc.hz (d : StreamDesc) : Nat := if d.rate = 0 then 4000 else if d.rate = 1 then 4800 else 14400

/-- Completion instant of a frame (R354). -/
def Frame.done (f : Frame) : Nat := f.stamp + 8 * f.bytes

/-- Intake deadline of the tick with grid number `g` (R116, R128). -/
def deadlineOf (g : Nat) : Nat := gridNs g - 6000

/-- Count at an offset. -/
def bump (l : List Nat) (i : Nat) (n : Nat := 1) : List Nat := l.modify i (· + n)

/-- A token bucket with fill rate `fill` per ns, `cost` per frame and depth `depth` frames: what it lacks after a frame at
instant `t`, or `none` when the frame finds it empty (R121). -/
def bucketTake (fill cost depth debt last t : Nat) : Option Nat :=
  let d := debt - (t - last) * fill
  if d + cost ≤ depth * cost then some (d + cost) else none

/-! ### Sampled values: reception -/

/-- Continuous sample index of SmpCnt in a frame completing at the stamp `t` (R112, R373). -/
def smpIndex (rate t smpCnt : Nat) : Nat :=
  let a := t + 500000000
  ((a * rate - smpCnt * 1000000000) / (1000000000 * rate)) * rate + smpCnt

/-- First grid number that uses sample `j` (R116). -/
def firstGrid (rate j : Nat) : Nat := (j - 1) * 9600 / rate + 1

/-- SmpSynch class of R136. -/
def synchClass (v : Nat) : Nat := if v = 2 then 2 else if v = 1 || (decide (5 ≤ v) && decide (v ≤ 254)) then 1 else 0

/-- SmpSynch of an ASDU: in a 9-2LE frame a Boolean counts as 2 or 0 (R113). -/
def Asdu.smpSynch (a : Asdu) (d : StreamDesc) : Nat :=
  match d.form, a.synchBool with
  | 1, some b => if b then 2 else 0
  | _, _ => a.synch

/-- SmpSynch satisfies SYNC (R107). DESIGN CHOICE: R111 names no cause for SYNC 2 to 255, and such a descriptor counts as SYNC 1 (log
entry 110). -/
def synchOk (d : StreamDesc) (v : Nat) : Bool :=
  if d.sync = 0 then v == 2 else v == 1 || v == 2 || (decide (5 ≤ v) && decide (v ≤ 254))

/-- Content check of a sampled-value frame but for SmpSynch (R113). -/
def svContentOk (d : StreamDesc) (svid : String) (confRev noAsdu : Nat) (lenOk : Bool) (as : List Asdu) : Bool :=
  svid == d.svid && confRev == d.confRev && noAsdu == d.nasdu && as.length == d.nasdu && lenOk
    && as.all (fun a => a.members.length == d.nmemb)

/-- Find a placed sample. -/
def Stream.find (st : Stream) (n : Nat) : Option SvSample := st.samples.find? (fun x => x.n == n)

/-- A sample has been placed, or judged without having arrived (R120). -/
def placeOne (d : StreamDesc) (sim : Bool) (done port n : Nat) (a : Asdu) (st : Stream) : Stream :=
  let rec_ : SvSample := { n := n, done := done, port := port, sim := sim, synchBad := !synchOk d (a.smpSynch d), raws := a.members }
  let judged := match st.nextJ with | some j => decide (n < j) | none => false
  match st.find n with
  | some x =>
    if x.arrived then { st with counts := bump st.counts 7 }
    else { st with counts := bump st.counts 1, late := st.late ++ [n]
                   samples := st.samples.map (fun y => if y.n == n then { rec_ with verdict := x.verdict } else y) }
  | none =>
    if judged then
      if st.samples.any (fun y => decide (y.n < n)) || !st.started then
        { st with counts := bump st.counts 1, late := st.late ++ [n]
                  samples := st.samples ++ [{ rec_ with verdict := some .missing }] }
      else { st with counts := bump st.counts 7 }
    else { st with samples := st.samples ++ [rec_] }

/-- The simulation bit of a sampled-value frame. -/
def FrameBody.simBit : FrameBody → Bool
  | .sv _ _ _ _ sim _ => sim
  | _ => false

/-- Is the frame a copy of one already taken (R119)? By the redundancy key, or by SmpCnt. DESIGN CHOICE (log entry 127): SmpCnt tells
a copy only of a frame from the other port with the same simulation bit, among the last 64 frames taken. -/
def isCopy (seen : List Seen) (key : Option Nat) (n port : Nat) (sim : Bool) : Option Seen :=
  seen.find? (fun x => (key.isSome && x.key == key) || (x.n == n && x.port != port && x.body.simBit == sim))

/-- A subscribed sampled-value frame: duplicates, bucket, simulation, content, placement (R119 to R121, R127, R113). The
Boolean says that the frame was a duplicate. A frame that fails only on SmpSynch is placed and leaves STATE 3 as it is. DESIGN CHOICE:
the spec does not order these checks; the model makes them in this order, so that a frame discarded for the simulation bit or its
content has taken a token of the bucket, and a duplicate has not; and that a stream accepts its first simulated frame when it has passed
these checks, whether its samples come in time or not (log entry 127). -/
def svReceive (d : StreamDesc) (f : Frame) (simOn : Bool) (svid : String) (confRev noAsdu : Nat) (lenOk sim : Bool)
    (as : List Asdu) (st0 : Stream) : Stream × Bool :=
  let done := f.done
  let n0 := smpIndex d.hz f.stamp ((as.head?.map (·.smpCnt)).getD 0)
  let st0 := if f.port.val = 0 then { st0 with lastA := some f.stamp } else { st0 with lastB := some f.stamp }
  match isCopy st0.seen f.dupKey n0 f.port.val sim with
  | some x =>
    ({ st0 with counts := bump (if x.body != f.body then bump st0.counts 5 else st0.counts) 4 }, true)
  | none =>
    let st := { st0 with seen := (({ key := f.dupKey, n := n0, port := f.port.val, body := f.body } : Seen) :: st0.seen).take 64 }
    match bucketTake (11 * d.hz) (10 * d.nasdu * 1000000000) 4 st.debt st.debtT done with
    | none => ({ st with counts := bump st.counts 6 }, false)
    | some debt =>
      let st := { st with debt := debt, debtT := done }
      if (sim && !simOn) || (!sim && simOn && st.sim) then ({ st with counts := bump st.counts 11 }, false)
      else if !svContentOk d svid confRev noAsdu lenOk as then
        ({ st with counts := bump st.counts 8, mism := true, recover := true }, false)
      else
        let st := { st with mism := st.mism && !as.all (fun a => synchOk d (a.smpSynch d)), sim := st.sim || sim
                            synch := match as.getLast? with | some a => synchClass (a.smpSynch d) | none => st.synch }
        let st := as.foldl (fun (s : Stream) a => placeOne d sim done f.port.val (smpIndex d.hz f.stamp a.smpCnt) a s) st
        let last := smpIndex d.hz f.stamp ((as.getLast?.map (·.smpCnt)).getD 0)
        let delay := done - last * 1000000000 / d.hz
        ({ st with counts := st.counts.modify 9 (Nat.max delay) }, false)

/-! ### Sampled values: judgement (R116, R122) -/

/-- The sample was accepted. -/
def Stream.acceptedAt (st : Stream) (n : Nat) : Bool :=
  match st.find n with | some x => x.verdict == some .accepted | none => false

/-- The sample was filled. -/
def Stream.filledAt (st : Stream) (n : Nat) : Bool :=
  match st.find n with | some x => x.verdict == some .filled | none => false

/-- Judge one sample at the deadline `dl` of its first grid value. -/
def judgeOne (dl n : Nat) (st : Stream) : Stream :=
  let rec_ := st.find n
  let inTime := match rec_ with | some x => x.arrived && decide (x.done < dl) | none => false
  if inTime then
    let m := dl - ((rec_.map (·.done)).getD 0)
    { st with counts := bump st.counts 0, started := true
              margin := some (match st.margin with | some x => Nat.min x m | none => m)
              samples := st.samples.map (fun x => if x.n == n then { x with verdict := some .accepted } else x) }
  else
    let late := rec_.isSome
    let fill := st.started && st.acceptedAt (n - 1) && st.acceptedAt (n - 2)
    let v := if fill then Judged.filled else Judged.missing
    let c := if st.started then bump st.counts 2 else st.counts
    let c := if fill then bump c 3 else c
    let c := if late then bump c 1 else c
    let st := { st with counts := c, late := if late then st.late ++ [n] else st.late }
    if late then { st with samples := st.samples.map (fun x => if x.n == n then { x with verdict := some v } else x) }
    else if st.started then { st with samples := st.samples ++ [{ n := n, arrived := false, verdict := some v }] }
    else st

/-- Last sample index whose first grid number is at most `g`. -/
def lastJudged (rate g : Nat) : Nat := (g * rate + 9599) / 9600

/-- Judge every sample due at the deadline of tick `G` (R116), keeping a window of samples (log entry 21). -/
def judgeStream (d : StreamDesc) (G : Nat) (st : Stream) : Stream :=
  let g := G - d.d
  let hi := lastJudged d.hz g
  let lo := st.nextJ.getD hi
  if hi < lo then st else
  let skip := hi + 1 - lo - Nat.min (hi + 1 - lo) 32
  let st := if st.started then { st with counts := bump st.counts 2 skip } else st
  let st := (List.range (hi + 1 - lo - skip)).foldl (fun s i => judgeOne (deadlineOf G) (lo + skip + i) s) st
  { st with nextJ := some (hi + 1), samples := st.samples.filter (fun x => decide (hi ≤ x.n + 512)) }

/-! ### Sampled values: presentation (R114, R115, R123 to R125) -/

/-- Scaled value of a member in a sample, filled ones from the two before (R114, R122). -/
def memberValue (st : Stream) (m : InMap) (n : Nat) : F32 :=
  let raw (k : Nat) : F32 :=
    match st.find k with
    | some x => F.mul (F.ofInt ((x.raws[m.member]?.map (·.1)).getD 0)) m.scale
    | none => 0
  if st.filledAt n then
    let dlt := F.sub (raw (n - 1)) (raw (n - 2))
    F.add (raw (n - 1)) dlt
  else raw n

/-- Published quality of a member in a sample with the causes of R125. DESIGN CHOICE: a filled sample is questionable with bit 9
alone, whatever the two samples it is extrapolated from published (log entry 111). -/
def memberQual (st : Stream) (m : InMap) (n : Nat) : BitVec 16 :=
  if st.filledAt n then qDoubt 0x200
  else match st.find n with
    | some x =>
      qComb (qNorm (((x.raws[m.member]?.map (·.2)).getD 1#32).setWidth 16)) (if x.synchBad then qInvalid 0x100 else 0)
    | none => 1

/-- The samples that the grid value of `g` uses, and the fraction's numerator over 9,600 (R114). -/
def usedSamples (rate g : Nat) : List Nat × Nat :=
  let r := (g * rate) % 9600
  let j := g * rate / 9600
  (if r = 0 then [j] else [j, j + 1], r)

/-- Interpolation (R114). -/
def gridValue (st : Stream) (m : InMap) (rate g : Nat) : F32 × BitVec 16 :=
  let (js, r) := usedSamples rate g
  let j := js.headD 0
  let x := memberValue st m j
  if r = 0 then (x, qNorm (memberQual st m j))
  else
    let dlt := F.sub (memberValue st m (j + 1)) x
    let prd := F.mul (F.ofRat r 9600) dlt
    (F.add x prd, qComb (memberQual st m j) (memberQual st m (j + 1)))

/-- Validity of the stream at grid number `g` (R123), and the backup's state (R124). -/
def streamAt (d : StreamDesc) (g : Nat) (st : Stream) : Stream :=
  let (js, _) := usedSamples d.hz g
  let j := js.headD 0
  let miss := js.any (fun n => !(st.acceptedAt n || st.filledAt n))
  let endOk := js.all st.acceptedAt && st.acceptedAt (j - 1) && st.acceptedAt (j - 2)
  let valid := if !st.started || miss then false else if st.valid then true else endOk
  let recover := st.recover && !(endOk && !st.mism)
  let inv := !valid || st.mism
  let run := if inv then 0 else st.run + 1
  { st with valid := valid, everValid := st.everValid || valid, recover := recover, run := run
            backup := if inv then true else st.backup && decide (run ≤ 960) }

/-- BACKUP_RETURN (R124): a stream that has stayed valid for 960 grid values gives its members back. -/
def backupGo (st : Stream) : Stream := if 960 ≤ st.run then { st with backup := false } else st

/-- STATE of a stream (R123, R136). DESIGN CHOICE: a stream that leaves STATE 3 without ever having started reads 0, as R123 has
it, and not 2, as R113 has it (log entry 111). -/
def Stream.state (st : Stream) : Nat :=
  if st.mism then 3 else if !st.started then 0 else if st.valid && !st.recover then 1 else 2

/-- `st.sim` is false (R127): samples of simulated frames are used no longer. DESIGN CHOICE: offset 12 does not count them, since
their frames had been accepted (log entry 127). -/
def svPurge (simOn : Bool) (st : Stream) : Stream :=
  if st.sim && !simOn then { st with sim := false, samples := st.samples.filter (fun x => !x.sim) } else st

/-- Phase A of one stream for the tick `id` with grid number `G`: next state, point writes, and its cause (R294). `loc`
gives the last committed sample of a local channel: value, quality, time stamp. DESIGN CHOICE: while a stream is invalid, a point
without a backup keeps its VALUE and time stamp; R125 states its quality only. A stream that has never started carries the row of STATE 3
while STATE reads 3, and reads invalid with no cause again when it ends. -/
def svCommit (b : Block) (id : TickId) (G s : Nat) (d : StreamDesc) (sg : Sig) (loc : Nat → F32 × BitVec 16 × Stamp)
    (st0 : Stream) : Stream × List PtWrite × List (Nat × Nat) :=
  let g := G - d.d
  let st := streamAt d g st0
  let es := b.inMap.filter (fun m => !m.goose && m.sub == s)
  let causes := if st0.valid && !st.valid then [(0x03, s)]
    else if !st0.valid && st.valid && st0.everValid then [(0x04, s)] else []
  let cfg : BitVec 16 := if st.mism then qInvalid 0x40 else 0
  let kept (m : InMap) (p : Point) (q : BitVec 16) : PtWrite :=
    { idx := m.point, value := p.value, qual := q, typ := 6
      stamp := some { sec := p.sec.toNat, nsec := p.nsec.toNat, gen := p.gen }, edge := true }
  let ws := es.flatMap (fun m =>
    let p := sg.under m.point
    if st.backup && m.backupEn then
      let (x, q, ts) := loc m.backup
      [({ idx := m.point, value := vReal x, qual := qComb (q ||| 0x400) cfg, typ := 6, stamp := some ts, edge := true } : PtWrite)]
    else if !st.started then (if st.mism then [kept m p cfg] else if st.misRow then [kept m p (qInvalid 0)] else [])
    else if !st.valid then [kept m p (qComb (qInvalid 0x80) cfg)]
    else
      let (x, q) := gridValue st m d.hz g
      [{ idx := m.point, value := vReal x, qual := qComb q cfg, typ := 6
         stamp := some (stampOf (gridNs g) id.gen), edge := true }])
  ({ st with misRow := st.mism }, ws, causes)

/-! ### GOOSE (R113, R128 to R131, R539) -/

/-- Content check (R113). -/
def gooseContentOk (d : GooseDesc) (cb ds gid : String) (confRev n : Nat) (ndsCom : Bool) : Bool :=
  cb == d.gocbRef && ds == d.datSet && confRev == d.confRev && n == d.nmemb
    && (match d.goId with | some x => gid == x | none => true) && !ndsCom

/-- EVENTS saturates (R137). -/
def Gcb.event (g : Gcb) (n : Nat := 1) : Gcb := { g with events := Nat.min (g.events + n) 0xFFFF }

/-- A subscribed GOOSE frame arrives; the Boolean says that it was a duplicate (R119, R121, R127, R113). DESIGN CHOICE: a second copy
whose content differs is counted in `dupMism`, which no point shows, since EVENTS (R137) does not name it (log entry 127). -/
def gooseReceive (d : GooseDesc) (f : Frame) (simOn : Bool) (cb ds gid : String) (confRev : Nat) (nds sim test : Bool)
    (stNum talMs : Nat) (t : Stamp) (vals : List (BitVec 64)) (g : Gcb) : Gcb × Bool :=
  match f.dupKey.bind (fun k => g.keys.find? (fun x => x.1 == k)) with
  | some x => (if x.2 != f.body then { g with dupMism := g.dupMism + 1 } else g, true)
  | none =>
  let g := match f.dupKey with | some k => { g with keys := ((k, f.body) :: g.keys).take 64 } | none => g
  match bucketTake (11 * d.maxRate) 10000000000 16 g.debt g.debtT f.done with
  | none => ({ g.event with excess := g.excess + 1 }, false)
  | some debt =>
    let g := { g with debt := debt, debtT := f.done }
    if (sim && !simOn) || (!sim && simOn && g.sim) then (g.event, false)
    else if !gooseContentOk d cb ds gid confRev vals.length nds then
      ({ g.event with waits := g.waits ++ [{ done := f.done, bad := true }] }, false)
    else
      ({ g with sim := g.sim || sim
                waits := g.waits ++ [{ done := f.done, ends := f.done + talMs * 1000000
                                       gs := { done := f.done, stNum := stNum, values := vals, t := t, test := test, sim := sim } }] }, false)

/-- Accept one waiting frame at a deadline (R113, R129, R130). STATE 3 ends with the presentation of the first state that passes the
content check, or at once for a retransmission, whose presentation tick is this one. -/
def gooseAccept (g : Gcb) (w : GooseWait) : Gcb :=
  if w.bad then { g with mism := true, dirty := g.dirty || !g.mism, queue := g.queue.map (fun x => { x with ends3 := false }) }
  else
    let restored := g.dropped
    let g1 := { g with got := true, ends := some w.ends, testf := w.gs.test, dirty := g.dirty || restored, dropped := false }
    if g.lastSt = some w.gs.stNum then
      if g.mism && !g.queue.any (·.ends3) then { g1 with mism := false, dirty := true } else g1
    else
      let gap := match g.lastSt with | some n => decide (w.gs.stNum ≠ n + 1) | none => false
      let g2 := { g1 with lastSt := some w.gs.stNum, queue := g1.queue ++ [{ w.gs with ends3 := g.mism }] }
      if gap then g2.event else g2

/-- Hold the queue to the state presented next and 8 waiting ones, dropping the oldest waiting (R129). -/
def queueTrim (q : List GooseState) : List GooseState × Nat :=
  match q with
  | [] => ([], 0)
  | h :: t => (h :: t.drop (t.length - 8), t.length - 8)

/-- The deadline of a tick for one control block: accept frames that completed before it (R128, R130). -/
def gooseJudge (dl : Nat) (g : Gcb) : Gcb :=
  let (now, later) := g.waits.partition (fun w => decide (w.done < dl))
  let g := now.foldl gooseAccept { g with got := false, waits := later }
  let (q, n) := queueTrim g.queue
  ({ g with queue := q }).event n

/-- A frame that completed before the deadline waits to be accepted for the tick (R130). -/
def Gcb.arrived (dl : Nat) (g : Gcb) : Bool := g.waits.any (fun w => decide (w.done < dl) && !w.bad)

/-- GOOSE_PUBLISHER_DROPPED (R130): the time allowed to live has ended and no frame is accepted for this tick. -/
def gooseDrop (dl : Nat) (g : Gcb) : Gcb :=
  match g.ends with
  | some e => if decide (e ≤ dl) && !g.got && !g.arrived dl && !g.dropped then { g with dropped := true, dirty := true } else g
  | none => g

/-- A substitute converted to a point's TYPE (R539); `none` where the conversion is refused. -/
def substValue (typ : Nat) (x : F32) : Option (BitVec 64) :=
  if typ = 6 then some (vReal x)
  else if typ = 1 then some (vBool (F.abs x != 0))
  else
    let r := F.toIntRne x (2 ^ 70)
    let sat (lo hi : Int) : Int := if r < lo then lo else if r > hi then hi else r
    if typ = 3 then some (vInt (sat (-(2 ^ 63)) (2 ^ 63 - 1)))
    else if typ = 4 then some (vInt (sat 0 (2 ^ 64 - 1)))
    else if typ = 5 then some (vEnum (sat (-(2 ^ 31)) (2 ^ 31 - 1)))
    else if typ = 2 then (if 0 ≤ r ∧ r ≤ 3 then some (vInt r) else none)
    else none

/-- `st.sim` is false (R127): states of simulated frames are presented no longer, the window they gave has ended, and the next
frame without the bit carries a new state. Frames that waited count as discarded. -/
def goosePurge (dl : Nat) (simOn : Bool) (g : Gcb) : Gcb :=
  if g.sim && !simOn then
    let w := g.waits.filter (fun w => !w.gs.sim)
    { g.event (g.waits.length - w.length) with
      sim := false, waits := w, queue := g.queue.filter (fun x => !x.sim), lastSt := none
      ends := if g.queue.any (fun x => !x.sim) then g.ends else g.ends.map (fun e => Nat.min e dl)
      got := g.queue.any (fun x => !x.sim) }
  else g

/-- Value of a member as its point holds it (R110). -/
def gooseValue (m : InMap) (v : BitVec 64) : BitVec 64 :=
  if m.mtype = 0x10 then vBool (v.getLsbD 0 != m.invert)
  else if m.mtype = 0x11 then v &&& 3
  else if m.mtype = 0x14 || m.mtype = 0x15 then v &&& 0xFFFFFFFF
  else v

/-- A Timestamp member's value: seconds in the high half, nanoseconds in the low half (log entry 7). -/
def gooseStamp (v : BitVec 64) (gen : BitVec 16) : Stamp :=
  { sec := (v >>> 32).toNat, nsec := (v &&& 0xFFFFFFFF).toNat, gen := gen }

/-- Quality of a member's point as published, or as its SUBST gives it while the publisher is dropped (R125). -/
def gooseQual (g : Gcb) (m : InMap) (pub : BitVec 16) : BitVec 16 :=
  if g.dropped then (if m.subst = 0 then qDoubt 0x480 else if m.subst = 1 then 0x480 else qInvalid 0x480) else pub

/-- One point of a control block (R110, R113, R125, R131): its value member, if any, and the Quality and Timestamp members that name
it. Without a value member the point keeps its VALUE. DESIGN CHOICE (log entry 127): without a Quality member nothing is published of its
quality, which is good but for the other causes; the SUBST of the value member stands before that of the Quality and the Timestamp
member. -/
def goosePoint (id : TickId) (sg : Sig) (g : Gcb) (es : List InMap) (i : Nat) : List PtWrite :=
  let cfg : BitVec 16 := if g.mism then qInvalid 0x40 else 0
  let p := sg.under i
  let own : Stamp := { sec := p.sec.toNat, nsec := p.nsec.toNat, gen := p.gen }
  let mine := es.filter (fun m => m.point == i)
  let val := mine.find? (fun m => m.mtype != 0x16 && m.mtype != 0x17)
  match g.cur with
  | none => if g.mism then [{ idx := i, value := p.value, qual := cfg, stamp := some own, edge := true }] else []
  | some c =>
    let at_ (k : Nat) : BitVec 64 := c.values.getD k 0
    let qm := mine.find? (fun m => m.mtype == 0x16)
    let tm := mine.find? (fun m => m.mtype == 0x17)
    let ts := match tm, val with
      | some x, _ => gooseStamp (at_ x.member) id.gen
      | none, some _ => { c.t with gen := id.gen }
      | none, none => own
    let pub : BitVec 16 := match qm with
      | some x => qNorm ((at_ x.member).setWidth 16)
      | none => 0
    let q0 := match val.or (qm.or tm) with
      | some m => gooseQual g m pub
      | none => pub
    let v := match val with
      | some m => if g.dropped && m.subst == 1 then (substValue p.typ.toNat m.scale).getD p.value else gooseValue m (at_ m.member)
      | none => p.value
    [{ idx := i, value := v, qual := qAll [q0, if c.test then 0x800 else 0, cfg], stamp := some ts, edge := true }]

/-- Writes of the points of a control block. -/
def gooseShow (b : Block) (gi : Nat) (id : TickId) (sg : Sig) (g : Gcb) : List PtWrite :=
  let es := b.inMap.filter (fun m => m.goose && m.sub == gi)
  ((es.map (·.point)).eraseDups).flatMap (goosePoint id sg g es)

/-- Phase A of one control block: at most one new state is presented (R129). -/
def gooseCommit (b : Block) (gi : Nat) (id : TickId) (dl : Nat) (sg : Sig) (g0 : Gcb) :
    Gcb × List PtWrite × List (Nat × Nat) :=
  let g := match g0.queue with
    | h :: t => { g0 with cur := some h, stNum := h.stNum, queue := t, dirty := true, mism := g0.mism && !h.ends3 }
    | [] => g0
  let g := gooseDrop dl g
  let causes := if g.dropped && !g.wasDrop then [(0x01, gi)] else if g.wasDrop && !g.dropped then [(0x02, gi)] else []
  let ws := if g.dirty then gooseShow b gi id sg g else []
  ({ g with dirty := false, got := false, wasDrop := g.dropped }, ws, causes)

/-- STATE of a control block (R137). -/
def Gcb.state (g : Gcb) : Nat :=
  if g.mism then 3 else if g.dropped then 2 else if g.cur.isSome then 1 else 0

/-! ### The port filter (R104) -/

/-- The stream or control block that a frame on a port subscribes. -/
def subscribed (b : Block) (f : Frame) : Option (Bool × Nat) :=
  let pair := f.port.val / 2
  match f.body with
  | .sv .. =>
    if pair = 0 then
      (b.streams.zipIdx.find? (fun x => match x.1 with
        | some d => d.dstMac == f.dstMac && d.appid == f.appid
        | none => false)).map (fun x => (false, x.2))
    else none
  | .goose .. =>
    (b.gooses.zipIdx.find? (fun x => match x.1 with
      | some d => d.pair == pair && d.dstMac == f.dstMac && d.appid == f.appid
      | none => false)).map (fun x => (true, x.2))
  | _ => none

/-- Count at a port (R135). -/
def Pbi.count (pb : Pbi) (port i : Nat) : Pbi := { pb with ports := pb.ports.modify port (fun l => bump l i) }

/-- The CP's receive buffer admits 20 Mb/s per port, here from a bucket of 20,000 bits (R104, log entry 22). -/
def cpAdmit (f : Frame) (pb : Pbi) : Option Pbi :=
  let p := f.port.val
  let cost := 8 * f.bytes * 50
  let d := at! pb.cpDebt p - (f.done - at! pb.cpT p)
  if d + cost ≤ 1000000 then some { pb with cpDebt := pb.cpDebt.set p (d + cost), cpT := pb.cpT.set p f.done } else none

/-- The pair that carries PTP (R356): a listed PTP source names it. -/
def ptpPair (t : TimeCfg) (pair : Nat) : Bool := t.src.contains (if pair = 1 then 1 else 2)

/-- A frame for the CP passes the PRP layer once (R104, R455). -/
def cpReceive (f : Frame) (pb : Pbi) : Pbi :=
  let p := f.port.val
  match f.dupKey with
  | some k =>
    if pb.cpKeys.contains k then (pb.count p 0).count p 3
    else match cpAdmit f pb with
      | some pb' => { pb'.count p 0 with cpKeys := (k :: pb'.cpKeys).take 64 }
      | none => pb.count p 1
  | none => match cpAdmit f pb with
    | some pb' => pb'.count p 0
    | none => pb.count p 1

/-- The engine's unicast address or the pair address (R104, R455). -/
def ownAddr (b : Block) (a : BitVec 32) : Bool := a == b.proto.unicast || some a == b.proto.pairAddr

/-- The port filter and the intake behind it: a duplicate has passed the filter too (R104, R119). A PTP message of the profile in use is handed back for
the TSU (R104); one of another transport (R355) is none of the Time row's, and goes where its address takes it. -/
def pbiReceive (b : Block) (simOn : Bool) (f : Frame) (pb : Pbi) : Pbi × Option PtpMsg :=
  let p := f.port.val
  if !f.fcsOk then (pb.count p 2, none) else
  match f.body with
  | .sv svid cr na lenOk sim as =>
    match subscribed b f with
    | some (_, s) =>
      match (b.streams[s]?).getD none with
      | some d =>
        let (st, dup) := svReceive d f simOn svid cr na lenOk sim as (at! pb.streams s)
        let pb := { pb with streams := pb.streams.set s st }
        (if dup then (pb.count p 0).count p 3 else pb.count p 0, none)
      | none => (pb.count p 1, none)
    | none => (pb.count p 1, none)
  | .goose cb ds gid cr nds sim test stNum _ tal t vals =>
    match subscribed b f with
    | some (_, g) =>
      match (b.gooses[g]?).getD none with
      | some d =>
        let (st, dup) := gooseReceive d f simOn cb ds gid cr nds sim test stNum tal t vals ((lkup pb.gcbs g).getD {})
        let pb := { pb with gcbs := lset pb.gcbs g st }
        (if dup then (pb.count p 0).count p 3 else pb.count p 0, none)
      | none => (pb.count p 1, none)
    | none => (pb.count p 1, none)
  | .ptp m udp =>
    if ptpPair b.time (p / 2) && f.forUs && udp.isSome == (b.time.profile == 2) then (pb.count p 0, some m)
    else if p ≥ 2 && udp.any (ownAddr b) then (cpReceive f pb, none)
    else (pb.count p 1, none)
  | .prpSupervision => (if p ≥ 2 || !b.proto.hsr then pb.count p 0 else pb.count p 1, none)
  | .arp => (if p ≥ 2 then cpReceive f pb else pb.count p 1, none)
  | .ipv4 dst _ _ =>
    (if p ≥ 2 && ownAddr b dst then cpReceive f pb else pb.count p 1, none)
  | .other => (pb.count p 1, none)

/-! ### The whole intake -/

/-- INTAKE_DEADLINE of the tick with grid number `G` (R116, R128). -/
def pbiJudge (b : Block) (G : Nat) (pb : Pbi) : Pbi :=
  { pb with
    judged := true
    streams := mapI (fun s (st : Stream) =>
      match (b.streams[s]?).getD none with
      | some d => judgeStream d G st
      | none => st) pb.streams
    gcbs := pb.gcbs.map (fun e => (e.1, gooseJudge (deadlineOf G) e.2)) }

/-- Phase A of the intake: presentation of every stream and control block, point writes and causes. `simOn` is `st.sim` from the
present tick on (R127). -/
def pbiCommit (b : Block) (simOn : Bool) (id : TickId) (sg : Sig) (loc : Nat → F32 × BitVec 16 × Stamp)
    (pb : Pbi) : Pbi × List PtWrite × List (Nat × Nat) :=
  let G := TickId.grid id
  let sv := mapI (fun s (st : Stream) =>
    match (b.streams[s]?).getD none with
    | some d => svCommit b id G s d sg loc (svPurge simOn st)
    | none => (st, [], [])) pb.streams
  let gs := pb.gcbs.map (fun e => (e.1, gooseCommit b e.1 id (deadlineOf G) sg (goosePurge (deadlineOf G) simOn e.2)))
  ({ pb with judged := false, streams := sv.map (·.1), gcbs := gs.map (fun e => (e.1, e.2.1)), fed := sv.map (·.1.backup) },
   sv.flatMap (·.2.1) ++ gs.flatMap (fun e => e.2.2.1),
   sortBy (fun c => c.1 * 65536 + c.2) (sv.flatMap (·.2.2) ++ gs.flatMap (fun e => e.2.2.2)))

/-- State of the intake after a Block activation: unchanged subscriptions keep theirs (R499). DESIGN CHOICE: of a changed one the
counts since reset (R136) begin again at 0 with the rest of its state. -/
def pbiActivate (old : Option Block) (b : Block) (pb : Pbi) : Pbi :=
  { pb with
    streams := mapI (fun s (st : Stream) =>
      if (old.bind (fun o => (o.streams[s]?).getD none)) = (b.streams[s]?).getD none then st else {}) pb.streams
    gcbs := (b.gooses.zipIdx.filterMap (fun x => x.1.map (fun d =>
      (x.2, match old.bind (fun o => (o.gooses[x.2]?).getD none) with
        | some d' => if d = d' then { (lkup pb.gcbs x.2).getD {} with dirty := true } else {}
        | none => {}))))
    svHold := pb.svHold.filter (fun e => (old.bind (fun o => o.proto.svPubs[e.1]?)).isSome &&
      old.bind (fun o => o.proto.svPubs[e.1]?) == b.proto.svPubs[e.1]?) }

/-- A frame that waits in an intake buffer is discarded (R39): the sample, or the waiting GOOSE frame, in this place. -/
def intakeDrop (goose : Bool) (sub i : Nat) (pb : Pbi) : Pbi :=
  if goose then { pb with gcbs := pb.gcbs.map (fun e => if e.1 = sub then (e.1, { e.2 with waits := e.2.waits.eraseIdx i }) else e) }
  else { pb with streams := pb.streams.modify sub (fun st => { st with samples := st.samples.eraseIdx i }) }

/-- A stream or control block in STATE 2 or 3 (R137). -/
def pbiFault (b : Block) (pb : Pbi) : Bool :=
  (pb.streams.zipIdx.any (fun x => ((b.streams[x.2]?).getD none).isSome && decide (2 ≤ x.1.state)))
    || pb.gcbs.any (fun e => decide (2 ≤ e.2.state))

/-- Status word of a stream (R136); `now` is the instant of the tick. -/
def streamStatus (b : Block) (s now : Nat) (st : Stream) : Nat :=
  let lan (x : Option Nat) : Bool := match x with | some t => decide (now < t + 1000000000) | none => false
  st.state + 4 * st.synch
    + 16 * boolNat (st.backup && b.inMap.any (fun m => !m.goose && m.sub == s && m.backupEn))
    + 32 * boolNat st.sim + 64 * boolNat (lan st.lastA) + 128 * boolNat (lan st.lastB)

/-- Point of a GOOSE control block (R137). -/
def gcbStatus (g : Gcb) : Nat :=
  g.state + 4 * boolNat g.sim + 8 * boolNat g.testf + 16 * Nat.min g.queue.length 15 + 65536 * g.events
    + 2 ^ 32 * (g.stNum % 2 ^ 32)

/-- Port counts (R135). -/
def portWrites (pb : Pbi) : List PtWrite :=
  (mapI (fun p l => mapI (fun i c => wN (0xF3600 + 32 * p + i) c) l) pb.ports).flatten

/-- Statistics points of streams and control blocks, written in phase F (R135 to R137). DESIGN CHOICE: those of one that the Block
no longer subscribes keep their last values (log entry 111). -/
def pbiWrites (b : Block) (now : Nat) (pb : Pbi) : List PtWrite :=
  (mapI (fun s (st : Stream) =>
    if ((b.streams[s]?).getD none).isSome then
      wN (0xF3000 + 16 * s) (streamStatus b s now st) ::
        (mapI (fun i c => wN (0xF3000 + 16 * s + 1 + i) (if i = 10 then st.margin.getD 0 else c)) st.counts ++
          (List.range 3).map (fun i => wN (0xF3000 + 16 * s + 13 + i) 0))
    else []) pb.streams).flatten
  ++ pb.gcbs.map (fun e => wN (0xF3800 + e.1) (gcbStatus e.2))

/-! ### Republished local channels (R133, R134) -/

/-- An integer member: the sample times K in the published unit, half to even (R133). -/
def svMember (voltage : Bool) (w : BitVec 32) (k : F32) : Int :=
  let x := F.mul (F.ofInt ((w.setWidth 24 : BitVec 24).toInt)) k
  let (n, d) := F.toFrac x
  F.rndDiv (n * (if voltage then 100 else 1000)) d

/-- Members of a publication at one committed sample. -/
def svMembers (b : Block) (sg : Sig) (p : SvPub) (afe : Afe) : List (Int × BitVec 16) :=
  p.chans.zipIdx.map (fun c =>
    let w := shownSample b sg afe c.1
    (svMember (p.isVoltage.getD c.2 false) w.1 (at! (at! afe.lanes (c.1 / 4)).k (c.1 % 4)), w.2))

/-- Phase F of the publications: the first sample of a frame is held, the second completes it. Answers the frames: publication,
SmpCnt of the first sample, both samples' members. -/
def svPublish (b : Block) (sg : Sig) (id : TickId) (afe : Afe) (pb : Pbi) :
    Pbi × List (SvPub × Nat × List (Int × BitVec 16) × List (Int × BitVec 16)) :=
  let pubs := b.proto.svPubs.zipIdx
  if id.k % 4 = 1 then ({ pb with svHold := pubs.map (fun p => (p.2, svMembers b sg p.1 afe)) }, [])
  else if id.k % 4 = 3 then
    ({ pb with svHold := [] },
     pubs.filterMap (fun p => (lkup pb.svHold p.2).map (fun m => (p.1, (id.k - 3) / 2, m, svMembers b sg p.1 afe))))
  else (pb, [])

end Sys2Proof
end

