-- ==== Sys2Proof/Machine/Drc.lean ====
section
/-! DEFINITION. The disturbance recorder (R252 to R265, R270 to R273, R278): frames, triggers, record boundaries, memory,
late samples, replay images, snippets, status. Tick counts are counts of LTC. -/

namespace Sys2Proof

/-! ### Frames (R252, R255) -/

/-- REPLAY, KEEP_LATE, PROTECT (R252). -/
def Plan.replay (p : Plan) : Bool := p.pflags.testBit 0
/-- KEEP_LATE. -/
def Plan.keepLate (p : Plan) : Bool := p.pflags.testBit 1
/-- PROTECT. -/
def Plan.protect (p : Plan) : Bool := p.pflags.testBit 2

/-- FS_FRAME (R255). -/
def Plan.frameSize (p : Plan) : Nat := 8 + 4 * p.ana.length + 4 * ((p.ana.length + 3) / 4) + 8 * ((p.bin.length + 31) / 32)

/-- Point index of a channel word: bit 31 selects the second part. -/
def chanIdx (w : Nat) : Nat := w % 2147483648

/-- K of the local channel whose sample point this is (R87, R252). -/
def ptK (b : Block) (afe : Afe) (i : Nat) : F32 :=
  match (List.range 64).find? (fun ch => (localPts b ch).contains i) with
  | some ch => at! (at! afe.lanes (ch / 4)).k (ch % 4)
  | none => 0

/-- An analog channel's value (R252). -/
def anaValue (b : Block) (afe : Afe) (sg : Sig) (w : Nat) : F32 :=
  let p := sg.rd (chanIdx w)
  let t := p.typ.toNat
  if t = 3 then F.ofInt p.value.toInt
  else if t = 4 then F.ofNat p.value.toNat
  else if t = 5 then F.ofInt p.enum
  else if t = 7 then (if 2147483648 ≤ w then p.cx.im else p.cx.re)
  else if t = 8 then wordValue (p.value.setWidth 32) (ptK b afe (chanIdx w))
  else p.real

/-- The quality byte AQ (R255). -/
def anaQual (q : BitVec 16) : BitVec 8 :=
  BitVec.ofNat 8 (qVal q + 4 * boolNat (q.getLsbD 2) + 8 * boolNat (q.getLsbD 9) + 16 * boolNat (q.getLsbD 7)
    + 32 * boolNat (q.getLsbD 10) + 64 * boolNat (q.getLsbD 11) + 128 * boolNat (q.getLsbD 6 || q.getLsbD 4))

/-- A binary channel's value; false where it reads invalid (R255). -/
def binValue (sg : Sig) (w : Nat) : Bool :=
  let p := sg.rd (chanIdx w)
  !qBad p.qual && p.value.getLsbD (if 2147483648 ≤ w then 1 else 0)

/-- Points that the elements, the slot and the locator of bay `y` read from outside it (R270): other bays' backup trips that name its
slot (R241), the status of the output groups of its trip outputs (R342) and what the load-shed stages that name it go by (R250) among
them. -/
def bayReads (b : Block) (y : Nat) : List Nat :=
  let own (i : Nat) : Bool := decide (bayBase y ≤ i) && decide (i < bayBase y + 0x2000)
  let els := (b.elems.filter (fun e => e.group == y)).flatMap (·.blk)
  let sl := match b.slots[y]? with
    | some e => [e.posA, e.posB, e.ilkClose, e.ilkOpen, e.recPermit, e.blk79, e.bfiExt, e.closeReq, e.loReset] ++ (slotSources b y e).map (·.point)
    | none => []
  let chs := match b.groups[y]? with
    | some g => g.chans.filterMap (fun c => if c.2 < 64 then localPt b c.2 else (pbChan b c.2).map (·.point))
    | none => []
  let bf := (b.slots.zipIdx.filter (fun e => e.1.use != 0 && e.1.bft.contains y)).map (fun e => slotBase e.2 + 5)
  let sups := match b.slots[y]? with
    | some e => ((e.tripDo ++ [e.retripDo]).filter (· != 0xFF)).map (fun o => 0x611C8 + o / 16)
    | none => []
  let shed := (b.sheds.zipIdx.filter (fun e => e.1.slots.getLsbD y)).flatMap (fun e =>
    [e.1.trig, 0x63850 + 4 * e.2, 0x63851 + 4 * e.2, 0x63852 + 4 * e.2])
  (els ++ sl ++ chs ++ bf ++ sups ++ shed ++ [0x63400, 0x63402]).filter (fun i => i != noPoint && !own i)

/-- Bays of a plan. -/
def Plan.bayList (p : Plan) : List Nat := (List.range 48).filter (fun y => p.bays.getLsbD y)

/-- What the slots of a plan's bays read from outside them and no point holds as they read it (R270): the mirrored supply of the groups
of their trip outputs (R342), other slots' selections under single selection (R242), and the restoration close requests of the tick
(R250). -/
def bayOutside (b : Block) (fio : Fio) (slots : List SlotState) (sc : Schemes) (p : Plan) (f : DrcFrame) : DrcFrame :=
  let dos := (p.bayList.flatMap (fun y => match b.slots[y]? with
    | some e => (e.tripDo ++ [e.retripDo]).filter (· != 0xFF)
    | none => [])).map (· / 16)
  { f with
    sups := dos.eraseDups.map (fun g => (g, (at! fio.grps g).supMir))
    sels := if b.singleSel then (slots.zipIdx.filter (fun x => !p.bayList.contains x.2 && x.1.sel != 0)).map (fun x => (x.2, x.1.sel)) else []
    asks := (sc.shed.zipIdx.filterMap (fun x => x.1.asked.map (fun n => (x.2, n)))).filter (fun x => p.bayList.contains x.2) }

/-- The frame of a tick for a plan (R255, R270). -/
def takeFrame (b : Block) (afe : Afe) (sg : Sig) (id : TickId) (ltc utc tq : Nat) (acts : List Act) (p : Plan) : DrcFrame :=
  { id := id, ltc := ltc, utc := utc, tq := tq, vals := p.ana.map (anaValue b afe sg), aq := p.ana.map (fun w => anaQual (sg.rd (chanIdx w)).qual)
    bv := p.bin.map (binValue sg), bq := p.bin.map (fun w => qBad (sg.rd (chanIdx w)).qual)
    outside := if p.replay then (p.bayList.flatMap (bayReads b)).eraseDups.map (fun i => (i, sg.rd i)) else []
    acts := if p.replay then acts else [], blk := b.blockId }

/-- A list of Booleans as 32-bit words, entry i at bit i mod 32 of word i / 32. -/
def bitWords (l : List Bool) : List Byte :=
  (List.range ((l.length + 31) / 32)).flatMap (fun i => leBytes (packBits ((l.drop (32 * i)).take 32)) 4)

/-- The bytes of a frame (R255), in a record whose first frame's second is `sec`. After a step of the clock backwards SEC_OFS is negative,
in two's complement. -/
def DrcFrame.bytes (sec : Nat) (f : DrcFrame) : List Byte :=
  leBytes f.id.k 2 ++ leBytes f.id.gen.toNat 2 ++ leBytes (f.id.sec + (2 ^ 32 - sec % 2 ^ 32)) 4 ++ f.vals.flatMap (fun v => leBytes v.toNat 4) ++
    f.aq ++ List.replicate ((4 - f.aq.length % 4) % 4) 0 ++ bitWords f.bv ++ bitWords f.bq

/-- The bytes of a late-table entry (R265). -/
def LateEntry.bytes (e : LateEntry) : List Byte :=
  leBytes e.stream 1 ++ leBytes e.member 1 ++ leBytes e.smpCnt 2 ++ leBytes e.sec 4 ++ leBytes e.value.toNat 4 ++
    leBytes e.qual.toNat 2 ++ leBytes e.late 2

/-- The dynamic state of a plan's bays as it stands (R270); the operator actions of a tick stand in its frame. -/
def takeImage (b : Block) (els : List ElemState) (flus : List FluSlot) (slots : List SlotState) (ph : Phe) (d : Drc)
    (p : Plan) : Option DrcImage :=
  if !p.replay then none else
  let ys := p.bayList
  let es := (b.elems.zipIdx.filter (fun e => ys.contains e.1.group)).map (·.2)
  let chs := ys.flatMap (fun y => (at! b.groups y).chans.map (·.2))
  some { elems := es.map (fun i => (i, at! els i)), flus := es.map (fun i => (i, at! flus i))
         slots := ys.map (fun y => (y, { at! slots y with reqs := [] })), fls := ys.map (fun y => (y, at! d.fls y))
         groups := ys.map (fun y => (y, at! ph.groups y)), hists := chs.map (fun c => (c, at! ph.hist c)) }

/-! ### Triggers (R253) -/

/-- A trigger entry's condition between two readings of its point. -/
def trigHolds (b : Block) (afe : Afe) (t : TrigEntry) (now : Point) (old : BitVec 64 × BitVec 16) : Bool :=
  let was : Point := { now with value := old.1, qual := old.2 }
  let val (p : Point) : F32 :=
    let ty := p.typ.toNat
    if ty = 3 then F.ofInt p.value.toInt else if ty = 4 then F.ofNat p.value.toNat else if ty = 5 then F.ofInt p.enum
    else if ty = 8 then wordValue (p.value.setWidth 32) (ptK b afe (chanIdx t.point)) else p.real
  if qBad now.qual || qBad old.2 then false
  else if t.kind = 1 then now.bool && !was.bool
  else if t.kind = 2 then !now.bool && was.bool
  else if t.kind = 3 then F.ge (val now) t.level && F.lt (val was) t.level
  else F.ge t.level (val now) && F.lt t.level (val was)

/-- The triggers of a plan that hold in this tick, in the order of R258: TRG index and KIND. -/
def planTrigs (b : Block) (afe : Afe) (sg : Sig) (p : Plan) (s : PlanState) : List (Nat × Nat) :=
  (p.trg.zipIdx.filter (fun t =>
    match s.prev[t.2]? with
    | some old => trigHolds b afe t.1 (sg.rd t.1.point) old
    | none => false)).map (fun t => (t.2, t.1.kind))
  ++ (if s.manual then [(0xFF, 0)] else [])

/-! ### Record memory (R260) -/

/-- Lanes of a plan's LANES. -/
def Plan.laneList (p : Plan) : List Nat := (List.range 16).filter (fun n => p.lanes.getLsbD n)

/-- KiB that a record of a plan reserves at its start (R260). -/
def Plan.needKib (p : Plan) : Nat :=
  (p.maxlen * p.frameSize + 1023) / 1024 + 4 + (if p.keepLate then 1024 else 0) + 81 * p.laneList.length + 64
    + (if p.replay then (p.imgSize + 1023) / 1024 else 0)

/-- Bytes of a snippet, its 64-byte header with them; one still running counts with all its words. -/
def Snip.bytes (s : Snip) : Nat := 64 + 4 * (if s.done then s.words.length else 4096 * maskN s.mask)

/-- Byte offsets of the parts of a record that follow its header (R261): frames lie in whole blocks of 64 KiB, each with its CRC. DESIGN
CHOICE (log entry 92): the spec does not say whether a frame may lie across two blocks; here it may. -/
def drcOffsets (r : DrcRec) : List Nat :=
  let late := 4096 + 65536 * ((r.frames.length * r.fs + 65531) / 65532)
  let snip := late + 16 * r.late.length
  let fl := snip + (r.snips.map Snip.bytes).sum
  [late, snip, fl, if r.image.isSome then fl + 64 * r.fls.length else 0]

/-- KiB of the space that a record uses (R260): up to the end of its last part. -/
def DrcRec.usedKib (r : DrcRec) : Nat :=
  ((drcOffsets r).getD 2 0 + 64 * r.fls.length + (if r.image.isSome then r.entry.imgSize else 0) + 1023) / 1024

/-- The reservation of a closed record shrinks to the space it uses (R260). -/
def DrcRec.shrink (r : DrcRec) : DrcRec := { r with kib := Nat.min r.kib r.usedKib }

/-- Space of the DRC area: 960 MiB less the 1 MiB directory and the bad blocks. -/
def Drc.area (d : Drc) : Nat := 982016 - 64 * d.bad.length

/-- Unreserved space in KiB. -/
def Drc.free (d : Drc) : Nat := d.area - (d.recs.map (·.kib)).foldl (· + ·) 0

/-- A record that may be deleted to make room (R260). -/
def DrcRec.deletable (r : DrcRec) : Bool := r.state != 1 && !r.exporting && (!r.entry.protect || r.exported)

/-- A record of `need` KiB fits. -/
def Drc.fits (need : Nat) (d : Drc) : Bool := decide (d.recs.length < 64) && decide (need ≤ d.free)

/-- Delete oldest first, counting each, until `need` KiB and one of 64 places are free or nothing is left to delete (R260). -/
def makeRoom (need : Nat) : Nat → Drc → Drc
  | 0, d => d
  | n + 1, d =>
    if d.fits need then d
    else match d.recs.findIdx? DrcRec.deletable with
      | some i => makeRoom need n { d with recs := d.recs.eraseIdx i, deleted := d.deleted + 1 }
      | none => d

/-- Set a FLAGS bit. -/
def DrcRec.flag (r : DrcRec) (i : Nat) : DrcRec := { r with flags := r.flags ||| (1#16 <<< i) }

/-- Triggers enter the list, at most 32; one beyond sets FLAGS bit 8 (R257). -/
def addTrigs (ofs : Nat) (trigs : List (Nat × Nat)) (r : DrcRec) : DrcRec :=
  let l := r.tlist ++ trigs.map (fun t => (ofs, t.1, t.2))
  let r := { r with tlist := l.take 32 }
  if 32 < l.length then r.flag 8 else r

/-- Change the record of a number. -/
def Drc.modRec (d : Drc) (no : Nat) (f : DrcRec → DrcRec) : Drc :=
  { d with recs := d.recs.map (fun r => if r.recno = no then f r else r) }

/-- The record of a number. -/
def Drc.rec_ (d : Drc) (no : Nat) : Option DrcRec := d.recs.find? (fun r => r.recno == no)

/-- The running record of a plan. -/
def Drc.running (d : Drc) (p : Nat) : Option DrcRec := ((at! d.plans p).run).bind d.rec_

/-! ### Snippets (R272, R273) -/

/-- Counter and start edge of the ring words of a lane, oldest first. -/
def ringWords (l : Lane) : List (Nat × Nat × BitVec 32) :=
  (l.wf.zipIdx.map (fun x => (l.count - 1 - x.2, l.start - 160 * (x.2 + 1), x.1))).reverse

/-- Code of a ring word. -/
def wordCode (w : BitVec 32) : Int := (w.setWidth 18 : BitVec 18).toInt
/-- Slot of a ring word. -/
def wordSlot (w : BitVec 32) : Nat := (w >>> 18).toNat % 8

/-- The onset (R272): counter of the first input conversion of the last four ticks that jumps by WFTHR; else of the first
conversion at or after the previous tick start. `starts` is newest first, the tick n at its head. -/
def onsetOf (thr : Nat) (starts : List Nat) (l : Lane) : Nat :=
  let lo := starts.getD 4 0
  let hi := starts.getD 0 0
  let ws := ringWords l
  let jumps := ws.foldl (fun (a : List (Nat × Int) × Option Nat) w =>
    let sl := wordSlot w.2.2
    let c := wordCode w.2.2
    let hit := match lkup a.1 sl with
      | some c0 => decide (sl < 4) && decide (lo ≤ w.2.1) && decide (w.2.1 < hi) && decide (thr ≤ (c - c0).natAbs)
      | none => false
    (lset a.1 sl c, if a.2.isNone && hit then some w.1 else a.2)) ([], none)
  match jumps.2 with
  | some n => n
  | none =>
    let t := starts.getD 1 0
    ((l.count : Int) - ((l.start : Int) - (t : Int)) / 160).toNat

/-- A snippet begun on a lane: the words [onset − 1,024 n, onset + 3,072 n) for n enabled slots. -/
def beginSnip (thr : Nat) (starts : List Nat) (n : Nat) (l : Lane) : Snip :=
  let k := maskN l.mask
  { lane := n, mask := l.mask, first := (onsetOf thr starts l : Int) - 1024 * k, cass := l.cass, oL := l.oL, gL := l.gL }

/-- The last conversion of a snippet has been written, or its lane's ring runs no longer, so that none is to come: the snippet is then
kept as it stands (R273). -/
def Snip.due (s : Snip) (l : Lane) : Bool := !s.done && (decide (s.first + 4096 * maskN s.mask ≤ l.count) || l.mask == 0 || !l.wfOn)

/-- The lane's cassette changed at or after the instant `t`: one was read, withdrawn, or awaits its reading. -/
def cassChanged (t : Nat) (l : Lane) : Bool :=
  !l.present || !l.cassRead || decide (t < l.validFrom) || (l.goneAt.any (fun g => decide (t ≤ g))) ||
    l.past.any (fun u => u.gone.any (fun g => decide (t ≤ g)))

/-- Copy a snippet (R273): its words, the place of the first of them by the lane's latches (R100), and flag bit 0 where the ring lacks
some or the cassette changed in the span. -/
def copySnip (s : Snip) (l : Lane) : Snip :=
  let n := 4096 * maskN s.mask
  let ws := (ringWords l).filter (fun w => decide (s.first ≤ (w.1 : Int)) && decide ((w.1 : Int) < s.first + n))
  let c := (ws.head?.map (·.1)).getD 0
  let t := (ws.head?.map (·.2.1)).getD 0
  let lat := (l.lats.find? (fun (x : Nat × Nat × TickId) => decide (x.1 ≤ c))).getD (c, 0, {})
  { s with done := true, words := ws.map (·.2.2), count := c, id := lat.2.2, ofs := lat.2.1 + 160 * (c - lat.1), at_ := t
           flag := s.flag || decide (ws.length ≠ n) || l.cass != s.cass || cassChanged t l || l.mask != s.mask }

/-- SNIPPET_COPY for a record's snippet of a lane, where it is due. -/
def snipStep (afe : Afe) (s : Snip) : Snip := if s.due (at! afe.lanes s.lane) then copySnip s (at! afe.lanes s.lane) else s

/-! ### Record boundaries (R256, R257, R259) -/

/-- What every start of a record takes from the engine. -/
structure DrcEnv where
  b      : Block
  afe    : Afe
  sg     : Sig
  id     : TickId
  ltc    : Nat
  starts : List Nat
  fw     : BitVec 32
  utc    : Nat
  tq     : Nat
  fio    : Fio
  slots  : List SlotState
  sc     : Schemes

/-- Kinds 0x0005 and 0x0006 (R475). -/
def drcEvent (started : Bool) (p recno : Nat) : EvRec :=
  if started then { kind := 5, subject := p, value := recno } else { kind := 6, subject := p }

/-- Close a record (R257, R260): complete, or truncated. -/
def closeRec (state : Nat) (r : DrcRec) : DrcRec := { r with state := state }.shrink

/-- Start a record with its frames (R256, R260); the Boolean says that room was found. -/
def startRec (v : DrcEnv) (n : Nat) (p : Plan) (fr : List (DrcFrame × Option DrcImage)) (trigs : List (Nat × Nat))
    (trig : TickId) (endLtc : Nat) (prev : Option Nat) (d : Drc) : Drc × Bool :=
  let d := makeRoom p.needKib 65 d
  if !d.fits p.needKib then ({ d with refused := d.refused + 1, full := true }, false)
  else
    let pre := fr.length - 1
    let short := prev.isNone && decide (pre < p.pre)
    let img := (fr.head?.map (·.2)).getD none
    let fl : BitVec 16 := (if short then 1 else 0) ||| (if prev.isSome then 4 else 0) ||| (if img.isSome then 0x80 else 0)
    let snips := if prev.isSome then [] else
      (p.laneList.filter (fun i => (at! v.afe.lanes i).wfOn)).map (fun i => beginSnip p.wfthr v.starts i (at! v.afe.lanes i))
    let no := d.lastNo + 1
    let r : DrcRec := addTrigs pre trigs
      { recno := no, plan := n, flags := fl, first := (fr.head?.map (·.1.id)).getD {}, trig := trig
        preFr := pre, prev := prev, blockId := (fr.head?.map (·.1.blk)).getD 0, fwVer := v.fw, entry := p, fs := p.frameSize
        frames := fr.map (·.1), firstLtc := v.ltc - pre, endLtc := endLtc
        snips := snips, image := img, kib := p.needKib, utcOfs := (fr.head?.map (·.1.utc)).getD 0, tq := (fr.head?.map (·.1.tq)).getD 0 }
    ({ d with recs := d.recs ++ [r], lastNo := no, full := false
              plans := d.plans.modify n (fun s => { s with run := some no, cont := none }) }, true)

/-- Triggers that hold while a record runs (R257). -/
def trigRunning (p : Plan) (ltc : Nat) (trigs : List (Nat × Nat)) (r : DrcRec) : DrcRec :=
  let r := addTrigs (ltc - r.firstLtc) trigs r
  if trigs.isEmpty || p.retrig = 0 then r
  else
    let e := Nat.max r.endLtc (ltc + p.post)
    let lim := r.firstLtc + p.maxlen - 1
    let r := if r.endLtc < e then r.flag 1 else r
    if lim < e then { (r.flag 3) with endLtc := lim } else { r with endLtc := e }

/-- RECORD_CLOSE (R257): a record at its end tick closes; one that ran into MAXLEN leaves its continuation to follow. -/
def closeDue (n ltc : Nat) (d : Drc) : Drc :=
  match d.running n with
  | some r =>
    if r.state = 1 && decide (r.endLtc ≤ ltc) then
      let d := d.modRec r.recno (closeRec 2)
      { d with plans := d.plans.modify n (fun s => { s with run := none }) }
    else d
  | none => d

/-- One plan in phase F (R255 to R258): ring, frames, triggers, boundaries. -/
def planStep (v : DrcEnv) (acts : List Act) (n : Nat) (p : Plan) (d : Drc) :
    Drc × List EvRec :=
  if !p.use then (d, []) else
  let s := at! d.plans n
  let fr0 := takeFrame v.b v.afe v.sg v.id v.ltc v.utc v.tq acts p
  let fr := if p.replay then bayOutside v.b v.fio v.slots v.sc p fr0 else fr0
  let trigs := planTrigs v.b v.afe v.sg p s
  let ring := ((fr, (d.start[n]?).getD none) :: s.ring).take (p.pre + 1)
  let s1 : PlanState := { s with ring := ring, manual := false
                                 prev := p.trg.map (fun t => let q := v.sg.rd t.point; (q.value, q.qual)) }
  let d := { d with plans := d.plans.set n s1 }
  let pay (x : Drc × Bool) : Drc × List EvRec := (x.1, [drcEvent x.2 n x.1.lastNo])
  match s1.run, s1.cont with
  | some no, _ =>
    let d0 := d.modRec no (fun r => trigRunning p v.ltc trigs { r with frames := r.frames ++ [fr] })
    let runOn := match d0.rec_ no with
      | some r => r.flags.getLsbD 3 && !trigs.isEmpty
      | none => false
    let d1 := if runOn then
        { d0 with plans := d0.plans.modify n (fun s =>
            { s with cont := some (v.ltc + p.post, no, match s.cont with | some c => c.2.2 | none => v.id) }) }
      else d0
    (closeDue n v.ltc d1, [])
  | none, some c =>
    let x := startRec v n p [(fr, (d.start[n]?).getD none)] [] c.2.2 c.1 (some c.2.1) { d with plans := d.plans.modify n (fun s => { s with cont := none }) }
    let d := if x.2 then x.1.modRec x.1.lastNo (trigRunning p v.ltc trigs) else x.1
    (closeDue n v.ltc d, (pay x).2)
  | none, none =>
    if trigs.isEmpty then (d, [])
    else
      let x := startRec v n p ring.reverse trigs v.id (v.ltc + p.post) none d
      (closeDue n v.ltc x.1, (pay x).2)

/-! ### Late samples (R265) -/

/-- Entries of one late sample, with the grid number of the tick that would have presented it. -/
def lateEntries (b : Block) (s : Nat) (d : StreamDesc) (st : Stream) (n : Nat) : List (Nat × LateEntry) :=
  match st.find n with
  | none => []
  | some x =>
    let G := firstGrid d.hz n + d.d
    let dl := deadlineOf G
    let lateNs := x.done - dl
    if 10000000 < lateNs then [] else
    (b.inMap.filter (fun m => !m.goose && m.sub == s)).map (fun m =>
      (G, { stream := s, member := m.member, smpCnt := n % d.hz, sec := n / d.hz % 4294967296
            value := F.mul (F.ofInt ((x.raws[m.member]?.map (·.1)).getD 0)) m.scale
            qual := ((x.raws[m.member]?.map Prod.snd).getD 0#32).setWidth 16, late := Nat.min (lateNs / 1000) 65535 }))

/-- Put late entries into a running record whose span contains the grid value (R265). -/
def lateInto (now : Nat) (es : List (Nat × LateEntry)) (d : Drc) (r : DrcRec) : Drc :=
  let mine := es.filter (fun e => decide (TickId.grid r.first ≤ e.1) && decide (e.1 ≤ now))
  let room := 65536 - r.late.length
  let d1 := d.modRec r.recno (fun r =>
    let r1 := { r with late := r.late ++ (mine.take room).map (·.2) }
    if 65536 ≤ r1.late.length then r1.flag 6 else r1)
  { d1 with lateKept := d1.lateKept + Nat.min room mine.length, lateLost := d1.lateLost + (mine.length - room) }

/-- Late samples of all streams into all running records that keep them. -/
def lateStep (v : DrcEnv) (pb : Pbi) (d : Drc) : Drc :=
  let es := (mapI (fun s (st : Stream) =>
    match (v.b.streams[s]?).getD none with
    | some ds => st.late.flatMap (lateEntries v.b s ds st)
    | none => []) pb.streams).flatten
  if es.isEmpty then d
  else (d.recs.filter (fun r => r.state == 1 && r.entry.keepLate)).foldl (lateInto (TickId.grid v.id) es) d

/-! ### Writing, supply loss, storage errors (R262 to R264) -/

/-- Frames written in a tick: 32 KiB shared among the records that hold unwritten frames (R262). -/
def writeStep (d : Drc) : Drc :=
  let m := (d.recs.filter (fun r => decide (r.written < r.frames.length))).length
  { d with recs := d.recs.map (fun r =>
      if r.written < r.frames.length then
        { r with written := Nat.min r.frames.length (r.written + 32768 / Nat.max 1 m / Nat.max 1 r.fs) }
      else r) }

/-- DRC_POWERFAIL_CLOSE (R263): open records close as interrupted with the frames written. -/
def powerfailClose (d : Drc) : Drc :=
  { d with pfTrunc := d.recs.any (fun r => r.state == 1)
           recs := d.recs.map (fun r =>
             if r.state = 1 then closeRec 4 { r with frames := r.frames.take r.written } else r)
           plans := d.plans.map (fun s => { s with run := none, cont := none }) }

/-- The command DRC_POWERFAIL_CLOSE (R263): once 95 ticks have been written, the 96th is written and the records close. -/
def powerfailGo (d : Drc) : Drc :=
  if d.failTicks = some 96 then { powerfailClose (writeStep d) with failTicks := some 97 } else d

/-- Records that a reset leaves (R263): what still reads STATE 1 is closed as STATE 4 with the frames written; RECNO,
directory and marks stay, rings are empty. PF_TRUNC (R278) tells of the last power loss: `power` says that this is one. -/
def drcAfterReset (power : Bool) (d : Drc) : Drc :=
  { recs := d.recs.map (fun r =>
      let r := { r with exporting := false, frames := r.frames.take r.written }
      if r.state = 1 then closeRec 4 r else r)
    lastNo := d.lastNo, bad := d.bad
    pfTrunc := if power && decide (d.failTicks.getD 0 < 97) then d.recs.any (fun r => r.state == 1) else d.pfTrunc }

/-- Frames of a record read as missing from now on (R39, R264). -/
def dropFrames (first n : Nat) (r : DrcRec) : DrcRec :=
  { r with gone := r.gone ++ (List.range n).filterMap (fun i =>
      if first + i < r.frames.length && !r.gone.contains (first + i) then some (first + i) else none) }

/-- A frame block that cannot be read is kept, and FLAGS bit 5 sets (R264). -/
def badBlock (first n : Nat) (r : DrcRec) : DrcRec := { (dropFrames first n r).flag 5 with badBlks := r.badBlks + 1 }

/-- DRC_STORAGE_ERROR (R264): a block whose write fails is never used again; the frames of one that cannot be read are missing. -/
def storageError (e : DrcErr) (d : Drc) : Drc :=
  match e with
  | .write blk => if d.bad.contains blk then d else { d with bad := d.bad ++ [blk] }
  | .read no first n => d.modRec no (badBlock first n)

/-! ### Phase F (R255 to R265, R272, R273) -/

/-- One plan of the pass over all plans. -/
def planFold (v : DrcEnv) (acts : List Act) (a : Drc × List EvRec) (p : Plan × Nat) :
    Drc × List EvRec :=
  let y := planStep v acts p.2 p.1 a.1
  (y.1, a.2 ++ y.2)

/-- The snippets of a record in phase F (R273); a closed record keeps the space it then uses (R260). -/
def snipRec (afe : Afe) (r : DrcRec) : DrcRec :=
  let x := { r with snips := r.snips.map (snipStep afe) }
  if r.state = 1 then x else x.shrink

/-- The recorder in phase F. After a supply failure no frame is taken; writing goes on for 96 ticks (R263). -/
def drcPhaseF (v : DrcEnv) (pb : Pbi) (acts : List Act) (d : Drc) : Drc × List EvRec :=
  match d.failTicks with
  | some (n + 1) =>
    let d := { d with failTicks := some (n + 2) }
    if n + 1 < 96 then (writeStep d, []) else (if n + 1 = 96 then powerfailClose (writeStep d) else d, [])
  | f =>
    let x := v.b.plans.zipIdx.foldl (planFold v acts) (d, [])
    let d := lateStep v pb x.1
    let d := { d with recs := d.recs.map (snipRec v.afe), failTicks := f.map (· + 1) }
    (writeStep d, x.2)

/-- EVR_SEQ of records started in this tick (R261): the number of their start's event record. -/
def drcNumber (e : Evr) (d : Drc) : Drc :=
  { d with recs := d.recs.map (fun r =>
      if r.evrSeq = 0 then
        match (e.queue ++ e.mem.map (·.2)).find? (fun x => x.kind == 5 && x.value == r.recno) with
        | some x => { r with evrSeq := x.seq }
        | none => r
      else r) }

/-- A plan's entry is byte for byte the same. -/
def sameEntry (p q : Plan) : Bool := { p with imgSize := 0 } == { q with imgSize := 0 }

/-- Plans over a Block activation (R259). The locator of a bay whose entry changes starts anew. -/
def drcActivate (old : Option Block) (b : Block) (d : Drc) : Drc :=
  (List.range 16).foldl (fun (d : Drc) n =>
    let p := at! b.plans n
    let same := match old with
      | some o =>
        let q := at! o.plans n
        sameEntry q p && (p.ana ++ p.bin).all (fun w => mapTyp o (chanIdx w) == mapTyp b (chanIdx w))
      | none => false
    if same then d
    else
      let d := match d.running n with
        | some r => d.modRec r.recno (fun r => closeRec 3 (r.flag 4))
        | none => d
      { d with plans := d.plans.set n {} })
    { d with fls := mapI (fun y (s : FlState) =>
        if (match old with | some o => at! o.fls y == at! b.fls y | none => false) then s else {}) d.fls }

/-! ### Header (R261) and status (R278) -/

/-- A tick identity in a header. -/
def idBytes (t : TickId) : List Byte := leBytes t.sec 8 ++ leBytes (tickNs t.k) 4 ++ leBytes t.gen.toNat 2 ++ leBytes 0 2

/-- Header bytes 0 to 63 (R261). -/
def drcHeader (r : DrcRec) : List Byte :=
  [0x44, 0x52, 0x43, 0x31] ++ leBytes r.recno 4 ++ leBytes r.plan 1 ++ leBytes r.state 1 ++ leBytes r.flags.toNat 2
    ++ leBytes (Nat.min r.written r.frames.length) 4 ++ idBytes r.first ++ idBytes r.trig ++ leBytes r.preFr 4
    ++ leBytes (r.prev.getD 0xFFFFFFFF) 4 ++ leBytes r.entry.ana.length 2 ++ leBytes r.entry.bin.length 2
    ++ leBytes r.tlist.length 2 ++ leBytes r.snips.length 2

/-- The record header of 4 KiB (R261). -/
def drcHead (r : DrcRec) : List Byte :=
  let pad (n : Nat) (l : List Byte) : List Byte := l ++ List.replicate (n - l.length) 0
  let body := drcHeader r ++ leBytes r.evrSeq 8 ++ leBytes r.late.length 4 ++ (drcOffsets r).flatMap (fun o => leBytes o 4) ++
    leBytes r.fs 4 ++ leBytes r.blockId.toNat 16 ++ leBytes r.fwVer.toNat 4 ++ List.replicate 12 0 ++
    pad 256 (r.tlist.flatMap (fun t => leBytes t.1 4 ++ leBytes t.2.1 1 ++ leBytes t.2.2 1 ++ [0, 0])) ++
    pad 256 (r.entry.ana.flatMap (fun i => leBytes i 4)) ++ pad 1024 (r.entry.bin.flatMap (fun i => leBytes i 4))
  let all := pad 4092 body
  all ++ leBytes (crc32c all).toNat 4

/-- A plan's status. -/
def planStatus (p : Plan) (s : PlanState) : Nat :=
  if !p.use then 0 else if s.run.isSome then 3 else if s.ring.length < p.pre + 1 then 1 else 2

/-- Status word (R278). -/
def drcStatus (d : Drc) : Nat :=
  d.recs.length + 2 ^ 8 * (d.recs.filter (fun r => r.state == 1)).length + 2 ^ 13 * boolNat d.full
    + 2 ^ 14 * boolNat (!d.bad.isEmpty) + 2 ^ 15 * boolNat d.pfTrunc + 2 ^ 32 * d.free

/-- Status points (R278). -/
def drcWrites (b : Option Block) (d : Drc) : List PtWrite :=
  [wN 0xF0200 (drcStatus d), wN 0xF0201 d.refused, wN 0xF0202 d.deleted, wN 0xF0203 d.lateKept, wN 0xF0204 d.lateLost,
   wN 0xF0205 (d.recs.map (·.badBlks)).sum, wN 0xF0206 d.lastNo]
  ++ (List.range 16).map (fun n => wN (0xF0210 + n) (planStatus ((b.map (fun b => at! b.plans n)).getD {}) (at! d.plans n)))

end Sys2Proof
end

