-- ==== Sys2Proof/Machine/Fio.lean ====
section
/-! DEFINITION. Field inputs and outputs (R324 to R348): filters, oscillation, fast channels, switches with retries and
latches, readback, field supplies, hold keepers, status words. Instants in ns; STAT_TICK counts outputs' times. -/

namespace Sys2Proof

/-! ### Digital inputs (R327 to R329) -/

/-- FILT in ns. -/
def DiEntry.filtNs (e : DiEntry) : Nat := e.filt * 100000

/-- The next microsecond boundary of the local clock at or after an instant (R327). -/
def usCeil (t : Nat) : Nat := (t + 999) / 1000 * 1000

/-- The filtered level of a raw state: INV before the filter. -/
def diLevel (e : DiEntry) (d : DiState) : Bool := d.raw != e.inv

/-- DI_FILTER_ACCEPT (R327): the run has held for FILT by `now`. -/
def diAccept (e : DiEntry) (now : Nat) (d : DiState) : DiState :=
  if e.en && d.seen && d.acc != some (diLevel e d) && decide (d.since + e.filtNs ≤ now) then
    let st := d.start
    let d := { d with acc := some (diLevel e d), accAt := st }
    if d.osc then d
    else { d with waits := d.waits ++ [{ val := diLevel e d, start := st, acc := d.since + e.filtNs }] }
  else d

/-- A new run of the raw state begins at `t`; the run that it replaces is kept. -/
def diRun (e : DiEntry) (raw : Bool) (t : Nat) (gen : BitVec 16) (d : DiState) : DiState :=
  let count := d.seen && (match d.lastCnt with | some x => decide (x + e.filtNs ≤ t) | none => true)
  { d with
    seen := true, raw := raw, since := t, start := stampOf t gen
    back := some { seen := d.seen, since := d.since, start := d.start, counted := d.counted, lastCnt := d.lastCnt }
    counted := if count then d.counted ++ [t] else d.counted, lastCnt := if count then some t else d.lastCnt }

/-- A change taken back before it was sampled: the run before it goes on. -/
def diBack (raw : Bool) (r : DiRun) (d : DiState) : DiState :=
  { d with seen := r.seen, raw := raw, since := r.since, start := r.start, back := none, counted := r.counted, lastCnt := r.lastCnt }

/-- DI_RAW_CHANGE (R327, R329): the filter restarts and the oscillation count may rise. The raw state is sampled on the microsecond
boundaries, so a change that is taken back before the next of them is never seen. Edges of an input never decrease (R372). -/
def diRaw (e : DiEntry) (raw : Bool) (instant : Nat) (gen : BitVec 16) (d0 : DiState) : DiState :=
  let t := Nat.max (usCeil instant) d0.since
  let d := diAccept e t d0
  if d.raw = raw then d
  else match d.back with
    | some r => if d.since = t then diBack raw r d else diRun e raw t gen d
    | none => diRun e raw t gen d

/-- A step of the clock by `d` ns moves no elapsed time of an input: the filter, the presentation and the count go on as if the clock
had run through, and stamps stay (log entry 93). -/
def diShift (d : Int) (x : DiState) : DiState :=
  let m (t : Nat) : Nat := ((t : Int) + d).toNat
  { x with since := m x.since, back := none, waits := x.waits.map (fun w : DiEdge => { w with acc := m w.acc })
           counted := x.counted.map m, lastCnt := x.lastCnt.map m }

/-- Phase A of one input (R328, R329): at most one change is presented; oscillation is judged. -/
def diTick (e : DiEntry) (now : Nat) (d0 : DiState) : DiState :=
  if !e.en then { d0 with waits := [], osc := false } else
  let d := diAccept e now d0
  let cnt := d.counted.filter (fun t => decide (now ≤ t + 1000000000))
  let n := (cnt.filter (fun t => decide (t < now))).length
  let d := { d with counted := cnt }
  let due : List DiEdge := d.waits.filter (fun w => decide (w.acc + 2000 < now))
  let full := decide (5 < due.length)
  if d.osc then
    if n ≤ e.oscr then { d with osc := false, waits := [], shown := d.acc, shownAt := d.accAt, dirty := true } else d
  else if n > e.oscn || full then { d with osc := true, waits := [], dirty := true }
  else match d.waits with
    | w :: t => if w.acc + 2000 < now then { d with waits := t, shown := some w.val, shownAt := w.start, dirty := true } else d
    | [] => d

/-- The point of an input (R324, R329). -/
def diWrite (e : DiEntry) (i : Nat) (d : DiState) : List PtWrite :=
  if !e.en then [{ idx := 0x61000 + i, value := vBool (d.shown.getD false), qual := qInvalid 0x40, typ := 1, stamp := some d.shownAt, edge := true }]
  else match d.shown with
    | some v => [{ idx := 0x61000 + i, value := vBool v, qual := if d.osc then qDoubt 0x20 else 0, typ := 1
                   stamp := some d.shownAt, edge := true }]
    | none => [{ idx := 0x61000 + i, value := 0, qual := if d.osc then qDoubt 0x20 else qInvalid 0, typ := 1, stamp := some {}, edge := true }]

/-! ### Fast channels (R330 to R333) -/

/-- FAST_CHANNEL_EDGE on channel `c`: a rising edge counts and is stamped; a phase shorter than 4 µs sets overflow, and the count
after it is not stated (R331, log entry 6). -/
def fastEdge (c : Nat) (e : FastEntry) (rising : Bool) (instant : Nat) (short : Bool) (f : FastState) : FastState :=
  let f := if short then { f with short := true, ovf := true, count := if e.cnt then Config.fastCount c f.count instant else f.count } else f
  if rising then { f with count := if e.cnt && !short then f.count + 1 else f.count
                          edges := if e.frq then Nat.max instant (f.edges.headD 0) :: f.edges else f.edges }
  else f

/-- Frequency at a tick start (R332). -/
def fastFreq (e : FastEntry) (now : Nat) (edges : List Nat) : F32 :=
  let past := edges.filter (fun t => decide (t < now))
  let gate := past.filter (fun t => decide (now ≤ t + e.fgate * 1000))
  let tmo := past.filter (fun t => decide (now ≤ t + e.fto * 1000))
  let q (n : Nat) (a b : Nat) : F32 := if a ≤ b then 0 else F.ofRat ((n : Int) * 1000000000) (a - b)
  match gate, gate.getLast? with
  | last :: _ :: _, some first => q (gate.length - 1) last first
  | _, _ => match tmo with
    | last :: prev :: _ => q 1 last prev
    | _ => 0

/-- Out of range (R332): below 0.1 Hz or above 100 kHz. -/
def fastRange (x : F32) : Bool := F.lt x (F.ofRat 1 10) || F.gt x (F.ofNat 100000)

/-- Phase A of a fast channel: what it shows, and edges that no later gate can need leave. -/
def fastTick (e : FastEntry) (now : Nat) (f : FastState) : FastState :=
  { f with now := f.short, short := false, frange := e.frq && fastRange (fastFreq e now f.edges)
           edges := f.edges.take 2 ++ (f.edges.drop 2).filter (fun t => decide (now ≤ t + e.fgate * 1000)) }

/-- Points of a fast channel (R330 to R333). -/
def fastWrites (e : FastEntry) (now c : Nat) (before f : FastState) : List PtWrite :=
  (if e.cnt then [wN (0x61180 + c) f.count.toNat (if f.now then qDoubt 0x4 else 0)] else [])
  ++ (if e.frq then (let x := fastFreq e now before.edges; [wR (0x61190 + c) x (if fastRange x then qDoubt 0x8 else 0)]) else [])
  ++ [wN (0x611A0 + c) (boolNat e.cnt + 2 * boolNat e.frq + 4 * boolNat f.ovf + 8 * boolNat f.now + 16 * boolNat f.frange)]

/-- The counter control (R333). -/
def fastControl (v : Nat) (f : FastState) : FastState :=
  { f with count := if v = 1 || v = 3 then 0 else f.count, ovf := if v = 2 || v = 3 then false else f.ovf }

/-! ### Outputs (R335 to R340) -/

/-- The point that commands output `o`: its own, or that of the output before it when the two are parallel (R340). -/
def doSource (b : Block) (o : Nat) : Nat :=
  if o % 16 ≠ 0 && (at! b.field.dos (o - 1)).par then o - 1 else o

/-- Output `o` is an output: enabled, and its point has a writer (R324). -/
def doUsed (b : Block) (o : Nat) : Bool :=
  let s := doSource b o
  (at! b.field.dos s).en && b.map.any (fun m => m.point == 0x61080 + s && m.writer != .none)

/-- OUTPUT_RETRY (R336): the switch is turned on again 96 ticks after the noted shutdown, if still commanded. -/
def outRetry (statTick : Nat) (o : OutState) : OutState :=
  if o.tsd && o.cmd && !o.latch && decide (o.retryAt ≤ statTick) then
    { o with sw := true, tsd := false, retries := o.retries + 1, onFor := 0 }
  else o

/-- OUTPUT_RETRY_COUNT_RESET (R336): on for 9,600 ticks without shutdown. -/
def outCountReset (o : OutState) : OutState := if 9600 ≤ o.onFor then { o with retries := 0 } else o

/-- Phase E commit of one output (R335 to R337). -/
def outCommit (en v : Bool) (statTick : Nat) (o0 : OutState) : OutState :=
  let o := { o0 with prevCmd := o0.cmd, prevSw := o0.sw, cmd := v }
  let o := if v then o else { o with latch := false, retries := 0, tsd := false }
  let o := if en then outRetry statTick o else o
  let sw := v && en && !o.latch && !o.tsd
  outCountReset { o with sw := sw, onFor := if sw then o.onFor + 1 else 0 }

/-- OUTPUT_THERMAL_SHUTDOWN noted in a tick (R336). -/
def outShutdown (retry : Bool) (statTick : Nat) (o : OutState) : OutState :=
  if !o.sw then o
  else if retry && o.retries < 5 then { o with sw := false, tsd := true, retryAt := statTick + 96, onFor := 0 }
  else { o with sw := false, latch := true, tsd := false, onFor := 0 }

/-- The fault reset of an output that is latched off (R337). -/
def outFaultReset (o : OutState) : OutState := if o.latch then { o with latch := false, retries := 0 } else o

/-- Consecutive ticks of a condition. -/
def persist (n : Nat) (c : Bool) : Nat := if c then n + 1 else 0

/-- Readback in phase F (R338, R339). -/
def outReadback (e : DoEntry) (en partnerHat supBad rb ilim low : Bool) (o : OutState) : OutState :=
  let hi := rb && !o.prevSw
  let part := !en && partnerHat
  { o with rb := rb, ilim := ilim
           miss := persist o.miss (!supBad && o.prevCmd && en && !rb)
           ol := persist o.ol (!supBad && o.prevCmd && en && e.olEn && low)
           ext := persist o.ext (!supBad && hi && !part), pdrv := persist o.pdrv (!supBad && hi && part) }

/-- Output status word (R338). -/
def outStatus (e : DoEntry) (en hold : Bool) (o : OutState) : Nat :=
  let f (n : Nat) : Nat := boolNat (decide (e.rbt ≤ n) && decide (0 < n))
  boolNat o.cmd + 2 * boolNat o.rb + 4 * boolNat en + 8 * f o.ext + 16 * f o.pdrv + 32 * f o.miss + 64 * f o.ol
    + 128 * boolNat o.ilim + 256 * boolNat o.tsd + 512 * boolNat o.latch + 1024 * o.retries
    + 8192 * boolNat hold + 16384 * boolNat e.retry

/-- The output has a fault of NFLT (R343). -/
def outFaulty (e : DoEntry) (o : OutState) : Bool :=
  let f (n : Nat) : Bool := decide (e.rbt ≤ n) && decide (0 < n)
  f o.miss || f o.ol || f o.ext || o.tsd || o.latch

/-! ### Field supplies (R341) -/

/-- Count the six conditions over a tick window's mean: at or below 18.0 V and 15.0 V, at or above 31.0 V; above 18.5 V and
15.5 V, below 30.5 V. -/
def supCount (mv : Nat) (g : OutGroup) : OutGroup :=
  let c := [decide (mv ≤ 18000), decide (mv ≤ 15000), decide (31000 ≤ mv), decide (18500 < mv), decide (15500 < mv), decide (mv < 30500)]
  { g with mv := mv, conds := mapI (fun i b => persist (at! g.conds i) b) c }

/-- FIELD_SUPPLY_STATE_CHANGE (R341): a condition that has held in 3 consecutive ticks changes the state. -/
def supApply (g : OutGroup) : OutGroup :=
  let c (i : Nat) : Bool := decide (3 ≤ at! g.conds i)
  let s := g.sup
  let s' := if c 1 then 2 else if c 2 then 3
    else if s = 2 then (if c 4 then 1 else 2)
    else if s = 1 then (if c 3 then 0 else 1)
    else if c 0 then 1
    else if s = 3 then (if c 5 then 0 else 3)
    else s
  { g with sup := s' }

/-! ### Hold keepers (R344, R345) -/

/-- A commit refreshes the keeper. -/
def holdRefresh (g : OutGroup) : OutGroup := { g with missed := 0, holding := false, expired := false }

/-- HOLD_EXPIRY: HOLDT after the last commit. -/
def holdDue (holdt : Nat) (g : OutGroup) : Bool := g.holding && decide (ticksOfMs holdt ≤ g.missed)

/-- HOLD_KEEPER_HOLD and HOLD_EXPIRY: one tick without a commit while output enable is set. -/
def holdTick (holdt : Nat) (g : OutGroup) : OutGroup :=
  let g := { g with missed := g.missed + 1, holding := !g.expired }
  if holdDue holdt g then { g with holding := false, expired := true } else g

/-- Turn off the switches of a group. -/
def grpOff (g : Nat) (outs : List OutState) : List OutState :=
  mapI (fun i (o : OutState) => if i / 16 = g then { o with sw := false, onFor := 0 } else o) outs

/-! ### The block -/

/-- Phase A: inputs and fast channels (R328 to R333); supplies (R341). -/
def fioPhaseA (b : Block) (now : Nat) (supply : List Nat) (f : Fio) : Fio × List PtWrite :=
  let dis := mapI (fun i d => diTick (at! b.field.dis i) now d) f.dis
  let fasts := mapI (fun c x => fastTick (at! b.field.fasts c) now x) f.fasts
  ({ f with dis := dis.map (fun d => { d with dirty := false }), fasts := fasts
            grps := mapI (fun g x => supApply (supCount (at! supply g) x)) f.grps },
   (mapI (fun i (d : DiState) => if d.dirty then diWrite (at! b.field.dis i) i d else []) dis).flatten
   ++ (mapI (fun c x => fastWrites (at! b.field.fasts c) now c (at! f.fasts c) x) fasts).flatten)

/-- Phase E: commit of the image (R54, R335, R344). -/
def fioCommit (b : Block) (sg : Sig) (statTick : Nat) (f : Fio) : Fio :=
  { f with outs := mapI (fun o x =>
             outCommit f.en (doUsed b o && (sg.rd (0x61080 + doSource b o)).bool) statTick x) f.outs
           grps := f.grps.map holdRefresh }

/-- An output over a tick without a commit: a switch that a keeper holds on counts as on (R336). -/
def outHeld (o : OutState) : OutState := { o with prevCmd := o.cmd, prevSw := o.sw, onFor := if o.sw then o.onFor + 1 else 0 }

/-- A tick without a commit (R344): the keepers hold while output enable is set, and expire. -/
def fioNoCommit (b : Block) (f : Fio) : Fio :=
  let outs := f.outs.map outHeld
  if !f.en then { f with outs := outs } else
  let gs := mapI (fun g x => holdTick (at! b.field.holdt g) x) f.grps
  { f with grps := gs
           outs := (gs.zipIdx.filter (fun g => g.1.expired)).foldl (fun l g => grpOff g.2 l) outs }

/-- Phase F: shutdowns noted, then readback (R336, R338). -/
def fioReadback (b : Block) (x : TickIn) (partnerHat : Bool) (statTick : Nat) (f : Fio) : Fio :=
  let outs := mapI (fun o (s : OutState) =>
    if x.shutdown.contains o then outShutdown (at! b.field.dos o).retry statTick s else s) f.outs
  { f with outs := mapI (fun o s =>
      let g := at! f.grps (o / 16)
      outReadback (at! b.field.dos o) f.en partnerHat (g.sup == 1 || g.sup == 2) (x.readback.getLsbD o) (x.ilim.getLsbD o)
        (decide (at! x.loads o < (at! b.field.dos o).olth)) s) outs }

/-- Outputs whose readback differs from the value committed in the tick before (R338, R339). -/
def fioDiffers (f : Fio) : Nat := (f.outs.filter (fun o => o.rb != o.prevCmd)).length

/-- OUTPUT_ENABLE_CLEAR (R335): every switch turns off. -/
def enableClear (f : Fio) : Fio :=
  { f with en := false, outs := f.outs.map (fun o => { o with sw := false, onFor := 0 })
           grps := f.grps.map (fun g => { g with holding := false }) }

/-- OUTPUT_ENABLE_RISE (R381): the switches take the last committed image. -/
def enableRise (f : Fio) : Fio :=
  if f.en then f else { f with en := true, outs := f.outs.map (fun o => { o with sw := o.cmd && !o.latch && !o.tsd }) }

/-- Set output enable. -/
def setEnable (v : Bool) (f : Fio) : Fio := if v then enableRise f else if f.en then enableClear f else f

/-- Group status word of outputs (R343). -/
def grpStatus (b : Block) (f : Fio) (g : Nat) : Nat :=
  let x := at! f.grps g
  let n := ((List.range 16).filter (fun j => outFaulty (at! b.field.dos (16 * g + j)) (at! f.outs (16 * g + j)))).length
  x.sup + 4 * boolNat x.holding + 8 * boolNat x.expired + 16 * boolNat f.en + 256 * n

/-- Group status word of inputs (R343). -/
def inStatus (f : Fio) (g : Nat) : Nat :=
  ((List.range 16).map (fun j => let d := at! f.dis (16 * g + j)
    2 ^ j * boolNat (d.acc.getD false) + 2 ^ (16 + j) * boolNat d.osc)).foldl (· + ·) 0

/-- Status points of phase F (R324). -/
def fioWrites (b : Block) (f : Fio) : List PtWrite :=
  mapI (fun o (s : OutState) => wN (0x61100 + o) (outStatus (at! b.field.dos o) f.en (at! f.grps (o / 16)).holding s)) f.outs
  ++ (List.range 8).map (fun g => wN (0x611C0 + g) (inStatus f g))
  ++ (List.range 6).map (fun g => wN (0x611C8 + g) (grpStatus b f g))
  ++ mapI (fun g (x : OutGroup) => wR (0x611D0 + g) (F.ofRat x.mv 1000)) f.grps

/-- A command-path write to the field region (R333, R337). -/
def fioControl (point : Nat) (v : BitVec 64) (f : Fio) : Fio :=
  if 0x611B0 ≤ point ∧ point < 0x611C0 then { f with fasts := f.fasts.modify (point - 0x611B0) (fastControl v.toNat) }
  else if 0x611D8 ≤ point ∧ point < 0x611DE then
    { f with outs := mapI (fun o s => if o / 16 = point - 0x611D8 && v.getLsbD (o % 16) then outFaultReset s else s) f.outs }
  else f

/-- Activation (R327, R499): an input whose entry is unchanged keeps its state; others have no accepted state. -/
def fioActivate (old : Option Block) (b : Block) (now : Nat) (gen : BitVec 16) (f : Fio) : Fio :=
  { f with
    dis := mapI (fun i (d : DiState) =>
      if (old.map (fun o => at! o.field.dis i)) = some (at! b.field.dis i) then d
      else { seen := true, raw := d.raw, since := usCeil now, start := stampOf (usCeil now) gen, dirty := true }) f.dis
    fasts := mapI (fun c (x : FastState) =>
      if (old.map (fun o => at! o.field.fasts c)) = some (at! b.field.fasts c) then x else {}) f.fasts }

/-- "Field supply low" and "field supply high" (R342). -/
def supplyLow (f : Fio) : Bool := f.grps.any (fun g => g.sup == 1 || g.sup == 2)
/-- See `supplyLow`. -/
def supplyHigh (f : Fio) : Bool := f.grps.any (fun g => g.sup == 3)

end Sys2Proof
end

