-- ==== Sys2Proof/Machine/Evr.lean ====
section
/-! DEFINITION. The event recorder (R472 to R488): records, numbering and chaining, staging, writing, clearing, supply loss,
the tombstone cell, failures, status. -/

namespace Sys2Proof

/-- Bytes 0 to 239 of a record (R474). -/
def recBytes (r : EvRec) : List Byte :=
  leBytes r.seq 8 ++ leBytes r.sec 8 ++ leBytes r.nsec 4 ++ leBytes r.gen.toNat 2 ++ leBytes r.kind 2 ++ leBytes r.ltc 8
    ++ leBytes r.tsec 4 ++ leBytes r.tk 2 ++ leBytes r.rflags.toNat 2 ++ leBytes r.subject 4 ++ leBytes r.qual.toNat 2
    ++ leBytes r.oldq.toNat 2 ++ leBytes r.value 8 ++ leBytes r.old 8 ++ leBytes r.arg.toNat 16 ++ leBytes r.origSeq 8
    ++ ((List.range 8).flatMap (fun i =>
      let x := r.snap.getD i (0, 0, 0, 0)
      leBytes x.1.toNat 8 ++ leBytes x.2.1.toNat 2 ++ leBytes x.2.2.1.toNat 2 ++ leBytes x.2.2.2.toNat 4))
    ++ leBytes 0 8 ++ leBytes r.prevTag.toNat 16

/-- Close a record with its TAG (R474, R477). -/
def EvRec.seal (r : EvRec) : EvRec := { r with tag := sha128 (recBytes r) }

/-- All 256 bytes of a record. -/
def recAll (r : EvRec) : List Byte := recBytes r ++ leBytes r.tag.toNat 16

/-- The factory's clear record (R473). -/
def factoryClear : EvRec := EvRec.seal { seq := 1, kind := 0x52 }

/-- The bytes of a directory copy under its CRC (R472); the bad-segment map has a bit for each segment (log entry 131). -/
def EvrDir.bytes (d : EvrDir) : List Byte :=
  leBytes d.n 8 ++ leBytes d.wpos 4 ++ leBytes (packBits ((List.range 1024).map d.bad.contains)) 128 ++ leBytes d.lastSeq 8 ++
  leBytes d.lastTag.toNat 16 ++ leBytes d.clearSeq 8

/-- A copy whose CRC holds. -/
def EvrDir.ok (d : EvrDir) : Bool := crc32c d.bytes == d.crc

/-- The directory of the recorder as it stands, with a sequence number. -/
def Evr.dir (n : Nat) (e : Evr) : EvrDir :=
  let d : EvrDir := { n := n, wpos := e.wpos, bad := e.bad, lastSeq := e.lastSeq, lastTag := e.lastTag, clearSeq := e.clearSeq }
  { d with crc := crc32c d.bytes }

/-- The newest copy that is valid is the first one. -/
def Evr.dirFirst (e : Evr) : Bool := e.dirA.ok && (!e.dirB.ok || decide (e.dirB.n ≤ e.dirA.n))

/-- The directory is written where it no longer says what stands: over the older copy, with the next sequence number (R472, log entry
131). -/
def evrDirWrite (e : Evr) : Evr :=
  if e.dirFirst then (if e.dirA = e.dir e.dirA.n then e else { e with dirB := e.dir (e.dirA.n + 1) })
  else if e.dirB.ok && decide (e.dirB = e.dir e.dirB.n) then e
  else { e with dirA := e.dir (e.dirB.n + 1) }

/-- What a start finds in the directory: the newest valid copy. -/
def Evr.dirNow (e : Evr) : EvrDir := if e.dirFirst then e.dirA else e.dirB

/-- The recorder as it leaves the factory (R473). -/
def evrFactory : Evr :=
  let e : Evr := { mem := [(0, factoryClear)], wpos := 1, lastSeq := 1, lastTag := factoryClear.tag, lastWritten := 1, clearSeq := 1 }
  { e with dirA := e.dir 1 }

/-- Kinds marked "Tomb" (R475). -/
def tombKind (k : Nat) : Bool := [0x15, 0x32, 0x41, 0x42, 0x50, 0x61].contains k
/-- Tick-driven kinds (R475). -/
def tickKind (k : Nat) : Bool := [1, 2, 3, 4, 0x10, 0x11, 0x12, 0x13, 0x14, 0x16].contains k

/-- STATE (R487). -/
def Evr.state (e : Evr) : Nat :=
  if e.bad.length > 64 || e.pathBad then 2 else if e.bad.isEmpty then 0 else 1

/-- Uncopied tombstone entries (R488). -/
def Evr.tombPend (e : Evr) : Nat := (e.tomb.filter (fun x => match x with | some (_, c) => !c | none => false)).length

/-- A record as a tombstone entry (R486): TOMB, PREV_TAG 0, TAG, and the next SEQ (R476), which stands beside the 256 bytes (log entry
131). -/
def tombEntry (e : Evr) (r : EvRec) : EvRec := { EvRec.seal { r with rflags := r.rflags ||| 0x10, prevTag := 0 } with next := e.lastSeq + 1 }

/-- Put an entry in the tombstone cell (R486). -/
def tombPut (r : EvRec) (e : Evr) : Evr :=
  let r := tombEntry e r
  match e.tomb.findIdx? (fun x => x.isNone) with
  | some i => { e with tomb := e.tomb.set i (some (r, false)) }
  | none => match e.tomb.findIdx? (fun x => match x with | some (_, c) => c | none => false) with
    | some i => { e with tomb := e.tomb.set i (some (r, false)) }
    | none => { e with tombDrop := e.tombDrop + 1 }

/-- The plan entry that governs a record (R480). -/
def planOf (plans : List EvrPlan) (r : EvRec) : Option EvrPlan :=
  plans.find? (fun p => p.kind == r.kind && decide (p.first ≤ r.subject) && decide (r.subject ≤ p.last))

/-- SUPPRESS acts on a record of this kind (R480). -/
def suppressed (p : Option EvrPlan) (kind : Nat) : Bool :=
  (match p with | some p => p.suppress | none => false) && !(tombKind kind || kind == 2 || kind == 0x51 || kind == 0x52)

/-- A snapshot entry (R474, R481). -/
def snapOf (sg : Sig) (i : Nat) : BitVec 64 × BitVec 16 × BitVec 16 × BitVec 32 :=
  let x := sg.rd i
  if x.typ = 0 then (0, 0, 0, 0) else (x.value, x.qual, x.gen, x.nsec)

/-- RFLAGS of a staged record: PIN and SNAP_PART join what it carries (R474). -/
def stageFlags (f : BitVec 16) (pin part : Bool) : BitVec 16 :=
  f ||| (if pin then 4#16 else 0#16) ||| (if part then 8#16 else 0#16)

/-- A record keeps its own stamp: a point change, a record of the partner, a copy of a tombstone entry. -/
def ownStamp (r : EvRec) : Bool := r.kind == 1 || r.rflags.getLsbD 1 || r.rflags.getLsbD 4

/-- Stamp a record with the tick (R474, R475). -/
def tickStamp (id : TickId) (ltc : Nat) (r : EvRec) : EvRec :=
  let r : EvRec := { r with ltc := ltc, tsec := id.sec % 4294967296, tk := id.k }
  if ownStamp r then r else { r with sec := id.sec, nsec := tickNs id.k, gen := id.gen }

/-- A record as it is staged: numbered, stamped, with its snapshot, chained and sealed (R474, R476, R477, R481). -/
def stageRec (p : Option EvrPlan) (sg : Sig) (id : TickId) (ltc seq : Nat) (prev : BitVec 128) (r0 : EvRec) : EvRec :=
  let pts := (match p with | some p => p.snappt | none => []).take 8
  let r := tickStamp id ltc r0
  EvRec.seal { r with
    seq := seq, prevTag := prev
    rflags := stageFlags r.rflags (match p with | some p => p.pin | none => false) (pts.any (fun i => (sg.rd i).typ == 0))
    snap := if pts.isEmpty then r.snap else pts.map (snapOf sg) }

/-- A record goes to the partner, up to two in a tick (R487). -/
def sendRec (r : EvRec) (e : Evr) : Evr := { e with toSend := e.toSend ++ [r], toPartner := e.toPartner + 1 }

/-- A record that a failed recorder cannot take (R486, R487): one of a "Tomb" kind goes to the tombstone cell, and each to the
partner, up to two in a tick, while its recorder can take them; what reaches neither is lost. The partner's own records do not go back to
it, and are lost in it (log entry 25). -/
def evrDivert (partner : Bool) (r : EvRec) (e0 : Evr) : Evr :=
  if r.rflags.getLsbD 1 then e0
  else
    let kept := tombKind r.kind
    let e := if kept then tombPut r e0 else e0
    if partner && decide (e.toSend.length < 2) then sendRec r e
    else if kept then e else { e with lost := e.lost + 1 }

/-- A numbered record goes to the queue, or takes the way of a failed recorder (R479, R487). -/
def evrTake (partner : Bool) (r : EvRec) (e0 : Evr) : Evr :=
  let e := { e0 with lastSeq := r.seq, lastTag := r.tag }
  if e.state ≠ 2 then { e with queue := e.queue ++ [r], maxStaged := Nat.max e.maxStaged (e.queue.length + 1) }
  else evrDivert partner r e

/-- Records staged before the recorder failed take the way of a failed recorder too (R487). -/
def evrDivertAll (partner : Bool) (e : Evr) : Evr :=
  if e.state ≠ 2 then e else e.queue.foldl (fun e r => evrDivert partner r e) { e with queue := [] }

/-- Records the staging queue holds (R478). -/
def queueMax : Nat := 16384

/-- Number, stamp, chain and queue one record (R476 to R481, R486, R487). The Boolean asks for a Pin. -/
def evrStage (plans : List EvrPlan) (sg : Sig) (id : TickId) (ltc : Nat) (partner : Bool) (r0 : EvRec) (e : Evr) :
    Evr × Bool :=
  let p := planOf plans r0
  if suppressed p r0.kind then (e, false)
  else if decide (queueMax ≤ e.queue.length) && e.state != 2 then
    ({ e with lost := e.lost + 1, lostPend := e.lostPend + 1 }, false)
  else (evrTake partner (stageRec p sg id ltc (e.lastSeq + 1) e.lastTag r0) e,
        match p with | some p => p.pin | none => false)

/-- Segment of a position. -/
def segOf (pos : Nat) : Nat := pos / 256

/-- The next good position from `pos` on, within `fuel` segments (R472, R473, R487). -/
def nextGood (bad : List Nat) : Nat → Nat → Nat
  | 0, pos => pos
  | n + 1, pos =>
    let pos := if pos ≥ 262144 then 4096 else pos
    if bad.contains (segOf pos) then nextGood bad n ((segOf pos + 1) * 256) else pos

/-- Write one record at the write position (R473, R479). -/
def evrWrite (r : EvRec) (e : Evr) : Evr :=
  let pos := nextGood e.bad 1025 e.wpos
  { e with mem := lset e.mem pos r, wpos := (if pos + 1 ≥ 262144 then 4096 else pos + 1)
           wrap := e.wrap || (lkup e.mem pos).isSome, crownFull := e.crownFull || decide (4095 ≤ pos), lastWritten := Nat.max e.lastWritten r.seq
           readBack := e.readBack ++ [(pos, r)] }

/-- Write up to `n` staged records, oldest first. -/
def evrDrain (n : Nat) (e : Evr) : Evr :=
  (e.queue.take n).foldl (fun e r => evrWrite r e) { e with queue := e.queue.drop n }

/-- The record of a recorder fault (R475, kind 0x0050). -/
def faultRec (seg state : Nat) : EvRec := { kind := 0x50, subject := seg, value := state }

/-- At a bad segment or a change of STATE: the tombstone entry, then the same record to the partner within its two of a tick (R487); else
the tombstone cell keeps it, and nothing is lost. -/
def evrFault (id : TickId) (ltc : Nat) (partner : Bool) (seg : Nat) (e : Evr) : Evr :=
  let r := tickStamp id ltc (faultRec seg e.state)
  let u := tombPut r e
  if partner && decide (u.toSend.length < 2) then sendRec (tombEntry e r) u else u

/-- A position fails: its segment is marked bad for good; a record just written there is written again, one that stood there can
be read no more (R487). -/
def evrBadAt (id : TickId) (ltc : Nat) (partner : Bool) (pos : Nat) (e : Evr) : Evr :=
  let was := e.state
  let fresh := !e.bad.contains (segOf pos)
  let e := if fresh then { e with bad := e.bad ++ [segOf pos] } else e
  let e := if fresh then evrFault id ltc partner (segOf pos) e else e
  let e := if e.state = 2 && was ≠ 2 then evrFault id ltc partner 0xFFFFFFFF e else e
  match lkup e.readBack pos with
  | some r => { e with queue := r :: e.queue, mem := ldel e.mem pos }
  | none => { e with mem := ldel e.mem pos }

/-- The read-back of the records written in the previous tick (R479, R487). -/
def evrReadBack (id : TickId) (ltc : Nat) (partner : Bool) (badPos : List Nat) (pathBad : Bool) (e : Evr) : Evr :=
  let hit := (e.readBack.map (·.1)).filter badPos.contains
  let was := e.state
  let e := hit.reverse.foldl (fun e p => evrBadAt id ltc partner p e) e
  let n := if pathBad then e.pathFail + 1 else 0
  let e := { e with readBack := [], pathFail := n, pathBad := e.pathBad || decide (16 ≤ n) }
  if e.state = 2 && was ≠ 2 && 16 ≤ n then evrFault id ltc partner 0xFFFFFFFF e else e

/-- EVR_RECOVERY and power-up (R486): every uncopied tombstone entry is copied into the recorder. -/
def tombCopy (e : Evr) : Evr :=
  { e with localEv := e.localEv ++ e.tomb.filterMap (fun x => match x with
             | some (r, false) => some { r with rflags := r.rflags ||| 0x10, origSeq := r.seq, next := 0 }
             | _ => none)
           tomb := e.tomb.map (fun x => x.map (fun y =>
             if y.2 then y else ({ y.1 with rflags := y.1.rflags ||| 0x20 }, true))) }

/-- See `tombCopy`: at power-up, where the recorder can take them. -/
def evrPowerUp (e : Evr) : Evr := if e.state = 2 then e else tombCopy e

/-- The write path works again: STATE leaves 2 where it was due to the path (R487, log entry 25). -/
def evrRecover (id : TickId) (ltc : Nat) (partner : Bool) (e : Evr) : Evr :=
  let u := { e with pathBad := false, pathFail := 0 }
  if u.state = 2 then u else tombCopy (if e.state = 2 then evrFault id ltc partner 0xFFFFFFFF u else u)

/-- Point changes of the tick, ascending (R478). -/
def changeRecs (sg : Sig) : List EvRec :=
  (sortBy Prod.fst sg.chg).filterMap (fun c =>
    let p := sg.rd c.1
    let o := c.2
    if p.recorded && (p.value != o.value || p.qual != o.qual) then
      some { kind := 1, rflags := 1, subject := c.1, value := p.value.toNat, old := o.value.toNat, qual := p.qual
             oldq := o.qual, sec := p.sec.toNat, nsec := p.nsec.toNat, gen := p.gen }
    else none)

/-- The clear record (R475, R483): the identity of the key that cleared, the SEQ before the clear, the records erased, staged ones
among them, and the key's fingerprint. -/
def clearRec (keyId : Nat) (fp : BitVec 128) (e : Evr) : EvRec :=
  { kind := 0x52, subject := keyId, value := e.lastSeq, old := e.mem.length + e.queue.length, arg := fp }

/-- The clear (R483): staged records are discarded, the clear record is numbered next and written to the first Crown position of a
good segment (R487), every other position becomes unreadable. -/
def evrClearGo (plans : List EvrPlan) (sg : Sig) (keyId : Nat) (fp : BitVec 128) (id : TickId) (ltc : Nat) (e : Evr) : Evr :=
  let r0 := clearRec keyId fp e
  let r := stageRec (planOf plans r0) sg id ltc (e.lastSeq + 1) e.lastTag r0
  let pos := nextGood e.bad 1025 0
  { e with queue := [], readBack := [(pos, r)], mem := [(pos, r)], wpos := pos + 1, lastSeq := r.seq, lastTag := r.tag
           lastWritten := r.seq, clearSeq := r.seq, wrap := false, crownFull := decide (4095 ≤ pos), erasing := true, eraseN := 0, clearReq := none }

/-- The plan of a clear asks for a Pin (R480). -/
def clearPins (plans : List EvrPlan) (keyId : Nat) (fp : BitVec 128) (e : Evr) : Bool :=
  match planOf plans (clearRec keyId fp e) with
  | some p => p.pin
  | none => false

/-- Records written per tick (R479, R484): 4, and 128 from the 97th tick after a supply failure; none once stopped. -/
def evrRate (e : Evr) : Nat :=
  if e.stopped then 0 else match e.failTicks with
  | some n => if n ≤ 96 then 4 else if n ≤ 160 then 128 else 0
  | none => 4

/-- Ticks after which an erase has ended in any case, 60 s (R483). -/
def eraseMax : Nat := 576000

/-- A tick of a running erase. -/
def eraseStep (e : Evr) : Evr :=
  if e.erasing && decide (e.eraseN + 1 < eraseMax) then { e with eraseN := e.eraseN + 1 } else { e with erasing := false, eraseN := 0 }

/-- EVR_POWERFAIL_STOP (R485): writing stops; what is left is named in a tombstone entry of kind 0x0042. -/
def evrStop (id : TickId) (ltc : Nat) (e : Evr) : Evr :=
  if e.stopped then e else
  match e.queue.head?, e.queue.getLast? with
  | some a, some z =>
    evrDirWrite { tombPut (tickStamp id ltc { kind := 0x42, value := a.seq, old := z.seq, arg := z.tag }) e with queue := [], stopped := true }
  | _, _ => evrDirWrite { e with stopped := true }

/-- The record of the losses counted so far, once the queue has space again (R479); it is engine-local (R478). -/
def lostRecs (e : Evr) : List EvRec :=
  if decide (0 < e.lostPend) && decide (e.queue.length < queueMax) then [{ kind := 0x51, value := e.lostPend }] else []

/-- Phase F of a recorder that has stopped (R485): no record is staged, so that SEQ and the chain stand, and each is counted. -/
def evrIdle (sg : Sig) (e : Evr) : Evr :=
  { e with lost := e.lost + (e.actEv ++ changeRecs sg ++ e.tickEv ++ e.localEv).length, actEv := [], tickEv := [], localEv := []
           failTicks := e.failTicks.map (· + 1) }

/-- Phase F of the recorder (R478, R479, R483, R487): read-back, clear, staging in order, writing, of which the clear record is one.
Answers the recorder, the records for the partner, whether a Pin is asked for, and the SEQ of a clear with the request that waits for it. -/
def evrRun (plans : List EvrPlan) (sg : Sig) (id : TickId) (ltc : Nat) (partner : Bool) (badPos : List Nat)
    (pathBad : Bool) (e : Evr) : Evr × List EvRec × Bool × Option (Nat × Nat) :=
  let e := evrDivertAll partner (evrReadBack id ltc partner badPos pathBad e)
  let (e, done, pin0) := match e.clearReq with
    | some (key, fp, at_, tag) =>
      if at_ ≤ ltc then
        (let e' := evrClearGo plans sg key fp id ltc e; (e', some (tag, e'.lastSeq), clearPins plans key fp e))
      else (e, none, false)
    | none => (e, none, false)
  let first := e.actEv ++ changeRecs sg ++ sortBy (fun r => r.kind * 2 ^ 32 + r.subject) e.tickEv
  let loc := e.localEv
  let stage (l : List EvRec) (a : Evr × Bool) : Evr × Bool := l.foldl (fun a r =>
    let (e', p) := evrStage plans sg id ltc partner r a.1
    (e', a.2 || p)) a
  let a := stage first ({ e with actEv := [], tickEv := [], localEv := [] }, pin0)
  let (e, pin) := stage loc (stage (lostRecs a.1) ({ a.1 with lostPend := if (lostRecs a.1).isEmpty then a.1.lostPend else 0 }, a.2))
  let send := e.toSend
  let e := evrDrain (if e.state = 2 then 0 else evrRate e - boolNat done.isSome) { e with toSend := [] }
  (evrDirWrite (eraseStep { e with failTicks := e.failTicks.map (· + 1) }), send, pin, done)

/-- See `evrRun` and `evrIdle`. -/
def evrPhaseF (plans : List EvrPlan) (sg : Sig) (id : TickId) (ltc : Nat) (partner : Bool) (badPos : List Nat)
    (pathBad : Bool) (e : Evr) : Evr × List EvRec × Bool × Option (Nat × Nat) :=
  if e.stopped then (evrIdle sg e, [], false, none) else evrRun plans sg id ltc partner badPos pathBad e

/-- Records held with SEQ at or above a number, ascending (R482). -/
def evrHeld (from_ count : Nat) (e : Evr) : List EvRec :=
  ((sortBy (·.seq) (e.mem.map (·.2))).filter (fun r => decide (from_ ≤ r.seq))).take count

/-- Status word (R488). -/
def evrStatus (e : Evr) : Nat :=
  e.state + 4 * boolNat e.crownFull + 8 * boolNat e.wrap + 16 * boolNat e.erasing + 32 * e.tombPend

/-- Payload of EVR_INFO (R482). -/
def evrInfoBytes (e : Evr) : List Byte :=
  let held := sortBy id (e.mem.map (fun x => x.2.seq))
  let brim := sortBy id ((e.mem.filter (fun x => decide (4096 ≤ x.1))).map (fun x => x.2.seq))
  leBytes (held.headD 0) 8 ++ leBytes e.lastWritten 8 ++ leBytes (brim.headD 0) 8 ++ leBytes e.clearSeq 8
    ++ leBytes (e.mem.filter (fun x => decide (x.1 < 4096))).length 4 ++ leBytes brim.length 4
    ++ leBytes e.lastTag.toNat 16 ++ leBytes (evrStatus e) 4

/-- Status points (R488). -/
def evrWrites (e : Evr) : List PtWrite :=
  [wN 0xF02E0 (evrStatus e), wN 0xF02E1 e.queue.length, wN 0xF02E2 e.maxStaged, wN 0xF02E3 e.lost, wN 0xF02E4 e.bad.length,
   wN 0xF02E5 e.tombDrop, wN 0xF02E6 e.fromPartner, wN 0xF02E7 e.toPartner]

/-- What of the recorder a reset leaves: MRAM, directory and tombstone cell; the newest valid copy of the directory gives the write
position, the bad segments and the chain, which goes on after the last number staged (R472, R476, R485). -/
def evrAfterReset (e0 : Evr) : Evr :=
  let e := evrDirWrite e0
  let d := e.dirNow
  { mem := e.mem, wpos := d.wpos, bad := d.bad, lastSeq := d.lastSeq, lastTag := d.lastTag, lastWritten := e.lastWritten
    clearSeq := d.clearSeq, wrap := e.wrap, tomb := e.tomb, erasing := e.erasing, eraseN := e.eraseN, crownFull := e.crownFull
    dirA := e.dirA, dirB := e.dirB }

end Sys2Proof
end

