-- ==== Sys2Proof/Machine/State.lean ====
section
/-! DEFINITION. The machine's state: every block's part of it (R24, R37), the running configuration, the commands waiting and
what the engine sends; the state after reset; the two reasons a step could stop. -/

namespace Sys2Proof.Machine

/-- A command's effect is never a fault in this model: the spec gives every command an effect, and what it calls an error is
a status, an alarm, a cause or a role. Nothing raises one. -/
inductive Fault where
  deriving DecidableEq, Repr

/-- Why a command is refused. -/
inductive Refusal where
  /-- Raised by no meaning: only by an arm of `exec` that has no meaning yet. Safe: nothing is claimed of the command. -/
  | notModelled (mnemonic : String)
  deriving DecidableEq, Repr

/-- The state. `blk` is the running configuration: the Block in force with the Hoods applied to it (R304). `view` is the
copy of the signal space that phase F of the last completed tick left for the MP and the CP (R27); `free` counts the free values used; `done` are the actions applied in the present tick; `out` is what the engine has sent since the present
tick began. -/
structure State where
  pending : List Instr := []
  sig     : Sig := {}
  life    : Life := {}
  tsu     : Tsu := {}
  afe     : Afe := {}
  pbi     : Pbi := {}
  phe     : Phe := {}
  elems   : List ElemState := List.replicate 2048 {}
  flus    : List FluSlot := List.replicate 2048 {}
  slots   : List SlotState := List.replicate 64 {}
  schemes : Schemes := {}
  logic   : Logic := {}
  hood    : HoodUnit := {}
  fio     : Fio := {}
  drc     : Drc := {}
  evr     : Evr := evrFactory
  hat     : Hat := {}
  wit     : Witness := {}
  pair    : Pair := {}
  hpi     : Hpi := {}
  svc     : Svc := {}
  cp      : Cp := {}
  store   : Store := {}
  upd     : Upd := {}
  sca     : Sca := {}
  psu     : Psu := {}
  blk     : Option Block := none
  view    : List (Nat × Point) := []
  free    : Nat := 0
  done    : List Action := []
  out     : List Emit := []
  deriving DecidableEq, Repr

/-- The machine after reset: no register of the host port is readable yet (R422), the role is 0, no Block is held (R537), the
event recorder holds the factory's clear record (R473), no command waits. -/
def State.reset : State := {}

end Sys2Proof.Machine
end

