-- ==== Sys2Proof/Machine/Activate.lean ====
section
/-! DEFINITION. How state passes to a new Block (R499, and R76, R127, R158, R164, R177, R191, R204, R259, R321, R327, R447 for
their subjects). -/

namespace Sys2Proof

/-- The new states of a list of entries: an entry that the old Block holds too keeps the state of its place there, any other
starts from `new`. -/
def passBy {α β : Type} [BEq α] (old : List α) (states : List β) (entries : List α) (new : α → β) (rest : β) : List β :=
  let kept := entries.map (fun e => match old.findIdx? (· == e) with
    | some i => (states[i]?).getD (new e)
    | none => new e)
  kept ++ List.replicate (states.length - kept.length) rest

/-- The same where an entry is known by its place (slots, tasks, publications, schemes). -/
def passAt {α β : Type} [BEq α] (old : List α) (states : List β) (entries : List α) (new : β) : List β :=
  mapI (fun i x => if (old[i]?).isSome && old[i]? == entries[i]? then x else new) states

/-- A new element instance (R191): θ = THINIT for a 49 (word 10 of its record), else the state at reset. -/
def newElem (grp : Nat) (e : ElemEntry) : ElemState :=
  { theta := if e.etype = 0x0141 then ((at! e.recs (grp - 1))[10]?).getD 0 else 0, grp := grp }

/-- Element instances over an activation: the long-term averages of a HIZ start anew at its next cycle (R199), and an entry that has
moved, or one of whose set[] points the map lists anew or with another TYPE, writes its settings again, since those points have a new
writer or start at 0 (R170, R499). -/
def elemsActivate (old b : Block) (l : List ElemState) : List ElemState :=
  mapI (fun i (x : ElemState) =>
    let x := if (b.elems[i]?).any (fun e => e.etype == 0x0191) then { x with hizInit := false } else x
    let same := old.elems[i]? == b.elems[i]? && (b.elems[i]?).all (fun e =>
      (List.range 32).all (fun j => mapTyp old (e.base + 0x40 + j) == mapTyp b (e.base + 0x40 + j)))
    { x with setsDue := x.setsDue || !same })
    (passBy old.elems l b.elems (newElem b.stGrp) {})

/-- Frequency settings of a group (R152). -/
def freqSettings (e : GroupEntry) : List Nat × Nat × F32 × F32 × Nat × Nat :=
  (e.fsrc, e.fAvg, e.vMin, e.iMin, e.rocofT, e.fHoldT)

/-- A group started as new (R154, R155). -/
def newGroup (fnom : Nat) : GroupState := { fT := fnom * 100, f := F.ofNat fnom }

/-- A channel's entry and source are unchanged (R158): the group and position that name it, its lane entry, or its intake map
entry and stream. DESIGN CHOICE: R158 does not define the source; any change of the lane's entry counts (log entry 127). -/
def chanSame (o b : Block) (ch : Nat) : Bool :=
  chanHome o ch == chanHome b ch &&
  (if ch < 64 then o.lanes[ch / 4]? == b.lanes[ch / 4]?
   else pbChan o ch == pbChan b ch && (match pbChan b ch with
     | some m => (o.streams[m.sub]?).getD none == (b.streams[m.sub]?).getD none
     | none => true))

/-- A set of a group has its kind and its channels unchanged (R153). -/
def setSame (o b : Block) (g k : Nat) : Bool :=
  let e0 := at! o.groups g
  let e1 := at! b.groups g
  let s0 := at! e0.sets k
  let s1 := at! e1.sets k
  s0.kind == s1.kind && [(s0.chA, s1.chA), (s0.chB, s1.chB), (s0.chC, s1.chC)].all (fun p =>
    p.1 == p.2 && at! e0.chan p.1 == at! e1.chan p.2 && chanSame o b (at! e1.chan p.2))

/-- A group over an activation (R158): X1 of a set whose channels or kind changed counts as invalid before it (R153); with other
frequency settings the magnitude states, the mean and ROCOF begin again from the present F_T. -/
def passGroup (old : Option Block) (b : Block) (g : Nat) (x : GroupState) : GroupState :=
  match old with
  | none => newGroup b.fnom
  | some o =>
    let e0 := at! o.groups g
    if o.fnom != b.fnom || !e0.used then newGroup b.fnom
    else
      let h := mapI (fun k h => if setSame o b g k then h else []) x.x1H
      if freqSettings e0 == freqSettings (at! b.groups g) then { x with x1H := h }
      else { fT := x.fT, f := x.f, fEver := x.fEver, fQ := x.fQ, x1H := h }

/-- The phasor engine over an activation. -/
def pheActivate (old : Option Block) (b : Block) (p : Phe) : Phe :=
  let keep (ch : Nat) : Bool := match old with
    | some o => chanSame o b ch
    | none => false
  { p with
    hist := mapI (fun ch h => if keep ch then h else []) p.hist
    pres := mapI (fun ch h => if keep ch then h else []) p.pres
    groups := mapI (fun g x => passGroup old b g x) p.groups
    syncs := mapI (fun i (x : SyncState) =>
      if old.isNone then {}
      else if (old.bind (fun o => o.proto.syncs[i]?)) == b.proto.syncs[i]? then x
      else { on := x.on, cfgTicks := 576001 }) p.syncs }

/-- A task over an activation: unchanged entry and program keep the state; otherwise it starts anew, with what the image
copier staged for it in A − 1. -/
def passTask (old : Option Block) (b : Block) (sg : Sig) (i : Nat) (t : TaskState) : TaskState :=
  let e := at! b.tasks i
  let p := at! b.progs e.prog
  let same := match old with
    | some o => at! o.tasks i == e && at! o.progs (at! o.tasks i).prog == p
    | none => false
  if same then t
  else if e.kind = 0 then {}
  else { st := 1, staging := t.staging, curTrg := t.curTrg, prevTrg := t.prevTrg, timers := p.timers.map newItem
         edges := p.edges.map newItem, counters := p.counters.map newItem, vars := p.initVars, outs := startOuts sg e.outs }

/-- The value of a selector point (R206). -/
def selValue (sg : Sig) (p : Nat) : Int := (sg.rd p).enum

/-- The logic over an activation; tasks that start anew leave their units; a new selector starts from its present value. -/
def logicActivate (old : Option Block) (b : Block) (sg : Sig) (lg : Logic) : Logic :=
  let same (i : Nat) : Bool := match old with
    | some o => at! o.tasks i == at! b.tasks i && at! o.progs (at! o.tasks i).prog == at! b.progs (at! b.tasks i).prog
    | none => false
  let lg := (List.range 10).foldl (fun l i => if same i then l else dropTask i l) lg
  { lg with tasks := mapI (fun i t => passTask old b sg i t) lg.tasks
            selLast := if (old.map (·.selector)) = some b.selector then lg.selLast else b.selector.map (selValue sg) }

/-- The schemes over an activation. -/
def schemesActivate (old : Option Block) (b : Block) (s : Schemes) : Schemes :=
  let o := old.getD {}
  { bbExt := passAt o.busBlocks s.bbExt b.busBlocks 0
    bbExtT := passAt o.busBlocks s.bbExtT b.busBlocks 0
    itOut := passAt o.intertrips s.itOut b.intertrips false
    itOutT := passAt o.intertrips s.itOutT b.intertrips false
    itLeft := passAt o.intertrips s.itLeft b.intertrips 0
    itLeftT := passAt o.intertrips s.itLeftT b.intertrips 0
    shed := passAt o.sheds s.shed b.sheds {} }

/-- The point is no sample point of a disabled slot, which reads invalid and never changes (R77). -/
def sampleOn (b : Block) (m : MapPoint) : Bool :=
  m.writer != .afe || (List.range 64).any (fun ch => (at! b.lanes (ch / 4)).mask.getLsbD (ch % 4) && (localPts b ch).contains m.point)

/-- A point keeps its record where its TYPE and its writer stay, a sample point not where its slot goes off. -/
def keepsPoint (old : Option Block) (b : Block) (m : MapPoint) : Bool :=
  match old with
  | some o => (sampleOn b m || !sampleOn o m) && (match mapEntry o m.point with | some x => x.typ == m.typ && x.writer == m.writer | none => false)
  | none => false

/-- The points that a Block gives a value at activation: modes (R177), the group in force (R204); `st.sim` reads false from
power-up (R127). -/
def activationWrites (old : Option Block) (b : Block) : List PtWrite :=
  (List.range 64).map (fun g => wE (modePt g) ((b.modes[g]?).getD 1)) ++ [wE 0x63402 b.stGrp] ++
  (if old.isNone then [wB 0x63403 false] else [])

/-- The sample points of slots that are off under the new Block and were not so before read invalid with the failure bit (R94). -/
def offSampleWrites (old : Option Block) (b : Block) : List PtWrite :=
  ((fullMap b).filter (fun m => !sampleOn b m && !keepsPoint old b m)).map (fun m =>
    { idx := m.point, value := 0x01000000, qual := qInvalid 0x40, typ := 8 })

/-- The signal space over an activation. -/
def sigActivate (old : Option Block) (b : Block) (id : TickId) (sg : Sig) : Sig :=
  ((newMap b).remap (keepsPoint old b) sg).writes id (activationWrites old b ++ offSampleWrites old b)

end Sys2Proof

namespace Sys2Proof.Machine

/-- The new Block takes effect in phase A of the present tick (R498, R499). -/
def State.activate (b : Block) (s : State) : State :=
  let old := s.blk
  let lost := (newMap b).lostForces s.sig
  let sg := sigActivate old b s.tsu.id s.sig
  { s with
    sig := sg
    afe := { s.afe with lanes := mapI (fun i l => laneRemask (at! b.lanes i) (s.tsu.starts.headD 0) l) s.afe.lanes }
    pbi := pbiActivate old b s.pbi
    phe := pheActivate old b s.phe
    elems := elemsActivate (old.getD {}) b s.elems
    flus := passBy (old.getD {}).elems s.flus b.elems (fun _ => {}) {}
    slots := passAt (old.getD {}).slots s.slots b.slots {}
    schemes := schemesActivate old b s.schemes
    logic := logicActivate old b sg s.logic
    hood := s.hood.activated lost.length
    fio := fioActivate old b s.tsu.ns s.tsu.gen s.fio
    drc := drcActivate old b s.drc
    evr := { s.evr with tickEv := s.evr.tickEv ++ lost.map releaseEvent ++ [{ kind := 0x16, rflags := 1, arg := b.blockId }] }
    hpi := { s.hpi with pinCtrl := b.hostv.pinCtrl.setWidth 8 }
    tsu := { s.tsu with
      ports := mapI (fun i (p : TsuPort) => { p with mac := at! b.time.modes i == 1, corr := at! b.time.tsCorr i }) s.tsu.ports
      irigEn := b.time.src.contains 3, ppsEn := b.time.src.contains 4 }
    cp := { s.cp with pubs := passAt (old.getD {}).proto.goosePubs s.cp.pubs b.proto.goosePubs {} }
    blk := some b }

end Sys2Proof.Machine
end

