-- ==== Sys2Proof/Machine/BlockStore.lean ====
section
/-! DEFINITION. The Block store (R493): its four slots and the directory that assigns them roles, held twice. -/

namespace Sys2Proof

/-- The bytes under the CRC-32C of a directory copy. DESIGN CHOICE (log entry 133): its sequence number, then the slots of the four roles,
0xFF for none. -/
def DirCopy.bytes (d : DirCopy) : List Byte :=
  leBytes d.seq 8 ++ [d.cur, d.prev, d.convCur, d.convPrev].map (fun x => BitVec.ofNat 8 ((x.map Fin.val).getD 0xFF))

/-- The CRC-32C of a copy is correct. -/
def DirCopy.ok (d : DirCopy) : Bool := crc32c d.bytes == d.crc

/-- The copy with its CRC-32C. -/
def DirCopy.sealed (d : DirCopy) : DirCopy := { d with crc := crc32c d.bytes }

/-- The directory: the copy with the higher sequence number of those whose CRC is correct; nothing is named where neither is. -/
def Store.dir (x : Store) : DirCopy :=
  match x.dirA.ok, x.dirB.ok with
  | true, true => if x.dirA.seq < x.dirB.seq then x.dirB else x.dirA
  | true, false => x.dirA
  | false, true => x.dirB
  | false, false => {}

/-- A directory copy is written over the other one, with the next sequence number. -/
def Store.writeDir (d : DirCopy) (x : Store) : Store :=
  let n : DirCopy := ({ d with seq := x.dir.seq + 1 } : DirCopy).sealed
  if x.dirA.ok && x.dir == x.dirA then { x with dirB := n } else { x with dirA := n }

/-- The slot of a role. -/
def Store.slot (k : Option (Fin 4)) (x : Store) : StoreSlot :=
  match k with
  | some n => x.slots.get n
  | none => {}

/-- A slot is written. -/
def Store.put (k : Option (Fin 4)) (y : StoreSlot) (x : Store) : Store :=
  match k with
  | some n => { x with slots := x.slots.set n.val y n.isLt }
  | none => x

/-- The current Block in force. -/
def Store.cur (x : Store) : Option Block := (x.slot x.curAt).blk

/-- The previous Block in force. -/
def Store.prev (x : Store) : Option Block := (x.slot x.prevAt).blk

/-- Converted Blocks are held (R494). -/
def Store.conv (x : Store) : Bool := x.dir.convCur.isSome || x.dir.convPrev.isSome

/-- The slot from which the engine starts: the current one, during an unconfirmed update the converted one. -/
def Store.bootAt (x : Store) : Option (Fin 4) := if x.conv then x.dir.convCur else x.dir.cur

/-- The previous slot at a start. -/
def Store.bootPrevAt (x : Store) : Option (Fin 4) := if x.conv then x.dir.convPrev else x.dir.prev

/-- The slot that a new Block takes: one that neither the directory names nor is in force. DESIGN CHOICE: where there is none, the slot of the
previous Block, which a new one discards (log entry 133). -/
def Store.freeSlot (x : Store) : Fin 4 :=
  let d := x.dir
  let other := (List.finRange 4).filter (fun k => x.curAt != some k)
  (other.filter (fun k => !([d.cur, d.prev, d.convCur, d.convPrev, x.prevAt].contains (some k))) ++
    other.filter (fun k => x.prevAt == some k) ++ other).headD 0

/-- A Block with its chain of Hoods becomes current, the old current previous (R498); it has been written to its slot before. -/
def Store.take (b : Block) (chain : List Hood) (x : Store) : Store :=
  let k := some x.freeSlot
  { x.put k { blk := some b, chain := chain, marked := chain.length } with curAt := k, prevAt := x.curAt }

/-- Current and previous Block are exchanged (R498): the Block that becomes current starts without Hoods (R315). -/
def Store.exchange (x : Store) : Store :=
  { x.put x.prevAt { x.slot x.prevAt with chain := [], marked := 0 } with curAt := x.prevAt, prevAt := x.curAt }

/-- The directory names the slots in force; during an unconfirmed update as the converted ones. Where what was written last fails its
read-back, no copy is written (R493). -/
def Store.writeNow (x : Store) : Store :=
  if x.bad then x
  else
    let d : DirCopy := if x.conv then { x.dir with convCur := x.curAt, convPrev := x.prevAt } else { cur := x.curAt, prev := x.prevAt }
    { x.writeDir d with dirDue := none }

/-- The store as an update boot leaves it (R506): the Blocks in force stay in their slots, and what `f` makes of them stands in the others,
named as converted. -/
def Store.convert (f : Block → Block) (x : Store) : Store :=
  let fr := (List.finRange 4).filter (fun k => x.curAt != some k && x.prevAt != some k)
  let a := x.curAt.map (fun _ => fr.headD 0)
  let b := x.prevAt.map (fun _ => (fr.drop 1).headD 1)
  let y := x.slot x.curAt
  let z := x.slot x.prevAt
  let w := (x.put a { y with blk := y.blk.map f }).put b { blk := z.blk.map f }
  { w.writeDir { cur := x.curAt, prev := x.prevAt, convCur := a, convPrev := b } with curAt := a, prevAt := b, dirDue := none }

/-- The old-format Blocks are released (R506, R507): those in force are current and previous. -/
def Store.confirm (x : Store) : Store := { x.writeDir { cur := x.curAt, prev := x.prevAt } with dirDue := none }

/-- The converted Blocks are given up (R508): the old-format ones are current and previous again. -/
def Store.giveUp (x : Store) : Store :=
  { x.writeDir { cur := x.dir.cur, prev := x.dir.prev } with curAt := x.dir.cur, prevAt := x.dir.prev, dirDue := none }

/-- What a reset leaves (R493, R494): slots and directory, and in force what the directory names. -/
def Store.afterReset (x : Store) : Store :=
  { slots := x.slots, dirA := x.dirA, dirB := x.dirB, curAt := x.bootAt, prevAt := x.bootPrevAt, dirDue := x.dirDue }

/-- The chain of Hoods stands in the slot of the Block in force, with its marks (R315, R493). -/
def Store.keep (chain : List Hood) (marked : Nat) (x : Store) : Store :=
  x.put x.curAt { x.slot x.curAt with chain := chain, marked := marked }

end Sys2Proof
end

