-- ==== Sys2Proof/Machine/Locator.lean ====
section
/-! DEFINITION. Fault location (R266 to R269, R274): the impedance locator FL of phase D and the wavefront locator. -/

namespace Sys2Proof

/-- Base of a bay's locator points. -/
def flBase (bay : Nat) : Nat := bayBase bay + 0x1C10

/-- A complex quotient, V × conj(I) / |I|² (log entry 15). -/
def cdiv (a c : Cx) : Cx := F.cdivr (F.cmul a (F.conj c)) (F.cabs2 c)

/-- The phasors FL reads for a bay (R267): phases of SET_I with X0 last, phases of SET_V. -/
def flRead (b : Block) (sg : Sig) (bay : Nat) (e : FlEntry) (ltc : Nat) : FlLatch :=
  let g := at! b.groups bay
  let gb := groupBase bay
  let rd (ofs : Nat) : Cx × BitVec 16 := let p := sg.rd (gb + ofs); (p.cx, p.qual)
  { ltc := some ltc
    i := (at! g.sets e.setI).abc.map (fun c => rd (0x10 + c)) ++ [rd (0x100 + 4 * e.setI)]
    v := (at! g.sets e.setV).abc.map (fun c => rd (0x10 + c)) }

/-- FAULT_LOCATOR_LATCH (R267): L_a moves to L_b and the present phasors are taken. -/
def flLatch (x : FlLatch) (s : FlState) : FlState := { s with lb := s.la, la := x }

/-- The str of any instance whose op is a P or PL source of the bay's slot. -/
def flStr (b : Block) (sg : Sig) (bay : Nat) : Bool :=
  match b.slots[bay]? with
  | none => false
  | some e => (e.src.filter (fun s => s.cls == 1 || s.cls == 2)).any (fun s =>
      b.elems.any (fun x => decide (x.base + 5 ≤ s.point) && decide (s.point ≤ x.base + 8) && sg.isTrue x.base))

/-- Ticks from n0 to n_f: ⌈9,600 / f_t⌉ + 1, f_t in units of 0.01 Hz. -/
def flWindow (fT : Nat) : Nat := (960000 + fT - 1) / Nat.max fT 1 + 1

/-- The latch taken at the latest tick at or before n0 − Pc. -/
def flPre (pc n0 : Nat) (s : FlState) : FlLatch :=
  let ok (l : FlLatch) : Bool := match l.ltc with | some t => decide (t + pc ≤ n0) | none => false
  if ok s.la then s.la else if ok s.lb then s.lb else {}

/-- Phase pair of a loop code 4 to 6. -/
def loopPair (loop : Nat) : Nat × Nat := if loop = 4 then (0, 1) else if loop = 5 then (1, 2) else (2, 0)

/-- k0 = ((R0 + jX0) − (R1 + jX1)) / (3 × (R1 + jX1)) (R268). -/
def flK0 (e : FlEntry) : Cx :=
  let z1 : Cx := { re := e.r1, im := e.x1 }
  cdiv (F.csub { re := e.r0, im := e.x0 } z1) (F.cscale F.three z1)

/-- Loop voltage or current from phases (R268). -/
def loopOf (loop : Nat) (earth : Cx) (xs : List Cx) : Cx :=
  if loop ≤ 3 then F.cadd (at! xs (loop - 1)) earth
  else let p := loopPair loop; F.csub (at! xs p.1) (at! xs p.2)

/-- Loop current of a latch, with k0 × 3X0 in an earth loop. -/
def loopI (e : FlEntry) (loop : Nat) (l : FlLatch) : Cx :=
  loopOf loop (F.cmul (flK0 e) (F.cscale F.three (at! l.i 3).1)) (l.i.map (·.1))

/-- Faulted phases (R268 step 1). -/
def flFaulted (e : FlEntry) (nom : F32) (pre now : FlLatch) : List Nat :=
  let dl := (List.range 3).map (fun p => F.cabs (F.csub (at! now.i p).1 (at! pre.i p).1))
  let mx := F.maxL dl
  (List.range 3).filter (fun p => F.ge (at! dl p) (F.mul 0x3F000000 mx) && F.ge (F.cabs (at! now.i p).1) (F.mul e.flimin nom))

/-- The loop (R268 step 2). The rule names none for one faulted phase without earth: `fv` is free there (log entry 6). -/
def flLoop (faulted : List Nat) (earth : Bool) (fv : Nat) : Nat :=
  match faulted with
  | [] => 0
  | [p] => if earth then p + 1 else fv % 6 + 1
  | [p, q] => if p = 0 && q = 1 then 4 else if p = 1 && q = 2 then 5 else 6
  | _ => 4

/-- The qualities of the phasors that a computation uses (R268): the phase currents of both times, X0, of the pre-fault one where the
Takagi method takes it, and the voltages of the loop. -/
def flUsed (e : FlEntry) (loop : Nat) (pre now : FlLatch) : List (BitVec 16) :=
  let vs := if loop ≤ 3 then [loop - 1] else [(loopPair loop).1, (loopPair loop).2]
  ((now.i.take 4 ++ pre.i.take (if loop ≤ 3 && e.method = 1 then 4 else 3)).map (·.2)) ++ vs.map (fun p => (at! now.v p).2)

/-- The computation of tick n_f (R268): the loop, the result, d and R_f. -/
def flCompute (e : FlEntry) (nom : F32) (fv : Nat) (pd : FlPend) (now : FlLatch) : Nat × Nat × F32 × F32 :=
  let earth := F.ge (F.cabs (F.cscale F.three (at! now.i 3).1)) (F.mul e.grd nom)
  let loop := flLoop (flFaulted e nom pd.pre now) earth fv
  if loop = 0 then (0, 4, 0, 0) else
  let I := loopI e loop now
  let dI := F.csub I (loopI e loop pd.pre)
  let V := loopOf loop {} (now.v.map (·.1))
  let zi := cdiv V I
  let d := if e.method = 0 then F.div zi.im e.x1
    else F.div (F.cmul V (F.conj dI)).im (F.cmul (F.cmul { re := e.r1, im := e.x1 } I) (F.conj dI)).im
  let rf := F.sub zi.re (F.mul d e.r1)
  let bad := (flUsed e loop pd.pre now).any (fun q => !qGood q) || pd.pre.ltc.isNone
  let r := if F.lt (F.cabs I) (F.mul e.flimin nom) then 4
    else if bad then 5
    else if pd.cut then 3
    else if F.lt d 0 || F.gt d (F.mul (F.ofRat 11 10) e.len) || F.isNaN d then 2
    else 1
  (loop, r, d, rf)

/-- Result points of a location: the distance is written with results 1 and 2 (R268). -/
def flWrites (bay : Nat) (e : FlEntry) (s : FlState) (n0 loop r : Nat) (d rf : F32) : List PtWrite :=
  let p := flBase bay
  (if r = 1 || r = 2 then [wR p d, wR (p + 1) (F.div d e.len), wR (p + 2) rf] else [])
    ++ (if loop = 0 then [] else [wE (p + 3) loop, wC (p + 6) (loopI e loop s.la), wC (p + 7) (loopI e loop s.lb)])
    ++ [wE (p + 4) r, wN (p + 5) n0]

/-- FAULT_LOCATION (R268): the result, its points, and its entry for running records. -/
def flLocate (b : Block) (sg : Sig) (bay : Nat) (e : FlEntry) (ltc fv : Nat) (s : FlState) :
    FlState × List PtWrite × List FlResult :=
  match s.pend with
  | none => (s, [], [])
  | some pd =>
    if pd.nf ≠ ltc then (s, [], [])
    else
      let nom := (at! (at! b.groups bay).sets e.setI).nom
      let (loop, r, d, rf) := flCompute e nom fv pd (flRead b sg bay e ltc)
      ({ s with pend := none, doneAt := some ltc }, flWrites bay e s pd.n0 loop r d rf,
       [{ bay := bay, n0 := pd.n0, nf := pd.n0 + (pd.nf - pd.at_), loop := loop, result := r, d := d, dl := F.div d e.len, rf := rf }])

/-- The slot's pos reads off or its cc reads 0. -/
def flCut (b : Block) (sg : Sig) (bay : Nat) : Bool :=
  match b.slots[bay]? with
  | some e => e.use != 0 && (let p := sg.rd (slotBase bay + 1); (p.value.toNat % 4 == 1 || !(sg.rd (slotBase bay + 6)).bool))
  | none => false

/-- FL of one bay in phase D of a tick (R267, R268). -/
def flStep (b : Block) (sg : Sig) (id : TickId) (ltc fv bay : Nat) (e : FlEntry) (tripping : Bool) (s0 : FlState) :
    FlState × List PtWrite × List FlResult :=
  if !e.en then (s0, [], []) else
  let pc := 9600 / b.fnom
  let str := flStr b sg bay
  let onset := str && !s0.str && !tripping && s0.pend.isNone
  let fT := (F.toIntRne (F.mul (sg.rd (groupBase bay + 0x112)).real (F.ofNat 100)) 7000).toNat
  let s := { s0 with str := str }
  let s := if onset then
      { s with pend := some { n0 := TickId.grid id, at_ := ltc, nf := ltc + flWindow fT, pre := flPre pc ltc s0, cut := flCut b sg bay } }
    else match s.pend with
      | some pd => { s with pend := some { pd with cut := pd.cut || (decide (ltc ≤ pd.nf) && flCut b sg bay) } }
      | none => if id.k % pc = 0 && s.doneAt != some ltc then flLatch (flRead b sg bay e ltc) s else s
  flLocate b sg bay e ltc fv s

/-- The locator of a bay in phase D, and the result entries for running records of plans that name the bay. -/
def flPhaseD (b : Block) (sg : Sig) (id : TickId) (ltc : Nat) (fv : Nat → Nat) (slots : List SlotState) (bay : Nat) (d : Drc) :
    Drc × List PtWrite :=
  match b.fls[bay]? with
  | none => (d, [])
  | some e =>
    let x := flStep b sg id ltc (fv bay) bay e ((at! slots bay).state == 2) (at! d.fls bay)
    ({ d with fls := setAt d.fls bay x.1
              recs := if x.2.2.isEmpty then d.recs else d.recs.map (fun r =>
                if r.state = 1 then { r with fls := r.fls ++ x.2.2.filter (fun y => r.entry.bays.getLsbD y.bay) } else r) }, x.2.1)

/-! ### Wavefront location (R274) -/

/-- Calibrated primary value of a conversion of a snippet (R91 arithmetic, then K). -/
def snipValue (e : LaneEntry) (s : Snip) (slot : Nat) (code : Int) : F32 :=
  let l : Lane := { cass := s.cass, oL := s.oL, gL := s.gL }
  F.mul (F.ofInt ((clamp24 (calibrate l e slot (25600 * code))).toInt)) (at! (laneK e) slot)

/-- Conversions of a slot in a snippet: instant in main-clock cycles (R100) less the cassette's DELAY, and primary value. -/
def snipSlot (e : LaneEntry) (s : Snip) (slot : Nat) : List (Int × F32) :=
  (s.words.zipIdx.filter (fun w => wordSlot w.1 == slot)).map (fun w =>
    ((s.at_ : Int) + 160 * w.2 - delayCycles (at! s.cass.delay slot),
     snipValue e s slot (wordCode w.1)))

/-- Linear interpolation of a series at an instant; its end values outside it. -/
def resample : List (Int × F32) → Int → F32
  | [], _ => 0
  | [x], _ => x.2
  | x :: y :: t, i =>
    if i ≤ x.1 then x.2
    else if i < y.1 then
      F.add x.2 (F.mul (F.ofRat (i - x.1) (y.1 - x.1).toNat) (F.sub y.2 x.2))
    else resample (y :: t) i

/-- The two arrivals (R274): d_wf in km, or none where no second one exists. `g` is (instant, gradient) in order. -/
def wfSolve (e : FlEntry) (g : List (Int × F32)) : Option F32 :=
  let mx := F.maxL (g.map (fun x => F.abs x.2))
  match g.findIdx? (fun x => F.ge (F.abs x.2) (F.mul 0x3F000000 mx)) with
  | none => none
  | some j1 =>
    let a := at! g j1
    let us (i : Int) : F32 := F.ofRat ((i - a.1) * 100) 24576
    let ok (x : (Int × F32)) : Bool := F.isNeg x.2 == F.isNeg a.2 && F.ge (F.abs x.2) (F.mul e.wfref (F.abs a.2))
      && F.le (us x.1) (F.div (F.mul F.two (F.mul e.len (F.ofNat 1000))) e.vprop)
    ((g.drop (j1 + 3)).find? ok).map (fun x => F.div (F.div (F.mul e.vprop (us x.1)) F.two) (F.ofNat 1000))

/-- A record serves a bay's wavefront location (R274): the bay is one of its plan's, the three phase currents are local channels on
lanes in LANES, and every snippet is complete. -/
def wfFits (b : Block) (bay : Nat) (e : FlEntry) (r : DrcRec) : Bool :=
  let chs := (at! (at! b.groups bay).sets e.setI).abc.map (fun p => (at! b.groups bay).chan.getD p 0xFFFF)
  e.en && r.entry.bays.getLsbD bay && chs.all (fun ch => decide (ch < 64) && r.entry.lanes.getLsbD (ch / 4)) && r.snips.all (·.done)

/-- WAVEFRONT_LOCATION (R274): result code and distance from a record's snippets. -/
def wfLocate (b : Block) (bay : Nat) (e : FlEntry) (r : DrcRec) : Nat × F32 :=
  let chs := (at! (at! b.groups bay).sets e.setI).abc.map (fun p => (at! b.groups bay).chan.getD p 0xFFFF)
  let sn := chs.map (fun ch => r.snips.find? (fun s => s.lane == ch / 4))
  if sn.any (fun s => match s with | some s => s.flag | none => true) then (3, 0)
  else
    let ser := (chs.zip sn).map (fun x => match x.2 with
      | some s => snipSlot (at! b.lanes s.lane) s (x.1 % 4)
      | none => [])
    let iA := at! ser 0
    let a := iA.map (fun x => (x.1, F.div (F.sub (F.sub (F.mul F.two x.2) (resample (at! ser 1) x.1)) (resample (at! ser 2) x.1)) F.three))
    let g := (a.zip (a.drop 1)).map (fun x => (x.2.1, F.sub x.2.2 x.1.2))
    match wfSolve e g with
    | some d => (1, d)
    | none => (2, 0)

/-- The three point writes of a wavefront result (R274), as operator actions for a named tick. -/
def wfActions (bay recno ntick : Nat) (res : Nat × F32) : List Action :=
  let w (i : Nat) (v : BitVec 64) : Action := { act := .pointWrite (flBase bay + i) v, ntick := ntick }
  (if res.1 = 1 then [w 8 (vReal res.2)] else []) ++ [w 9 (vEnum (res.1 : Nat)), w 10 (vNat recno)]

end Sys2Proof
end

