-- ==== Sys2Proof/Machine/Schemes.lean ====
section
/-! DEFINITION. The station schemes of phase D (R248 to R250): bus blocking, intertrip, load shedding and restoration; the schedule of
phase D. -/

namespace Sys2Proof

/-- The end of a bus-blocking extension (R248). -/
def bbExpire (_ : Nat) : Nat := 0

/-- Quality of a scheme's output: with the test bit where it is true for bays in test alone, so that a bay in mode On or Blocked
reads it as invalid (R126). DESIGN CHOICE (log entry 112). -/
def schemeQual (on test : Bool) : BitVec 16 := if !on && test then 0x800 else 0

/-- A bus-blocking scheme in a tick, as a bay of a mode sees its members (R126): its output and the extension left. -/
def bbStep (mode : Nat) (sg : Sig) (e : BusBlock) (ext : Nat) : Bool × Nat :=
  let ps := e.mem.map (fun i => let p := sg.rd i; { p with qual := qIn mode p.qual })
  let t := ps.any (fun p => p.bool && qOk p.qual)
  let bad := e.fail == 1 && ps.any (fun p => qBad p.qual)
  if bad then (true, e.text)
  else (t || decide (0 < ext), if ext ≤ 1 then bbExpire ext else ext - 1)

/-- The end of an intertrip pulse (R249). -/
def itExpire (_ : Nat) : Nat := 0

/-- An intertrip channel's send point, as a bay of a mode sees its sources: output and ticks of its minimum duration left after this
tick. -/
def itSend (mode : Nat) (sg : Sig) (e : Intertrip) (out : Bool) (left : Nat) : Bool × Nat :=
  let src := e.send.any (sg.isTrueIn mode)
  if src && !out then (true, e.tpulse - 1)
  else (src || decide (0 < left), if left ≤ 1 then itExpire left else left - 1)

/-- An intertrip channel's effective receive point (R249), as a bay of a mode sees its points (R126). -/
def itRecv (mode : Nat) (sg : Sig) (e : Intertrip) : Bool :=
  e.recv != noPoint &&
    (let p := sg.rd e.recv
     p.bool && qGood (qIn mode p.qual) && !p.qual.getLsbD 10 && (e.perm == noPoint || sg.isTrueIn mode e.perm))

/-- Slots of a stage that wait for restoration, in ascending order. -/
def shedLeft (e : ShedStage) (sl : List SlotState) : List Nat :=
  (sl.zipIdx.filter (fun s => e.slots.getLsbD s.2 && s.1.shed)).map (·.2)

/-- Restoration of a stage begins (R250): its first close request falls in this tick. -/
def shedStart (s : ShedState) : ShedState := { s with on := true, since := 0 }

/-- The next close request of a stage: slots no longer Open are skipped; answers the slot asked and those skipped. -/
def shedAsk (e : ShedStage) (sl : List SlotState) : Option Nat × List Nat :=
  let l := shedLeft e sl
  (l.find? (fun i => (at! sl i).state == 0), l.takeWhile (fun i => (at! sl i).state != 0))

/-- What a stage's trigger trips: true for every slot, or, with the test bit, for slots of bays in test (R126). -/
def shedTrig (sg : Sig) (e : ShedStage) (slot : Nat) : Bool :=
  e.trig != noPoint && e.slots.getLsbD slot && sg.isTrueIn (if sg.mode slot = 3 ∨ sg.mode slot = 4 then 3 else 1) e.trig

/-- A stage sheds: its trigger reads true for a bay in mode On, or for one of its slots. -/
def shedActive (sg : Sig) (e : ShedStage) : Bool :=
  e.trig != noPoint && (sg.isTrueIn 1 e.trig || (List.range 64).any (shedTrig sg e))

/-- Load-shed stage `n` in a tick: next state, shed requests, close request, skipped slots. `hold` while a higher stage
still restores. -/
def shedStep (sg : Sig) (e : ShedStage) (hold : Bool) (sl : List SlotState) (s : ShedState) :
    ShedState × BitVec 64 × Option (Nat × Bool) × List Nat :=
  let f := sg.rd 0x63400
  let good := qGood f.qual && F.ge f.real e.fr
  let g := if good then s.good + 1 else 0
  if shedActive sg e then
    let m := (List.range 64).foldl (fun (m : BitVec 64) i =>
      if shedTrig sg e i && ((at! sl i).state == 1 || (at! sl i).state == 5) then m ||| (1#64 <<< i) else m) 0
    ({ s with good := g, on := false, since := 0, asked := none }, m, none, [])
  else
    let left := shedLeft e sl
    let s1 := { s with good := g, asked := none }
    if left.isEmpty then ({ s1 with on := false }, 0, none, [])
    else
      let begin_ := !s.on && e.rflags.testBit 0 && decide (g ≥ e.trest) && !hold
      let due := s.on && decide (s.since + 1 ≥ e.tstep)
      if begin_ || due then
        let (ask, skip) := shedAsk e sl
        ({ shedStart s1 with asked := ask }, 0, ask.map (fun i => (i, e.rflags.testBit 1)), skip)
      else ({ s1 with since := s.since + 1 }, 0, none, [])

/-- What the kernels of phase D on TE0 to TE5 accumulate: the unit's own view of the space, the states of schemes and locators,
point writes, shed mask, close requests, skipped slots, events. -/
structure SchemeRun where
  sg    : Sig
  sc    : Schemes
  drc   : Drc
  ws    : List PtWrite := []
  mask  : BitVec 64 := 0
  asks  : List (Nat × Nat × Bool) := []
  skips : List Nat := []
  ev    : List EvRec := []

/-- What the kernels of phase D read besides the space: the Block, the tick, the slots as the phase began, the loop a locator
takes for one faulted phase without earth. -/
structure SchemeEnv where
  b    : Block
  id   : TickId
  ltc  : Nat
  sl   : List SlotState
  loop : Nat → Nat

/-- Points are written as their writer, visible at once to what the unit runs next (R29). -/
def SchemeRun.put (id : TickId) (ws : List PtWrite) (r : SchemeRun) : SchemeRun :=
  { r with sg := r.sg.writes id ws, ws := r.ws ++ ws }

/-- Bus-blocking scheme `i` (R248). -/
def runBus (v : SchemeEnv) (i : Nat) (e : BusBlock) (r : SchemeRun) : SchemeRun :=
  let x := bbStep 1 r.sg e (at! r.sc.bbExt i)
  let y := bbStep 3 r.sg e (at! r.sc.bbExtT i)
  ({ r with sc := { r.sc with bbExt := setAt r.sc.bbExt i x.2, bbExtT := setAt r.sc.bbExtT i y.2 } }).put v.id
    [wB (0x63800 + i) (x.1 || y.1) (schemeQual x.1 y.1)]

/-- Intertrip channel `i` (R249). -/
def runIntertrip (v : SchemeEnv) (i : Nat) (e : Intertrip) (r : SchemeRun) : SchemeRun :=
  let x := itSend 1 r.sg e (at! r.sc.itOut i) (at! r.sc.itLeft i)
  let y := itSend 3 r.sg e (at! r.sc.itOutT i) (at! r.sc.itLeftT i)
  let sc := { r.sc with itOut := setAt r.sc.itOut i x.1, itLeft := setAt r.sc.itLeft i x.2
                        itOutT := setAt r.sc.itOutT i y.1, itLeftT := setAt r.sc.itLeftT i y.2 }
  ({ r with sc := sc }).put v.id
    [wB (0x63810 + 2 * i) (x.1 || y.1) (schemeQual x.1 y.1),
     wB (0x63811 + 2 * i) (itRecv 3 r.sg e) (schemeQual (itRecv 1 r.sg e) (itRecv 3 r.sg e))]

/-- Load-shed stage `i` (R250). -/
def runShed (v : SchemeEnv) (i : Nat) (e : ShedStage) (r : SchemeRun) : SchemeRun :=
  let hold := (v.b.sheds.zipIdx).any (fun h => decide (i < h.2) && h.1.rflags.testBit 0 && !(shedLeft h.1 v.sl).isEmpty)
  let x := shedStep r.sg e hold v.sl (at! r.sc.shed i)
  ({ r with sc := { r.sc with shed := setAt r.sc.shed i x.1 }, mask := r.mask ||| x.2.1, asks := r.asks ++ x.2.2.1.toList.map (fun (a : Nat × Bool) => (a.1, i, a.2))
            skips := r.skips ++ x.2.2.2, ev := r.ev ++ x.2.2.2.map (skipEvent i) }).put v.id
    [wB (0x63850 + 4 * i) (shedActive r.sg e) (schemeQual (r.sg.isTrueIn 1 e.trig) (shedActive r.sg e)), wB (0x63851 + 4 * i) x.1.on,
     wN (0x63852 + 4 * i) (shedLeft e v.sl).length]

/-- The fault locator of a bay (R267). -/
def runLocator (v : SchemeEnv) (bay : Nat) (r : SchemeRun) : SchemeRun :=
  let x := flPhaseD v.b r.sg v.id v.ltc v.loop v.sl bay r.drc
  ({ r with drc := x.1 }).put v.id x.2

/-- One entry of phase D. -/
def runScheme (v : SchemeEnv) (r : SchemeRun) : SchemeItem → SchemeRun
  | .idle => r
  | .busBlock i => match v.b.busBlocks[i]? with | some e => runBus v i e r | none => r
  | .intertrip i => match v.b.intertrips[i]? with | some e => runIntertrip v i e r | none => r
  | .shed i => match v.b.sheds[i]? with | some e => runShed v i e r | none => r
  | .locator bay => runLocator v bay r

/-- What unit `u` runs in phase D, in ORDER. -/
def schemeItems (b : Block) (u : Nat) : List SchemeItem := (schedOf b u 3).map (fun e => Config.schemeKernel e.kernel e.inst)

/-- Phase D on TE0 to TE5 (R25, R29, R59): every unit reads the space of the phase's start and its own writes. -/
def schemesPhase (v : SchemeEnv) (sg : Sig) (sc : Schemes) (d : Drc) : SchemeRun :=
  (List.range 6).foldl (fun r u => (schemeItems v.b u).foldl (runScheme v) { r with sg := sg }) { sg := sg, sc := sc, drc := d }

end Sys2Proof
end

