-- ==== Sys2Proof/Machine/MapCheck.lean ====
section
/-! DEFINITION. What a setting word admits (R168), and the signal-space map's check (R28 to R31, R61): which block of the engine writes
which point with which TYPE, and what a scheduled item reads and writes. -/

namespace Sys2Proof

/-! ### Setting words (R168) -/

/-- How a setting word is stored and which values it admits: a time in units of 0.1 ms held in ticks, an integer, or a
binary32 value from `lo` to `hi` in steps of `step`, all over `den`. -/
inductive SetSpec where
  | time (lo hi : Nat)
  | int (lo hi : Nat)
  | real (lo hi : Int) (step den : Nat)
  | oneOf (l : List Nat)
  deriving DecidableEq, Repr

/-- A word admits a time: it is the tick count of a whole step within the range (R21). -/
def timeOk (lo hi w : Nat) : Bool :=
  let s := w * 100 / 96
  (decide (lo ≤ s) && decide (s ≤ hi) && ticksOf01 s == w) || (decide (1 ≤ s) && decide (lo ≤ s - 1) && decide (s - 1 ≤ hi) && ticksOf01 (s - 1) == w)

/-- A binary32 word is the nearest value of a whole step within the range. -/
def realOk (lo hi : Int) (step den : Nat) (x : F32) : Bool :=
  let f := F.toFrac x
  let n := F.rndDiv (f.1 * (den : Int)) f.2
  F.isFin x && decide (lo ≤ n) && decide (n ≤ hi) && decide (n % (step : Int) = 0) && F.eq (F.ofRat n den) x

/-- A word satisfies its specification. -/
def SetSpec.ok (s : SetSpec) (w : BitVec 32) : Bool :=
  match s with
  | .time lo hi => timeOk lo hi w.toNat
  | .int lo hi => decide (lo ≤ w.toNat) && decide (w.toNat ≤ hi)
  | .real lo hi step den => realOk lo hi step den w
  | .oneOf l => l.contains w.toNat

/-- Words against their specifications; words beyond them must be 0. -/
def wordsOk (specs : List SetSpec) (ws : List (BitVec 32)) : Bool :=
  (mapI (fun i s => SetSpec.ok s (at! ws i)) specs).all id && (ws.drop specs.length).all (· == 0#32)

/-- T and TR of a table with one range for both, in units of 0.1 ms. -/
def bothT (lo hi : Nat) : List SetSpec := [.time lo hi, .time lo hi]

/-- The full range of T and TR: 600,000 ms. -/
def fullT : List SetSpec := bothT 0 6000000

/-- A decimal setting in thousandths. -/
def mil (lo hi : Int) (step : Nat) : SetSpec := .real lo hi step 1000

/-- Words 1 and on of an element type's setting record (R178 to R200): T, TR, then its settings in table order. -/
def elemSpecs (t : Nat) : List SetSpec :=
  if t == 0x0101 || t == 0x0103 || t == 0x0105 then bothT 0 600000 ++ [mil 50 40000 1, mil 900 990 10, .int 1 4]
  else if t == 0x0102 || t == 0x0104 || t == 0x0106 then bothT 0 10000 ++ [mil 100 60000 10, mil 800 980 10]
  else if t == 0x0111 then fullT ++ [mil 50 20000 1, mil 900 990 10]
  else if t == 0x0112 || t == 0x0113 then fullT ++ [mil 5 20000 1, mil 900 990 10]
  else if t == 0x0121 then fullT ++ [mil 50 40000 1, mil 900 990 10, mil (-90000) 90000 1000, mil 30000 90000 1000, mil 20 1000 10,
    mil 20 500 10, .time 0 20000, .int 1 2, .int 0 1]
  else if t == 0x0122 then fullT ++ [mil 5 10000 1, .int 0 2, mil 10 500 10, mil 2 1000 1, mil 900 990 10, mil (-90000) 90000 1000,
    mil 30000 90000 1000, .int 1 2, .int 0 0]
  else if t == 0x0123 then fullT ++ [.int 0 1, .real 5 5000 1 10000, mil 20 1000 10, mil 2 1000 1, mil (-5000) 5000 100,
    mil 500 950 10, .int 1 2]
  else if t == 0x0124 then fullT ++ [mil 50 1000 10, mil 24000 192000 1000, mil 300 950 10, mil 20 1000 10, mil 500 950 10,
    .time 1000 600000, .int 1 2]
  else if t == 0x0125 then [.int 0 0, .int 0 0, mil 50 5000 10, mil 10 500 10, mil 45000 90000 1000, mil 4000 48000 1000,
    mil 300 950 10, .time 100 10000, .int 1 2]
  else if t == 0x0131 then fullT ++ [mil 20 5000 1, mil 900 990 10]
  else if t == 0x0132 then [.time 1000 6000000, .time 0 6000000, mil 100 1000 10, mil 800 980 10, mil 20 1000 10]
  else if t == 0x0141 then [.int 0 0, .int 0 0, mil 100 4000 10, mil 1000 1500 10, mil 1000 1000000 1000, mil 1000 5000000 1000,
    mil 800 1500 10, mil 500 1000 10, mil 500 990 10, mil 0 1000 10]
  else if t == 0x0151 then fullT ++ [.int 0 1, mil 50 1200 1, mil 1010 1200 10, mil 0 500 10, mil 1000 3000 1000]
  else if t == 0x0152 then fullT ++ [.int 0 1, mil 500 2000 1, mil 900 990 10, .int 0 0, mil 1000 3000 1000]
  else if t == 0x0153 then fullT ++ [mil 20 1000 1, mil 900 990 10]
  else if t == 0x0161 then fullT ++ [.int 0 1, mil 40000 70000 10, mil 10 1000 10]
  else if t == 0x0162 then fullT ++ [.int 0 2, mil 50 10000 10, mil 900 990 10]
  else if t == 0x0171 then fullT ++ [mil (-180000) 180000 100, .int 0 1, mil (-1200) 1200 1, mil 2 100 1, mil 10 500 10]
  else if t == 0x0181 then bothT 0 10000 ++ [mil 50 500 10, mil 800 980 10, mil 20 1000 10, mil 1000 40000 10, .int 0 1]
  else if t == 0x0182 then [.int 0 0, .int 0 0, .int 0 1, mil 20 500 10, .time 10000 360000000, .time 1000 36000000, mil 100 5000 10,
    .time 1000 6000000, mil 1000 8000 1000]
  else if t == 0x0191 then fullT ++ [mil 50 2000 10, mil 1500 20000 100, .real 5 500 1 10000, .real 1 1000 1 1000000,
    mil 10000 3600000 1000, mil 20000 600000 1000, mil 1000 600000 1000, mil 1000 600000 1000]
  else [.time 0 10000, .int 0 0, mil 50 500 10, mil 20 500 10, mil 50 700 10, mil 20 1000 10, mil 20 1000 10, mil 500 950 10,
    .time 0 600000]

/-- Words 1 and on of an inverse-time stage (R211), PU and HYST as its type has them; the CURVE code has its own check. -/
def curveSpecs (t : Nat) : List SetSpec :=
  [.time 0 100000, .time 0 6000000] ++ (elemSpecs t).drop 2 ++
    [.int 0 0xFFFFFFFF, mil 10 30000 1, .int 0 2, mil 10000 40000 100]

/-- Element types that may carry CURVE (R212). -/
def curveType (t : Nat) : Bool := [0x0111, 0x0112, 0x0113, 0x0131].contains t

/-- The element types of R165. -/
def elemTypes : List Nat :=
  [0x0101, 0x0102, 0x0103, 0x0104, 0x0105, 0x0106, 0x0111, 0x0112, 0x0113, 0x0121, 0x0122, 0x0123, 0x0124, 0x0125, 0x0131, 0x0132,
   0x0141, 0x0151, 0x0152, 0x0153, 0x0161, 0x0162, 0x0171, 0x0181, 0x0182, 0x0191, 0x01A1]

/-- Types that read a current set (R165). -/
def needsI (t : Nat) : Bool := !([0x0151, 0x0152, 0x0153, 0x0161, 0x0162].contains t)
/-- Types that read a voltage set. -/
def needsV (t : Nat) : Bool :=
  [0x0121, 0x0122, 0x0123, 0x0124, 0x0125, 0x0151, 0x0152, 0x0153, 0x0171, 0x01A1].contains t
/-- Directional types (R167). -/
def dirType (t : Nat) : Bool := [0x0121, 0x0122, 0x0123, 0x0125].contains t

/-- No number occurs twice. -/
def noDup : List Nat → Bool
  | [] => true
  | x :: r => !r.contains x && noDup r

/-- DOs that a slot's header names. -/
def SlotEntry.dos (e : SlotEntry) : List Nat := (e.tripDo ++ [e.closeDo, e.retripDo]).filter (· != 0xFF)

/-! ### Writers and TYPEs (R28, R31) -/

/-- What the spec or a section of the Block says of a point: its writer, the TYPEs it may have, and whether it is written in any
case, so that the map must list it. -/
structure PointDecl where
  point  : Nat
  writer : Writer
  types  : List Nat
  need   : Bool := true
  deriving DecidableEq, Repr

/-- Declarations of consecutive points of one writer. -/
def declRun (w : Writer) (base : Nat) (types : List (List Nat)) : List PointDecl :=
  mapI (fun i t => { point := base + i, writer := w, types := t }) types

/-- `n` consecutive points of one TYPE. -/
def declN (w : Writer) (base n typ : Nat) : List PointDecl := declRun w base (List.replicate n [typ])

/-- TYPEs of the member a GOOSE entry maps (R110); a quality or a time stamp has none of its own. -/
def memberTypes (m : InMap) : List Nat :=
  match m.mtype with
  | 0x01 => [6] | 0x10 => [1] | 0x11 => [2] | 0x12 => [3] | 0x13 => [4] | 0x14 => [6] | 0x15 => [5]
  | _ => [1, 2, 3, 4, 5, 6]

/-- A declaration of points that are written only where the map lists them. -/
def optionalDecl (l : List PointDecl) : List PointDecl := l.map (fun d => { d with need := false })

/-- Sample points of local channels (R93, R141) and mapped members (R109). -/
def declInputs (b : Block) : List PointDecl :=
  (List.range 64).flatMap (fun ch => if (chanHome b ch).isNone then [] else
    (localPts b ch).map (fun i => { point := i, writer := .afe, types := [8] })) ++
  b.inMap.map (fun m => { point := m.point, writer := .pbi, types := memberTypes m })

/-- Frequency results of a group (R141). -/
def declFreq (base : Nat) : List PointDecl := declRun .phe (base + 0x110) [[6], [6], [6], [5], [4]]

/-- The layout of a group's results other than its sample points (R141), used or not. -/
def declGroupLayout (gi : Nat) : List PointDecl :=
  let base := groupBase gi
  declN .phe (base + 0x10) 208 7 ++ declN .phe (base + 0xE0) 32 6 ++ declN .phe (base + 0x100) 16 7 ++ declFreq base ++
    declN .phe (base + 0x118) 10 6

/-- Results of a phasor group (R141): those of a used group, and the frequency of the reference group in any case (R152). -/
def declGroup (ref gi : Nat) (e : GroupEntry) : List PointDecl :=
  let base := groupBase gi
  optionalDecl (declGroupLayout gi) ++
  if !e.used then (if gi = ref then declFreq base else []) else
  e.chans.flatMap (fun c => [{ point := base + 0x10 + c.1, writer := .phe, types := [7] }] ++
    (List.range 12).map (fun h => { point := base + 0x20 + 16 * h + c.1, writer := .phe, types := [7] }) ++
    [{ point := base + 0xE0 + c.1, writer := .phe, types := [6] }, { point := base + 0xF0 + c.1, writer := .phe, types := [6] }]) ++
  (mapI (fun i (s : SetEntry) => if s.kind = 0 then [] else declN .phe (base + 0x100 + 4 * i) 4 7) e.sets).flatten ++
  declFreq base ++
  (if e.sets[e.pwrV]?.isSome && e.sets[e.pwrI]?.isSome then declN .phe (base + 0x118) 10 6 else [])

/-- TYPEs of the common points of an instance (R170). -/
def elemCommon : List (List Nat) := List.replicate 9 [1] ++ [[5], [1], [4], [6], [6], [5], [5]]

/-- TYPEs of the points from 0x10 on (R183 to R200, R210). -/
def elemSpecific (e : ElemEntry) : List (List Nat) :=
  if e.opts.testBit 2 then [[6], [6], [6], [6], [5], [5], [5], [4]]
  else match e.etype with
    | 0x0121 => [[5], [5], [5], [1], [6], [6], [6]]
    | 0x0122 => [[6]]
    | 0x0132 => [[6]]
    | 0x0124 => [[6], [5]]
    | 0x0125 => [[6], [5]]
    | 0x0141 => [[6], [1], [6]]
    | 0x0182 => [[1], [5]]
    | 0x0191 => [[1], [4], [6], [6]]
    | 0x01A1 => [[1], [4]]
    | _ => []

/-- TYPEs of a stored setting: a time in ticks, an enumeration or a count, a real (R168). -/
def SetSpec.types : SetSpec → List Nat
  | .time _ _ => [4]
  | .int _ _ => [4, 5]
  | .real _ _ _ _ => [6]
  | .oneOf _ => [4, 5]

/-- Words of an instance's setting record (R168, R211). -/
def elemWords (e : ElemEntry) : List SetSpec :=
  .int 0 1 :: (if e.opts.testBit 2 && curveType e.etype then curveSpecs e.etype else elemSpecs e.etype)

/-- Points of element instance `i`. DESIGN CHOICE (log entry 27): the spec gives the set[] words beyond a type's last setting no TYPE;
the map may list them as unsigned integer, enumeration or real, or not at all. -/
def declElem (i : Nat) (e : ElemEntry) : List PointDecl :=
  declRun (.elem i) e.base elemCommon ++ declRun (.elem i) (e.base + 0x10) (elemSpecific e) ++
    declRun (.elem i) (e.base + 0x40) ((elemWords e).map SetSpec.types) ++
    optionalDecl (declRun (.elem i) (e.base + 0x40 + (elemWords e).length) (List.replicate (32 - (elemWords e).length) [4, 5, 6]))

/-- Points of sequencer slot `n` (R229), whose writer is the BSQ also where the slot is unused, and the DOs its header names
(R324). -/
def declSlot (n : Nat) (e : SlotEntry) : List PointDecl :=
  let pts := declRun .bsq (slotBase n) [[5], [2], [1], [1], [1], [1], [1], [4], [5], [4], [5], [5], [4], [4], [4], [1], [4]]
  if e.use = 0 then optionalDecl pts
  else pts ++ e.dos.map (fun o => { point := doPt o, writer := .bsq, types := [1] })

/-- Numbers of the schemes in a map's writers: bus blocking from 0, intertrips from 8, load-shed stages from 40 (log entry 88). -/
def busScheme (i : Nat) : Writer := .scheme i
/-- The writer's number of an intertrip channel. -/
def itScheme (i : Nat) : Writer := .scheme (8 + i)
/-- The writer's number of a load-shed stage. -/
def shedScheme (i : Nat) : Writer := .scheme (40 + i)

/-- Scheme outputs (R248 to R250). Those of a scheme that the Block does not define stay its own. -/
def declSchemes (b : Block) : List PointDecl :=
  optionalDecl ((List.range 8).map (fun i => { point := 0x63800 + i, writer := busScheme i, types := [1] }) ++
    (List.range 32).flatMap (fun i => declN (itScheme i) (0x63810 + 2 * i) 2 1) ++
    (List.range 16).flatMap (fun i => declRun (shedScheme i) (0x63850 + 4 * i) [[1], [1], [4]])) ++
  mapI (fun i _ => { point := 0x63800 + i, writer := busScheme i, types := [1] }) b.busBlocks ++
  (mapI (fun i _ => declN (itScheme i) (0x63810 + 2 * i) 2 1) b.intertrips).flatten ++
  (mapI (fun i _ => declRun (shedScheme i) (0x63850 + 4 * i) [[1], [1], [4]]) b.sheds).flatten

/-- Results of a bay's fault locator (R267, R274). -/
def declFl (bay : Nat) (e : FlEntry) : List PointDecl :=
  let pts := declRun (.fl bay) (flBase bay) [[6], [6], [6], [5], [5], [4], [7], [7]] ++ declRun .cmd (flBase bay + 8) [[6], [5], [4]]
  if e.en then pts else optionalDecl pts

/-- Task outputs: any TYPE. -/
def declTask (t : Nat) (e : TaskEntry) : List PointDecl :=
  if e.kind = 0 then [] else e.outs.map (fun p => { point := p, writer := .task t, types := [1, 2, 3, 4, 5, 6, 7] })

/-- The field region (R324): what the FIO writes for the section's entries must be listed, a counter and a frequency where they are
enabled (R330, R332); the control points are written by commands only. -/
def declField (f : FieldCfg) : List PointDecl :=
  optionalDecl (declN .fio 0x61180 16 4 ++ declN .fio 0x61190 16 6 ++ declN .cmd 0x611B0 16 4 ++ declN .cmd 0x611D8 6 4) ++
  declN .fio 0x61000 f.dis.length 1 ++ declN .fio 0x61100 f.dos.length 4 ++
  (mapI (fun c (e : FastEntry) => (if e.cnt then declN .fio (0x61180 + c) 1 4 else []) ++ (if e.frq then declN .fio (0x61190 + c) 1 6 else []) ++
    declN .fio (0x611A0 + c) 1 4) f.fasts).flatten ++
  declN .fio 0x611C0 (f.dis.length / 16) 4 ++ declN .fio 0x611C8 f.holdt.length 4 ++ declN .fio 0x611D0 f.holdt.length 6

/-- Modes and station points (R127, R141, R177, R204): the engine writes them, so the map must list them with their writer (R28). -/
def declFixed (part : Nat) : List PointDecl :=
  (fixedPts part).map (fun m => { point := m.point, writer := m.writer, types := [m.typ] })

/-- What the spec lays out of the points of a Block, the tasks' outputs apart. -/
def declLayout (b : Block) : List PointDecl :=
  declInputs b ++ (mapI (declGroup b.refGroup) b.groups).flatten ++ (mapI declElem b.elems).flatten ++ (mapI declSlot b.slots).flatten ++
    declSchemes b ++ (mapI declFl b.fls).flatten ++ declField b.field ++ declFixed b.ident.part.toNat

/-- The outputs of all tasks. -/
def declTasks (b : Block) : List PointDecl := (mapI declTask b.tasks).flatten

/-- Everything declared of the points of a Block. -/
def declared (b : Block) : List PointDecl := declLayout b ++ declTasks b

/-- Writer of the points of an engine-local region; nothing of R28's list writes those of health and pair. -/
def localWriter (i : Nat) : Writer :=
  if i / 0x1000 = 0xF1 then .tsu else if i / 0x1000 = 0xF3 then .pbi else .none

/-- Offsets laid out by the spec, of which those not declared are reserved: below 0x0200 of a bay or group (R141), the first 256
points of a sequencer slot (R229), the field region (R324), the 128 points of an instance (R170). -/
def reservedPt (b : Block) (i : Nat) : Bool :=
  (decide (i < 0x60000) && (decide (i % 0x2000 < 0x200) || (decide (0x1000 ≤ i % 0x2000) && decide (i % 0x2000 < 0x1100)))) ||
  (decide (0x60000 ≤ i) && decide (i < 0x63400)) || b.elems.any (fun e => decide (e.base ≤ i) && decide (i < e.base + 0x80))

/-- A DO point (R324). -/
def isDo (i : Nat) : Bool := decide (0x61080 ≤ i) && decide (i < 0x610E0)

/-- A writer is a scheme. -/
def Writer.isScheme : Writer → Bool
  | .scheme _ => true
  | _ => false

/-- A DO point that no slot names: the scheme or logic task the map names writes it, a task that lists it as an output (R324). -/
def doOk (tasks : List PointDecl) (m : MapPoint) : Bool :=
  m.typ == 1 && (if tasks.isEmpty then m.writer.isScheme else tasks.all (fun d => d.writer == m.writer))

/-- Local channels that a part has (R4). -/
def partChans (part : Nat) : Nat := if part = 0x00504848 then 0 else if part = 0x00414824 then 32 else 64

/-- A map entry agrees with all that is declared of its point, so that nothing else writes it: its writer and TYPE; the part has the
bay and the local channel (R5). A point outside those the spec lays out is a task's output, is written by commands (R27), or is
the sample point of a local channel without a position (R77). -/
def entryOk (part : Nat) (b : Block) (lay tasks : List PointDecl) (m : MapPoint) : Bool :=
  let ls := lay.filter (fun d => d.point == m.point)
  let ts := tasks.filter (fun d => d.point == m.point)
  decide (0 < m.typ) && decide (m.typ ≤ 8) && decide (m.point < 0xF4000) && !absentPt part m.point &&
  (if localRegion m.point then m.writer == localWriter m.point && m.typ == localTyp m.point && ts.isEmpty
   else if !(ls ++ ts).isEmpty && !(isDo m.point && ls.isEmpty) then
     m.chan == 0xFFFF && (ls ++ ts).all (fun d => d.writer == m.writer && d.types.contains m.typ) && !(ls.isEmpty && reservedPt b m.point)
   else if isDo m.point then doOk ts m
   else !reservedPt b m.point && ((m.writer == .cmd && m.typ != 8) ||
     (m.writer == .afe && m.typ == 8 && decide (m.chan < partChans part) && (chanHome b m.chan).isNone)))

/-- The map obeys the writer rule (R28): one entry, hence one writer, per point; every written point has its writer and TYPE. -/
def mapOk (part : Nat) (b : Block) : Bool :=
  noDup (b.map.map (·.point)) && b.map.all (entryOk part b (declLayout b) (declTasks b)) &&
  noDup ((b.map.filter (fun m => m.chan != 0xFFFF)).map (·.chan)) &&
  (declared b).all (fun d => !d.need || b.map.any (fun m => m.point == d.point && m.writer == d.writer))

/-- Section 7. -/
def mapCode (part : Nat) (b : Block) : Nat := if mapOk part b && decide (b.fpol ≤ 2) then 0 else 0x0208

/-! ### Readers before writers (R29, R59, R61) -/

/-- Writer that a schedule entry runs. -/
def schedWriter (b : Block) (e : SchedEntry) : Writer :=
  if 6 ≤ e.unit then .task e.inst
  else if e.phase = 2 then (match schedElem b e.inst with | some x => .elem x.1 | none => .none)
  else if e.phase = 3 then (match Config.schemeKernel e.kernel e.inst with
    | .idle => .none
    | .busBlock i => busScheme i
    | .intertrip i => itScheme i
    | .shed i => shedScheme i
    | .locator bay => .fl bay)
  else .none

/-- Points written by others in its own phase that a schedule entry reads. -/
def schedReads (b : Block) (e : SchedEntry) : List Nat :=
  if 6 ≤ e.unit then (at! b.tasks e.inst).ins
  else if e.phase = 2 then (match schedElem b e.inst with
    | some x => x.2.blk.filter (· != noPoint) ++
        (b.elems.filter (fun y => y.group == x.2.group && y.pos == x.2.dirRef && x.2.dirRef != 0xFF)).flatMap (fun y =>
          [y.base + 9, y.base + 0x10, y.base + 0x11, y.base + 0x12]) ++
        (b.elems.filter (fun y => y.etype == 0x01A1 && y.group == x.2.group && y.setV == x.2.setV)).map (fun y => y.base + 5)
    | none => [])
  else if e.phase = 3 then (match Config.schemeKernel e.kernel e.inst with
    | .idle => []
    | .busBlock i => (at! b.busBlocks i).mem
    | .intertrip i => let x := at! b.intertrips i; x.recv :: x.perm :: x.send
    | .shed i => [(at! b.sheds i).trig]
    | .locator _ => [])
  else []

/-- A reader precedes, on the same unit and in the same phase, a writer that the map requires before it (R61). -/
def orderConflict (b : Block) : Bool :=
  b.map.any (fun m => m.first && b.sched.any (fun w => schedWriter b w == m.writer && b.sched.any (fun r =>
    r.unit == w.unit && r.phase == w.phase && decide (r.order < w.order) && (schedReads b r).contains m.point)))

end Sys2Proof
end

