-- ==== Sys2Proof/Machine/BlockCheck.lean ====
section
/-! DEFINITION. The checks of a Block (R492) and of a Hood (R306, R316): each answers the first failing code, or 0. Within one
section the causes are taken in the order of its table of codes (log entry 26). -/

namespace Sys2Proof

/-- What a check knows of the engine (R492): part, serial, unit, firmware version, lanes and bays of the variant, the enrolled keys, and
the generation of the device identity key where it is held. -/
structure CheckEnv where
  part   : BitVec 32
  serial : Nat
  unitB  : Bool
  fw     : BitVec 32
  lanes  : Nat
  bays   : Nat
  keys   : List KeyRec
  ident  : Option Nat

/-- The enrolled key of a KEY_ID. -/
def CheckEnv.key (v : CheckEnv) (id : Nat) : Option KeyRec := v.keys.find? (fun k => k.id == id)

/-- The privileges of an enrolled key. -/
def CheckEnv.priv (v : CheckEnv) (id : Nat) : BitVec 9 := ((v.key id).map (·.priv)).getD 0

/-- A signature verifies under some enrolled key with a privilege (R306, R512). -/
def signedBy (keys : List KeyRec) (priv : Nat) (hash : List Byte) (sig : BitVec 768) : Bool :=
  keys.any (fun k => k.priv.getLsbD priv && ecdsaOk k.key hash sig)

/-- The trailer of a Block verifies (R492 step 3): under its SIGNER's key, which has privilege C, or, of a converted Block, under the device
identity key, which the engine holds. -/
def CheckEnv.blockSigned (v : CheckEnv) (b : Block) : Bool :=
  ((v.key b.signer).any (fun k => k.priv.getLsbD 4 && ecdsaOk k.key b.hash b.sig)) ||
  (b.converted && v.ident.any (fun n => b.convBy == some (v.serial, n) || ecdsaOk (Config.identKey n) b.hash b.sig))

/-- The FORMAT that a firmware reads (R489); of one that is not 3.2 a free value. -/
def blockFormat (fw : BitVec 32) : Nat := if fw = 0x00030002 then 3 else Config.blockFormat fw

/-- The first code whose cause holds; 0 where none does. -/
def firstCode : List (Bool × Nat) → Nat
  | [] => 0
  | (bad, c) :: r => if bad then c else firstCode r

/-- The first non-zero code of a list. -/
def firstNz : List Nat → Nat
  | [] => 0
  | c :: r => if c ≠ 0 then c else firstNz r

/-- ID_PART of a variant (R4): 0 IZ-4848-A, 1 IZ-4848-P, 2 IZ-4824-A. -/
def idPart (variant : Nat) : BitVec 32 := if variant = 1 then 0x00504848 else if variant = 2 then 0x00414824 else 0x00414848
/-- Lanes of a variant (R4). -/
def idLanes (variant : Nat) : Nat := if variant = 1 then 0 else if variant = 2 then 8 else 16
/-- Bays of a variant (R4). -/
def idBays (variant : Nat) : Nat := if variant = 2 then 24 else 48

/-! ### Bays (R75, R142) -/

/-- A local channel is present and enabled. -/
def localOn (b : Block) (ch : Nat) : Bool := decide (ch < 64) && (at! b.lanes (ch / 4)).mask.getLsbD (ch % 4)

/-- Lane entries (R75). -/
def laneCode (v : CheckEnv) (n : Nat) (e : LaneEntry) : Nat :=
  let m := e.mask.setWidth 5
  firstCode [
    (maskN m == 3 || e.mask.toNat ≥ 32, 0x0230),
    ((e.mask != 0 || e.lflags.getLsbD 0) && decide (v.lanes ≤ n), 0x0231),
    ((e.mask != 0 && (cassFs e.cassType).isNone) || (e.mask == 0 && e.cassType != 0 && (cassFs e.cassType).isNone) ||
      (List.range 4).any (fun j => e.mask.getLsbD j && !(F.isFin (at! e.ratio j) && F.gt (at! e.ratio j) 0)) ||
      e.polarity.toNat ≥ 16 || e.lflags.toNat ≥ 2 || !e.rsvZero, 0x0232)]

/-- Positions that a set names. -/
def SetEntry.names (s : SetEntry) : List Nat := [s.chA, s.chB, s.chC] ++ (if s.chN == 0xFF then [] else [s.chN])

/-- A group entry (R142). DESIGN CHOICE: where PWR_V is 0xFF there is no power, and PWR_I is not looked at (log entry 127). -/
def groupCode (v : CheckEnv) (b : Block) (g : Nat) (e : GroupEntry) : Nat :=
  let posOn (p : Nat) : Bool := decide (p < 16) && at! e.chan p != 0xFFFF && decide (p < e.chan.length)
  let setUsed (i : Nat) : Bool := decide (i < 4) && (at! e.sets i).kind != 0
  firstCode [
    (e.chan.any (fun c => c != 0xFFFF && decide (c < 64) && !localOn b c), 0x0232),
    (decide (16 < e.chan.length) || decide (4 < e.sets.length) ||
      e.chan.any (fun c => c != 0xFFFF && decide (448 ≤ c)) ||
      e.chan.any (fun c => c != 0xFFFF && decide (64 ≤ c) && (pbChan b c).isNone) ||
      e.sets.any (fun s => decide (3 < s.kind) || decide (1 < s.rot) ||
        (s.kind != 0 && (!s.names.all posOn || !(F.isFin s.nom && F.gt s.nom 0)))) ||
      (e.pwrV != 0xFF && (!(setUsed e.pwrV && (at! e.sets e.pwrV).kind != 1) || !(setUsed e.pwrI && (at! e.sets e.pwrI).kind == 1))) ||
      (e.used && decide (v.bays ≤ g) && decide (g < 48)), 0x0250),
    (e.fsrc.any (fun s => !(s == 0xFF || s == 0x10 || decide (s < 4))) ||
      e.fsrc.any (fun s => decide (s < 4) && !setUsed s) ||
      !(decide (1 ≤ e.fAvg) && decide (e.fAvg ≤ 10)) || !realOk 5 50 1 100 e.vMin || !realOk 2 50 1 100 e.iMin ||
      !timeOk 200 10000 e.rocofT || decide (10000 < e.fHoldT * 10 / 96) || ticksOfMs (e.fHoldT * 10 / 96) != e.fHoldT ||
      (g == b.refGroup && e.fsrc.contains 0x10), 0x0251)]

/-- Section 2: lanes, groups, FNOM. DESIGN CHOICE: of several lanes, and of several groups, with different causes the lower-numbered
one gives the code (log entry 26). -/
def bayCode (v : CheckEnv) (b : Block) : Nat :=
  let l := firstNz (mapI (laneCode v) b.lanes)
  if l ≠ 0 then l
  else if !noDup (b.groups.flatMap (fun e => (e.chan.filter (· != 0xFFFF)).eraseDups)) || decide (64 < b.groups.length) then 0x0250
  else
    let g := firstNz (mapI (groupCode v b) b.groups)
    if g ≠ 0 then g else if b.fnom != 50 && b.fnom != 60 then 0x0251 else 0

/-! ### Elements (R169, R177, R204, R206, R212, R221) -/

/-- A point reads as a Boolean point of the map. -/
def boolPt (b : Block) (i : Nat) : Bool := mapTyp b i == 1
/-- An optional point is unused or Boolean. -/
def optBool (b : Block) (i : Nat) : Bool := i == noPoint || boolPt b i

/-- A 27 or 59 with a setting record of MEAS 0 (word 3) needs a set of KIND 2 (R192). -/
def measBad (e : ElemEntry) (kindV : Nat) : Bool :=
  (e.etype == 0x0151 || e.etype == 0x0152) && kindV != 2 && e.recs.any (fun r => at! r 3 == 0)

/-- A slot that the part does not have (R5). -/
def CheckEnv.noSlot (v : CheckEnv) (n : Nat) : Bool := decide (v.bays ≤ n) && decide (n < 48)

/-- An element instance entry (R169). -/
def elemBad (v : CheckEnv) (b : Block) (e : ElemEntry) : Bool :=
  let ge := at! b.groups e.group
  let kind (s : Nat) : Nat := if s < 4 then (at! ge.sets s).kind else 0
  let t := e.etype
  !elemTypes.contains t || decide (64 ≤ e.group) ||
  (if e.group < 48 then decide (24 ≤ e.pos) || e.base != bayBase e.group + 0x400 + e.pos * 0x80
   else decide (56 ≤ e.pos) || e.base % 0x80 != 0 || decide (e.base < 0x90000) || decide (0xEFFFF < e.base)) ||
  (decide (e.group < 48) && decide (v.bays ≤ e.group)) ||
  (needsI t && kind e.setI != 1) || (needsV t && kind e.setV < 2) || measBad e (kind e.setV) ||
  (e.dirRef != 0xFF && !b.elems.any (fun x => x.group == e.group && x.pos == e.dirRef && dirType x.etype)) ||
  (e.dirReq != 1 && e.dirReq != 2) || decide (16 ≤ e.opts) ||
  e.blk.any (fun p => !optBool b p)

/-- A setting record of an instance lies within its table (R169, R211). -/
def recOk (e : ElemEntry) (r : List (BitVec 32)) : Bool :=
  let curve := e.opts.testBit 2
  wordsOk (.int 0 1 :: (if curve && curveType e.etype then curveSpecs e.etype else elemSpecs e.etype)) r &&
    (e.etype != 0x0191 || (F.le (at! r 9) (at! r 8) && F.le (at! r 10) (at! r 8)))

/-- Curve settings of a record (R212). -/
def curveBad (b : Block) (e : ElemEntry) : Bool :=
  e.opts.testBit 2 && (!curveType e.etype || e.recs.any (fun r =>
    let c := (at! r 5).toNat
    let user := decide (64 ≤ c) && decide (c ≤ 127)
    !(user || (decide (1 ≤ c) && decide (c ≤ 7))) || (user && (at! b.curves (c - 64)).m.isEmpty) ||
    ((at! r 7).toNat == 2 && (if user then F.isZero (at! b.curves (c - 64)).tru else F.isZero (stdCurve c).2.2.2))))

/-- A list of binary32 values strictly ascends. -/
def ascends : List F32 → Bool
  | a :: b :: r => F.lt a b && ascends (b :: r)
  | _ => true

/-- A list of binary32 values never increases. -/
def falls : List F32 → Bool
  | a :: b :: r => F.ge a b && falls (b :: r)
  | _ => true

/-- A value lies between two fractions over 1,000. -/
def within (x : F32) (lo hi : Int) : Bool := F.isFin x && F.ge x (F.ofRat lo 1000) && F.ge (F.ofRat hi 1000) x

/-- A user curve (R221). -/
def userCurveBad (c : UserCurve) : Bool :=
  !c.m.isEmpty && (decide (c.m.length < 2) || decide (32 < c.m.length) || c.t.length != c.m.length || !c.rsvZero ||
    !(F.isZero c.tru || within c.tru 100 1000000) || !c.m.all (fun x => within x 1010 40000) || !ascends c.m ||
    !c.t.all (fun x => within x 1 100000000) || !falls c.t)

/-- Section 3: elements and user curves, and the modes and groups the Block gives. -/
def elemCode (v : CheckEnv) (b : Block) : Nat :=
  firstCode [
    (b.elems.any (elemBad v b) || decide (2048 < b.elems.length) || !noDup (b.elems.map (fun e => e.group * 64 + e.pos)), 0x0260),
    (b.elems.any (fun e => e.recs.length != 8 || !e.recs.all (recOk e)) || !b.modes.all (fun m => decide (1 ≤ m) && decide (m ≤ 5)),
      0x0261),
    ((match b.selector with
      | none => false
      | some p => (match mapEntry b p with
        | some m => m.typ != 5 || (match m.writer with | .task _ => false | _ => true)
        | none => true)) || !(decide (1 ≤ b.stGrp) && decide (b.stGrp ≤ 8)), 0x0262),
    (b.elems.any (curveBad b), 0x0270),
    (b.curves.any userCurveBad || decide (64 < b.curves.length), 0x0271)]

/-! ### Sequencer and schemes (R247 to R250) -/

/-- A slot entry (R247). -/
def slotBad (v : CheckEnv) (b : Block) (n : Nat) (e : SlotEntry) : Bool :=
  let others := (mapI (fun i (x : SlotEntry) => if i = n || x.use = 0 then ([] : List Nat) else x.dos) b.slots).flatten
  e.use != 0 &&
  (decide (5 < e.use) || decide (2 < e.posSrc) || e.src.any (fun s => s.cls = 0 || decide (5 < s.cls)) ||
   (if e.posSrc = 2 then mapTyp b e.posA != 2 else !boolPt b e.posA) || (e.posSrc == 0 && !boolPt b e.posB) ||
   [e.ilkClose, e.ilkOpen, e.recPermit, e.blk79, e.bfiExt, e.closeReq, e.loReset].any (fun p => !optBool b p) ||
   e.src.any (fun s => !boolPt b s.point) || decide (32 < e.src.length) || decide (16 < e.bft.length) ||
   e.dos.any (fun o => decide (96 ≤ o) || others.contains o || b.map.any (fun m => m.point == doPt o && m.writer != .bsq && m.writer != .none)) ||
   e.bft.any (fun t => t == n || (at! b.slots t).use = 0) ||
   (e.group != 0xFF && !(decide (e.group < 64) && decide (e.setCc < 4) && (at! (at! b.groups e.group).sets e.setCc).kind == 1)) ||
   v.noSlot n)

/-- Setting words of a slot (R246). -/
def slotSpecs : List SetSpec :=
  [.int 0 1, .time 200 10000, .time 1000 100000, .time 500 50000, mil 1000 4000 1000, .time 1000 6000000, .time 1000 6000000,
   .time 1000 6000000, .time 1000 6000000, .time 10000 6000000, .time 0 6000000, .time 0 600000, mil 50 2000 10, .time 0 10000,
   .time 500 10000, .int 0 1, .int 0 2, .time 10000 3000000, .time 200 100000, .oneOf [1, 4]]

/-- A setting record of a slot (R247): in range, and TTMAX > TBF2 + TTMIN. -/
def slotRecOk (r : List (BitVec 32)) : Bool :=
  wordsOk slotSpecs r && decide ((at! r 14).toNat + (at! r 1).toNat < (at! r 2).toNat)

/-- A bus-blocking entry (R248). -/
def busBad (b : Block) (e : BusBlock) : Bool :=
  e.mem.isEmpty || decide (32 < e.mem.length) || decide (1 < e.fail) || !timeOk 0 10000 e.text || e.mem.any (fun p => !boolPt b p)
/-- An intertrip entry (R249). -/
def itBad (v : CheckEnv) (b : Block) (e : Intertrip) : Bool :=
  (List.range 64).any (fun n => e.tgt.getLsbD n && v.noSlot n) || decide (8 < e.send.length) || e.cls = 0 || decide (5 < e.cls) || !timeOk 0 1000 e.tpulse || !optBool b e.recv || !optBool b e.perm ||
    e.send.any (fun p => !boolPt b p)
/-- A load-shed entry (R250); its TRIG has no unused value. -/
def shedBad (v : CheckEnv) (b : Block) (e : ShedStage) : Bool :=
  (List.range 64).any (fun n => e.slots.getLsbD n && v.noSlot n) || !boolPt b e.trig || !within e.fr 45000 65000 || !timeOk 10000 6000000 e.trest ||
    !timeOk 1000 600000 e.tstep || decide (3 < e.rflags)

/-- Section 4. -/
def seqCode (v : CheckEnv) (b : Block) : Nat :=
  firstCode [
    ((mapI (slotBad v b) b.slots).any id || decide (64 < b.slots.length), 0x0280),
    (b.slots.any (fun e => e.use != 0 && (e.recs.length != 8 || !e.recs.all slotRecOk)), 0x0281),
    (b.busBlocks.any (busBad b) || decide (8 < b.busBlocks.length) || b.intertrips.any (itBad v b) || decide (32 < b.intertrips.length) ||
      b.sheds.any (shedBad v b) || decide (16 < b.sheds.length), 0x0282)]

/-! ### Subscriptions (R106 to R111, R117) -/

/-- A stream descriptor (R103, R111): 1 to 24 members. -/
def streamBad (d : StreamDesc) : Bool :=
  !(d.form == 1 || d.form == 2) || decide (2 < d.rate) || (d.form == 1 && d.rate == 2) || (d.form == 2 && d.rate == 0) ||
    (d.form == 1 && (d.nasdu != 1 || d.nmemb != 8)) || d.nasdu = 0 || decide (8 < d.nasdu) || decide (d.d < 2) || decide (6 < d.d) ||
    d.nmemb = 0 || decide (24 < d.nmemb) || !d.rsvZero

/-- A GOOSE descriptor (R111). NMEMB above 256 exceeds R106 (0x0240) and is out of its range (0x0241): DEDUCED (log entry 26), the
model answers 0x0240 in `subCode`, the earlier code of R111's table, so only NMEMB 0 is tested here. -/
def gooseBad (d : GooseDesc) : Bool :=
  decide (1 < d.pair) || d.nmemb = 0 || d.maxRate = 0 || decide (2000 < d.maxRate) || !d.rsvZero

/-- The delivery budget B of a stream (R117) in units of 1/144,000,000 s. -/
def budget (d : StreamDesc) : Int :=
  let lead : Int := if d.rate = 0 then 33000 else if d.rate = 1 then 15000 else 5000
  let period : Int := if d.rate = 0 then 36000 else if d.rate = 1 then 30000 else 10000
  (d.d : Int) * 15000 - lead - ((d.nasdu : Int) - 1) * period - 864

/-- Subscriptions' addresses: pair, destination and APPID. -/
def subAddrs (b : Block) : List Nat :=
  (b.streams.filterMap (fun o => o.map (fun d => d.dstMac.toNat * 2 ^ 17 + d.appid))) ++
  (b.gooses.filterMap (fun o => o.map (fun d => d.pair * 2 ^ 16 + d.dstMac.toNat * 2 ^ 17 + d.appid)))

/-- A point lies in a region that a member may map to (R111), of a bay that the part has (R5). -/
def inRegion (part : Nat) (goose : Bool) (i : Nat) : Bool :=
  (decide (0x64000 ≤ i) && decide (i ≤ 0x6FFFF)) ||
  (decide (i < 0x60000) && !absentPt part i && (let o := i % 0x2000; if goose then decide (0x1400 ≤ o) && decide (o ≤ 0x1BFF) else decide (o ≤ 0x3FF)))

/-- Expected number of members of what an entry names; `none` for an unused or absent descriptor. -/
def subMembers (b : Block) (m : InMap) : Option Nat :=
  if m.goose then ((b.gooses.getD m.sub none).map (·.nmemb)) else ((b.streams.getD m.sub none).map (·.nmemb))

/-- An intake map entry (R111). SUBST 3 has no meaning (R109) and no code of its own: DESIGN CHOICE, it is refused here. -/
def inMapBad (part : Nat) (b : Block) (m : InMap) : Bool :=
  (if m.goose then !(decide (0x10 ≤ m.mtype) && decide (m.mtype ≤ 0x17)) else m.mtype != 1) ||
  (match subMembers b m with | none => true | some n => decide (n ≤ m.member)) || !F.isFin m.scale || decide (2 < m.subst) ||
  (m.goose && m.subst == 1 && decide (m.mtype < 0x16) && (substValue (mapTyp b m.point) m.scale).isNone) ||
  (m.goose && (m.phe || m.backupEn)) || (m.backupEn && !localOn b m.backup) || !inRegion part m.goose m.point

/-- Section 6. -/
def subCode (part : Nat) (b : Block) : Nat :=
  firstCode [
    (decide (96 < b.streams.length) ||
      decide (32 < (b.streams.filter (fun o => match o with | some d => d.rate == 2 | none => false)).length) ||
      decide (2048 < b.gooses.length) || b.gooses.any (fun o => o.any (fun d => decide (256 < d.nmemb))) || decide (12288 < b.inMap.length) ||
      decide (384 < (b.inMap.filter (fun m => m.phe && !m.goose)).length), 0x0240),
    (b.streams.any (fun o => match o with | some d => streamBad d | none => false) ||
      b.gooses.any (fun o => match o with | some d => gooseBad d | none => false) || !noDup (subAddrs b), 0x0241),
    (b.streams.any (fun o => match o with | some d => decide (budget d ≤ 0) | none => false), 0x0242),
    (b.inMap.any (inMapBad part b) || !noDup (b.inMap.map (fun m => (m.sub * 65536 + m.member) * 2 + boolNat m.goose)), 0x0243)]

/-! ### Programs (R279, R284, R299, R302) -/

/-- Input and output points of all tasks. -/
def taskBad (b : Block) (t : Nat) (e : TaskEntry) : Bool :=
  e.kind != 0 &&
  (e.kind != (if t < 8 then 1 else if t = 8 then 2 else 3) || decide (e.unit < 6) || decide (9 < e.unit) ||
   decide (b.progs.length ≤ e.prog) || (at! b.progs e.prog).fb != decide (e.unit ≤ 7) ||
   (if e.kind = 1 then e.period = 0 || decide (9600 < e.period) || decide (e.period ≤ e.offset) else e.period != 0 || e.offset != 0) ||
   (if e.kind = 1 then !(e.maxrel = 0 || (decide (2 ≤ e.maxrel) && decide (e.maxrel ≤ 100))) else e.maxrel != 0) ||
   (if e.kind = 2 then e.trig.isEmpty || decide (64 < e.trig.length) || e.trig.any (fun p => !boolPt b p) else !e.trig.isEmpty) ||
   e.ins.any (fun p => e.outs.contains p))

/-- Opcodes that take a point operand, and those among them that write it. -/
def pointOp (op : Nat) : Bool := (decide (1 ≤ op) && decide (op ≤ 7)) || (decide (9 ≤ op) && decide (op ≤ 0x0B)) || op = 0x10 || op = 0x11

/-- A known opcode (R297). -/
def knownOp (op : Nat) : Bool :=
  decide (op ≤ 0x0B) || (decide (0x10 ≤ op) && decide (op ≤ 0x12)) || (decide (0x20 ≤ op) && decide (op ≤ 0x26)) || op = 0x30 || op = 0x31 || op = 0x3F

/-- One instruction word of a task's program (R298, R299). -/
def wordBad (b : Block) (e : TaskEntry) (p : Program) (w : BitVec 32) : Bool :=
  let op := (w >>> 24).toNat
  let md := (w >>> 20).toNat % 16
  let ix := w.toNat % 2 ^ 20
  let ty := mapTyp b ix
  !knownOp op ||
  (if pointOp op then
     !(ty = 1 || ty = 2) || !(e.ins.contains ix || e.outs.contains ix) || (ty = 1 && decide (4 ≤ md)) || decide (12 ≤ md) ||
     (decide (op = 2 ∨ op = 6 ∨ op = 7) && (!e.outs.contains ix || ty != 1)) ||
     (decide (op = 2) && decide (2 ≤ md)) || (decide (op = 6 ∨ op = 7 ∨ op = 9 ∨ op = 10 ∨ op = 11) && md != 0)
   else md != 0) ||
  (decide (op = 0x20 ∨ op = 0x21 ∨ op = 0x22) && decide (p.timers.length ≤ ix)) ||
  (decide (op = 0x23 ∨ op = 0x24) && decide (p.edges.length ≤ ix)) ||
  (decide (op = 0x25 ∨ op = 0x26) && decide (p.counters.length ≤ ix))

/-- What updates which private item: class and number. -/
def updates (w : BitVec 32) : Option Nat :=
  let op := (w >>> 24).toNat
  let ix := w.toNat % 2 ^ 20
  if op = 0x20 ∨ op = 0x21 ∨ op = 0x22 then some (ix * 4) else if op = 0x23 ∨ op = 0x24 then some (ix * 4 + 1)
  else if op = 0x25 then some (ix * 4 + 2) else none

/-- Skips and branch-stack depths (R299): `x` the depth that the word above hands on, `ms` the depths at skip targets. No skip passes
END, so the words after an END are reached by none before it: DEDUCED (log entry 69), they are checked as a part of their own that
begins with an empty stack. -/
def stackOk : List (BitVec 32) → Nat → Nat → List (Nat × Nat) → Bool
  | [], _, _, ms => ms.isEmpty
  | w :: r, i, x, ms =>
    let rest := ms.filter (fun m => m.1 != i)
    (ms.filter (fun m => m.1 == i)).all (fun m => m.2 == x) &&
    (let op := (w >>> 24).toNat
     let ix := w.toNat % 2 ^ 20
     if op = 0x10 ∨ op = 0x11 then decide (x < 16) && stackOk r (i + 1) (x + 1) rest
     else if op = 0x12 then decide (0 < x) && stackOk r (i + 1) (x - 1) rest
     else if op = 0x30 ∨ op = 0x31 then
       !(r.take ix).any (fun v => (v >>> 24).toNat == 0x3F) && decide (ix < r.length) && stackOk r (i + 1) x ((i + 1 + ix, x) :: rest)
     else if op = 0x3F then x == 0 && stackOk r (i + 1) 0 rest
     else stackOk r (i + 1) x rest)

/-- The longest paths from each word on, in instructions (R299, R297): skips go forward only. -/
def bluPaths : List (BitVec 32) → List Nat
  | [] => []
  | w :: r =>
    let ps := bluPaths r
    let op := (w >>> 24).toNat
    (1 + (if op = 0x3F then 0 else if op = 0x30 ∨ op = 0x31 then Nat.max (ps.headD 0) (ps.getD (w.toNat % 2 ^ 20) 0) else ps.headD 0)) :: ps

/-- Worst-case cost of a bit-logic program: its longest path (R299). -/
def bluCost (p : Program) : Nat := (bluPaths p.words).headD 0

/-- A bit-logic program of a task (R299). -/
def bluBad (b : Block) (e : TaskEntry) (p : Program) : Bool :=
  decide (65536 < p.words.length) || decide (4096 < p.timers.length) || decide (4096 < p.edges.length) || decide (1024 < p.counters.length) ||
  p.words.any (wordBad b e p) || !noDup (p.words.filterMap updates) || !p.words.any (fun w => (w >>> 24).toNat == 0x3F) ||
  !stackOk p.words 0 0 []

/-- Points that a function-block program writes. -/
def fbWrites (p : Program) : List Nat :=
  p.code.filterMap (fun c => match c.1 with | .storePoint i => some i | .storeQuality i => some i | .storeImag i => some i | _ => none)

/-- A variable's type matches the TYPE of its point (R301). -/
def VarType.fits (t : VarType) (typ : Nat) : Bool :=
  match t with
  | .bool => typ == 1
  | .int bits signed => (if signed then typ == 3 || (typ == 5 && bits == 32) else typ == 4)
  | .real => typ == 6
  | .time => typ == 3
  | .dpos => typ == 2
  | .cplx => typ == 7

/-- A function-block program of a task (R302). -/
def fbBad (fw : BitVec 32) (b : Block) (e : TaskEntry) (p : Program) : Bool :=
  p.family != Config.tableFamily fw || p.binds.any (fun v => !v.2.fits (mapTyp b v.1)) || (fbWrites p).any (fun i => !e.outs.contains i)

/-- Section 8, also run at a Hood load; `fw` is the running firmware. -/
def progCode (fw : BitVec 32) (b : Block) : Nat :=
  let used := b.tasks.filter (fun e => e.kind != 0)
  firstCode [
    ((mapI (taskBad b) b.tasks).any id || decide (10 < b.tasks.length), 0x02A0),
    (used.any (fun e => let p := at! b.progs e.prog; !p.fb && bluBad b e p), 0x02A1),
    (used.any (fun e => let p := at! b.progs e.prog; (p.fb && fbBad fw b e p) || (e.tickRate && e.wcet == 0xFFFFFFFF)), 0x02A2),
    (used.any (fun e => decide (2048 < e.ins.length) || decide (2048 < e.outs.length) || (e.kind == 3 && decide (256 < e.ins.length))) ||
      decide (8192 < (used.map (·.ins.length)).sum), 0x02A3)]

/-! ### Recorder plans (R254, R266, R480) -/

/-- A plan entry (R254). -/
def planBad (v : CheckEnv) (b : Block) (p : Plan) : Bool :=
  p.use &&
  (p.trg.isEmpty || decide (32 < p.trg.length) || decide (64 < p.ana.length) || decide (256 < p.bin.length) || decide (1 < p.retrig) ||
   decide (8 ≤ p.pflags) || decide (19200 < p.pre) || decide (96000 < p.post) || decide (p.maxlen < p.pre + p.post + 1) ||
   decide (192000 < p.maxlen) || decide (p.wfthr < 100) || decide (60000 < p.wfthr) || !p.rsvZero || (p.replay && decide (8 * 2 ^ 20 < p.imgSize)) ||
   p.trg.any (fun t => t.kind = 0 || decide (4 < t.kind) ||
     (if t.kind ≤ 2 then !boolPt b t.point else !([3, 4, 5, 6, 8].contains (mapTyp b t.point)))) ||
   p.ana.any (fun w => !([3, 4, 5, 6, 7, 8].contains (mapTyp b (chanIdx w))) || (decide (2 ^ 31 ≤ w) && mapTyp b (chanIdx w) != 7)) ||
   p.bin.any (fun w => !(mapTyp b (chanIdx w) == 1 || mapTyp b (chanIdx w) == 2) || (decide (2 ^ 31 ≤ w) && mapTyp b (chanIdx w) != 2)) ||
   p.laneList.any (fun n => decide (v.lanes ≤ n) || !(at! b.lanes n).lflags.getLsbD 0) ||
   (List.range 64).any (fun y => p.bays.getLsbD y && decide (v.bays ≤ y)))

/-- A fault-locator entry (R266): every entry's values are checked, EN or not. DEDUCED (log entry 109): the entry of an absent bay with
EN 0 has no group to name, so its SET_I and SET_V are not checked. -/
def flBad (v : CheckEnv) (b : Block) (bay : Nat) (e : FlEntry) : Bool :=
  let kind (s : Nat) : Nat := if s < 4 then (at! (at! b.groups bay).sets s).kind else 0
  !e.enOk || decide (1 < e.method) || (if v.bays ≤ bay then e.en else kind e.setI != 1 || decide (kind e.setV < 2)) ||
  !(realOk 0 5000 1 1000 e.r1 && realOk 10 5000 1 1000 e.x1 && realOk 0 15000 1 1000 e.r0 && realOk 10 15000 1 1000 e.x0 &&
    realOk 1 2000 1 10 e.len && realOk 5 500 1 100 e.flimin && realOk 2 100 1 100 e.grd && realOk 500 3000 1 10 e.vprop &&
    realOk 5 90 1 100 e.wfref)

/-- The record kinds of R475. -/
def evrKinds : List Nat :=
  [1, 2, 3, 4, 5, 6, 0x10, 0x11, 0x12, 0x13, 0x14, 0x15, 0x16, 0x20, 0x21, 0x30, 0x31, 0x32, 0x40, 0x41, 0x42, 0x50, 0x51, 0x52, 0x60, 0x61]

/-- A point is allocated by the map, or is one of the engine's own. -/
def allocated (b : Block) (i : Nat) : Bool := mapTyp b i != 0

/-- Section 9. -/
def planCode (v : CheckEnv) (b : Block) : Nat :=
  let used := b.plans.filter (·.use)
  firstCode [
    (b.plans.any (planBad v b) || decide (16 < b.plans.length), 0x0290),
    (decide (48 * 2 ^ 20 < (used.map (fun p => (p.pre + 1) * p.frameSize)).sum) || used.any (fun p => decide (240 * 1024 < p.needKib)), 0x0291),
    ((mapI (flBad v b) b.fls).any id || decide (48 < b.fls.length), 0x0292),
    (b.evrPlans.any (fun e => !evrKinds.contains e.kind || decide (e.last < e.first) || decide (8 < e.snappt.length) ||
      e.snappt.any (fun p => !allocated b p) || !e.rsvZero) || decide (256 < b.evrPlans.length), 0x0293)]

/-! ### Protocol maps (R161, R462, R463, R471) -/

/-- The point is mapped with this TYPE. -/
def mapsAs (b : Block) (typ i : Nat) : Bool := mapTyp b i == typ

/-- Data block `i` of a stream (R161): phasors are channel fundamentals or sequence components of its group, analog values real
points of the group, digital ones Boolean points. -/
def syncBlockBad (b : Block) (s : SyncStream) (i g : Nat) : Bool :=
  let base := groupBase g
  let within (lo n p : Nat) : Bool := decide (base + lo ≤ p) && decide (p < base + lo + n)
  !(at! s.items i).all (fun p => (within 0x10 16 p || within 0x100 16 p) && mapsAs b 7 p) ||
  !(at! s.analogs i).all (fun p => within 0 0x200 p && mapsAs b 6 p) ||
  !(at! s.digitals i).all (mapsAs b 1)

/-- A synchrophasor stream (R161). -/
def syncBad (v : CheckEnv) (b : Block) (s : SyncStream) : Bool :=
  !(if b.fnom = 50 then [10, 25, 50] else [10, 12, 15, 20, 30, 60]).contains s.rate || s.groups.isEmpty || decide (8 < s.groups.length) ||
    s.groups.any (fun g => decide (64 ≤ g) || v.noSlot g) || s.items.any (fun l => decide (16 < l.length)) ||
    s.analogs.any (fun l => decide (8 < l.length)) || s.digitals.any (fun l => decide (32 < l.length)) ||
    !(s.timeBase == 9600 || s.timeBase == 1000000) || s.idcodes.length != s.groups.length || !noDup s.idcodes ||
    (mapI (syncBlockBad b s) s.groups).any id

/-- Editions of the model (R459, R462): 21 is 2.1. -/
def editionOk (n : Nat) : Bool := n == 1 || n == 2 || n == 21

/-- A GOOSE publication (R462, R463). -/
def goosePubBad (b : Block) (p : GoosePub) : Bool :=
  p.members.isEmpty || decide (256 < p.members.length) || !(p.onProcess || p.onStation) || !editionOk p.edition ||
    !timeOk 10 1000 p.tmin || !timeOk 1000 600000 p.tmax || p.priority.any (fun n => decide (7 < n)) || decide (4094 < p.vlan) ||
    (p.tripClass && decide (300 < p.length)) || p.members.any (fun i => !allocated b i)

/-- TYPEs that a protocol can carry. DESIGN CHOICE: R464 to R467 name what each sends; where they leave it open, MMS carries every TYPE and
Modbus what fits its registers (log entry 123). -/
def carries (proto typ : Nat) : Bool :=
  match proto with
  | 0 => decide (1 ≤ typ) && decide (typ ≤ 8)
  | 3 => decide (1 ≤ typ) && decide (typ ≤ 6)
  | 4 => [1, 2, 6].contains typ
  | _ => [1, 2, 3, 4, 6].contains typ

/-- An object of a protocol map is wrong (R471): its point is not allocated or of a TYPE the protocol cannot carry, or its control is
that of an unused slot. -/
def mapObjBad (b : Block) (proto : Nat) (o : MapObj) : Bool :=
  match o.target with
  | .point i => !carries proto (mapTyp b i) || (proto == 4 && !([0, 1, 2, 4, 9].contains o.asdu || (decide (32 ≤ o.asdu) && decide (o.asdu ≤ 255)))) ||
      (proto == 1 && decide (2 ^ 24 ≤ o.addr))
  | .control k => decide (64 ≤ k) || (at! b.slots k).use = 0

/-- The addresses that an object occupies: of a Modbus point its registers (R466). -/
def objSpan (b : Block) (proto : Nat) (o : MapObj) : List Nat :=
  match proto, o.target with
  | 3, .point i => (List.range (modbusRegs (mapTyp b i))).map (o.addr + ·)
  | _, _ => [o.addr]

/-- A protocol's map is wrong (R471). -/
def protoMapBad (b : Block) (proto : Nat) (l : List MapObj) : Bool :=
  (decide (5 ≤ proto) && !l.isEmpty) || l.any (mapObjBad b proto) || !noDup (l.flatMap (objSpan b proto))

/-- The settings of an RS-485 port are outside R466 or R467. -/
def serialBad (p : SerialPort) : Bool :=
  decide (2 < p.kind) || decide (2 < p.parity) ||
  (p.kind == 1 && (decide (p.rate < 9600) || decide (115200 < p.rate) || p.addr == 0 || decide (247 < p.addr))) ||
  (p.kind == 2 && !([9600, 19200].contains p.rate))

/-- A limit of the station protocols is exceeded: k, w, common address and groups of IEC 104 (R464), the integrity period and the editions
(R459), the RS-485 ports, the transports and ports of the streams (R468). -/
def protoLimitBad (m : ProtoMaps) : Bool :=
  m.k104 = 0 || decide (32767 < m.k104) || m.w104 = 0 || decide (32767 < m.w104) || decide (65535 < m.ca104) || m.group104.any (fun g => decide (1 < g)) ||
  (m.integrity != 0 && decide (m.integrity < 960)) || !editionOk m.defEdition || m.clients.any (fun c => !editionOk c.edition) ||
  m.serial.any serialBad || m.syncs.any (fun y => decide (2 < y.transport) || decide (65535 < y.port)) || !noDup (m.syncs.map (·.port))

/-- Section 10. -/
def protoCode (v : CheckEnv) (b : Block) : Nat :=
  let m := b.proto
  let trips (f : GoosePub → Bool) : Nat := (m.goosePubs.filter (fun p => p.tripClass && f p)).length
  firstCode [
    (m.syncs.any (syncBad v b) || decide (8 < m.syncs.length), 0x0252),
    (m.svPubs.any (fun p => p.chans.any (fun c => !localOn b c)), 0x0232),
    ((mapI (protoMapBad b) m.maps).any id || protoLimitBad m ||
      m.svPubs.any (fun p => p.chans.isEmpty || decide (8 < p.chans.length)) || decide (8 < m.svPubs.length), 0x0210),
    (((m.encap || (at! m.perms 0).enabled) && m.anchors.isEmpty) || m.pairAddr == some m.unicast || m.pairAddr == some m.serviceAddr ||
      m.unicast == m.serviceAddr, 0x0211),
    (m.goosePubs.any (goosePubBad b) || decide (128 < m.goosePubs.length) || decide (2 < trips (·.onProcess)) ||
      decide (2 < trips (·.onStation)), 0x0212)]

/-! ### Field I/O, time, pair policy, host view (R348, R375, R413, R424, R450) -/

/-- Section 11. -/
def fieldCode (b : Block) : Nat :=
  let f := b.field
  let doE (o : Nat) : DoEntry := at! f.dos o
  if !f.rsvZero || f.dis.any (fun e => e.filt = 0 || decide (200 < e.filt) || decide (e.oscn < 2) || decide (1000 < e.oscn) || decide (e.oscn ≤ e.oscr)) ||
    f.fasts.any (fun e => e.fgate % 1000 != 0 || decide (e.fgate < 10000) || decide (1000000 < e.fgate) || e.fto % 100000 != 0 ||
      decide (e.fto < 10100000) || decide (60000000 < e.fto)) ||
    f.dos.any (fun e => decide (e.rbt < 2) || decide (96 < e.rbt) || decide (e.olth < 2) || decide (50 < e.olth)) ||
    f.holdt.any (fun h => decide (h < 10) || decide (200 < h)) ||
    (List.range 96).any (fun o => (doE o).par && (o % 16 == 15 || (doE (o + 1)).en || (mapEntry b (doPt (o + 1))).any (fun m => m.writer != .none))) ||
    b.slots.any (fun e => e.use != 0 && e.dos.any (fun o => !(doE o).en)) then 0x02D0 else 0

/-- Section 12. -/
def timeCode (b : Block) : Nat :=
  let t := b.time
  if t.src.any (fun s => decide (4 < s)) || t.src.length != 4 || decide (2 < t.profile) || decide (255 < t.domain) ||
    decide (t.classMax < 6) || decide (255 < t.classMax) || t.jump % 100 != 0 || decide (t.jump < 200) || decide (1000000 < t.jump) ||
    decide (t.jumpN < 2) || decide (10 < t.jumpN) || t.slew % 1000 != 0 || decide (t.slew < 10000) || decide (200000 < t.slew) ||
    t.holdoff = 0 || decide (600 < t.holdoff) || t.accLim % 100 != 0 || decide (t.accLim < 100) || decide (100000 < t.accLim) ||
    t.initWait % 960 != 0 || decide (48000 < t.initWait) || decide (255 < t.utcDef) || t.modes.any (fun m => decide (1 < m)) ||
    t.tsCorr.any (fun c => decide (c < -10000) || decide (10000 < c)) || decide (100000 < t.irigDly) || decide (100000 < t.ppsDly) ||
    decide (t.confWin < 600) || decide (86400 < t.confWin) || t.modes.length != 4 || t.tsCorr.length != 4 ||
    (t.profile == 2 && t.src.contains 2) then 0x02E0 else 0

/-- Section 13. -/
def pairCode (b : Block) : Nat :=
  let p := b.pair
  if decide (2 < p.roleDecl) || decide (p.plTol < 10) || decide (100 < p.plTol) || decide (p.plTime < 2) || decide (100 < p.plTime) ||
    decide (p.diDisc < 10) || decide (1000 < p.diDisc) || decide (p.rsAlarm < 2) || decide (16 < p.rsAlarm) then 0x02F0 else 0

/-! ### Schedule (R55 to R61) -/

/-- Limit of a unit and phase (R56); 0 where nothing runs there. -/
def schedLimit (unit phase : Nat) : Nat :=
  if unit < 6 then (if phase = 1 then 17302 else if phase = 2 then 39321 else 11008)
  else if phase ≠ 3 then 0 else if unit < 8 then 11008 else 2752

/-- Cost of an entry recomputed from a firmware's cycle table (R61): of an element instance the largest over its setting records (R57),
of a tick-rate task its program's worst case (R58), which for bit logic is the longest path (R299). -/
def schedCost (fw : BitVec 32) (b : Block) (e : SchedEntry) : Nat :=
  if 6 ≤ e.unit then
    let p := at! b.progs (at! b.tasks e.inst).prog
    if p.fb then Config.fbCost fw p else bluCost p
  else match schedElem b e.inst with
    | some x => if e.phase = 3 then Config.kernelCost fw e.kernel e.inst []
        else (x.2.recs.map (Config.kernelCost fw e.kernel e.inst)).foldl Nat.max 0
    | none => Config.kernelCost fw e.kernel e.inst []

/-- Entries of phase B and C on TE0 to TE5 name an element instance (R53, R55). -/
def instanceOk (b : Block) (e : SchedEntry) : Bool :=
  decide (e.inst / 64 < 64) && decide (e.inst % 64 < 56) && (schedElem b e.inst).isSome

/-- An entry is malformed (R55). DESIGN CHOICE: the spec does not say whether TE6, TE7 or a bit-logic unit may have an entry in
phase B or C (a task of more than one tick runs in the slices without one); the model refuses such an entry, as it refuses one
whose task is not of period 1 on that unit, and an instance whose element kernel stands on two units. -/
def schedBad (b : Block) (e : SchedEntry) : Bool :=
  decide (9 < e.unit) || e.phase = 0 || decide (3 < e.phase) || !e.rsvZero ||
  (if 6 ≤ e.unit then e.phase != 3 ||
     !(decide (e.inst < 10) && (at! b.tasks e.inst).tickRate && (at! b.tasks e.inst).unit == e.unit)
   else e.phase != 3 && !instanceOk b e) ||
  (e.unit < 6 && e.phase == 2 && b.sched.any (fun x => x.phase == 2 && x.inst == e.inst && x.unit < 6 && x.unit != e.unit))

/-- A task of period 1 without an entry in phase D: its cost would not count (R58). DESIGN CHOICE: 0x0222. -/
def taskUnscheduled (b : Block) : Bool :=
  (mapI (fun t (e : TaskEntry) => e.tickRate && !b.sched.any (fun x => x.unit == e.unit && x.phase == 3 && x.inst == t)) b.tasks).any id

/-- ORDER of a unit and phase has gaps or duplicates. -/
def orderBad (l : List SchedEntry) : Bool :=
  !noDup (l.map (·.order)) || l.any (fun e => decide (l.length ≤ e.order))

/-- Units and phases of a schedule. -/
def unitPhases : List (Nat × Nat) := (List.range 10).flatMap (fun u => [1, 2, 3].map (fun p => (u, p)))

/-- The schedule re-check under a firmware (R61). DESIGN CHOICE: where several causes hold at once, the code is the first of 0x0223,
0x0222, 0x0221, 0x0220 (log entry 26). -/
def schedCode (fw : BitVec 32) (b : Block) : Nat :=
  firstCode [
    (b.sched.any (fun e => !Config.kernelKnown fw e.kernel || !Config.tableKnown fw e.tableVer), 0x0223),
    (b.sched.any (schedBad b) || unitPhases.any (fun (x : Nat × Nat) => orderBad (schedOf b x.1 x.2)) || taskUnscheduled b ||
      orderConflict b, 0x0222),
    (b.sched.any (fun e => e.tableVer == Config.tableVersion fw && e.cost != schedCost fw b e), 0x0221),
    (unitPhases.any (fun (x : Nat × Nat) => decide (schedLimit x.1 x.2 < ((schedOf b x.1 x.2).map (schedCost fw b)).sum)), 0x0220)]

/-! ### The whole check -/

/-- Steps 2 to 5 of R492: form, signature, format, part. -/
def headCode (v : CheckEnv) (b : Block) : Nat :=
  firstCode [
    (!b.formOk, 0x0200),
    (!v.blockSigned b, 0x0201),
    (b.format != blockFormat v.fw, 0x0202),
    (b.ident.part != v.part || !((if v.unitB then b.ident.serialB else b.ident.serialA) = 0 ||
      (if v.unitB then b.ident.serialB else b.ident.serialA) = v.serial) || decide (v.fw.toNat < b.ident.fwMin.toNat), 0x0203)]

/-- The Block check (R492): its first failing code, or 0. -/
def blockCheck (v : CheckEnv) (b : Block) : Nat :=
  firstNz [headCode v b, bayCode v b, elemCode v b, seqCode v b, subCode v.part.toNat b, mapCode v.part.toNat b, progCode v.fw b, planCode v b, protoCode v b,
    fieldCode b, timeCode b, pairCode b, schedCode v.fw b]

/-- Tasks and points that something outside a Hood reads (R307): element BLK, slot headers, schemes, recorder channels and
triggers, protocol maps, tasks not replaced, the selector. -/
def readOutside (b : Block) (h : Hood) (i : Nat) : Bool :=
  b.elems.any (fun e => e.blk.contains i) ||
  b.slots.any (fun e => [e.posA, e.posB, e.ilkClose, e.ilkOpen, e.recPermit, e.blk79, e.bfiExt, e.closeReq, e.loReset].contains i ||
    e.src.any (fun s => s.point == i)) ||
  b.busBlocks.any (fun e => e.mem.contains i) || b.intertrips.any (fun e => e.recv == i || e.perm == i || e.send.contains i) ||
  b.sheds.any (fun e => e.trig == i) ||
  b.plans.any (fun p => p.use && (p.trg.any (fun t => t.point == i) || p.ana.any (fun w => chanIdx w == i) || p.bin.any (fun w => chanIdx w == i))) ||
  (publishedPts b).contains i ||
  (mapI (fun t (e : TaskEntry) => e.kind != 0 && !h.tasks.getLsbD t && (e.ins.contains i || e.trig.contains i)) b.tasks).any id ||
  b.selector == some i

/-- Points a replaced task wrote and no task writes after the Hood (R307). -/
def orphans (b nb : Block) (h : Hood) : List Nat :=
  ((mapI (fun t (e : TaskEntry) => if e.kind != 0 && h.tasks.getLsbD t then e.outs else []) b.tasks).flatten).filter
    (fun p => !nb.tasks.any (fun e => e.kind != 0 && e.outs.contains p))

/-- A point lies where a Hood may allocate: 0x8_0000 to 0xE_FFFF and bay offsets 0x1C20 to 0x1FFF (R304). -/
def hoodRange (i : Nat) : Bool := (decide (0x80000 ≤ i) && decide (i < 0xF0000)) || (decide (i < 0x60000) && decide (0x1C20 ≤ i % 0x2000))

/-- A Hood reaches beyond its scope (R304): no task named, entries for other tasks than TASKS names, points elsewhere or of other
writers before or after it, schedule entries of other units or tasks. -/
def hoodScopeBad (b : Block) (h : Hood) : Bool :=
  let mine (w : Writer) : Bool := match w with | .task t => h.tasks.getLsbD t | _ => false
  let other (i : Nat) : Bool := !hoodRange i || (mapEntry b i).any (fun m => !mine m.writer)
  h.tasks == 0 || h.entries.length != h.taskList.length || h.addMap.any (fun m => other m.point || !mine m.writer) ||
  h.delMap.any other ||
  h.sched.any (fun e => decide (e.unit < 6) || !h.tasks.getLsbD e.inst)

/-- The Hood check (R306, R316): `b` is the running configuration, `baseIds` the identities a Hood may name, `chain` the number
of applied Hoods and `room` the bytes that the slot holds already. -/
def hoodCheck (v : CheckEnv) (b : Block) (base : BitVec 128) (chain room : Nat) (h : Hood) : Nat :=
  let nb := hoodBlock b h
  firstNz [
    firstCode [
      (!h.formOk || decide (16 * 2 ^ 20 < h.length), 0x02B0),
      (!signedBy v.keys 3 h.hash h.sig, 0x02B1),
      (h.baseId != base || decide (32 ≤ chain) || decide (64 * 2 ^ 20 < room + h.length), 0x02B2),
      (hoodScopeBad b h || (b.map.any (fun m => hoodTouches b h m.point && readOutside b h m.point)) ||
        (orphans b nb h).any (fun p => (mapEntry nb p).isSome), 0x02B3)],
    mapCode v.part.toNat nb, progCode v.fw nb, schedCode v.fw nb]

end Sys2Proof
end

