-- ==== Sys2Proof/Machine/Pair.lean ====
section
/-! DEFINITION. The pair (R377 to R417): Hat latch, witness frames and decision, mirror, digests, rolling copy, handover,
status words. -/

namespace Sys2Proof

/-! ### Hat latch (R377 to R381, R521) -/

/-- HAT_REVOKE (R378): a revoke pending for this tick clears the latch. -/
def hatRevokeGo (h : Hat) : Hat :=
  if h.act = 2 then { h with act := 0, latch := false, revoked := h.revoked || h.latch, granted := false, taken := true } else h

/-- The latch sets. -/
def latchSet (h : Hat) : Hat := { h with latch := true, fresh := true, blockAlarm := false, noCommit := 0 }

/-- HAT_GRANT (R378): a grant pending for this tick sets the clear latch of an engine that may take the Hat and whose partner's
loop is de-energised; an energised one sets GRANT_BLOCKED; a latch that is already set takes no second grant. -/
def hatGrantGo (may hatIn : Bool) (h : Hat) : Hat :=
  if h.act ≠ 1 then h
  else if !may || h.latch then { h with act := 0 }
  else if hatIn then { h with act := 0, ploop := true, granted := true, blocked := true, blocks := h.blocks + 1 }
  else { latchSet h with act := 0, ploop := false, granted := true, grants := h.grants + 1 }

/-- LONE_LATCH_SET (R379): in role 6 a clear latch sets without a grant, which no grant counts (R417). -/
def loneLatchGo (healthy hatIn : Bool) (h : Hat) : Hat :=
  if h.latch || !healthy then h
  else if hatIn then { h with ploop := true, blocked := true, blockAlarm := true, blocks := h.blocks + 1 }
  else { latchSet h with ploop := false }

/-- HAT_RACE (R380): the partner's loop is sensed although the latch has just set. Unit B clears its latch, and unit A keeps its own,
without output enable until unit B's loop has fallen. -/
def hatRaceGo (unitB : Bool) (h : Hat) : Hat :=
  if h.latch && h.fresh then
    if unitB then { h with latch := false, fresh := false, ploop := true, revoked := false, raceLost := true, was := none }
    else { h with ploop := true }
  else h

/-- COMMIT_WATCHDOG (R378): 24 ticks without a phase E commit clear the latch. -/
def watchdogGo (h : Hat) : Hat :=
  if h.latch && decide (24 ≤ h.noCommit) then { h with latch := false, revoked := false, wdog := true } else h

/-- WITNESS_LOST (R385): no valid frame in 3 consecutive ticks. `witMiss` counts a tick as its TICK ends. -/
def witLostGo (h : Hat) : Hat := if 3 ≤ h.witMiss then { h with witLost := true } else h

/-- The same as TICK ends, where the present tick's frame may still come (R382). -/
def witLostTick (h : Hat) : Hat := if 4 ≤ h.witMiss then { h with witLost := true } else h

/-- HAT_LOOP_FAULT is raised (R521). -/
def Hat.loopFault (h : Hat) : Bool := decide (3 ≤ h.loopBad)

/-- Senses and counts of a tick. -/
def hatSense (x : TickIn) (h : Hat) : Hat :=
  { h with ploop := x.hatIn, ownLoop := x.ownLoop, loopBad := if h.latch && !x.ownLoop then h.loopBad + 1 else 0 }

/-- Output enable (R377): own latch set and the partner's loop de-energised. -/
def Hat.enable (h : Hat) : Bool := h.latch && !h.ploop

/-! ### Frames of the witness bus (R383 to R386) -/

/-- EFLAGS. -/
def EngFrame.eflags (f : EngFrame) : Nat :=
  boolNat f.healthy + 2 * boolNat f.hatReq + 4 * boolNat f.latch + 8 * boolNat f.inStep + 16 * boolNat f.synced
    + 32 * boolNat f.partnerAlive + 64 * boolNat f.staleOk + 128 * boolNat f.mixed

/-- The bytes of an engine frame (R383). -/
def engFrameBytes (f : EngFrame) : List Byte :=
  let l := [1#8] ++ leBytes (boolNat f.unitB) 1 ++ leBytes f.seq 2 ++ leBytes f.tsec 4 ++ leBytes f.tk 2 ++ leBytes f.tgen 2
    ++ leBytes f.role 1 ++ leBytes f.eflags 1 ++ leBytes f.staleT 2 ++ leBytes f.hoTsec 4 ++ leBytes f.hoTk 2
    ++ leBytes f.cause 2 ++ leBytes 0 4
  l ++ leBytes (crc32c l).toNat 4

/-- The fields of a unit's engine frame, where it is valid but for its slot (R383, R385). -/
def EngFrame.ofBytes (l : List Byte) : Option EngFrame :=
  let n (o k : Nat) : Nat := fieldLe l o k
  let fl (i : Nat) : Bool := (n 13 1).testBit i
  if l.length == 32 && n 0 1 == 1 && decide (n 1 1 < 2) && n 24 4 == 0 && n 28 4 == (crc32c (l.take 28)).toNat then
    some { unitB := n 1 1 == 1, seq := n 2 2, tsec := n 4 4, tk := n 8 2, tgen := n 10 2, role := n 12 1
           healthy := fl 0, hatReq := fl 1, latch := fl 2, inStep := fl 3, synced := fl 4, partnerAlive := fl 5, staleOk := fl 6
           mixed := fl 7, staleT := n 14 2, hoTsec := n 16 4, hoTk := n 20 2, cause := n 22 2 }
  else none

/-- Grid number of the tick in which an engine sends a frame: the one after the tick it reports (R382). -/
def EngFrame.sentAt (f : EngFrame) : Nat := f.tsec * 9600 + f.tk + 1

/-- 30 µs after the start of unit A's frame (R382, R386), in ns. -/
def w1Offset : Nat := 30000

/-- Length of `n` ticks of unit A after the one with grid number `g`, in the triad pattern of R48 (R386). -/
def w1Span (g n : Nat) : Nat := gridNs (g + n) - gridNs g

/-- An instant lies within ±5 µs of another (R382). -/
def nearNs (a b : Nat) : Bool := decide (a ≤ b + 5000) && decide (b ≤ a + 5000)

/-- A W1 frame lasts 26.04 µs (R382), in ns. -/
def w1Length : Nat := 26040

/-- The bytes of a witness frame (R384). -/
def witFrameBytes (seq : Nat) (fa fb : Option EngFrame) (actA actB : Nat) : List Byte :=
  let ts (f : Option EngFrame) : Nat := match f with | some f => f.tsec | none => 0xFFFFFFFF
  let tk (f : Option EngFrame) : Nat := match f with | some f => f.tk | none => 0
  let l := [2#8] ++ leBytes (boolNat fa.isSome + 2 * boolNat fb.isSome + 4) 1 ++ leBytes seq 2 ++ leBytes (ts fa) 4
    ++ leBytes (tk fa) 2 ++ leBytes 0 2 ++ leBytes actA 1 ++ leBytes actB 1 ++ leBytes (ts fb) 4 ++ leBytes (tk fb) 2
    ++ leBytes 0 8
  l ++ leBytes (crc32c l).toNat 4

/-- A witness frame is valid for this unit (R385). -/
def witValid (bytes : List Byte) (inSlot unitB : Bool) (rep : TickId) : Bool :=
  let ofs := if unitB then 14 else 4
  inSlot && bytes.length == 32 && fieldLe bytes 0 1 == 2 && decide (fieldLe bytes 1 1 < 8) && fieldLe bytes 10 2 == 0
    && fieldLe bytes 20 8 == 0 && fieldLe bytes 28 4 == (crc32c (bytes.take 28)).toNat
    && fieldLe bytes ofs 4 == rep.sec % 4294967296 && fieldLe bytes (ofs + 4) 2 == rep.k

/-- WITNESS_FRAME_RECEIVE (R385): a valid frame's action waits for the next tick; role 6 ignores actions (R379). -/
def witFrameGo (bytes : List Byte) (inSlot unitB lone : Bool) (rep : TickId) (h : Hat) : Hat :=
  if witValid bytes inSlot unitB rep then
    let a := fieldLe bytes (if unitB then 13 else 12) 1
    { h with witMiss := 0, witSeen := true, witLost := false, lastWit := bytes, act := if lone then 0 else if a = 1 ∨ a = 2 then a else 0 }
  else { h with witBad := Nat.min (h.witBad + 1) 65535 }

/-! ### The witness (R388, R389) -/

/-- can_start. -/
def canStart (f : EngFrame) : Bool := f.role == 0 && f.healthy && f.hatReq
/-- eligible. -/
def eligible (f : EngFrame) : Bool :=
  f.healthy && f.hatReq && f.synced && ((f.inStep && decide (f.staleT ≤ 4)) || (f.role == 3 && f.staleOk))
/-- eligible_planned. -/
def eligiblePlanned (f : EngFrame) : Bool :=
  f.healthy && f.hatReq && f.synced && f.role == 2 && f.inStep && f.staleT == 0

/-- The planned handover of a wearer's frame falls two ticks after its reported tick. -/
def plannedNow (f : EngFrame) : Bool :=
  let g := f.tsec * 9600 + f.tk + 2
  f.healthy && f.hoTsec == (g / 9600) % 4294967296 && f.hoTk == g % 9600

/-- The start the witness predicts for unit A's frame of this bus tick (R386), while one has come in the last 9,600 ticks. -/
def Witness.predict (w : Witness) : Option Nat :=
  match w.aAt with
  | some (g, t) => if w.aAgo < 9600 then some (t + w1Span g (w.aAgo + 1)) else none
  | none => none

/-- A valid frame of a unit, with its start. -/
def unitFrame (unitB : Bool) (x : Option (List Byte × Nat)) : Option (EngFrame × Nat) :=
  x.bind (fun f => (EngFrame.ofBytes f.1).bind (fun e => if e.unitB = unitB then some (e, f.2) else none))

/-- The frames of a bus tick that the witness accepts (R382, R386): unit A's near its prediction, unit B's near 30 µs after unit A's
start or, without it, its prediction. After 3 ticks without unit A's frame the next one is taken wherever it starts, unless it
overlaps the slot of the accepted unit B frame. DESIGN CHOICE: without a prediction unit B's frame is taken wherever it starts
(log entry 116). -/
def Witness.accepts (w : Witness) (xa xb : Option (List Byte × Nat)) : Option (EngFrame × Nat) × Option (EngFrame × Nat) :=
  let a := unitFrame false xa
  let b := unitFrame true xb
  let bNear (t : Option Nat) : Option (EngFrame × Nat) := b.filter (fun x => match t with
    | some t => nearNs x.2 (t + w1Offset)
    | none => true)
  if w.aAt.isNone || decide (3 ≤ w.aAgo) then
    let fb := bNear w.predict
    (a.filter (fun x => match fb with
      | some y => decide (x.2 + w1Length ≤ y.2) || decide (y.2 + w1Length ≤ x.2)
      | none => true), fb)
  else
    let fa := a.filter (fun x => match w.predict with | some t => nearNs x.2 t | none => true)
    (fa, bNear ((fa.map (·.2)).or w.predict))

/-- Start of the witness frame, 70.00 µs after that of unit A's frame (R382); where unit A's is absent, timed from unit B's frame,
or from the prediction, or from the own tick start `own`. -/
def Witness.sendAt (w : Witness) (fa fb : Option (EngFrame × Nat)) (own : Nat) : Nat :=
  (match fa, fb with
    | some a, _ => a.2
    | none, some b => b.2 - w1Offset
    | none, none => w.predict.getD own) + 70000

/-- The last unit A frame that the witness accepted (R386). -/
def Witness.note (fa : Option (EngFrame × Nat)) (w : Witness) : Witness :=
  match fa with
  | some a => { w with aAt := some (a.1.sentAt, a.2), aAgo := 0 }
  | none => { w with aAgo := w.aAgo + 1 }

/-- The decision of one tick: the witness, ACT_A, ACT_B. -/
def witDecide (fa fb : Option EngFrame) (w : Witness) : Witness × Nat × Nat :=
  let w : Witness := { w with
    latA := match fa with | some f => f.latch | none => w.latA
    latB := match fb with | some f => f.latch | none => w.latB
    silA := if fa.isSome then 0 else w.silA + 1
    silB := if fb.isSome then 0 else w.silB + 1 }
  let change (fw fs : Option EngFrame) (silW : Nat) : Bool :=
    match fs with
    | none => false
    | some s =>
      let failed := (match fw with | some f => !f.healthy | none => false) || (decide (3 ≤ silW) && !s.partnerAlive)
      let planned := match fw with | some f => plannedNow f | none => false
      (failed && eligible s) || (planned && eligiblePlanned s)
  if !w.latA && !w.latB then
    (w, if (fa.map canStart).getD false then (1, 0) else if (fb.map canStart).getD false then (0, 1) else (0, 0))
  else if w.latA then (w, if change fa fb w.silA then (2, 1) else (0, 0))
  else (w, if change fb fa w.silB then (1, 2) else (0, 0))

/-! ### The partner (R387, R391 to R394) -/

/-- The engine mirrors: roles 2 and 5 (R391, R394). -/
def mirrors (role : Nat) : Bool := role == 2 || role == 5

/-- PARTNER_ALIVE (R387). -/
def Pair.alive (p : Pair) : Bool := (p.heard.drop 1).all id && !p.psick

/-- The Felt link is up on a lane (R405). -/
def Pair.linkUp (p : Pair) : Bool := p.laneA || p.laneB

/-- The lane on which a frame came is up. -/
def FeltHdr.laneUp (h : FeltHdr) (p : Pair) : Bool := if h.lane = 0 then p.laneA else p.laneB

/-- The partner reports role 2 and INSTEP (R403): the role over the Felt link (R415), INSTEP in its last W1 frame (R383). -/
def Pair.partnerInStep (p : Pair) : Bool := p.prole == 2 && (p.pframe.map (·.inStep)).getD false

/-- Lines of a copy and digests come from an engine of the own variant alone (R8). -/
def Pair.kin (own : BitVec 32) (p : Pair) : Bool := p.ppart == own

/-- A Felt frame of the partner has been received in this tick (R387); it may tell the partner's role (R415) and health. -/
def Pair.hear (h : FeltHdr) (p : Pair) : Pair :=
  { p with heard := true :: p.heard.drop 1, feltGot := (h.seq :: p.feltGot).take 64
           prole := match h.status with | some x => x.1 | none => p.prole
           psick := match h.status with | some x => !x.2 | none => p.psick
           pevrBad := h.recBad.getD p.pevrBad }

/-- The copies of an own Felt frame (R390): one on each lane that is up, with its sequence number and CRC-32C. -/
def feltCopies (p : Pair) (role : Nat) (healthy recBad : Bool) (seq : Nat) (x : FeltFrame) : List Emit :=
  let crc := crc32c (Config.feltBytes seq role healthy recBad x)
  (if p.laneA then [.felt 0 seq role healthy recBad crc x] else []) ++ (if p.laneB then [.felt 1 seq role healthy recBad crc x] else [])

/-- HAT_REQ (R387). -/
def hatReq (role : Nat) (healthy blockPair : Bool) (p : Pair) : Bool :=
  healthy && (role == 1 || role == 6 || ((role == 2 || role == 3) && p.synced)
    || (role == 0 && blockPair && !(p.linkUp && p.prole == 1)))

/-- The mirror data of a tick are complete (R392, R393). -/
def mirrorReady (p : Pair) (id : TickId) (ltc : Nat) : Bool :=
  match p.close with
  | some (cid, cl, n) => cid == id && cl == ltc && (p.items.filter (fun x => x.1 == ltc)).length == n
  | none => false

/-- TICK_BRIDGE (R393): count a bridged tick. -/
def bridgeGo (p : Pair) : Pair :=
  { p with bridged := p.bridged + 1, bridgeRun := p.bridgeRun + 1, bridT := 9600, bridgeNow := true
           staleT := Nat.min (p.staleT + 1) 65535 }

/-- Mirror data of a tick applied. -/
def mirrorTaken (ltc : Nat) (p : Pair) : Pair :=
  { p with close := none, items := p.items.filter (fun x => decide (ltc < x.1)), bridgeRun := 0, staleT := 0 }

/-- Counts that run per tick: a second since a mismatch, a correction, a bridged tick; hearing. -/
def pairTick (p : Pair) : Pair :=
  { p with mismT := p.mismT - 1, mismAlarm := p.mismAlarm && decide (1 < p.mismT), corrT := p.corrT - 1, bridT := p.bridT - 1, bridgeNow := false, hoTick := false
           heard := (false :: p.heard).take 4, pframeT := p.pframeT.map (· + 1) }

/-! ### Digests and the copy (R395 to R400) -/

/-- SYNCED sets (R387); the copy in progress goes on in VERIFY mode, which is that of an engine with SYNCED set (R398), and nothing
is left to seed. -/
def syncedNow (p : Pair) : Pair := { p with synced := true, copy := if p.copy = 2 then 1 else p.copy, seedNext := false }

/-- A matching digest (R387, R396): the 96th in a row sets INSTEP. DEDUCED: a standby in role 2 that has seeded after a mismatch is
SYNCED again once an epoch has been applied and 96 digests have matched since, as at its entry (log entry 117). -/
def digestMatch (role : Nat) (p : Pair) : Pair :=
  let full := decide (96 ≤ p.run + 1)
  let q : Pair := { p with matched := p.matched + 1, run := p.run + 1, since := p.since + 1, inStep := p.inStep || full, resync := if full then 0 else p.resync }
  if decide (96 ≤ q.since) && role == 2 && p.applied && !p.synced then syncedNow q else q

/-- A mismatch (R396): with a standby in role 5 only the count of matches restarts, and INSTEP clears. -/
def digestMismatch (role : Nat) (p : Pair) : Pair :=
  { p with mismatched := p.mismatched + 1, run := 0, since := 0, mismT := 9600, inStep := false
           mismAlarm := p.mismAlarm || !(role == 5 || p.prole == 5), seedNext := p.seedNext || role == 2 }

/-- DIGEST_COMPARE (R396). -/
def digestGo (role ltc : Nat) (d : BitVec 128) (p : Pair) : Pair :=
  match p.own with
  | some (l, own) => if l ≠ ltc then p else if own = d then digestMatch role p else digestMismatch role p
  | none => p

/-- STANDBY_IN_STEP's condition (R8, R43, R399): a partner of the own variant, an applied epoch and 96 consecutive matching
digests. -/
def Pair.stepReady (own : BitVec 32) (p : Pair) : Bool := p.kin own && p.applied && decide (96 ≤ p.since)

/-- The standby is in step: SYNCED sets (R387). -/
def stepDone (p : Pair) : Pair := { syncedNow p with inStep := true, resync := 0 }

/-- The active engine sends the copy while a partner in role 2 or 5 is reachable (R397). -/
def sendMode (role : Nat) (partnerStandby : Bool) (p : Pair) : Pair :=
  if role = 1 then { p with copy := if p.linkUp && partnerStandby then 3 else 0 } else p

/-- No copy is in progress; the completed chunks of it that wait to be written (`seeds`) stand. -/
def copyNone (p : Pair) : Pair := { p with copy := 0, got := [], parts := [], base := none, diffs := [] }

/-- A failed chunk discards the copy as a whole (R400). -/
def copyDiscard (p : Pair) : Pair := { copyNone p with seeds := [], discarded := p.discarded + 1 }

/-- A partial copy is discarded and counted (R400, R406, R417). -/
def copyLeave (p : Pair) : Pair := if (p.copy == 1 || p.copy == 2) && !p.got.isEmpty then copyDiscard p else copyNone p

/-- A standby goes stale (R393): its partial copy is discarded (R400). -/
def goesStale (p : Pair) : Pair := { copyLeave p with seeds := [] }

/-- EPOCH_START (R397, R399): the receiver's mode for the epoch; an unfinished copy is discarded (R400). A standby that is to seed
after a mismatch does so until its first chunk is written. -/
def epochGo (role ltc : Nat) (partnerStandby : Bool) (p0 : Pair) : Pair :=
  let p : Pair := { copyLeave p0 with epoch := ltc / 768, resync := if role = 2 && !p0.inStep then p0.resync + 1 else 0 }
  if !p.linkUp then p
  else if role = 2 ∨ role = 5 then { p with copy := if !p.synced || p.seedNext then 2 else 1 }
  else sendMode role partnerStandby p

/-- A chunk takes part in the present copy (R397). -/
def chunkCounts (epoch chunk : Nat) (p : Pair) : Bool :=
  (p.copy == 1 || p.copy == 2) && p.epoch == epoch && decide (chunk < 768)

/-- A completed chunk (R397): the base with the lines of the delta in their place. -/
def overlay (base delta : List CopyItem) : List CopyItem :=
  base.map (fun x => (delta.find? (fun y => y.key == x.key)).getD x) ++ delta.filter (fun y => !base.any (fun x => x.key == y.key))

/-- A completed chunk is noted. -/
def chunkNote (chunk : Nat) (items : List CopyItem) (p : Pair) : Pair :=
  if p.got.contains chunk then { p with base := none } else { p with got := p.got ++ [chunk], parts := p.parts ++ [items], base := none }

/-- The first seeded chunk is written: SYNCED clears (R387) and waits for an epoch applied from here on (R399). -/
def seedNote (p : Pair) : Pair := { p with seeds := [], seedNext := false, synced := false, applied := p.applied && !p.synced }

/-- The closing digest of an epoch (R397): the first 128 bits of SHA-256 over e and its completed chunks. -/
def closingDigest (epoch : Nat) (parts : List (List CopyItem)) : BitVec 128 := sha128 (Config.copyBytes epoch parts)

/-- The copy is complete. -/
def Pair.copyFull (p : Pair) : Bool := p.got.length == 768

/-- An epoch is applied (R399): digests are counted from here. -/
def epochApplied (p : Pair) : Pair :=
  { copyNone p with epochs := p.epochs + 1, applied := true, since := 0 }

/-! ### Failures of the link and the plan of a handover (R403 to R406) -/

/-- FELT_LINK_DOWN (R404, R406). -/
def linkDown (p : Pair) : Pair :=
  { copyLeave p with laneA := false, laneB := false, linkWas := true, prole := 0, heard := [false, false, false, false]
                     close := none, items := [], seeds := [] }

/-- A lane goes down or comes back (R405). -/
def setLane (lane : Nat) (up : Bool) (p : Pair) : Pair :=
  if lane = 0 then { p with laneA := up } else { p with laneB := up }

/-- The handover plan ends. -/
def hoClear (p : Pair) : Pair := { p with ho := none }

/-- The record of a lapse (R475, kind 0x0031). -/
def lapseEvent (h : Nat) : EvRec := { kind := 0x31, value := h, old := 0x0403 }

/-! ### Status (R415 to R417) -/

/-- WIT_OK (R415): a valid witness frame has arrived in the last 3 ticks. -/
def Hat.witOk (h : Hat) : Bool := h.witSeen && decide (h.witMiss < 3)

/-- PAIR_STATUS (R415). -/
def pairStatus (ltc : Nat) (witOk : Bool) (p : Pair) : Nat :=
  p.prole + 8 * boolNat p.alive + 16 * boolNat p.laneA + 32 * boolNat p.laneB + 64 * boolNat p.inStep
    + 128 * boolNat p.synced + 256 * p.copy + 1024 * boolNat p.mixed + 2048 * boolNat witOk
    + 4096 * boolNat (decide (0 < p.bridT)) + 8192 * boolNat (decide (0 < p.mismT)) + 16384 * boolNat p.ho.isSome
    + 65536 * (ltc / 768 % 65536)

/-- HAT_STATUS (R416). -/
def hatStatus (req outEn unitB : Bool) (h : Hat) : Nat :=
  boolNat h.latch + 2 * boolNat h.ownLoop + 4 * boolNat h.ploop + 8 * boolNat outEn + 16 * boolNat req
    + 32 * boolNat h.granted + 64 * boolNat h.revoked + 128 * boolNat h.raceLost + 256 * boolNat h.blocked
    + 512 * boolNat h.wdog + 1024 * boolNat unitB + 65536 * h.witBad

/-- HAT_STATUS_CLEAR (R416). -/
def hatClear (v : BitVec 32) (h : Hat) : Hat :=
  { h with raceLost := h.raceLost && !v.getLsbD 7, blocked := h.blocked && !v.getLsbD 8, wdog := h.wdog && !v.getLsbD 9 }

/-- The pair region's points (R417). -/
def pairWrites (h : Hat) (p : Pair) : List PtWrite :=
  [wN 0xF2000 p.matched, wN 0xF2001 p.mismatched, wN 0xF2002 p.bridged, wN 0xF2003 p.epochs, wN 0xF2004 p.corrected,
   wN 0xF2005 p.discarded, wN 0xF2006 h.grants, wN 0xF2007 h.blocks, wN 0xF2008 (at! p.laneErr 0), wN 0xF2009 (at! p.laneErr 1)]
  ++ mapI (fun ch v => wN (0xF2010 + ch) v) p.plaus ++ mapI (fun s v => wN (0xF2050 + s) v) p.plausS

/-- What a reset leaves of the Hat unit and of the pair's state: nothing but the standing of the lanes. -/
def pairAfterReset (p : Pair) : Pair := { laneA := p.laneA, laneB := p.laneB, prole := p.prole, ppart := p.ppart, pfw := p.pfw, mixed := p.mixed, pblock := p.pblock, phood := p.phood }

end Sys2Proof
end

