-- ==== Sys2Proof/Machine/Flags.lean ====
section
/-! DEFINITION. Alarms, health and the status window (R424 to R427), the trip and pickup bits (R245). -/

namespace Sys2Proof

/-- CAUSE of R425 by name: the causes of R45. -/
def causeMp : Nat := 1
/-- Error in TE local memory. -/
def causeTe : Nat := 2
/-- Error in the dynamic state. -/
def causeState : Nat := 3
/-- Error in the Block's working copy. -/
def causeBlock : Nat := 4
/-- Unfinished work at the end of a phase. -/
def causeWork : Nat := 5
/-- AFE reference failed on every supervised lane. -/
def causeAfe : Nat := 6
/-- Main clock lost. -/
def causeClock : Nat := 7
/-- Tamper latch set. -/
def causeTamper : Nat := 8

end Sys2Proof

namespace Sys2Proof.Machine

/-- The Block declares a pair (R413). -/
def State.paired (s : State) : Bool := (s.blk.map (·.pair.roleDecl)) == some 1

/-- The unit's strap reads B (R10). -/
def State.unitB (s : State) : Bool := s.life.unit == 1

/-- The engine counts as healthy in its frames (R43, R44). -/
def State.fit (s : State) : Bool := s.life.healthy && !s.life.leaving

/-- The running Block, or an empty one. -/
def State.block (s : State) : Block := s.blk.getD {}

/-- A point as the MP and the CP read it: in the copy of the last completed tick (R27). -/
def State.seen (i : Nat) (s : State) : Point :=
  let p := rdPt s.view i
  if p.typ = 0 && statPt i then { p with typ := 4 } else p

/-- The engine evaluates protection (R40): roles 1, 2, 3, 5 and 6, with a Block. -/
def State.protects (s : State) : Bool := s.blk.isSome && (s.life.role ∈ [1, 2, 3, 5, 6])

/-- The engine may drive outputs (R40). -/
def State.drives (s : State) : Bool := s.life.role == 1 || s.life.role == 6

/-- ALARM0 (R426), bit by bit. -/
def State.alarm0 (s : State) : List Bool :=
  [laneFault s.afe, laneDrift s.afe, pbiFault s.block s.pbi, !s.drc.bad.isEmpty, decide (0 < s.logic.overrun), !s.sig.forces.isEmpty,
   supplyLow s.fio, supplyHigh s.fio, s.tsu.st == 4 || s.tsu.pend.isSome, s.tsu.asym, s.tsu.diverged,
   s.tsu.st == 0 && s.life.role != 0, s.upd.fallPend, s.hat.loopFault, s.psu.feedA != s.psu.feedB, s.hat.blockAlarm]

/-- ALARM1 (R426), bit by bit. -/
def State.alarm1 (s : State) : List Bool :=
  [s.pair.linkWas && !s.pair.linkUp, s.pair.laneA != s.pair.laneB, s.pair.mismAlarm, decide (0 < s.pair.corrT),
   decide (s.block.pair.rsAlarm < s.pair.resync), s.pair.err == 0x0402, s.pair.plaus.contains 1, s.pair.plausS.contains 1, s.pair.plausDi,
   s.hat.witLost && s.paired,
   (s.life.role == 2) && s.pair.alive && decide (3 ≤ s.pair.pframeT.getD 0),
   s.pair.startAlarm, s.pair.ppart != 0 && s.pair.ppart != idPart s.life.variant]

/-- STAT_HEALTH (R425). -/
def State.health (s : State) : Nat :=
  packBits [s.life.healthy, s.life.blockOk, s.life.hwBad, s.life.strapBad, s.evr.state != 0, decide (0 < s.evr.tombPend), s.life.cellLow,
            s.life.prevCause] + 65536 * s.life.cause

/-- Bit s: the trip point of slot s (R245). -/
def State.tripBits (s : State) : BitVec 64 :=
  (List.range 64).foldl (fun w i => setBit64 w i (s.sig.rd (slotBase i + 2)).bool) 0

/-- The str point of an element instance counts as pickup of a slot: its op, general or of a phase (base + 5 to base + 8), is a trip
source of the slot (R245). -/
def State.pickupBits (s : State) : BitVec 64 :=
  let b := s.block
  (List.range 64).foldl (fun w i =>
    let srcs := ((at! b.slots i).src).map (·.point)
    setBit64 w i (b.elems.any (fun e => srcs.any (fun p => decide (e.base + 5 ≤ p) && decide (p ≤ e.base + 8)) && (s.sig.rd e.base).bool))) 0

/-- STAT_SEQ after one more refresh (R427). -/
def seqNext (q : BitVec 32) : BitVec 32 := if q = 0xFFFFFFFE then 2 else q + 2

/-- The status list's entries (R424). -/
def State.userEntries (s : State) : List (BitVec 64 × BitVec 16 × BitVec 16 × BitVec 32) :=
  (s.block.hostv.statusList.take 240).map (fun i => let p := s.sig.rd i; (p.value, p.qual, p.gen, p.nsec))

/-- The status window as phase F of the present tick writes it (R424). -/
def State.refresh (s : State) : Window :=
  { seq := seqNext s.hpi.win.seq, role := s.life.role + 8 * boolNat s.hat.latch, tick := s.tsu.statTick, sec := s.tsu.id.sec, k := s.tsu.id.k
    gen := s.tsu.id.gen, health := BitVec.ofNat 32 s.health, alarm0 := BitVec.ofNat 32 (packBits s.alarm0)
    alarm1 := BitVec.ofNat 32 (packBits s.alarm1), grp := s.sig.grp, ltc := s.logic.ltc
    tsu := BitVec.ofNat 32 (tsuStatus s.block.time s.life.role s.tsu), pair := BitVec.ofNat 32 (pairStatus s.logic.ltc s.hat.witOk s.pair)
    trip := s.tripBits, pickup := s.pickupBits, evrSeq := s.evr.lastSeq, recno := s.drc.lastNo, user := s.userEntries }

/-- RUN (R530): what the role makes it show. -/
def runLamp (role : Nat) : Lamp :=
  if role = 1 ∨ role = 6 then .on else if role = 4 then .hz4 else if role = 0 then .off else .hz1

/-- The front panel at any instant (R530): RUN by the role, HAT by OUT_EN (R416), ALARM by what HEALTHY (R425) and the alarm words of
the status window read. -/
def State.panel (s : State) : Panel :=
  { run := runLamp s.life.role
    hat := if s.fio.en then .on else .off
    alarm := if !s.hpi.win.health.getLsbD 0 then .on else if s.hpi.win.alarm0 ≠ 0 ∨ s.hpi.win.alarm1 ≠ 0 then .hz1 else .off }

end Sys2Proof.Machine
end

