-- ==== Sys2Proof/Machine/Ops.lean ====
section
/-! DEFINITION. The named operations over the whole state: mailbox RAM, events and messages, roles, resets, and the command
skeleton of R432 to R442 that every mailbox command goes through. -/

namespace Sys2Proof

/-! ### Mailbox RAM (R418, R419, R430) -/

/-- Read a byte of a sparse memory: an unlisted address reads 0 (log entry 2). -/
def ramGet (l : List (Nat × Byte)) (a : Nat) : Byte := (lkup l a).getD 0

/-- Write a byte of a sparse memory, keeping its canonical form. -/
def ramPut (l : List (Nat × Byte)) (a : Nat) (b : Byte) : List (Nat × Byte) := if b = 0 then ldel l a else lset l a b

/-- Write bytes from an address on. -/
def ramPutAll : List (Nat × Byte) → Nat → List Byte → List (Nat × Byte)
  | l, _, [] => l
  | l, a, b :: bs => ramPutAll (ramPut l a b) (a + 1) bs

/-- Addresses strictly above a bound and rising, and no zero byte listed. -/
def ramWfFrom : Option Nat → List (Nat × Byte) → Bool
  | _, [] => true
  | lo, (a, b) :: r => (match lo with | some x => decide (x < a) | none => true) && b != 0 && ramWfFrom (some a) r

/-- The canonical form of the mailbox RAM. -/
def ramWf (l : List (Nat × Byte)) : Bool := ramWfFrom none l

/-- Base of mailbox i (R418). -/
def mbxBase (i : Nat) : Nat := 0x010000 + i * 0x1000

/-- The response's bytes (R433). -/
def respBytes (r : Resp) : List Byte :=
  leBytes r.status 2 ++ leBytes r.opcode 2 ++ leBytes r.tag 4 ++ leBytes r.payload.length 4 ++ leBytes r.session 4 ++
  leBytes r.ntick 8 ++ leBytes r.errOfs 4 ++ leBytes 0 4 ++ r.payload

/-- A field of a payload: its bytes, and whether they are within its encoding (step 2 of R438). -/
structure Fld where
  bytes : List Byte
  ok    : Bool := true
  deriving DecidableEq, Repr, Inhabited

/-- A little-endian field of `k` bytes. -/
def fld (k n : Nat) (ok : Bool := true) : Fld := { bytes := leBytes n k, ok := ok }

/-- Opcode, privilege bit (R436; none: marked "—"), signature, operator action or not, whether it changes role or Block (R47), the
payload, and the place and value of NTICK in it, of a command (R443). -/
structure CmdSpec where
  op     : Nat
  priv   : Option Nat := none
  signed : Bool := false
  act    : Bool := false
  change : Bool := false
  pay    : List Fld := []
  named  : Option (Nat × Nat) := none
  deriving DecidableEq, Repr, Inhabited

/-- The payload's bytes. -/
def CmdSpec.payload (c : CmdSpec) : List Byte := c.pay.flatMap (·.bytes)

/-- Offset of the first field outside its encoding, the first field standing at `ofs`. -/
def badField (ofs : Nat) : List Fld → Option Nat
  | [] => none
  | f :: t => if f.ok then badField (ofs + f.bytes.length) t else some ofs

/-- The request comes over a TLS association. -/
def Carrier.isNet : Carrier → Bool
  | .host _ => false
  | .net _ => true

/-- FLAGS as the mailbox holds them: the CP sets ENCAP (R432, R469). -/
def Req.flagsIn (r : Req) : BitVec 16 := if r.carrier.isNet then r.flags ||| 2 else r.flags

/-- Bytes of a payload at most: without a trailer, and with one (R432). -/
def payloadMax (signed : Bool) : Nat := if signed then 3968 else 4064

/-- A request from offset 0 to the end of its payload (R432). -/
def reqBytes (c : CmdSpec) (r : Req) : List Byte :=
  leBytes c.op 2 ++ leBytes r.flagsIn.toNat 2 ++ leBytes r.tag 4 ++ leBytes r.length 4 ++ leBytes r.session 4 ++ leBytes r.rsv.toNat 16 ++
  c.payload

/-- Where the trailer starts (R432). -/
def trailerAt (r : Req) : Nat := (32 + r.length + 3) / 4 * 4

/-- A request with its trailer as it stands in a mailbox (R432). -/
def mailBytes (c : CmdSpec) (r : Req) : List Byte :=
  let b := reqBytes c r
  if r.flags.getLsbD 0 then b ++ List.replicate (trailerAt r - b.length) 0 ++ beBytes r.sig.toNat 96 else b

/-- Step 2 of R438: the offset of the first field that is not as R432 and R443 have it. -/
def CmdSpec.formBad (c : CmdSpec) (r : Req) : Option Nat :=
  if r.flagsIn ≠ BitVec.ofNat 16 (boolNat c.signed + 2 * boolNat r.carrier.isNet) then some 2
  else if r.length ≠ c.payload.length ∨ payloadMax c.signed < r.length then some 8
  else if r.rsv ≠ 0 then some 16
  else badField 32 c.pay

/-- No offending field (R433). -/
def noField : Nat := 0xFFFFFFFF

/-- The payload field that a command's own refusal concerns, as an offset in the request (R433). DESIGN CHOICE (log entry 6): which
field offends; a refusal that no one field causes has none. -/
def ownField (op st : Nat) : Nat :=
  let at_ (l : List (Nat × Nat)) : Bool := l.contains (op, st)
  if at_ [(0x0101, 0x0102), (0x0102, 0x0102), (0x0111, 0x0103), (0x0210, 0x0103), (0x0211, 0x0103), (0x0804, 0x0103), (0x0803, 0x0103), (0x0805, 0x0103),
    (0x0401, 0x02B0), (0x0B01, 0x0500), (0x0304, 0x0207), (0x0404, 0x02B4), (0x0902, 0x0301), (0x0903, 0x0305), (0x0A02, 0x0404),
    (0x0C10, 0x0103), (0x0C12, 0x0103)] then 32
  else if at_ [(0x0B03, 0x0504)] then 36
  else if at_ [(0x0501, 0x0103), (0x0501, 0x02C0), (0x0501, 0x02C1), (0x0501, 0x02C3), (0x0502, 0x0103), (0x0502, 0x02C0), (0x0602, 0x0103),
    (0x0802, 0x0103), (0x0C03, 0x0103), (0x0C11, 0x0103), (0x0C13, 0x0103), (0x0902, 0x0300)] then 40
  else if at_ [(0x0902, 0x0302), (0x0902, 0x0303)] then 44
  else if at_ [(0x0501, 0x02C2)] then 48
  else noField

/-- Roles in which a command is accepted (R439, R47). -/
def roleOk (role : Nat) (c : CmdSpec) : Bool :=
  let g := c.op / 256
  if role = 0 then g == 1 || g == 2 || g == 3 || g == 14 || c.op == 0x0701 || c.op == 0x0702 || c.op == 0x0704
  else if c.op = 0x0A03 then true
  else if role = 3 && g == 9 then true
  else if c.act then role == 1 || role == 6
  else if role = 5 then !c.change
  else true

/-- Two requests come on one carrier (R435): the host port is one, whatever the mailbox; each TLS association is its own. -/
def Carrier.same : Carrier → Carrier → Bool
  | .host _, .host _ => true
  | .net a, .net b => a == b
  | _, _ => false

/-- Where the answer to a carrier goes. -/
def Carrier.reply : Carrier → Reply
  | .host i => .host i.val
  | .net a => .net a

/-- A key's fingerprint: the first 16 bytes of SHA-256 over 0x04, X, Y (R423). -/
def keyFp (k : BitVec 776) : BitVec 128 := sha128 (beBytes k.toNat 97)

/-- NTICK lies in the range of R440. -/
def ntickOk (ltc n : Nat) : Bool := n == 0 || (decide (ltc < n) && decide (n ≤ ltc + 576000))

/-- The named tick of an NTICK. -/
def ntickOf (ltc n : Nat) : Nat := if n = 0 then ltc + 1 else n

/-- The event record of an applied operator action (R475, kind 0x0002). -/
def actionEvent (x : Action) : EvRec :=
  { kind := 0x02, rflags := 1, subject := x.opcode, arg := BitVec.ofNat 128 (x.keyId % 2 ^ 32 + 2 ^ 32 * (x.session % 2 ^ 32) + 2 ^ 64 * x.ntick) }

/-- The record of a role change (R475, kind 0x0030). -/
def roleEvent (old new : Nat) : EvRec := { kind := 0x30, value := new, old := old }

/-- The chunks received reach from 0 to a length without a gap (R492). -/
def covers (got : List (Nat × List Byte)) (n : Nat) : Bool :=
  decide (n ≤ (sortBy (fun x => x.1) got).foldl (fun e x => if x.1 ≤ e then Nat.max e (x.1 + x.2.length) else e) 0)

/-- A transfer is complete. -/
def Xfer.complete (x : Xfer) : Bool := covers x.got x.length

/-- The byte at a place of a transfer: that of the last chunk that holds it. -/
def chunkByte (got : List (Nat × List Byte)) (i : Nat) : Byte :=
  got.foldl (fun b x => if x.1 ≤ i ∧ i < x.1 + x.2.length then at! x.2 (i - x.1) else b) 0

/-- The bytes of a transfer. -/
def Xfer.bytes (x : Xfer) : List Byte := (List.range x.length).map (chunkByte x.got)

/-- A transfer has been idle for 600 s (R442). -/
def xferIdle (now : Nat) (x : Option Xfer) : Bool :=
  match x with
  | some y => decide (y.lastT + 5760000 ≤ now)
  | none => false

/-- The opcodes of R443. -/
def cmdTable : List Nat :=
  [0x0101, 0x0102, 0x0103, 0x0104, 0x0110, 0x0111, 0x0112, 0x0201, 0x0202, 0x0203, 0x0210, 0x0211, 0x0301, 0x0302, 0x0303, 0x0304,
   0x0305, 0x0401, 0x0402, 0x0403, 0x0404, 0x0405, 0x0406, 0x0407, 0x0501, 0x0502, 0x0503, 0x0601, 0x0602, 0x0603, 0x0701, 0x0702] ++
  [0x0703, 0x0704, 0x0801, 0x0802, 0x0803, 0x0804, 0x0805, 0x0901, 0x0902, 0x0903, 0x0A01, 0x0A02, 0x0A03, 0x0B01, 0x0B02, 0x0B03,
   0x0B04, 0x0B05, 0x0C01, 0x0C02, 0x0C03, 0x0C10, 0x0C11, 0x0C12, 0x0C13, 0x0D01, 0x0D02, 0x0D03, 0x0E01, 0x0E02, 0x0E03, 0x0E04]

/-- A number of `n` bytes in a sparse memory (R432). -/
def ramNum (l : List (Nat × Byte)) (a n : Nat) : Nat := leNat ((List.range n).map (fun k => ramGet l (a + k)))

/-- Opcode of BLOCK_CHECK. -/
def opBlockCheck : Nat := 0x0303
/-- Opcode of BLOCK_ACTIVATE. -/
def opBlockActivate : Nat := 0x0304
/-- Opcode of HOOD_LOAD. -/
def opHoodLoad : Nat := 0x0403
/-- Opcode of UPD_STAGE. -/
def opUpdStage : Nat := 0x0B03

/-- Opcode of HANDOVER. -/
def opHandover : Nat := 0x0A02

/-- Opcode of KEY_ENROL. -/
def opKeyEnrol : Nat := 0x0110

/-- Saturating 16-bit increment. -/
def sat16 (n : Nat) : Nat := Nat.min (n + 1) 65535

end Sys2Proof

namespace Sys2Proof.Machine

/-! ### Events, messages, free values -/

/-- An engine-local event record for the next phase F. -/
def State.localEvent (r : EvRec) (s : State) : State := { s with evr := { s.evr with localEv := s.evr.localEv ++ [r] } }

/-- Tick-driven event records for the next phase F. -/
def State.tickEvents (l : List EvRec) (s : State) : State := { s with evr := { s.evr with tickEv := s.evr.tickEv ++ l } }

/-- Something leaves the engine. -/
def State.emit (x : List Emit) (s : State) : State := { s with out := s.out ++ x }

/-- Frames leave on the Felt link, each on the lanes that are up (R390). -/
def State.sendFelt (l : List FeltFrame) (s : State) : State :=
  { s with
    pair := { s.pair with feltSeq := s.pair.feltSeq + if s.pair.linkUp then l.length else 0 }
    out := s.out ++ (mapI (fun i x => feltCopies s.pair s.life.role s.fit (s.evr.state == 2) (s.pair.feltSeq + 1 + i) x) l).flatten }

/-- Records that a failed recorder sends reach a recorder (R487): the link is up, and the partner's has not failed too. -/
def State.recReach (s : State) : Bool := s.pair.linkUp && !s.pair.pevrBad

/-- The active engine sends to its partner. -/
def State.toPartner (l : List FeltFrame) (s : State) : State := s.sendFelt (if s.life.role = 1 then l else [])

/-- The next free value is used up. -/
def State.used (s : State) : State := { s with free := s.free + 1 }

/-- Write points as their writers, stamped with the present tick. -/
def State.write (ws : List PtWrite) (s : State) : State := { s with sig := s.sig.writes s.tsu.id ws }

/-! ### Roles (R40, R43) -/

/-- Take a role, with its record (R475). -/
def State.setRole (n : Nat) (s : State) : State :=
  if n = s.life.role then s
  else { s with life := { s.life with role := n }, evr := { s.evr with localEv := s.evr.localEv ++ [roleEvent s.life.role n] } }

/-- The partner runs the same Block with the same applied Hoods (R412): the last of them names the chain beneath it (R305). -/
def State.sameConfig (s : State) : Bool := s.pair.pblock == s.block.blockId && s.pair.phood == lastHood s.hood.chain

/-- The role that leaves Waiting (R43, R369): only once the Block has passed, the hardware is sound (R9, R10) and the initial
alignment is past. A pair without an active partner waits for the Hat. -/
def State.takeRole (s : State) : State :=
  if s.life.role ≠ 0 || !s.life.blockOk || !s.fit || s.life.strapBad || s.life.hwBad ||
      (s.tsu.initOpen && s.block.time.initStep) || s.blk.isNone then s
  else
    match s.block.pair.roleDecl with
    | 2 => s.setRole 4
    | 0 => s.setRole 6
    | _ =>
      if s.hat.latch then s.setRole 1
      else if s.pair.linkUp && s.pair.prole == 1 && s.pair.ppart == idPart s.life.variant && s.sameConfig then s.setRole 5
      else s

/-! ### Checks -/

/-- What a Block or Hood check knows of this engine. -/
def State.checkEnv (s : State) : CheckEnv :=
  { part := idPart s.life.variant, serial := s.sca.serial.toNat, unitB := s.unitB, fw := s.life.fwVer, lanes := idLanes s.life.variant
    bays := idBays s.life.variant, keys := s.sca.keys, ident := if s.sca.ident then some s.sca.identN else none }

/-! ### Resets (R43, R44, R516) -/

/-- What a reset leaves: the non-volatile parts (log entry 28), the inputs' standing, and the reset cause, which after a debug
unlock is that of R513. Records still staged are named in the tombstone cell (R484, R485). The engine then waits for its start
(POWER_UP). -/
def State.resetEngine (cause : Nat) (s : State) : State :=
  { pending := s.pending
    life := { variant := s.life.variant, unit := s.life.unit, issue := s.life.issue, cause := s.life.cause
              prevCause := s.life.cause != 0, lost := s.sig.forces.length
              resetCause := if s.sca.debug then 0x10008 else cause, fwVer := s.life.fwVer, eccCorr := s.life.eccCorr, eccDisc := s.life.eccDisc
              sealBad := s.life.sealBad, cellLow := s.life.cellLow }
    tsu := { ports := s.tsu.ports.map (fun p => { forced := p.forced, copper := p.copper }) }
    afe := { lanes := s.afe.lanes.map (fun l => { present := l.present }) }
    pbi := { cages := s.pbi.cages }
    fio := { dis := s.fio.dis.map (fun d => { raw := d.raw }) }
    hood := hoodAfterReset (s.store.slot s.store.bootAt)
    drc := drcAfterReset (cause == 0x10000) s.drc
    evr := evrAfterReset (evrStop s.tsu.id s.logic.ltc s.evr)
    pair := pairAfterReset s.pair
    cp := { crl := s.cp.crl }
    store := s.store.afterReset
    upd := { s.upd with begun := 0, matches_ := 0, fallPend := false, fellBack := s.upd.fellBack && cause == 0x10004 }
    sca := { s.sca with debug := false }
    psu := { feedA := s.psu.feedA, feedB := s.psu.feedB }
    free := s.free
    out := s.out }

/-! ### Fall-back of an unconfirmed image (R508) -/

/-- The record of a firmware fall-back (R475, kind 0x0061). -/
def fallEvent (to_ left : BitVec 32) : EvRec := { kind := 0x61, value := to_.toNat, old := left.toNat }

/-- The confirm window has ended; an engine whose supply has failed flushes its recorders and resets (R525). -/
def State.windowEnded (s : State) : Bool :=
  !s.upd.confirmed && s.life.booted && !s.psu.failed && decide (s.upd.begun + s.block.time.confWin * 9600 ≤ s.tsu.statTick)

/-- The fall-back itself: the old image and the Blocks it knows, with a tombstone entry. LAST_FAIL (R505) is 6 where the window's end leads
here at once; DESIGN CHOICE: 7 where it came in role 1, and the confirmation was not reached before the handover either (log entry 47). -/
def State.fallBack (s : State) : State :=
  let t : State := { s with
    life := { s.life with fwVer := s.upd.altVer }
    upd := { s.upd with slot := !s.upd.slot, altVer := s.life.fwVer, hash := s.upd.altHash, altHash := s.upd.hash, confirmed := true
                        fellBack := true, fallPend := false, lastFail := if s.upd.fallPend then 7 else 6 }
    store := s.store.giveUp
    evr := tombPut (tickStamp s.tsu.id s.logic.ltc (fallEvent s.upd.altVer s.life.fwVer)) s.evr }
  t.resetEngine 0x10004

/-- The window's end: role 1 waits for its handover, and raises "firmware unconfirmed" until then. -/
def State.firmwareFallback (s : State) : State :=
  if !s.windowEnded then s
  else if s.life.role = 1 then { s with upd := { s.upd with fallPend := true } }
  else s.fallBack

/-- An engine whose fall-back waited in role 1 falls back as soon as it has left it (R508). -/
def State.fallDue (s : State) : State := if s.upd.fallPend && !s.upd.confirmed && s.life.role != 1 && !s.psu.failed then s.fallBack else s

/-- Output enable follows the latch and the partner's loop (R335, R377, R381). -/
def State.enableStep (s : State) : State := { s with fio := setEnable s.hat.enable s.fio }

/-- Output enable falls at once where latch or loop no longer allow it; it rises later (OUTPUT_ENABLE_RISE, R381). -/
def State.enableLower (s : State) : State := { s with fio := if s.hat.enable then s.fio else setEnable false s.fio }

/-- A grant of the present tick is taken back (R46): latch, role and its record are as if it had not arrived. -/
def State.undoGrant (s : State) : State :=
  match s.hat.was with
  | none => s
  | some r =>
    ({ s with
      hat := { s.hat with latch := false, fresh := false, granted := false, grants := s.hat.grants - 1, was := none }
      life := { s.life with role := r }
      pair := { s.pair with prole := if r ≠ s.life.role && s.pair.prole == 5 then 1 else s.pair.prole }
      evr := { s.evr with localEv := if r = s.life.role then s.evr.localEv else s.evr.localEv.filter (fun e => !(e.kind == 0x30 && e.old == r)) } } :
      State).enableStep

/-- The engine becomes unhealthy (R44): it commits no further image, releases its Hat request and records the cause; a grant of
the same tick has no effect (R46). One that leaves already goes on counting from there. -/
def State.unhealthy (cause : Nat) (s : State) : State :=
  if !s.life.healthy then s
  else
    let t := s.undoGrant
    { t with
      life := { t.life with healthy := false, cause := cause, prevCause := false, sickTicks := some (t.life.sickTicks.getD 0) }
      hat := { t.hat with taken := t.life.sickTicks.isSome && t.hat.taken }
      evr := { t.evr with localEv := t.evr.localEv ++ [{ kind := 0x32, subject := cause }] } }

/-- The partner has taken the Hat since this engine became unhealthy or leaves (R44): the witness revokes only when it grants to
the other engine (R389). -/
def State.hatTaken (s : State) : Bool := s.hat.taken && !s.hat.latch

/-- An unhealthy or leaving engine resets once the partner has taken the Hat, or after 20 ticks (R43, R44); after a supply failure the
recorders are flushed first (R525). -/
def State.resetDue (s : State) : Bool :=
  !s.psu.failed && match s.life.sickTicks with
    | some n => decide (20 ≤ n) || s.hatTaken
    | none => false

/-- A record of the cause that the recorder has not written yet goes to the tombstone cell (R44, R486): a staged one as it is, another
with the stamp of the present tick. -/
def keepCause (id : TickId) (ltc : Nat) (e : Evr) : Evr :=
  let mine (l : List EvRec) : List EvRec := l.filter (fun r => r.kind == 0x32 && !r.rflags.getLsbD 1)
  (mine e.queue ++ (mine e.localEv).map (tickStamp id ltc)).foldl (fun e r => tombPut r e) e

/-- The reset of R44: its cause is that of the health, or of the command. -/
def State.resetHealth (s : State) : State :=
  ({ s with evr := keepCause s.tsu.id s.logic.ltc s.evr } : State).resetEngine (if s.life.leaving then s.life.resetCause else s.life.cause)

/-- See `resetHealth`: where it is due. -/
def State.resetIfDue (s : State) : State := if s.resetDue then s.resetHealth else s

/-- An accepted command or event makes the engine leave (R43): in role 1 it acts as an unhealthy one, and one that is unhealthy already
goes on counting its 20 ticks (R44); else it resets at once. -/
def State.leave (cause : Nat) (s : State) : State :=
  { s with life := { s.life with leaving := true, resetCause := cause
                                 sickTicks := some (if s.life.role = 1 then s.life.sickTicks.getD 0 else 20) }
           hat := { s.hat with taken := s.life.sickTicks.isSome && s.hat.taken } }

/-! ### Sessions (R435 to R437) -/

/-- The session of a request, where it is valid on its carrier. -/
def State.session (r : Req) (s : State) : Option Session :=
  s.svc.sessions.find? (fun x => x.id.toNat == r.session && x.carrier.same r.carrier)

/-- Close the sessions that satisfy a condition; transfers that belong to them go on until they are discarded (R442). -/
def State.closeSessions (f : Session → Bool) (s : State) : State :=
  { s with svc := { s.svc with sessions := s.svc.sessions.filter (fun x => !f x) } }

/-- Change a session: that of its number on its carrier (R435). -/
def State.modSession (x : Session) (f : Session → Session) (s : State) : State :=
  { s with svc := { s.svc with sessions := s.svc.sessions.map (fun y => if y.id = x.id && y.carrier.same x.carrier then f y else y) } }

/-! ### Responses (R430, R433) -/

/-- Write a response where it belongs and give the mailbox back: DOORBELL clears, then DONE sets. -/
def State.respond (dst : Reply) (x : Resp) (s : State) : State :=
  match dst with
  | .host i =>
    { s with hpi := { s.hpi with
        ram := ramPutAll s.hpi.ram (mbxBase i) (respBytes x)
        doorbell := s.hpi.doorbell &&& ~~~(1#16 <<< i)
        done := s.hpi.done ||| (1#16 <<< i) } }
  | .net a =>
    { s with cp := { s.cp with assocs := s.cp.assocs.map (fun y => if y.id = a then { y with pending := y.pending - 1, recs := y.recs + 1 } else y) }
             out := s.out ++ [.response a x] }
  | _ => s

/-- A carrier whose earlier request has not been answered yet: a mailbox that the MP owns (R430). -/
def State.owned (c : Carrier) (s : State) : Bool :=
  match c with
  | .host i => s.svc.acts.any (fun x => x.reply == .host i.val) || s.svc.waits.any (fun x => x.1 == c)
  | .net _ => false

/-- A request keeps its mailbox until its action has been applied (R430). -/
def State.own (c : Carrier) (s : State) : State :=
  match c with
  | .host i => { s with hpi := { s.hpi with doorbell := s.hpi.doorbell ||| (1#16 <<< i.val), done := s.hpi.done &&& ~~~(1#16 <<< i.val) } }
  | .net _ => s

/-! ### The command skeleton (R438) -/

/-- What a command that passed its checks does: the next state, and the response or that it comes later. -/
structure Ans where
  s       : State
  status  : Nat := 0
  payload : List Byte := []
  ntick   : Nat := 0
  later   : Bool := false

/-- A signature verifies under an enrolled key. -/
def State.keySigned (keyId : Nat) (hash : List Byte) (sig : BitVec 768) (s : State) : Bool :=
  match s.sca.keys.find? (fun k => k.id == keyId) with
  | some k => ecdsaOk k.key hash sig
  | none => false

/-- What the trailer of a request in a session is made over (R434): ID_SERIAL, ENONCE and the request. -/
def State.signedBytes (c : CmdSpec) (r : Req) (x : Session) (s : State) : List Byte :=
  leBytes s.sca.serial.toNat 8 ++ leBytes x.enonce.toNat 32 ++ reqBytes c r

/-- The trailer verifies under the key of the request's session (R434). -/
def State.sigGood (c : CmdSpec) (r : Req) (s : State) : Bool :=
  match s.session r with
  | some x => s.keySigned x.keyId (sha384 (s.signedBytes c r x)) r.sig
  | none => false

/-- The TAG of a request is above that of the last signed command that its session had accepted (R437). -/
def tagNew (x : Session) (r : Req) : Bool := match x.lastTag with | some n => decide (n < r.tag) | none => true

/-- Step 3 of R438: session, privilege, signature and TAG. -/
def State.authed (c : CmdSpec) (r : Req) (s : State) : Bool :=
  match c.priv with
  | none => r.session == 0 || (s.session r).isSome
  | some p =>
    match s.session r with
    | some x => x.authed && x.priv.getLsbD p && (!c.signed || (s.sigGood c r && tagNew x r))
    | none => false

/-- A signature of a valid session has failed. -/
def State.sigFailed (c : CmdSpec) (r : Req) (s : State) : Bool := c.signed && (s.session r).isSome && !s.sigGood c r

/-- Steps 2 to 4 of R438: the first status that applies; 0 where all pass. -/
def State.verdict (c : CmdSpec) (r : Req) (s : State) : Nat :=
  if (c.formBad r).isSome then 0x0101
  else if !s.authed c r then 0x0102
  else if !roleOk s.life.role c then 0x0103
  else 0

/-- The field that fails step 3 of R438: the trailer, the TAG, else the SESSION. -/
def State.authField (c : CmdSpec) (r : Req) (s : State) : Nat :=
  if s.sigFailed c r then trailerAt r
  else if c.signed && !((s.session r).map (fun x => tagNew x r)).getD true then 4
  else 12

/-- ERR_OFS of a refusal (R433): the offset of the offending field. -/
def State.errOfs (c : CmdSpec) (r : Req) (st : Nat) (s : State) : Nat :=
  if st = 0x0100 then 0
  else if st = 0x0104 then noField
  else if (c.formBad r).isSome then (c.formBad r).getD noField
  else if !s.authed c r then s.authField c r
  else if !roleOk s.life.role c then noField
  else
    match c.named with
    | some (ofs, n) => if st = 0x0103 && !ntickOk s.logic.ltc n then ofs else ownField c.op st
    | none => ownField c.op st

/-- A request arrives: on the host port it stands in its mailbox (R432), and the idle time of its session starts anew (R435). -/
def State.touch (c : CmdSpec) (r : Req) (s : State) : State :=
  { s with
    svc := { s.svc with sessions := s.svc.sessions.map (fun x =>
      if x.id.toNat = r.session && x.carrier.same r.carrier then { x with idle := s.tsu.statTick } else x) }
    hpi := match r.carrier with
      | .host i => { s.hpi with ram := ramPutAll s.hpi.ram (mbxBase i.val) (mailBytes c r) }
      | .net _ => s.hpi }

/-- An accepted signed command advances the session's TAG (R437). -/
def State.markTag (c : CmdSpec) (r : Req) (s : State) : State :=
  if c.signed then
    { s with svc := { s.svc with sessions := s.svc.sessions.map (fun x =>
        if x.id.toNat = r.session && x.carrier.same r.carrier then { x with lastTag := some r.tag } else x) } }
  else s

/-- Refuse a request; refused force commands are counted on their own (R323). -/
def State.refuse (c : CmdSpec) (r : Req) (st : Nat) (sigBad : Bool) (s : State) : State :=
  { (s.respond r.carrier.reply { status := st, opcode := c.op, tag := r.tag, session := r.session, errOfs := s.errOfs c r st }) with
    svc := { s.svc with refused := s.svc.refused + 1, sigFails := s.svc.sigFails + boolNat sigBad }
    hood := if c.op = 0x0501 || c.op = 0x0502 then { s.hood with refused := s.hood.refused + 1 } else s.hood }

/-- A request reaches the MP: the port is open (R422) and the mailbox free (R430); over a network, its record has come on an open
command-set association and waits for its answer (R469). -/
def State.reached (c : Carrier) (s : State) : Bool :=
  s.hpi.magic && !s.owned c && (match c with
    | .host _ => true
    | .net a => s.cp.assocs.any (fun x => x.id == a && x.service == 1 && x.pending != 0))

/-- A mailbox command (R438): nothing happens to a request that does not reach the MP. -/
def State.command (c : CmdSpec) (r : Req) (go : State → Except Nat Ans) (s : State) : State :=
  if !s.reached r.carrier then s
  else
    let s1 := s.touch c r
    match s1.verdict c r with
    | 0 =>
      match go s1 with
      | .ok a =>
        if a.later then (a.s.markTag c r).own r.carrier
        else (a.s.markTag c r).respond r.carrier.reply
          { status := a.status, opcode := c.op, tag := r.tag, session := r.session, ntick := a.ntick, payload := a.payload }
      | .error st => s1.refuse c r st (c.op == 0x0102 && st == 0x0102 && (s1.session r).isSome)
    | st => s1.refuse c r st (s1.sigFailed c r)

/-- The plain answer: status 0 with a payload. -/
def State.ok (payload : List Byte) (s : State) : Except Nat Ans := .ok { s := s, payload := payload }

/-- An accepted action is queued (R27); in role 1 it is mirrored to the partner before anything else (R440). -/
def State.pushAct (x : Action) (s : State) : State :=
  ({ s with svc := { s.svc with acts := s.svc.acts ++ [x] } } : State).toPartner [.mirror s.logic.ltc (.action x)]

/-- A signed command's action carries what its signature is made over, so that the partner can check it again (R512). -/
def State.signAct (c : CmdSpec) (r : Req) (x : Action) (s : State) : Action :=
  match s.session r with
  | some y => if c.signed then { x with priv := c.priv, hash := sha384 (s.signedBytes c r y), sig := r.sig } else x
  | none => x

/-- An action of the partner may take effect here (R512): a signed one verifies under an own key with its privilege. -/
def State.trusts (x : Action) (s : State) : Bool :=
  match x.priv with
  | some p => signedBy s.sca.keys p x.hash x.sig
  | none => true

/-- Accept an operator action for its named tick (R27, R440): the response follows when it has been applied. -/
def State.actAt (c : CmdSpec) (r : Req) (ntick : Nat) (a : Act) (s : State) : Except Nat Ans :=
  if !ntickOk s.logic.ltc ntick then .error 0x0103
  else
    let key := ((s.session r).map (·.keyId)).getD 0
    .ok { s := s.pushAct (s.signAct c r { act := a, ntick := ntickOf s.logic.ltc ntick, opcode := c.op, keyId := key, session := r.session
                                          reply := r.carrier.reply, tag := r.tag })
          later := true }

/-- Answer an action that has been applied (R438, R440). -/
def State.answer (x : Action) (status : Nat) (payload : List Byte) (s : State) : State :=
  s.respond x.reply { status := status, opcode := x.opcode, tag := x.tag, session := x.session, ntick := x.ntick, payload := payload }

/-- Points of forces accepted for a tick before `n` and still waiting: they will be held when tick `n` comes (R321). -/
def State.waitingForces (n : Nat) (s : State) : List Nat :=
  s.svc.acts.filterMap (fun x => match x.act with
    | .forceSet p _ _ => if x.ntick < n then some p else none
    | _ => none)

/-! ### Jobs (R442) -/

/-- Jobs that run. -/
def State.running (s : State) : List Job := s.svc.jobs.filter (fun j => j.state == 1)

/-- A job of an opcode may be opened: fewer than 4 run, none of that opcode. -/
def State.jobFree (op : Nat) (s : State) : Bool :=
  decide (s.running.length < 4) && !s.running.any (fun j => j.opcode == op)

/-- Open a job: 0x0001 with its number. -/
def State.openJob (j : Job) (s : State) : Except Nat Ans :=
  if !s.jobFree j.opcode then .error 0x0104
  else
    let n := s.svc.nextJob
    .ok { s := { s with svc := { s.svc with jobs := s.svc.jobs ++ [{ j with no := n, state := 1, begun := s.tsu.statTick }]
                                            nextJob := n + 1 } }
          status := 1, payload := leBytes n 4 }

/-- A job ends (R442): MBX_EVT JOB sets, and it stays reportable for 60 s. -/
def State.endJob (no state final : Nat) (result : BitVec 64) (s : State) : State :=
  { s with
    svc := { s.svc with jobs := s.svc.jobs.map (fun j =>
      if j.no = no && j.state = 1 then { j with state := state, final := final, result := result, endedAt := s.tsu.statTick } else j) }
    hpi := { s.hpi with evt := if s.svc.jobs.any (fun j => j.no == no && j.state == 1) then s.hpi.evt ||| 8 else s.hpi.evt } }

/-- The running job of an opcode. -/
def State.jobOf (op : Nat) (s : State) : Option Job := s.running.find? (fun j => j.opcode == op)

/-- Jobs that ended more than 60 s ago are forgotten (R442). -/
def State.dropJobs (s : State) : State :=
  { s with svc := { s.svc with jobs := s.svc.jobs.filter (fun j => j.state == 1 || decide (s.tsu.statTick < j.endedAt + 576000)) } }

/-- KEY_ENROL_TIMEOUT (R512): 60 s without the button. RESULT is a free value (log entry 6). -/
def State.enrolTimeout (s : State) : State :=
  match s.jobOf opKeyEnrol with
  | some j => if j.begun + 576000 ≤ s.tsu.statTick then { s.endJob j.no 3 0x0102 (Config.jobResult s.free) with free := s.free + 1 } else s
  | none => s

/-- TRANSFER_DISCARD (R442): of a Block (0), a Hood (1), an update package (2). -/
def State.discardIdle (kind : Nat) (s : State) : State :=
  match kind with
  | 0 => if xferIdle s.tsu.statTick s.store.xfer then { s with store := { s.store with xfer := none, checked := false } } else s
  | 1 => if xferIdle s.tsu.statTick s.store.hoodX then { s with store := { s.store with hoodX := none } } else s
  | _ => if xferIdle s.tsu.statTick s.upd.xfer then { s with upd := { s.upd with xfer := none, stage := 0 } } else s

/-! ### Hoods (R305, R306) -/

/-- The identity that a Hood's BASE_ID must name: the last applied Hood, or the running Block. -/
def State.hoodBase (s : State) : BitVec 128 := match s.hood.chain.getLast? with | some h => h.hoodId | none => s.block.blockId

/-- Bytes of the current slot in use: its Block and its chain (R493). -/
def State.hoodRoom (s : State) : Nat := (s.store.cur.map (·.length)).getD 0 + (s.hood.chain.map (·.length)).sum

/-- The check of a Hood against the running configuration. -/
def State.checkHood (h : Hood) (s : State) : Nat :=
  hoodCheck s.checkEnv s.block s.hoodBase s.hood.chain.length s.hoodRoom h

end Sys2Proof.Machine
end

