-- ==== Sys2Proof/Machine/Wire.lean ====
section
/-! DEFINITION. How messages of the station protocols leave: their objects, types and addresses (R359, R464 to R467), the window of IEC 104,
the record counts of TLS (R458); associations and connections and their end (R455). -/

namespace Sys2Proof

/-- Group, variations and default variation of a point in DNP3 by its TYPE (R465): static or, with its time, an event. -/
def dnpObject (typ : Nat) (ev : Bool) : Nat × List Nat × Nat :=
  match typ, ev with
  | 1, false => (1, [1, 2], 2)
  | 1, true => (2, [1, 2, 3], 2)
  | 2, false => (3, [1, 2], 2)
  | 2, true => (4, [1, 2, 3], 2)
  | 6, false => (30, [5], 5)
  | 6, true => (32, [7], 7)
  | _, false => (20, [1, 5], 1)
  | _, true => (22, [1, 5], 5)

/-- Type identification of a point in IEC 104 (R464): with CP56Time2a where it is spontaneous; counters always so. -/
def typ104 (typ : Nat) (ev : Bool) : Nat :=
  match typ, ev with
  | 1, true => 30
  | 2, true => 31
  | 6, true => 36
  | 1, false => 1
  | 2, false => 3
  | 6, false => 13
  | _, _ => 37

/-- ASDU of a point in IEC 103 without one of its own in the map (R467). -/
def asdu103 (typ : Nat) : Nat := if typ = 6 then 9 else 1

/-- A value in registers, high word first, each register high byte first (R466). -/
def modbusBytes (p : Point) : List Byte := (leBytes p.value.toNat (2 * modbusRegs p.typ.toNat)).reverse

/-- The object of a point in a protocol's map. -/
def ProtoMaps.obj (m : ProtoMaps) (proto i : Nat) : Option MapObj :=
  (at! m.maps proto).find? (fun o => match o.target with | .point j => j == i | .control _ => false)

/-- How a message carries a point. -/
def ptForm (m : ProtoMaps) (utc : Nat → Nat) (x : StMsg) (p : Nat × Point) : PtForm :=
  let o := (m.obj x.proto p.1).getD {}
  let t := p.2.typ.toNat
  { typ := (match x.proto with
      | 1 => typ104 t x.ev
      | 2 => if 2560 ≤ x.var then x.var
             else let g := dnpObject t x.ev; 256 * g.1 + (if x.var = 0 then g.2.2 else x.var)
      | 3 => modbusRegs t
      | 4 => if o.asdu = 0 then asdu103 t else o.asdu
      | _ => 0)
    addr := o.addr
    utc := utc (p.2.sec.toNat * 9600 + p.2.nsec.toNat * 9600 / 1000000000) }

/-- A message of IEC 104 in a frame of I format, which the other side acknowledges. -/
def StMsg.iFrame (m : StMsg) : Bool := m.proto == 1 && m.kind != 5 && !(m.kind == 4 && m.code != 0)

end Sys2Proof

namespace Sys2Proof.Machine

/-- Change one connection of IEC 104. -/
def State.modConn (i : Nat) (f : Conn104 → Conn104) (s : State) : State := { s with cp := { s.cp with conns := s.cp.conns.modify i f } }

/-- Change the association of a number. -/
def State.modAssoc (id : Nat) (f : Assoc → Assoc) (s : State) : State :=
  { s with cp := { s.cp with assocs := s.cp.assocs.map (fun a => if a.id = id then f a else a) } }

/-- A message as it is sent: its objects; the edition of its association (R459); the common address (R464); IIN2.3 while events of a
master are lost (R453). -/
def State.dress (m : StMsg) (s : State) : StMsg :=
  let b := s.block
  { m with
    forms := m.pts.map (ptForm b.proto (utcAt b.time s.tsu) m)
    edition := if m.proto = 0 then ((s.cp.assocs.find? (fun a => a.id == m.conn)).map (·.edition)).getD b.proto.defEdition else m.edition
    ca := if m.proto = 1 then b.proto.ca104 else m.ca
    ovfl := m.ovfl || (m.proto == 2 && (at! s.cp.dnps m.conn).ovfl) }

/-- A station message leaves the engine: over its TLS association it is one record (R458); a frame of I format acknowledges what came and
waits while k of them are unacknowledged (R464). -/
def State.say (m : StMsg) (s : State) : State :=
  let x := s.dress m
  if m.proto = 0 then (s.modAssoc m.conn (fun a => { a with recs := a.recs + 1 })).emit [.station x]
  else if m.iFrame then
    let c := at! s.cp.conns m.conn
    if s.block.proto.k104 ≤ c.unacked then s.modConn m.conn (fun c => { c with wait := c.wait ++ [m] })
    else (s.modConn m.conn (fun c => { c with
      unacked := c.unacked + 1, toAck := 0, sentT := if c.unacked = 0 then s.tsu.statTick else c.sentT })).emit [.station x]
  else s.emit [.station x]

/-- Station messages leave in their order. -/
def State.sayAll (l : List StMsg) (s : State) : State := l.foldl (fun t m => t.say m) s

/-- What waits on a connection goes on as far as k allows. -/
def State.flush104 (i : Nat) (s : State) : State :=
  let w := (at! s.cp.conns i).wait
  (s.modConn i (fun c => { c with wait := [] })).sayAll w

/-- A report control block is buffered. -/
def rcbBuffered (i : Nat) : Bool := decide (i < 128)

/-- An association ends: its sessions close (R435), and its unbuffered reports end. -/
def State.tlsClose (assoc : Nat) (s : State) : State :=
  let t : State := { s with cp := { s.cp with
    assocs := s.cp.assocs.filter (fun a => a.id != assoc)
    rcbs := mapI (fun i r => if !rcbBuffered i && r.assoc == assoc then { r with on := false } else r) s.cp.rcbs } }
  t.closeSessions (fun x => x.carrier == .net assoc)

/-- The pair address is released: what is connected to it ends, and the clients must connect anew (R455). -/
def State.dropPairAddr (s : State) : State :=
  let t := (s.cp.assocs.filter (·.pair)).foldl (fun t a => t.tlsClose a.id) s
  { t with
    cp := { t.cp with conns := t.cp.conns.map (fun c => if c.pair then {} else c), dnps := t.cp.dnps.map (fun d => if d.pair then {} else d) }
    phe := { t.phe with syncs := t.phe.syncs.map (fun x => if x.viaPair then { x with on := false, viaPair := false, ready := [] } else x) } }

end Sys2Proof.Machine
end

