-- ==== Sys2Proof/Machine/Actions.lean ====
section
/-! DEFINITION. Operator actions of R27 in phase A of their named tick, in the order of R322; what some of them set up when they
are accepted; the answers after the tick. -/

namespace Sys2Proof

/-- Rank of an action within a tick (R322). A Block activation comes before the four kinds that the rule orders (log
entry 30). -/
def Act.rank : Act → Nat
  | .blockActivate => 0
  | .hoodSwap => 1
  | .forceRelease _ => 2
  | .forceSet .. => 3
  | _ => 4

/-- The slot of a control. -/
def Act.slot : Act → Option Nat
  | .ctlSelect k _ _ _ => some k
  | .ctlOperate k _ _ _ _ => some k
  | .ctlCancel k _ => some k
  | .slotReset k _ => some k
  | _ => none

/-- The Test flag of a control (R460). -/
def Act.test : Act → Option Bool
  | .ctlSelect _ _ _ t => t
  | .ctlOperate _ _ _ t _ => t
  | _ => none

/-- How a protocol names a control's result (R461): CROB status, Modbus exception, ACTCON or, of kind 6, ACTTERM (0
positive, 1 negative), an MMS AddCause. `mode` says that the refusal is for the slot's mode. -/
def outcome (proto conn r : Nat) (mode : Bool) : StMsg :=
  let m : StMsg := { proto := proto, conn := conn, kind := 2, res := r }
  if proto = 0 then
    { m with cause := (match r with
        | 2 => .blockedByProcess
        | 3 => if mode then .blockedByMode else .invalidPosition
        | 4 => .blockedByInterlocking
        | 5 => .objectNotSelected
        | 6 => .oneOfN
        | 7 => .timeLimitOver
        | 8 => .terminationPositive
        | 9 => .terminationNegative
        | _ => .none) }
  else if proto = 2 then { m with code := (match r with | 1 => 0 | 2 => 5 | 3 => 4 | 4 => 10 | 5 => 2 | 6 => 5 | 7 => 1 | _ => 0) }
  else if proto = 3 then { m with code := (match r with | 1 => 0 | 2 => 6 | _ => 4) }
  else { m with code := if r = 1 || r = 8 then 0 else 1, kind := if r = 8 || r = 9 then 6 else 2 }

/-- The status of a control's result (R244). -/
def resStatus (r : Nat) : Nat := if r = 1 || r = 8 then 0 else if r = 2 then 0x0104 else 0x0103

end Sys2Proof

namespace Sys2Proof.Machine

/-- What an accepted action sets up at once, in the accepting engine and in the one it is mirrored to: an armed Hood (R308), an
armed clock step (R352, R368), the tick of a prepared activation (R498). -/
def State.prepare (x : Action) (s : State) : State :=
  match x.act with
  | .hoodSwap => { s with hood := { s.hood with armed := some x.ntick, swapped := false } }
  | .timeStep sec nsec =>
    { s with tsu := { s.tsu with arm := true, stepAt := s.tsu.statTick + (x.ntick - s.logic.ltc), stepSec := sec, stepNsec := nsec } }
  | .blockActivate => { s with store := { s.store with act := s.store.act.map (fun a => { a with at_ := some x.ntick }) } }
  | _ => s

/-- A Hood swap at its tick S (R309). -/
def State.swapHood (s : State) : State :=
  match s.hood.armed, s.hood.held, s.blk with
  | some n, some h, some b =>
    if s.logic.ltc < n then s
    else
      let r := hoodSwapGo b h s.logic s.sig
      let u := swapUnit r h s.logic.ltc s.hood
      { s with blk := some r.blk, logic := r.lg, sig := r.sg, hood := u, store := s.store.keep u.chain u.marked
               evr := { s.evr with tickEv := s.evr.tickEv ++ r.events } }
  | _, _, _ => s

/-- A cancel withdraws the armed Hood (R310): it returns to loaded; the swap command is answered with 0x0103 (log entry 30). -/
def State.cancelHood (s : State) : State :=
  let swaps := s.svc.acts.filter (fun x => x.act == .hoodSwap)
  let s1 := { s with hood := { s.hood with armed := none }, svc := { s.svc with acts := s.svc.acts.filter (fun x => x.act != .hoodSwap) } }
  swaps.foldl (fun s x => s.answer x 0x0103 []) s1

/-- The new Block takes effect (R498): it becomes current and the old current previous, or both are exchanged; the directory
is written within 1 s; an engine in role 0 goes on from step 4 of R41 (R495). -/
def State.applyActivation (s : State) : State :=
  match s.store.act with
  | none => s
  | some a =>
    let s1 := s.activate a.blk
    let x := if a.prev then s1.store.exchange else s1.store.take a.blk []
    let s2 := { s1 with
      store := { x with act := none, checked := false, partnerOk := none, xfer := if a.prev then s1.store.xfer else none
                        dirDue := some (s.logic.ltc + 9600) }
      life := { s1.life with blockOk := true } }
    (s2.endJob a.job 2 0 (BitVec.ofNat 64 s.logic.ltc)).takeRole

/-- Write a command-path point (R28, R443) and let the field control points act (R333, R337). -/
def State.writePoint (i : Nat) (v : BitVec 64) (s : State) : State :=
  let w : PtWrite := { idx := i, value := v }
  { s with sig := s.sig.write s.tsu.id w, fio := fioControl i v s.fio }

/-- A control reaches its slot, for the BSQ step of this tick (R233, R244). -/
def State.request (slot : Nat) (q : CtlReq) (s : State) : State :=
  { s with slots := s.slots.modify slot (fun y => { y with reqs := y.reqs ++ [q] }) }

/-- One operator action takes effect. A force that waited for a tick in which an activation or a swap leaves its point no longer
forceable is not set, and is answered with 0x02C0 (R318, R321, R538; log entry 30). -/
def State.applyAct (x : Action) (s : State) : State :=
  match x.act with
  | .hoodSwap => s.swapHood
  | .hoodCancel => s.cancelHood
  | .forceRelease p => { s with sig := forceReleaseAll p s.sig }
  | .forceSet p q v => if forceable s.block p then { s with sig := forceSet s.tsu.id s.logic.ltc p q v x.session s.sig } else s
  | .groupSwitch g => s.write [wE 0x63402 g]
  | .modeSet t m => s.write [wE (modePt t) m]
  | .simSet on => s.write [wB 0x63403 on]
  | .pointWrite p v => s.writePoint p v
  | .ctlSelect slot v by_ t => s.request slot { kind := 0, value := v, by_ := by_, test := t, reply := x.reply }
  | .ctlOperate slot v by_ t d => s.request slot { kind := 1, value := v, by_ := by_, test := t, reply := x.reply, direct := d }
  | .ctlCancel slot by_ => s.request slot { kind := 2, by_ := by_ }
  | .slotReset slot k => s.request slot { kind := 3, value := k }
  | .drcTrigger p => { s with drc := { s.drc with plans := s.drc.plans.modify p (fun y => { y with manual := true }) } }
  | .timeStep _ _ => s
  | .blockActivate => s.applyActivation

/-- Actions whose named tick has come, in the order of R322. -/
def State.dueActs (s : State) : List Action :=
  sortBy (fun x => x.act.rank) (s.svc.acts.filter (fun x => decide (x.ntick ≤ s.logic.ltc)))

/-- COMMAND_ACTION_APPLY: every due action takes effect, each with its record of kind 0x0002; an activation, which R27 does not
name, has kind 0x0016 instead. -/
def State.applyActs (s : State) : State :=
  let due := s.dueActs
  let s1 := { s with
    svc := { s.svc with acts := s.svc.acts.filter (fun x => !decide (x.ntick ≤ s.logic.ltc)) }
    done := s.done ++ due
    evr := { s.evr with actEv := s.evr.actEv ++ (due.filter (fun x => x.act != .blockActivate)).map actionEvent } }
  due.foldl (fun s x => s.applyAct x) s1

/-- The result of the control that is the n-th of its slot in this tick. -/
def State.ctlResult (slot n : Nat) (s : State) : Nat := at! (at! s.slots slot).results n

/-- The answer to an applied action (R440, R244): a control's result from its slot, `n` controls of the slot being before it in
the tick; the tick identity of S for a Hood swap. -/
def State.answerAct (x : Action) (n : Nat) (s : State) : State :=
  match x.reply with
  | .none => s
  | .station p c =>
    match x.act.slot with
    | some k =>
      let r := s.ctlResult k n
      s.say (outcome p c r (r == 3 && !ctlAllowed (s.sig.mode k) x.act.test))
    | none => s.say { proto := p, conn := c }
  | _ =>
    match x.act with
    | .hoodSwap => s.answer x 0 (idBytes s.tsu.id)
    | .blockActivate => s
    | .forceSet p _ _ => s.answer x (if (s.sig.force p).isSome then 0 else 0x02C0) []
    | _ =>
      match x.act.slot with
      | some k => s.answer x (resStatus (s.ctlResult k n)) (leBytes (s.ctlResult k n) 4)
      | none => s.answer x 0 []

/-- The answers of phase F. -/
def State.answerActs (s : State) : State :=
  let d := s.done
  d.zipIdx.foldl (fun s (e : Action × Nat) =>
    s.answerAct e.1 ((d.take e.2).filter (fun y => y.act.slot.isSome && y.act.slot == e.1.act.slot)).length) { s with done := [] }

/-- The selector of R206 is read in phase A: a change of its value switches the group, an ignored value is counted. -/
def State.selectorStep (s : State) : State :=
  match s.block.selector with
  | none => s
  | some p =>
    let n := selValue s.sig p
    match s.logic.selLast with
    | none => { s with logic := { s.logic with selLast := some n } }
    | some old =>
      if old = n then s
      else
        let s1 := { s with logic := { s.logic with selLast := some n } }
        if 1 ≤ n ∧ n ≤ 8 then s1.write [wE 0x63402 n]
        else { s1 with logic := { s1.logic with selIgn := s1.logic.selIgn + 1 } }

end Sys2Proof.Machine
end

