-- ==== Sys2Proof/Machine/Plaus.lean ====
section
/-! DEFINITION. A standby's comparisons of its own inputs with the mirrored ones (R394). DESIGN CHOICE: a window is 960 ticks with mirror
data, sums are exact, roots are rounded down to 2^-16 of a sample's LSB, a window with an invalid mirrored sample is not compared, and one
with an invalid own sample beside valid mirrored ones disagrees, as R536 has it of a withdrawn cassette (log entry 118). Both engines run one Block, so a channel's K is the same in both and the rms values are compared in LSB. -/

namespace Sys2Proof

/-- Ticks of a window. -/
def plausTicks : Nat := 960

/-- A sample's value in LSB, squared. -/
def sampleSq (w : BitVec 32) : Nat := ((w.setWidth 24 : BitVec 24).toInt.natAbs) ^ 2

/-- An own and a mirrored sample join the window. -/
def PlausChan.add (own mir : BitVec 32 × BitVec 16) (c : PlausChan) : PlausChan :=
  { c with own := c.own + sampleSq own.1, mir := c.mir + sampleSq mir.1, n := c.n + 1, bad := c.bad || qBad mir.2
           gone := c.gone || qBad own.2 && !qBad mir.2 }

/-- Rms in 2^-16 LSB. -/
def plausRms (sum n : Nat) : Nat := Nat.sqrt (sum * 2 ^ 32 / n)

/-- The difference exceeds PL_TOL (in 0.1 %) of the mirrored rms plus 0.2 % of the full scale, which is 2^23 LSB. -/
def PlausChan.differs (tol : Nat) (c : PlausChan) : Bool :=
  let a := plausRms c.own c.n
  let m := plausRms c.mir c.n
  decide (tol * m + 2 * 2 ^ 39 < 1000 * (Nat.max a m - Nat.min a m))

/-- The window of a channel closes: its next state and what R417 shows, 0 agrees, 1 disagrees in every window for PL_TIME (in windows),
2 not compared. -/
def PlausChan.close (tol time : Nat) (c : PlausChan) : PlausChan × Nat :=
  if c.bad || c.n == 0 then ({}, 2)
  else if c.gone || c.differs tol then ({ runs := c.runs + 1 }, boolNat (decide (time ≤ c.runs + 1)))
  else ({}, 0)

/-- A sample that the active engine accepted meets the own reception. -/
def PlausStream.add (st : Stream) (f : Nat × Nat × List (Int × BitVec 32)) (v : PlausStream) : PlausStream :=
  match (st.find f.1).filter (·.arrived) with
  | some x => { n := v.n + 1, bad := v.bad || x.raws != f.2.2, miss := 0 }
  | none => { v with n := v.n + 1, miss := v.miss + 1 }

/-- A stream disagrees: another value in the window, or none of its samples received for 1 s. -/
def PlausStream.off (hz : Nat) (v : PlausStream) : Bool := v.bad || decide (hz ≤ v.miss)

/-- Rate of a stream of a Block. -/
def streamHz (b : Block) (n : Nat) : Nat := (((b.streams[n]?).getD none).map StreamDesc.hz).getD 4800

/-- PLAUSIBILITY_WINDOW: a full window is evaluated. -/
def plausWindow (b : Block) (p : Pair) : Pair :=
  if p.plausW < plausTicks then p
  else
    let c := p.plausC.map (PlausChan.close b.pair.plTol b.pair.plTime)
    { p with
      plausW := 0, plausC := c.map (·.1), plaus := c.map (·.2)
      plausV := p.plausV.map (fun v => { miss := v.miss })
      plausS := mapI (fun n (v : PlausStream) => if v.off (streamHz b n) then 1 else if v.n = 0 then 2 else 0) p.plausV }

/-- The accepted samples of a stream's item. -/
def MirrorItem.accepted : MirrorItem → List (Nat × (Nat × Nat × List (Int × BitVec 32)))
  | .sv n _ _ _ fs => fs.map (fun f => (n, f))
  | _ => []

/-- The sample of a channel's item. -/
def MirrorItem.sampleOf : MirrorItem → Option (Nat × (BitVec 32 × BitVec 16))
  | .sample ch w q => some (ch, w, q)
  | _ => none

/-- Ticks for which an input's own filtered state has differed from the mirrored one. -/
def plausInput (b : Block) (sg : Sig) (i : Nat) (d : DiState) (n : Nat) : Nat :=
  let m := sg.under (0x61000 + i)
  match d.acc with
  | some v => if (at! b.field.dis i).en && !qBad m.qual && v != m.bool then n + 1 else 0
  | none => 0

/-- A tick with mirror data: `afe`, `pbi` and `fio` hold the own results, `sg` the points as mirrored. -/
def plausTick (b : Block) (afe : Afe) (pbi : Pbi) (fio : Fio) (sg : Sig) (items : List MirrorItem) (p0 : Pair) : Pair :=
  let p := plausWindow b p0
  let v := (items.flatMap MirrorItem.accepted).foldl (fun l f => l.modify f.1 (PlausStream.add (at! pbi.streams f.1) f.2)) p.plausV
  let d := mapI (fun i n => plausInput b sg i (at! fio.dis i) n) p.plausD
  let g := mapI (fun i n => let x := at! fio.grps i; if x.sup ≠ x.supMir then n + 1 else 0) p.plausG
  { p with
    plausW := p.plausW + 1
    plausC := (items.filterMap MirrorItem.sampleOf).foldl (fun l x => l.modify x.1 (PlausChan.add (at! afe.last x.1) x.2)) p.plausC
    plausV := v, plausS := mapI (fun n s => if (at! v n).off (streamHz b n) then 1 else s) p.plausS
    plausD := d, plausG := g
    plausDi := d.any (fun n => decide (ticksOfMs b.pair.diDisc ≤ n)) || g.any (fun n => decide (96 ≤ n)) }

/-- Outside roles 2 and 5 nothing is compared. -/
def plausNone (p : Pair) : Pair :=
  { p with plaus := List.replicate 64 2, plausS := List.replicate 96 2, plausDi := false, plausW := 0, plausC := List.replicate 64 {}
           plausV := List.replicate 96 {}, plausD := List.replicate 128 0, plausG := List.replicate 6 0 }

end Sys2Proof
end

