-- ==== Sys2Proof/Machine/Synchro.lean ====
section
/-! DEFINITION. Synchrophasor reports (R161 to R164): terms, completion, STAT, time quality. -/

namespace Sys2Proof

/-- P_R and H of a stream (R162). -/
def SyncStream.period (s : SyncStream) : Nat := 9600 / s.rate
/-- H = 9,600 / (2 × FNOM). -/
def syncHalf (fnom : Nat) : Nat := 4800 / fnom
/-- Half-length of the class M mean: 2 P_R; 0 in class P. -/
def SyncStream.span (s : SyncStream) : Nat := if s.classM then 2 * s.period else 0

/-- Weight of a term before normalisation (R162): 0.5 + 0.5 cos(π u / (2 P_R + 1)). -/
def syncWeight (pr : Nat) (u : Int) : F32 :=
  let h := F.ofRat 1 2
  F.add h (F.mul h (F.cos (F.div (F.mul F.pi (F.ofInt u)) (F.ofNat (2 * pr + 1)))))

/-- Sum of the weights in ascending u. -/
def syncTotal (pr : Nat) : F32 :=
  F.sum ((List.range (4 * pr + 1)).map (fun (i : Nat) => syncWeight pr ((i : Int) - (2 * pr : Int))))

/-- Alignment of a data block's group. -/
def syncAlign (b : Block) (s : SyncStream) (i : Nat) : Nat := groupAlign b (at! b.groups (at! s.groups i))
/-- A_max of a stream (R163). -/
def syncAmax (b : Block) (s : SyncStream) : Nat := (mapI (fun i _ => syncAlign b s i) s.groups).foldl Nat.max 1

/-- A phasor point read as a complex with its quality. -/
def readCx (sg : Sig) (i : Nat) : Cx × BitVec 16 := let p := sg.rd i; (p.cx, p.qual)

/-- A term joins a data block's sums: the phasor itself in class P, its weighted share in class M. -/
def syncTerm (w : Option F32) (old : List (Cx × BitVec 16)) (now : List (Cx × BitVec 16)) : List (Cx × BitVec 16) :=
  match w with
  | none => now
  | some k => mapI (fun i (x : Cx × BitVec 16) =>
      let o := (old[i]?).getD ({}, 0)
      (F.cadd o.1 (F.cscale k x.1), qComb o.2 x.2)) now

/-- One tick of a report being formed: every data block whose term falls in this tick takes it. `g` is the tick's grid
number. -/
def syncStep (b : Block) (s : SyncStream) (sg : Sig) (g : Nat) (a : SyncAcc) : SyncAcc :=
  let h := syncHalf b.fnom
  let pr := s.period
  let hits := mapI (fun i (grp : Nat) =>
    let u : Int := (g : Int) - (syncAlign b s i : Int) - (h : Int) - (a.t : Int)
    let on := if s.classM then decide (u.natAbs ≤ 2 * pr) else decide (u = 0)
    (i, grp, u, on)) s.groups
  { a with
    sums := hits.map (fun (x : Nat × Nat × Int × Bool) =>
      let old := at! a.sums x.1
      if x.2.2.2 then
        syncTerm (if s.classM then some (F.div (syncWeight pr x.2.2.1) (syncTotal pr)) else none) old
          ((at! s.items x.1).map (readCx sg))
      else old)
    freqs := hits.map (fun (x : Nat × Nat × Int × Bool) =>
      if x.2.2.2 then
        let f := sg.rd (groupBase x.2.1 + 0x110)
        let r := sg.rd (groupBase x.2.1 + 0x111)
        ((f.real, f.qual), (r.real, r.qual))
      else (a.freqs[x.1]?).getD ((0, 1), (0, 1))) }

/-- The UTC offset of a completing report's instant (R359), as its changes are known by then, and its analog and digital values.
DESIGN CHOICE (log entry 45): the spec does not say of which tick these values are; the model takes those of the tick that completes the
report. -/
def syncDone (s : SyncStream) (sg : Sig) (utcAt : Nat → Nat) (a : SyncAcc) : SyncAcc :=
  { a with utc := utcAt a.t
           analog := s.analogs.map (fun l => l.map (fun i => let p := sg.rd i; (p.real, p.qual)))
           digital := s.digitals.map (fun l => l.map (fun i => let p := sg.published i; (p.bool, p.qual))) }

/-- One stream for one tick (R162, R163): a report is begun with its first term and is ready with its last; while
transmission is off it is dropped. -/
def syncTick (b : Block) (s : SyncStream) (sg : Sig) (utcAt : Nat → Nat) (g : Nat) (x : SyncState) : SyncState :=
  let h := syncHalf b.fnom
  let start : Nat := g + s.span - Nat.min (g + s.span) (h + 1)
  let fresh : List SyncAcc :=
    if s.rate = 0 then []
    else if start % s.period = 0 && !x.accs.any (fun a => a.t == start) then [{ t := start, sums := s.groups.map (fun _ => []) }] else []
  let accs := (x.accs ++ fresh).map (syncStep b s sg g)
  let last (a : SyncAcc) : Bool := decide (a.t + h + syncAmax b s + s.span ≤ g)
  let done := (accs.filter last).map (syncDone s sg utcAt)
  { x with accs := accs.filter (fun a => !last a), ready := if x.on then x.ready ++ done else []
           cfgTicks := x.cfgTicks - 1 }

/-- All streams in phase F of a tick. -/
def syncPhaseF (b : Block) (sg : Sig) (utcAt : Nat → Nat) (g : Nat) (ph : Phe) : Phe :=
  { ph with syncs := mapI (fun i (x : SyncState) => match b.proto.syncs[i]? with
      | some s => syncTick b s sg utcAt g x
      | none => x) ph.syncs }

/-- STAT of a data block (R164). -/
def syncStat (c : TimeCfg) (role : Nat) (t : Tsu) (sg : Sig) (changed : Bool) (grp : Nat) (bad : Bool) : BitVec 16 :=
  let m := sg.mode grp
  BitVec.ofNat 16 ((if m = 3 || m = 4 then 2 ^ 15 else if bad then 2 ^ 15 + 2 ^ 14 else 0)
    + 2 ^ 13 * boolNat (!tsuGlobal c role t) + 2 ^ 10 * boolNat changed + 2 ^ 6 * statTq (estNow t) + 2 ^ 4 * unlockCode t)

/-- A member in its format (R161): an invalid one is NaN, or 0x8000 as an integer (R164). -/
def syncVal (n kind : Nat) (float : Bool) (x : F32) (q : BitVec 16) : SyncVal :=
  if float then .real (if qBad q then F.nan else x) else .int (if qBad q then 0x8000 else Config.syncInt n kind x)

/-- The two parts of a phasor: real and imaginary, or magnitude and angle. -/
def syncParts (polar : Bool) (c : Cx) : F32 × F32 := if polar then (F.cabs c, F.atan2 c.im c.re) else (c.re, c.im)

/-- A digital word (R161): bit j the j-th of 16 points; an invalid point reads as it stands. -/
def digWords (l : List (Bool × BitVec 16)) : List (BitVec 16) :=
  let word (k : List (Bool × BitVec 16)) : BitVec 16 := BitVec.ofNat 16 (packBits (k.map (·.1)))
  if l.isEmpty then [] else if l.length ≤ 16 then [word l] else [word (l.take 16), word (l.drop 16)]

/-- Data block `i` of a report: any invalid member of it sets bits [15:14] of its STAT (R164). -/
def syncBlock (c : TimeCfg) (role : Nat) (t : Tsu) (sg : Sig) (changed : Bool) (n : Nat) (s : SyncStream) (a : SyncAcc) (i grp : Nat) :
    SyncBlock :=
  let ph := at! a.sums i
  let f := (a.freqs[i]?).getD ((0, 1), (0, 1))
  let an := at! a.analog i
  let dg := at! a.digital i
  let bad := ph.any (fun x => qBad x.2) || qBad f.1.2 || qBad f.2.2 || an.any (fun x => qBad x.2) || dg.any (fun x => qBad x.2)
  { idcode := at! s.idcodes i
    stat := syncStat c role t sg changed grp bad
    phasors := ph.map (fun x => let p := syncParts s.polar x.1; (syncVal n 0 s.floatFmt p.1 x.2, syncVal n 0 s.floatFmt p.2 x.2))
    freq := syncVal n 1 s.floatFreq f.1.1 f.1.2
    dfreq := syncVal n 2 s.floatFreq f.2.1 f.2.2
    analogs := an.map (fun x => syncVal n 0 true x.1 x.2)
    digitals := digWords dg }

/-- FRACSEC of a report instant (R163). -/
def syncFrac (s : SyncStream) (t : Nat) : Nat := (t % 9600) * s.timeBase / 9600

/-- The leap-second bits of the time-quality byte (R364): 0 pending, 1 occurred, 2 direction, a deletion. PRESUMED (log entry 113): their
order and the 24 h for which "occurred" stays set are those of IEEE C37.118.2. -/
def leapBits (t : Tsu) : Nat :=
  let past := t.leapAt.filter (fun x => decide (TickId.grid t.id < x.1 + 86400 * 9600))
  let del := if t.lsp then t.lsdel else past.any (·.2)
  boolNat t.lsp + 2 * boolNat past.isSome + 4 * boolNat del

/-- The time-quality byte of FRACSEC (R364). -/
def syncQuality (c : TimeCfg) (role : Nat) (t : Tsu) : Nat :=
  fracsecCode (tsuGlobal c role t) (estNow t) + 16 * leapBits t

/-- What a data block reports: IDCODE, the points of its phasors, analog values and digital words. -/
def cfgBlock (s : SyncStream) (i grp : Nat) : C37Block :=
  { idcode := at! s.idcodes i, group := grp, phasors := at! s.items i, analogs := at! s.analogs i, digitals := at! s.digitals i }

/-- Everything a group could report (R468): fundamentals and sequence components, and the real points of the group. -/
def fullBlock (b : Block) (s : SyncStream) (i grp : Nat) : C37Block :=
  let e := at! b.groups grp
  let base := groupBase grp
  { cfgBlock s i grp with
    phasors := e.chans.map (fun c => base + 0x10 + c.1) ++
      (mapI (fun k (x : SetEntry) => if x.kind = 0 then [] else (List.range 4).map (fun j => base + 0x100 + 4 * k + j)) e.sets).flatten
    analogs := e.chans.flatMap (fun c => [base + 0xE0 + c.1, base + 0xF0 + c.1]) ++ (List.range 3).map (fun k => base + 0x110 + k) ++
      (if e.sets[e.pwrV]?.isSome && e.sets[e.pwrI]?.isSome then (List.range 10).map (fun k => base + 0x118 + k) else []) }

/-- A header or configuration frame of a stream (R468): `kind` 0 HDR, 1 CFG-1 with what every group could report, 2 CFG-2 and 3 CFG-3
with the stream as it is configured. -/
def c37Cfg (b : Block) (n kind : Nat) : C37Cfg :=
  match b.proto.syncs[n]? with
  | none => {}
  | some s =>
    { timeBase := s.timeBase, rate := s.rate, fnom := b.fnom, floatFmt := s.floatFmt, polar := s.polar, floatFreq := s.floatFreq
      blocks := if kind = 0 then [] else mapI (fun i g => if kind = 1 then fullBlock b s i g else cfgBlock s i g) s.groups }

end Sys2Proof
end

