-- ==== Sys2Proof/Machine/Publish.lean ====
section
/-! DEFINITION. What phase F publishes: GOOSE (R462, R463, R245), sampled values (R133, R134), the change queue (R452, R453). -/

namespace Sys2Proof

/-- Value and quality of a published attribute. -/
def pubValue (sg : Sig) (i : Nat) : BitVec 64 × BitVec 16 := let p := sg.published i; (p.value, p.qual)

/-- The dataset of a publication. -/
def pubVals (sg : Sig) (p : GoosePub) : List (BitVec 64 × BitVec 16) := p.members.map (pubValue sg)

/-- stNum after a change: it wraps past 0. -/
def nextStNum (n : Nat) : Nat := if n = 4294967295 then 1 else n + 1

/-- A change of the dataset (R463): stNum rises, sqNum is 0, the next frame follows at TMIN. -/
def pubChange (p : GoosePub) (vals : List (BitVec 64 × BitVec 16)) (x : PubState) : PubState :=
  { vals := vals, stNum := nextStNum x.stNum, sqNum := 0, ival := p.tmin, due := p.tmin, live := true }

/-- A retransmission (R463): sqNum rises, the interval doubles up to TMAX. -/
def pubRepeat (p : GoosePub) (x : PubState) : PubState :=
  { x with sqNum := (x.sqNum + 1) % 4294967296, ival := Nat.min (2 * x.ival) p.tmax, due := Nat.min (2 * x.ival) p.tmax }

/-- A publication in phase F of a tick: next state, and whether a frame is due. -/
def pubStep (p : GoosePub) (vals : List (BitVec 64 × BitVec 16)) (x : PubState) : PubState × Bool :=
  if !x.live || x.vals != vals then (pubChange p vals x, true)
  else if x.due ≤ 1 then (pubRepeat p x, true)
  else ({ x with due := x.due - 1 }, false)

/-- PRIORITY of a publication (R463): 6 by default in the trip class, else 4. -/
def GoosePub.prio (p : GoosePub) : Nat := p.priority.getD (if p.tripClass then 6 else 4)

/-- The frame of a publication: timeAllowedToLive is twice the interval to the next frame, here in ticks; the test flag of Edition 1 is
set while a member carries the test bit; Edition 2.1 has fixed lengths (R462). -/
def pubFrame (n : Nat) (p : GoosePub) (x : PubState) : Emit :=
  .goose { pub := n, stNum := x.stNum, sqNum := x.sqNum, tal := 2 * x.ival, test := p.edition == 1 && x.vals.any (fun v => qTest v.2)
           edition := p.edition, fixedLen := p.edition == 21, process := p.onProcess, station := p.onStation
           priority := p.prio, vlan := p.vlan, vals := x.vals }

/-- All publications of a tick: frames of the trip class leave first (R70). -/
def pubsStep (b : Block) (sg : Sig) (l : List PubState) : List PubState × List Emit :=
  let r := mapI (fun i (x : PubState) =>
    match b.proto.goosePubs[i]? with
    | some p => let y := pubStep p (pubVals sg p) x; (y.1, if y.2 then [(p.tripClass, pubFrame i p y.1)] else [])
    | none => (x, [])) l
  let fs := (r.map (·.2)).flatten
  (r.map (·.1), (fs.filter (·.1)).map (·.2) ++ (fs.filter (fun f => !f.1)).map (·.2))

/-- Places of the change queue (R452). -/
def queueCap : Nat := 65536

/-- The change queue takes an entry with a copy of its record for each published point that changed in the tick; a tick that does not
fit is left out as a whole, and every protocol raises its overflow indication and takes a fresh image (R452, R453). -/
def queueStep (sg : Sig) (id : TickId) (c : Cp) : Cp :=
  let es := (sg.chg.map (fun e => let p := sg.rd e.1
    ({ point := e.1, id := id, rec_ := p, vchg := e.2.value != p.value, qchg := e.2.qual != p.qual } : ChgEntry))).filter
      (fun e => e.rec_.published && e.rec_.flags.getLsbD 1)
  if c.queue.length + es.length ≤ queueCap then { c with queue := c.queue ++ es }
  else
    { c with ovfTicks := c.ovfTicks + 1
             rcbs := mapI (fun i r => { r with ovfl := r.ovfl || i < 128, image := true }) c.rcbs
             conns := c.conns.map (fun x => if x.started then { x with image := true } else x)
             dnps := c.dnps.map (fun x => { x with ovfl := true })
             gi103 := true }

end Sys2Proof

namespace Sys2Proof.Machine

/-- The change queue in phase F (R452). -/
def State.queueTick (s : State) : State := { s with cp := queueStep s.sig s.tsu.id s.cp }

/-- Publication in phase F. Only the wearer of the Hat sends (R134, R457); the state of the publications is dynamic state and
runs in every engine that evaluates protection (R463). -/
def State.publish (s : State) : State :=
  let b := s.block
  let g := pubsStep b s.sig s.cp.pubs
  let v := svPublish b s.sig s.tsu.id s.afe s.pbi
  { s with
    pbi := v.1
    phe := syncPhaseF b s.sig (utcAt b.time s.tsu) (TickId.grid s.tsu.id) s.phe
    cp := { s.cp with pubs := g.1 }
    out := if s.hat.latch && s.fit then s.out ++ g.2 ++ v.2.map (fun f => .sv f.1 f.2.1 (if tsuGlobal b.time s.life.role s.tsu then 2 else 0) f.2.2.1 f.2.2.2) else s.out }

end Sys2Proof.Machine
end

