-- ==== Sys2Proof/Machine/Snapshot.lean ====
section
/-! DEFINITION. Pins and snapshot banks (R446 to R451). How the registers lie within a block area is the model's choice: packed
in the order R450 names them (log entry 29). -/

namespace Sys2Proof

/-- Bytes cut or filled with zeros to a size. -/
def padTo (n : Nat) (l : List Byte) : List Byte := (l ++ List.replicate n 0#8).take n

/-- Two-bit states, four to a byte. -/
def packTwo : List Nat → List Byte
  | a :: b :: c :: d :: r => BitVec.ofNat 8 (a + 4 * b + 16 * c + 64 * d) :: packTwo r
  | [a, b, c] => [BitVec.ofNat 8 (a + 4 * b + 16 * c)]
  | [a, b] => [BitVec.ofNat 8 (a + 4 * b)]
  | [a] => [BitVec.ofNat 8 a]
  | [] => []

/-- The 32 bytes of a point record (R32). -/
def pointBytes (p : Point) : List Byte :=
  leBytes p.value.toNat 8 ++ leBytes p.sec.toNat 8 ++ leBytes p.nsec.toNat 4 ++ leBytes p.qual.toNat 2 ++ leBytes p.gen.toNat 2 ++
  [p.typ, p.flags] ++ leBytes 0 6

/-- The header of a bank (R450). -/
def snapHeader (h : SnapHdr) : List Byte :=
  leBytes h.pinSeq 8 ++ leBytes h.statTick 8 ++ idBytes h.ident ++ leBytes h.ltc 8 ++ leBytes h.cycle 2 ++ leBytes h.src.toNat 2 ++
  leBytes (boolNat h.deferred) 2 ++ leBytes h.lost 4 ++ leBytes 0 14

/-- The 16 KiB of a bank (R450). -/
def bankBytes (b : Bank) : List Byte :=
  snapHeader b.hdr ++ padTo 0x13C0 b.areas ++ padTo 11264 (b.pts.flatMap pointBytes)

/-- Main-clock cycles of a PIN_OUT pulse: 1 µs (R451). -/
def pulseCycles : Nat := 246

end Sys2Proof

namespace Sys2Proof.Machine

/-- TSU area: the clock as it reads on the Pin's edge. -/
def State.areaTsu (cycle : Nat) (s : State) : List Byte :=
  let c := s.tsu.clkAt cycle
  padTo 192 (leBytes (c / fracOne / 1000000000) 8 ++ leBytes (c / fracOne % 1000000000) 4 ++ leBytes (c % fracOne) 4 ++
    leBytes s.tsu.gen.toNat 2 ++ leBytes s.tsu.st 2 ++ leBytes (BitVec.ofInt 64 s.tsu.lastOfs).toNat 8)

/-- AFE area. -/
def State.areaAfe (s : State) : List Byte :=
  padTo 256 (s.afe.lanes.flatMap (fun l => leBytes (laneStatus l) 4) ++ s.afe.lanes.flatMap (fun l => leBytes l.count 8))

/-- PBI area. -/
def State.areaPbi (s : State) : List Byte :=
  padTo 1024 (s.pbi.ports.flatMap (fun p => p.flatMap (fun n => leBytes n 4)) ++ s.pbi.streams.flatMap (fun x => leBytes x.state 1) ++
    packTwo (s.pbi.gcbs.map (fun x => x.2.state)))

/-- PHE area. -/
def State.areaPhe (s : State) : List Byte := padTo 512 (s.phe.groups.flatMap (fun g => leBytes g.fT 4 ++ leBytes g.src 4))

/-- BSQ area. -/
def State.areaBsq (s : State) : List Byte :=
  padTo 1024 (s.slots.flatMap (fun x => leBytes x.state 4 ++ leBytes x.tmr 4 ++ leBytes x.bfTmr 4))

/-- FIO area. -/
def State.areaFio (s : State) : List Byte :=
  padTo 256 (leBytes (packBits (s.fio.dis.map (·.raw))) 16 ++ leBytes (packBits (s.fio.outs.map (·.sw))) 12 ++
    leBytes (packBits (s.fio.outs.map (·.rb))) 12 ++ leBytes (packBits (s.fio.outs.map (·.ilim))) 12 ++
    leBytes (packBits (s.fio.outs.map (·.tsd))) 12 ++ leBytes (packBits (s.fio.grps.flatMap (fun g => [g.holding, g.expired]))) 2)

/-- FLK, HAT and WIT area. -/
def State.areaHat (s : State) : List Byte :=
  let frame (f : Option EngFrame) : List Byte := padTo 32 ((f.map engFrameBytes).getD [])
  padTo 256 (leBytes (packBits [s.pair.laneA, s.pair.laneB]) 1 ++ leBytes (packBits [s.hat.latch, s.hat.ownLoop, s.hat.ploop]) 1 ++
    leBytes s.pair.seq 2 ++ frame s.pair.sent ++ frame s.pair.pframe ++ padTo 32 s.hat.lastWit)

/-- The phase in which a cycle of a tick lies (R52): 0 A to 5 F. -/
def phaseOf (cycle : Nat) : Nat := ([1474, 6881, 19169, 22609, 23592].filter (fun n => decide (n ≤ cycle))).length

/-- TE0 to TE7 and BLU0 to BLU1: phase, ORDER of the executing entry, cycles spent and program position. ORDER and cycles depend on the
instant within the phase and are free values (log entry 6). -/
def State.areaUnits (cycle : Nat) (s : State) : List Byte :=
  padTo 1024 ((List.range 10).flatMap (fun u => leBytes (phaseOf cycle) 1 ++ leBytes 0 1 ++ padTo 6 (Config.unitSnapshot (10 * s.free + u)) ++
    leBytes (if u < 6 then 0 else (at! s.logic.work (u - 6)).pc) 4))

/-- DRC and EVR write positions: the last record with its frames written; the event recorder's position and last number. -/
def State.areaRec (s : State) : List Byte :=
  padTo 256 (leBytes s.drc.lastNo 4 ++ leBytes (((s.drc.rec_ s.drc.lastNo).map (·.written)).getD 0) 4 ++ leBytes s.evr.wpos 4 ++
    leBytes s.evr.lastSeq 8)

/-- MP, CP and HPI state: role and health, sessions, running jobs and waiting actions; the change queue, associations and connections; the
mailbox control registers. -/
def State.areaMp (s : State) : List Byte :=
  padTo 256 (leBytes s.life.role 1 ++ leBytes (boolNat s.life.healthy) 1 ++ leBytes s.svc.sessions.length 2 ++
    leBytes (s.svc.jobs.filter (fun j => j.state == 1)).length 2 ++ leBytes s.svc.acts.length 2 ++ leBytes s.cp.queue.length 4 ++
    leBytes s.cp.assocs.length 2 ++ leBytes (packBits (s.cp.conns.map (·.open_))) 2 ++ leBytes s.hpi.doorbell.toNat 4 ++
    leBytes s.hpi.done.toNat 4 ++ leBytes s.hpi.irqEn.toNat 4 ++ leBytes s.hpi.evt.toNat 4 ++ leBytes s.hpi.errOwned 2 ++ leBytes s.hpi.errUnmap 2)

/-- The block areas of a bank. -/
def State.areas (cycle : Nat) (s : State) : List Byte :=
  s.areaTsu cycle ++ s.areaAfe ++ s.areaPbi ++ s.areaPhe ++ s.areaUnits cycle ++ s.areaBsq ++ s.areaFio ++ s.areaHat ++ s.areaRec ++ s.areaMp

/-- A bank filled by a Pin, `back` ticks before the present one. -/
def State.bankOf (src : BitVec 6) (cycle : Nat) (deferred : Bool) (back : Nat) (s : State) : Bank :=
  { full := true, filling := true, areas := s.areas cycle
    hdr := { pinSeq := s.hpi.pinSeq + 1, statTick := s.tsu.statTick - back
             ident := if back = 0 then s.tsu.id else gridId (TickId.grid s.tsu.id - back) s.tsu.gen
             ltc := s.logic.ltc - back, cycle := cycle, src := src, deferred := deferred, lost := s.hpi.pinLost } }

/-- What became of an earlier Pin on an edge of the tick `back` ticks ago: none, or one with its bank or without. -/
def State.edgeTaken (cycle back : Nat) (s : State) : Option (Option Nat) := 
  (s.hpi.edges.find? (fun e => e.1 == (TickId.grid s.tsu.id - back, cycle))).map (·.2)

/-- A Pin (R446, R448, R449, R451) of the given sources, `back` ticks before the present one: those not enabled in PIN_CTRL make none;
sources that meet on one edge make one, whose header records all; with both banks full it is dropped and counted. -/
def State.pinBack (src : BitVec 6) (cycle : Nat) (deferred : Bool) (back : Nat) (s : State) : State :=
  let on := src &&& s.hpi.pinCtrl.setWidth 6
  let edge := (TickId.grid s.tsu.id - back, cycle)
  if on = 0 || !s.hpi.magic then s
  else
    match s.edgeTaken cycle back with
    | some none => s
    | some (some i) =>
      { s with hpi := { s.hpi with banks := s.hpi.banks.modify i (fun b =>
        if b.full then { b with hdr := { b.hdr with src := b.hdr.src ||| on, deferred := b.hdr.deferred || deferred } } else b) } }
    | none =>
      match s.hpi.banks.findIdx? (fun b => !b.full) with
      | none => { s with hpi := { s.hpi with pinLost := Nat.min (s.hpi.pinLost + 1) 0xFFFFFFFF, edges := s.hpi.edges ++ [(edge, none)] } }
      | some i =>
        let fwd : List FeltFrame := if s.hpi.pinCtrl.getLsbD 6 && !on.getLsbD 3 then [.pin s.tsu.id cycle] else []
        let po : List Emit := if s.hpi.pinCtrl.getLsbD 7 then [.pinOut cycle] else []
        ({ s with
          hpi := { s.hpi with
            banks := s.hpi.banks.set i (s.bankOf on cycle deferred back), pinSeq := s.hpi.pinSeq + 1, edges := s.hpi.edges ++ [(edge, some i)]
            pulseEnd := if s.hpi.pinCtrl.getLsbD 7 then s.tsu.cyc + cycle + pulseCycles else s.hpi.pulseEnd }
          free := s.free + 1 } : State).sendFelt fwd |>.emit po

/-- A Pin in the present tick. -/
def State.pin (src : BitVec 6) (cycle : Nat) (deferred : Bool) (s : State) : State := s.pinBack src cycle deferred 0

/-- The records of the snapshot point list after phase E of a tick are kept for its Pins (R450). -/
def State.takeSnap (s : State) : State :=
  { s with hpi := { s.hpi with snap := (s.block.hostv.snapList.take 352).map s.sig.rd, snapOld := s.hpi.snap } }

/-- Filling banks take the records of the snapshot point list as they stood after phase E of their tick, FILLING clears and MBX_EVT SNAP
sets (R448, R450). -/
def State.fillBanks (s : State) : State :=
  if s.hpi.banks.any (·.filling) then
    { s with hpi := { s.hpi with
        banks := s.hpi.banks.map (fun b =>
          if b.filling then { b with filling := false, pts := if b.hdr.ident = s.tsu.id then s.hpi.snap else s.hpi.snapOld } else b)
        evt := s.hpi.evt ||| 4 } }
  else s

/-- Release a bank (R447, R448): FULL clears, and what the bank holds stands until the next Pin. -/
def State.releaseBank (i : Nat) (s : State) : State :=
  { s with hpi := { s.hpi with banks := s.hpi.banks.modify i (fun b => { b with full := false }) } }

end Sys2Proof.Machine
end

