-- ==== Sys2Proof/Machine/Tick.lean ====
section
/-! DEFINITION. One tick of the engine: its start and phases A to F (R48 to R54), over the operations of the blocks. -/

namespace Sys2Proof

/-- Write a mirrored item's points (R391, R392): a mirrored record carries MIRRORED (R35). -/
def mirWrite (i : Nat) (p : Point) : PtWrite :=
  { idx := i, value := p.value, qual := p.qual, stamp := some { sec := p.sec.toNat, nsec := p.nsec.toNat, gen := p.gen }
    edge := !p.flags.getLsbD 4, mir := true, typ := p.typ }

/-- The point writes of an item. -/
def MirrorItem.writes : MirrorItem → List PtWrite
  | .sv _ _ ps _ _ => ps.map (fun e => mirWrite e.1 e.2)
  | .goose _ ps _ _ => ps.map (fun e => mirWrite e.1 e.2)
  | .input i p => [mirWrite i p]
  | _ => []

/-- The cause of R294 that an item carries: its code and subject. -/
def MirrorItem.causes : MirrorItem → List (Nat × Nat)
  | .sv n _ _ cs _ => cs.map (fun c => (c, n))
  | .goose n _ cs _ => cs.map (fun c => (c, n))
  | _ => []

/-- An intake cause as the error queue takes it. -/
def tickCause (c : Nat × Nat) : ErrCause := { code := c.1, subj := c.2 }

/-- The points of a stream or a control block in the intake map. -/
def subPoints (b : Block) (goose : Bool) (n : Nat) : List Nat :=
  (b.inMap.filter (fun m => m.goose == goose && m.sub == n)).map (·.point)

/-- The causes of a subscription among those of a tick (R294): of a control block 1 and 2, of a stream the others. -/
def causesOf (cs : List (Nat × Nat)) (goose : Bool) (n : Nat) : List Nat :=
  (cs.filter (fun c => (c.1 == 1 || c.1 == 2) == goose && c.2 == n)).map (·.1)

/-- The samples of a stream accepted for the tick with grid number `G` (R116): index, arrival stamp, members. -/
def svAccepted (d : StreamDesc) (G : Nat) (st : Stream) : List (Nat × Nat × List (Int × BitVec 32)) :=
  (st.samples.filter (fun x => x.verdict == some .accepted && firstGrid d.hz x.n == G - d.d)).map (fun x => (x.n, x.done, x.raws))

/-- The state that a control block begins to present in the tick. -/
def goosePresented (old new : Gcb) : List GooseState := if new.cur = old.cur then [] else new.cur.toList

/-- The mirror items of the tick with grid number `G` (R391): the committed samples of every enabled channel, process-bus decisions
with the accepted samples and the states presented, inputs, field supplies. `pbi0` is the intake before its phase A. -/
def mirrorItems (b : Block) (G : Nat) (sg : Sig) (afe : Afe) (pbi0 pbi : Pbi) (wF : List PtWrite) (cs : List (Nat × Nat)) (grps : List OutGroup) :
    List MirrorItem :=
  ((List.range 64).filter (fun ch => (at! afe.lanes (ch / 4)).mask.getLsbD (ch % 4))).map (fun ch =>
    let w := at! afe.last ch
    .sample ch w.1 w.2) ++
  (b.streams.zipIdx.filter (fun e => e.1.isSome)).map (fun e =>
    .sv e.2 (at! pbi.fed e.2) ((subPoints b false e.2).map (fun i => (i, sg.under i))) (causesOf cs false e.2)
      (svAccepted (e.1.getD {}) G (at! pbi.streams e.2))) ++
  (b.gooses.zipIdx.filter (fun e => e.1.isSome)).map (fun e =>
    .goose e.2 ((subPoints b true e.2).map (fun i => (i, sg.under i))) (causesOf cs true e.2)
      (goosePresented ((lkup pbi0.gcbs e.2).getD {}) ((lkup pbi.gcbs e.2).getD {}))) ++
  wF.map (fun w => .input w.idx (sg.under w.idx)) ++
  mapI (fun g (x : OutGroup) => .supply g x.sup) grps

/-- Item 4 of the digest (R395): the sums modulo 2^64 of the CRC-64 and of the number of the lines that hold what was written; the lines
of an item are the firmware's (log entry 10). -/
def writeAccum (l : List CopyItem) : Nat × Nat :=
  ((l.map (fun x => (Config.lineCrc x).toNat)).sum % 2 ^ 64, (l.map Config.lineCount).sum % 2 ^ 64)

/-- The items of a digest (R395): tick identity and LTC, the committed outputs, the trip and bf_trip bitmaps, the write
accumulator where it is part of the digest (R411). -/
def digestBytes (id : TickId) (ltc : Nat) (outs : List OutState) (slots : List SlotState) (acc : Option (Nat × Nat)) : List Byte :=
  leBytes id.sec 8 ++ leBytes id.k 2 ++ leBytes id.gen.toNat 2 ++ leBytes ltc 8 ++
  leBytes (packBits (outs.map (·.cmd))) 12 ++ leBytes (packBits (slots.map (·.trip))) 8 ++
  leBytes (packBits (slots.map (·.bfTrip))) 8 ++ (match acc with | some a => leBytes a.1 8 ++ leBytes a.2 8 | none => [])

/-- Largest cycles spent by unit and phase (R62). -/
def spentMax (l : List (List Nat)) (xs : List (Nat × Nat × Nat)) : List (List Nat) :=
  xs.foldl (fun l x => l.modify x.1 (fun r => r.modify x.2.1 (fun m => Nat.max m x.2.2))) l

/-- Points of the largest cycles (R62). -/
def spentWrites (l : List (List Nat)) : List PtWrite :=
  (mapI (fun u (r : List Nat) => mapI (fun p m => wN (0xF0100 + 8 * u + p) m) r) l).flatten

/-- Phase evaluations of the FLU in a tick (R225): one request of each scheduled instance with CURVE that is not off, of three
phases for a 51P and of one for the others (R207, R209). -/
def fluEvals (b : Block) (els : List ElemState) : Nat :=
  (((List.range 6).flatMap (fun u => ((schedOf b u 2).map (·.inst)).eraseDups)).map (fun n => match schedElem b n with
    | some (i, e) => if e.opts.testBit 2 && curveType e.etype && (at! els i).mode != 5 then (if e.etype = 0x0111 then 3 else 1) else 0
    | none => 0)).sum

/-- Points of streams and control blocks of which nothing has been accepted here: on own inputs they read invalid, as before a first
frame (R123, R125), whatever the mirror gave them. -/
def neverHeard (b : Block) (sg : Sig) (pbi : Pbi) : List PtWrite :=
  (b.inMap.filter (fun m => if m.goose then (let g := (lkup pbi.gcbs m.sub).getD {}; g.cur.isNone && !g.mism)
      else !(at! pbi.streams m.sub).started && !(m.backupEn && (at! pbi.streams m.sub).backup))).map (fun m =>
    let p := sg.under m.point
    { idx := m.point, value := p.value, qual := 1, typ := p.typ, edge := true
      stamp := some { sec := p.sec.toNat, nsec := p.nsec.toNat, gen := p.gen } })

/-- Start of unit B's frame `n` bus ticks after the last unit A frame `f`, which started at `at_` (R386). -/
def w1Predict (f : EngFrame) (at_ n : Nat) : Nat := at_ + w1Span f.sentAt n + w1Offset

/-- Ticks after a supply failure at which the hold-up ends and the engine is reset: 27.3 ms (R525, log entry 31). -/
def holdUpTicks : Nat := 262

end Sys2Proof

namespace Sys2Proof.Machine

/-! ### The start of a tick -/

/-- HAT_REQ (R387). -/
def State.hatReqNow (s : State) : Bool :=
  hatReq s.life.role s.fit (s.paired && s.life.blockOk && !s.life.strapBad && !s.life.hwBad) s.pair

/-- The engine frame that reports the last completed tick (R383, R387). -/
def State.engFrame (s : State) : EngFrame :=
  { unitB := s.unitB, seq := (s.pair.seq + 1) % 65536, tsec := s.tsu.id.sec % 4294967296, tk := s.tsu.id.k, tgen := s.tsu.id.gen.toNat
    role := s.life.role, healthy := s.fit, hatReq := s.hatReqNow, latch := s.hat.latch
    inStep := s.pair.inStep, synced := s.pair.synced, partnerAlive := s.pair.alive, staleOk := s.block.pair.staleOk, mixed := s.pair.mixed
    staleT := if s.life.role ∈ [0, 1, 4, 6] then 0 else s.pair.staleT
    hoTsec := match s.pair.ho with | some h => h.id.sec % 4294967296 | none => 0xFFFFFFFF
    hoTk := match s.pair.ho with | some h => h.id.k | none => 0
    cause := if s.life.healthy then 0 else s.life.cause }

/-- A frame is sent: SEQ, and the tick it reported (R385). -/
def State.sendFrame (start : Nat) (f : EngFrame) (id : TickId) (s : State) : State :=
  let n := (s.pair.seq + 1) % 65536
  { s with pair := { s.pair with seq := n, reported := id, sent := some { f with seq := n } }, out := s.out ++ [.engineFrame start { f with seq := n }] }

/-- A generation and a UTC offset that have changed are held in the sealed area at once (R359, R371); `old` is the TSU before. -/
def State.sealTime (old : Tsu) (s : State) : State :=
  { s with sca := { s.sca with gen := if s.tsu.gen = old.gen then s.sca.gen else s.tsu.gen
                               utc := if s.tsu.utcOfs = old.utcOfs then s.sca.utc else s.tsu.utcOfs } }

/-- A process or station cage whose module serves its port (R531): with any other the port is down. -/
def State.portUp (port : Nat) (s : State) : Bool := at! s.pbi.cages port == .sx || at! s.pbi.cages port == .lx || at! s.pbi.cages port == .t

/-- An event message leaves a port at `instant`, stamped there (R353), at no earlier instant than what came before it (R372). -/
def State.sendEvent (port instant : Nat) (f : Nat → Emit) (s : State) : State :=
  let x := (at! s.tsu.ports port).tx (s.tsu.eventAt instant)
  { s with tsu := (s.tsu.note instant).txNote port x, out := s.out ++ [f x] }

/-- After a step of the clock from `clk`: input filters, fast channels and the ends of GOOSE states keep their elapsed time (log
entry 93). -/
def State.stepShift (clk : Nat) (s : State) : State :=
  if s.tsu.clk = clk then s
  else
    let d : Int := ((s.tsu.clk : Int) - clk) / (fracOne : Int)
    { s with
      fio := { s.fio with dis := s.fio.dis.map (diShift d)
                          fasts := s.fio.fasts.map (fun f : FastState => { f with edges := f.edges.map (fun e => ((e : Int) + d).toNat) }) }
      pbi := { s.pbi with gcbs := s.pbi.gcbs.map (fun g => (g.1, { g.2 with ends := g.2.ends.map (fun e => ((e : Int) + d).toNat) })) } }

/-- The clock advances to the next tick start and an armed step applies (R48, R51, R352); lanes follow (R100). -/
def State.advance (s : State) : State :=
  let t := advanceTick s.tsu
  let r := applyArmed t
  (({ s with
    tsu := r.1
    afe := { s.afe with lanes := s.afe.lanes.map (laneAdvance r.1.id (r.1.starts.headD 0) (r.1.starts.getLastD 0)) }
    evr := { s.evr with localEv := s.evr.localEv ++ r.2 } } : State).stepShift t.clk).sealTime t

/-- The frame at hand as it goes out (R383): it reports the last completed tick, but an engine that has become unhealthy since says so
in its next frame (R44). -/
def State.frameNow (s : State) : EngFrame :=
  if s.fit then s.pair.frame
  else { s.pair.frame with healthy := false, hatReq := false, cause := if s.life.healthy then 0 else s.life.cause }

/-- Unit B's frame starts at `start`: now, or where that lies past the present tick, in the coming one, whose frame then reports the
present one (R382). -/
def State.w1Start (start : Nat) (s : State) : State :=
  if gridNs (nextGrid s.tsu) ≤ start then { s with pair := { s.pair with w1Plan := some start } }
  else ({ s with pair := { s.pair with w1Plan := none, w1Last := some start } } : State).sendFrame start s.frameNow s.pair.frameId

/-- W1 frames at the start of a tick: unit A sends on its own grid; unit B sends a frame that the last tick left due, and on its
prediction where unit A's frame stays out, or on its own grid without one in the last 9,600 ticks (R382, R386). A witness sends
none. `old` is the state before the tick: the frame of the tick reports it, and stays at hand for the answer to unit A's frame. -/
def State.w1Send (absent : Bool) (old : State) (s0 : State) : State :=
  if s0.life.role = 4 then s0
  else
    let s : State := { s0 with pair := { s0.pair with frame := old.engFrame, frameId := old.tsu.id } }
    let g := TickId.grid s.tsu.id
    if !s.unitB then s.sendFrame (gridNs g) s.frameNow s.pair.frameId
    else
      let t := match s.pair.w1Plan with
        | some a => s.w1Start a
        | none => s
      match s.pair.w1At, s.pair.pframeT, s.pair.pframe with
      | some a, some n, some f =>
        if 9600 ≤ n then t.w1Start (gridNs g + w1Offset) else if absent then t.w1Start (w1Predict f a (n + 1)) else t
      | _, _, _ => t.w1Start (gridNs g + w1Offset)

/-- A planned handover at its tick (R403): with both actions in the witness frame of H − 1 the revoke that follows makes the
change; otherwise it lapses. -/
def State.handoverTick (s : State) : State :=
  match s.pair.ho with
  | none => s
  | some h =>
    if s.logic.ltc + 1 < h.at_ then s
    else if s.pair.hoA && s.hat.act = 2 then { s with pair := { s.pair with ho := none, hoA := false, hoTick := true } }
    else { s with pair := { s.pair with ho := none, hoA := false }
                  evr := { s.evr with localEv := s.evr.localEv ++ [lapseEvent h.at_] } }

/-- An engine may take the Hat on a grant: it is sound (R46), and not in role 5 (R47) or 6 (R379). -/
def State.mayGrant (s : State) : Bool := s.fit && s.life.role != 5 && s.life.role != 6

/-- A latch that a grant has just set remembers the role before it, until the tick has ended (R46); role 6 sets its latch without
one (R379). -/
def State.latchNote (old : Hat) (s : State) : State :=
  if s.hat.latch && !old.latch && s.hat.granted && s.life.role != 6 then { s with hat := { s.hat with was := some s.life.role } } else s

/-- Roles after the latch has changed (R43, R378, R403): a set latch makes roles 2 and 3 active and lets role 0 go on; the wearer
that a planned handover has revoked enters role 5 in VERIFY mode, where its partner mirrors to it: it is SYNCED (R387, R403), also
where it has come from role 0 (DEDUCED, log entry 117). A standby that takes the Hat discards its partial copy (R406). A revoke
without a plan changes no role (log entry 89). -/
def State.latchRole (s : State) : State :=
  if s.hat.latch then
    if s.life.role = 2 || s.life.role = 3 then
      { s.setRole 1 with pair := { goesStale s.pair with prole := if (s.pair.pframe.map plannedNow).getD false then 5 else s.pair.prole } }
    else s.takeRole
  else if s.life.role = 1 && s.pair.hoTick && s.fit then
    { s.setRole 5 with pair := { syncedNow (copyNone s.pair) with applied := false, since := 0 } }
  else s

/-- Both latches have set (R380). DEDUCED: the engine that gives way goes back to the role it had before its grant, as R46 has it for a
grant that is taken back (log entry 115). -/
def State.race (s : State) : State :=
  let t : State := { s with hat := hatRaceGo s.unitB s.hat }
  (match s.hat.was with
    | some r => if s.hat.latch && !t.hat.latch then t.setRole r else t
    | none => t).enableLower

/-- The Hat at the start of a tick (R378, R379, R416, R446): revoke, grant or lone set, senses, roles, output enable, which waits
where the partner's latch has set with the own one (R380). The role noted at a grant serves until here (R46). -/
def State.hatTick (x : TickIn) (s : State) : State :=
  let s1 := if s.hat.act = 0 then s else s.pin 0x10 0 false
  let s2 := s1.handoverTick
  let h0 : Hat := { s2.hat with granted := false, fresh := false, was := none }
  let h1 := hatRevokeGo h0
  let h2 := if s2.life.role = 6 then loneLatchGo s2.fit x.hatIn h1 else hatGrantGo s2.mayGrant x.hatIn h1
  let s3 : State := { s2 with hat := hatSense x h2 }
  let s4 := (s3.latchNote h1).latchRole
  if x.race && h2.fresh then s4.race else s4.enableStep

/-- A tick of an unhealthy or leaving engine (R44). -/
def State.sickTick (s : State) : State := { s with life := { s.life with sickTicks := s.life.sickTicks.map (· + 1) } }

/-- Forwarded Pins that fell beyond the last tick's last edge, or that the partner named for this tick (R449); edges before the last tick
are forgotten. -/
def State.deferredPin (s : State) : State :=
  let g := TickId.grid s.tsu.id
  let t : State := { s with hpi := { s.hpi with pinNext := [], edges := s.hpi.edges.filter (fun e => decide (g ≤ e.1.1 + 1)) } }
  s.hpi.pinNext.foldl (fun u p => u.pin 0x08 p.1 p.2) t

/-- The first edge of a tick: the last tick's banks are complete, the clock has advanced, frames go out, the Hat acts. -/
def State.tickStart (x : TickIn) (s : State) : State :=
  let s0 := s.fillBanks
  let s1 := { s0.advance with out := [], sca := { s0.sca with button := x.button }, store := { s0.store with bad := x.storeBad } }
  (((s0.w1Send x.w1Absent s1).sickTick).deferredPin).hatTick x

/-! ### The dynamic state (R37, R395 to R400) -/

/-- Engine-local points, outside the guarantee of R63: those of the regions of health, time, pair and statistics but the tick-driven
points of logic and Hoods (R303, R323), and the status words and voltages of the field I/O (R325). -/
def lateLocal (i : Nat) : Bool :=
  (localRegion i && !(decide (0xF0240 ≤ i) && decide (i < 0xF02C9))) || (decide (0x61100 ≤ i) && decide (i < 0x61160)) ||
    (decide (0x611C0 ≤ i) && decide (i < 0x611D8))

/-- The own counterpart of a copied item. -/
def State.copyGet (s : State) : CopyItem → CopyItem
  | .point i _ => .point i (s.sig.rd i)
  | .elem i _ => .elem i (at! s.elems i)
  | .flange i _ => .flange i (at! s.flus i)
  | .slot i _ => .slot i (at! s.slots i)
  | .group i _ => .group i (at! s.phe.groups i)
  | .hist c _ => .hist c (at! s.phe.hist c)
  | .task i _ => .task i (at! s.logic.tasks i)
  | .forces _ => .forces s.sig.forces
  | .pres c _ => .pres c (at! s.phe.pres c)
  | .schemes _ => .schemes s.schemes
  | .unit u _ _ => .unit u (at! s.logic.cur u) (at! s.logic.work u)
  | .errors _ _ => .errors s.logic.errQ s.logic.errLost
  | .selector _ => .selector s.logic.selLast
  | .pub i _ => .pub i (at! s.cp.pubs i)
  | .fl i _ => .fl i (at! s.drc.fls i)
  | .ltc _ => .ltc s.logic.ltc

/-- The dynamic state as the copy carries it (R37, R397), without the engine-local points. -/
def State.dynItems (s : State) : List CopyItem :=
  (s.sig.pts.filter (fun e => !lateLocal e.1)).map (fun e => .point e.1 e.2) ++
  mapI CopyItem.elem s.elems ++ mapI CopyItem.flange s.flus ++ mapI CopyItem.slot s.slots ++ mapI CopyItem.group s.phe.groups ++
  mapI CopyItem.hist s.phe.hist ++ mapI CopyItem.pres s.phe.pres ++ mapI CopyItem.task s.logic.tasks ++
  (List.range 4).map (fun u => .unit u (at! s.logic.cur u) (at! s.logic.work u)) ++ mapI CopyItem.pub s.cp.pubs ++
  mapI CopyItem.fl s.drc.fls ++
  [.forces s.sig.forces, .schemes s.schemes, .errors s.logic.errQ s.logic.errLost, .selector s.logic.selLast, .ltc s.logic.ltc]

/-- What the tick has written since it stood as in `old` (R395): what is no longer as it was, and what the firmware writes with the content it
had, a free value (log entry 10). -/
def State.written (old s : State) : List CopyItem := s.dynItems.filter (fun x => old.copyGet x != x || Config.rewrites s.logic.ltc x)

/-- A copied item takes its place; engine-local points (R325, R400) are not written. -/
def State.copyPut (s : State) : CopyItem → State
  | .point i p => if lateLocal i then s else { s with sig := { s.sig with pts := wrPt s.sig.pts i p } }
  | .elem i e => { s with elems := s.elems.set i e }
  | .flange i f => { s with flus := s.flus.set i f }
  | .slot i b => { s with slots := s.slots.set i b }
  | .group i g => { s with phe := { s.phe with groups := s.phe.groups.set i g } }
  | .hist c h => { s with phe := { s.phe with hist := s.phe.hist.set c h } }
  | .task i t => { s with logic := { s.logic with tasks := s.logic.tasks.set i t } }
  | .forces l => { s with sig := { s.sig with forces := l } }
  | .pres c h => { s with phe := { s.phe with pres := s.phe.pres.set c h } }
  | .schemes x => { s with schemes := x }
  | .unit u c w => { s with logic := { s.logic with cur := s.logic.cur.set u c, work := s.logic.work.set u w } }
  | .errors q n => { s with logic := { s.logic with errQ := q, errLost := n } }
  | .selector x => { s with logic := { s.logic with selLast := x } }
  | .pub i x => { s with cp := { s.cp with pubs := s.cp.pubs.set i x } }
  | .fl i x => { s with drc := { s.drc with fls := s.drc.fls.set i x } }
  | .ltc n => { s with logic := { s.logic with ltc := n } }

/-! ### Phase A -/

/-- The partner is a standby. -/
def State.partnerStandby (s : State) : Bool := s.pair.prole == 2 || s.pair.prole == 5

/-- EPOCH_START (R397): the epoch that begins with LTC `m`, a multiple of 768, once its tick is over: the last chunk and the closing
digest of the epoch before come after that tick, the first chunk of this one a tick later. -/
def State.epochStart (m : Nat) (s : State) : State :=
  if s.pair.epoch = m / 768 then s else { s with pair := epochGo s.life.role m s.partnerStandby s.pair }

/-- LTC advances (R282); in role 5 it is that of CLOSE (R392); the copy of an epoch may begin (R397). -/
def State.ltcStep (s : State) : State :=
  let n := match s.life.role, s.pair.close with
    | 5, some (cid, cl, _) => if cid = s.tsu.id then cl else s.logic.ltc + 1
    | _, _ => s.logic.ltc + 1
  let s1 := { s with logic := { s.logic with ltc := n, overrun := s.logic.overrun - 1 } }
  if n % 768 = 1 then s1.epochStart (n - 1) else s1

/-- `st.sim` (R127). -/
def State.simOn (s : State) : Bool := (s.sig.rd 0x63403).bool

/-- The intake deadline of the tick (R116), where its row has not judged it. -/
def State.judge (g : Nat) (s : State) : State :=
  match s.blk with
  | none => s
  | some b => if s.pbi.judged then s else { s with pbi := { pbiJudge b g s.pbi with judged := true } }

/-- Calibration at tick 0 of a second (R89); a reference failed on every lane at once makes the engine unhealthy (R92). -/
def State.calibrateTick (s : State) : State :=
  if s.tsu.id.k ≠ 0 then s
  else
    let a := { s.afe with lanes := s.afe.lanes.map laneCalibrate }
    let s1 := { s with afe := a }
    if allRefFailed a then s1.unhealthy causeAfe else s1

/-- The last committed sample of a local channel: primary value, quality, stamp of its tick. -/
def State.locSample (aligned : TickId) (s : State) (ch : Nat) : F32 × BitVec 16 × Stamp :=
  let w := shownSample s.block s.sig s.afe ch
  (wordValue w.1 (at! (at! s.afe.lanes (ch / 4)).k (ch % 4)), w.2, TickId.stamp aligned)

/-- The channel's bay is in a test mode. -/
def chanTest (b : Block) (sg : Sig) (ch : Nat) : Bool :=
  match chanHome b ch with
  | some (g, _) => sg.mode g == 3 || sg.mode g == 4
  | none => false

/-- Mirrored data are at hand for this tick (R392): for a standby, and for the new wearer in the tick H of a handover, whose
inputs the old one has closed (R403). -/
def State.mirrored (s : State) : Bool :=
  (s.life.role == 1 || s.life.role == 2 || s.life.role == 5) && !s.pair.hoTick && mirrorReady s.pair s.tsu.id s.logic.ltc

/-- The mirrored items of this tick. -/
def State.mirrorNow (s : State) : List MirrorItem := (s.pair.items.filter (fun x => x.1 == s.logic.ltc)).map (·.2)

/-- Apply the mirrored items of this tick in place of the own results (R392); samples are those aligned to the tick before. -/
def State.applyMirror (aligned : TickId) (s : State) : State :=
  let items := s.mirrorNow
  let lasts := items.filterMap (fun x => match x with | .sample ch w q => some (ch, w, q) | _ => none)
  let fed := items.filterMap (fun x => match x with | .sv n f _ _ _ => some (n, f) | _ => none)
  let ws := lasts.flatMap (fun e => (localPts s.block e.1).map (fun i => { sampleWrite aligned i e.2.1 e.2.2 with mir := true })) ++
    items.flatMap MirrorItem.writes
  let sups := items.filterMap (fun x => match x with | .supply g n => some (g, n) | _ => none)
  { s with
    sig := s.sig.writes s.tsu.id ws
    afe := { s.afe with last := lasts.foldl (fun l e => l.set e.1 e.2) s.afe.last }
    pbi := { s.pbi with fed := fed.foldl (fun l e => l.set e.1 e.2) s.pbi.fed }
    fio := { s.fio with grps := sups.foldl (fun l e => l.modify e.1 (fun g => { g with supMir := e.2 })) s.fio.grps }
    logic := { s.logic with causes := s.logic.causes ++ (items.flatMap MirrorItem.causes).map tickCause }
    pair := mirrorTaken s.logic.ltc s.pair }

/-- Two bridged ticks in a row make the standby stale (R393, R43). -/
def State.staleIfDue (s : State) : State := if 2 ≤ s.pair.bridgeRun then { s.setRole 3 with pair := goesStale s.pair } else s

/-- A tick without mirror data in roles 2 and 5 is bridged, two in a row make the standby stale (R393, R43); role 3 counts. -/
def State.bridgeTick (s : State) : State :=
  if s.pair.hoTick then s
  else if s.life.role = 2 || s.life.role = 5 then
    let s1 := { s with pair := if s.pair.bridgeNow then s.pair else bridgeGo s.pair }
    s1.staleIfDue
  else if s.life.role = 3 then { s with pair := { s.pair with staleT := Nat.min (s.pair.staleT + 1) 65535 } }
  else s

/-- The first tick on own inputs after mirrored ones (R393): every digital input and control block commits its own state again, whether or
not it has changed. -/
def State.ownAgain (s : State) : State :=
  if s.pair.mirPrev && !s.mirrored then
    { s with fio := { s.fio with dis := s.fio.dis.map (fun d => { d with dirty := true }) }
             pbi := { s.pbi with gcbs := s.pbi.gcbs.map (fun g => (g.1, { g.2 with dirty := true })) } }
  else s

/-- The commits of phase A (R53, R79, R116, R128, R328): the blocks' own results, or the mirrored ones; the active engine
mirrors its own to a standby (R391, R392). -/
def State.commitInputs (x : TickIn) (aligned : TickId) (b : Block) (s0 : State) : State :=
  let s := s0.ownAgain
  let a := afeCommit b s.tsu.starts aligned (localPts b) (chanTest b s.sig) (Config.sampleBits s.logic.ltc) s.afe
  let s1 := { s with afe := a.1 }
  let p := pbiCommit b s.simOn s.tsu.id s.sig (s1.locSample aligned) s.pbi
  let f := fioPhaseA b s.tsu.ns x.supply s.fio
  let s2 := { s1 with pbi := p.1, fio := f.1 }
  if s2.mirrored then
    let m := s2.applyMirror aligned
    { m with pair := (if mirrors s.life.role then plausTick b a.1 p.1 m.fio m.sig s2.mirrorNow { m.pair with mirPrev := true } else m.pair) }
  else
    let back := if s.pair.mirPrev then neverHeard b s.sig p.1 else []
    let sg := s.sig.writes s.tsu.id (back ++ a.2 ++ p.2.1 ++ f.2)
    let items := mirrorItems b (TickId.grid s.tsu.id) sg a.1 s.pbi p.1 (back ++ f.2) p.2.2 f.1.grps
    let send := (s.pair.hoTick || (s.life.role == 1 && (s.pair.prole == 2 || s.pair.prole == 5))) && s.pair.linkUp && s.fit
    let grps' := f.1.grps.map (fun g => { g with supMir := g.sup })
    let s3 := { s2 with
      sig := sg
      fio := { f.1 with grps := grps' }
      logic := { s.logic with causes := s.logic.causes ++ p.2.2.map tickCause }
      pair := { (if mirrors s.life.role then s.pair else plausNone s.pair) with mirPrev := false } }
    (if send then s3.sendFelt (items.map (FeltFrame.mirror s.logic.ltc) ++ [.close s.tsu.id s.logic.ltc items.length]) else s3).bridgeTick

/-- INIT_WAIT has passed (R369); without a Block none is known. -/
def State.initEnd (s : State) : State := if s.blk.isSome then { s with tsu := initExpire s.block.time s.tsu } else s

/-- The engine in role 1 tells the partner that takes its time EST_ERR and GLOBAL (R370). -/
def State.tellTime (s : State) : State :=
  if s.life.role = 1 && s.partnerStandby then s.sendFelt [.time (estNow s.tsu) (tsuGlobal s.block.time s.life.role s.tsu)] else s

/-- The clock's own work of a tick (R359 to R370), and the write-back to the sealed area once a second while locked (R369). -/
def State.clockTick (x : TickIn) (s0 : State) : State :=
  let s := s0.initEnd
  let r := tsuTick s.block.time s.life.role x.partnerTime s.tsu
  let t := utcNote s.block.time r.1
  (({ s with
    tsu := t, evr := { s.evr with localEv := s.evr.localEv ++ r.2 }
    sca := if t.st = 2 && t.id.k = 0 then { s.sca with rtc := t.ns / 1000000000, gen := t.gen, utc := t.utcOfs } else s.sca } : State).sealTime s0.tsu).tellTime

/-- SEED mode (R399): at the end of phase A the chunk completed after the last tick is written but for lines that this phase has
written; `old` is the state as the phase began. -/
def State.seedWrite (old s : State) : State :=
  if s.pair.seeds.isEmpty then s
  else
    let w := old.written s
    let t := (s.pair.seeds.filter (fun x => !w.any (fun y => y.key == x.key))).foldl State.copyPut s
    { t with pair := seedNote s.pair }

/-- Phase A (R52, R53): deadline, LTC, operator actions, selector, commits, releases; causes of R294 are queued in every role. The evaluation of R89 in tick 0 counts from the
sample aligned to tick 0 on, which tick 1 commits. -/
def State.phaseA (x : TickIn) (aligned : TickId) (s : State) : State :=
  let s1 := (s.judge (TickId.grid s.tsu.id)).ltcStep
  let s2 := (s1.clockTick x).selectorStep.applyActs
  match s2.blk with
  | none => s2.calibrateTick
  | some b =>
    let s3 := (s2.commitInputs x aligned b).calibrateTick
    s.seedWrite (if s3.protects then
      let r := logicRelease b s3.logic
      { s3 with logic := r.1, evr := { s3.evr with tickEv := s3.evr.tickEv ++ r.2 } }
    else { s3 with logic := flushCauses (hasErrTask b) s3.logic })

/-! ### Phases B to E -/

/-- A stream's members are fed from their backup channels. -/
def State.onBackup (s : State) (n : Nat) : Bool := at! s.pbi.fed n

/-- The TYPE of a point as a program reads it. -/
def State.typ (s : State) (i : Nat) : BitVec 8 := (s.sig.rd i).typ

/-- The phasor engine works in every role that runs the tick (R40, R149). -/
def State.phasors (b : Block) (s : State) : State :=
  let r := pheTick b s.tsu.id s.sig s.afe s.onBackup s.phe
  { s with phe := r.1, sig := s.sig.writes s.tsu.id r.2 }

/-- Phase B beside the phasor engine: logic slice 1 (R52). A preparation kernel works in its tick engine's local memory: it
writes no point (log entry 86). -/
def State.phaseB (b : Block) (s : State) : State := { s with logic := logicSlice b 1 s.typ s.logic }

/-- Phase C: elements, the FLU with them, and logic slice 2 (R52, R60). -/
def State.phaseC (b : Block) (s : State) : State :=
  let e := elemsPhase b s.tsu.id s.phe.pres s.sig s.elems s.flus
  { s with sig := e.1, elems := e.2.1, flus := e.2.2, logic := logicSlice b 2 s.typ s.logic }

/-- The trip path of a slot lies in a group whose mirrored supply is in warning or invalid (R342). -/
def pathBad (f : Fio) (e : SlotEntry) : Bool :=
  (e.tripDo ++ [e.retripDo]).any (fun o => o != 0xFF && (let g := at! f.grps (o / 16); g.supMir == 1 || g.supMir == 2))

/-- Terminations and expired selections that a station protocol hears of (R243, R461): MMS and 104, and DNP3 of an expiry. -/
def termMsgs (ev : List Told) : List StMsg :=
  ev.filterMap (fun r => match r.2 with
    | .station p c => if p ≤ 1 || (p == 2 && r.1.value == 7) then some (outcome p c r.1.value false) else none
    | _ => none)

/-- Phase D (R52): the schedule's schemes and locators, tick-rate logic, and at its end the sequencer, which reads every source
as it stands then, scheme outputs of this tick among them (R233, R234). -/
def State.phaseD (b : Block) (s : State) : State :=
  let sc := schemesPhase { b := b, id := s.tsu.id, ltc := s.logic.ltc, sl := s.slots, loop := Config.flLoop s.logic.ltc } s.sig s.schemes s.drc
  let sg := s.sig.writes s.tsu.id sc.ws
  let slots := sc.skips.foldl (fun l i => l.modify i (fun x => { x with shed := false })) s.slots
  let q := bsqStep b sg s.phe.pres sc.mask sc.asks (pathBad s.fio) slots
  ({ s with
    schemes := sc.sc, slots := q.1, drc := sc.drc
    sig := sg.writes s.tsu.id q.2.1
    logic := logicTickRate b s.typ s.logic
    evr := { s.evr with tickEv := s.evr.tickEv ++ sc.ev ++ q.2.2.map Prod.fst } } : State).sayAll (termMsgs q.2.2)

/-- The engine commits its output image in this tick (R44, R345): it evaluates protection, is healthy and not leaving, and the
supply has not failed in an earlier tick. -/
def State.commits (s : State) : Bool := s.protects && s.fit && (!s.psu.failed || s.evr.failTicks == some 0)

/-- The digest of the tick (R395); with different firmware versions without item 4 (R411). -/
def State.digest (old s : State) : BitVec 128 :=
  sha128 (digestBytes s.tsu.id s.logic.ltc s.fio.outs s.slots (if s.pair.mixed then none else some (writeAccum (old.written s))))

/-- Logic outputs join the image (R285). -/
def State.commitLogic (b : Block) (s : State) : State :=
  let l := logicCommit b s.logic
  { s with logic := l.1, sig := s.sig.writes s.tsu.id l.2 }

/-- The status points of logic and Hoods (R282, R294, R303, R323), in every role and without a Block too. -/
def State.statusLogic (s : State) : State :=
  { s with sig := s.sig.writes s.tsu.id (logicPoints s.block s.logic ++ hoodWrites s.blk s.sig s.hood) }

/-- The commit to the field outputs (R54, R335), or a tick without one: the keepers hold, and 24 such ticks clear the latch
(R344, R378). -/
def State.commitOutputs (b : Block) (s : State) : State :=
  if s.commits then
    { s with fio := fioCommit b s.sig s.tsu.statTick s.fio, hat := { s.hat with noCommit := 0 } }
  else
    let h := watchdogGo { s.hat with noCommit := s.hat.noCommit + 1 }
    ({ s with fio := fioNoCommit b s.fio, hat := h }).enableStep

/-- Phase E (R54): one output image, and its digest in a pair (R395). `old` is the state as the tick began. -/
def State.phaseE (x : TickIn) (b : Block) (old s : State) : State :=
  let s0 := if x.unfinished then s.unhealthy causeWork else s
  let s1 := (if s0.protects then s0.commitLogic b else s0).statusLogic
  let s2 := s1.commitOutputs b
  if s2.commits && s2.paired then { s2 with pair := { s2.pair with own := some (s2.logic.ltc, old.digest s2) } } else s2

/-! ### Phase F -/

/-- A pickup bit of a slot enabled in PIN_SLOTS rises (R446): the first edge of phase E. -/
def State.slotPin (s : State) : State :=
  if (s.pickupBits &&& ~~~s.hpi.win.pickup &&& s.hpi.pinSlots) = 0 then s else s.pin 0x04 22609 false

/-- Readback of the outputs (R338, R339) and the largest cycles spent (R62). -/
def State.statusTick (x : TickIn) (s : State) : State :=
  let f := match s.blk with
    | some b =>
      let f := fioReadback b x s.hat.ploop s.tsu.statTick s.fio
      if s.life.role = 2 then { f with cmpN := f.cmpN + fioDiffers f } else f
    | none => s.fio
  { s with life := { s.life with used := spentMax s.life.used x.spent }, fio := f }

/-- The engine-local status points of the blocks (R62, R98, R225, R324, R376, R135 to R137). -/
def State.statusWrites (x : TickIn) (s : State) : List PtWrite :=
  spentWrites s.life.used ++
    [wN 0xF0160 (Nat.max (s.sig.rd 0xF0160).value.toNat x.fluMax), wN 0xF0161 (if s.protects then fluEvals s.block s.elems else 0)] ++
    laneWrites s.afe ++ tsuWrites s.block.time s.life.role s.tsu ++
    portWrites s.pbi ++ (match s.blk with | some b => pbiWrites b s.tsu.ns s.pbi ++ fioWrites b s.fio | none => [])

/-- What the disturbance recorder takes from the engine. -/
def State.drcEnv (b : Block) (s : State) : DrcEnv :=
  { b := b, afe := s.afe, sg := s.sig, id := s.tsu.id, ltc := s.logic.ltc, starts := s.tsu.starts, fw := s.life.fwVer
    utc := utcAt b.time s.tsu (TickId.grid s.tsu.id), tq := fracsecCode (tsuGlobal b.time s.life.role s.tsu) (estNow s.tsu)
    fio := s.fio, slots := s.slots, sc := s.schemes }

/-- The replay images of the plans as a tick begins, after its operator actions (R270). -/
def State.imageTick (b : Block) (s : State) : State :=
  { s with drc := { s.drc with start := b.plans.map (fun p => if p.use then takeImage b s.elems s.flus s.slots s.phe s.drc p else none) } }

/-- The disturbance recorder in phase F (R255 to R263). -/
def State.drcTick (b : Block) (s : State) : State :=
  let r := drcPhaseF (s.drcEnv b) s.pbi (s.done.map (·.act)) s.drc
  { s with drc := r.1, evr := { s.evr with localEv := s.evr.localEv ++ r.2 }
           pbi := { s.pbi with streams := s.pbi.streams.map (fun x => { x with late := [] }) } }

/-- The answer to EVR_CLEAR (R443): the sequence number of the clear record. -/
def State.answerClear (d : Option (Nat × Nat)) (s : State) : State :=
  match d with
  | none => s
  | some (tag, seq) =>
    match s.svc.waits.find? (fun w => w.2.2.1 == tag) with
    | none => s
    | some w =>
      ({ s with svc := { s.svc with waits := s.svc.waits.filter (fun x => x != w) } }).respond w.1.reply
        { status := 0, opcode := w.2.1, tag := tag, session := w.2.2.2, payload := leBytes seq 8 }

/-- The event recorder in phase F (R478 to R487); 160 ticks after a supply failure it stops (R485). -/
def State.evrTick (x : TickIn) (s : State) : State :=
  let r := evrPhaseF s.block.evrPlans s.sig s.tsu.id s.logic.ltc s.recReach x.evrBad x.evrPathBad s.evr
  let e := if r.1.failTicks == some 161 && !r.1.stopped then evrStop s.tsu.id s.logic.ltc r.1 else r.1
  let s1 := { s with evr := e, sig := { s.sig with chg := [] }, drc := drcNumber e s.drc }
  let s2 := s1.sendFelt (r.2.1.map FeltFrame.record)
  let s3 := if r.2.2.1 then s2.pin 0x20 23592 false else s2
  s3.answerClear r.2.2.2

/-- Items of a chunk (R397). -/
def chunkItems (chunk : Nat) (l : List CopyItem) : List CopyItem := l.filter (fun x => Config.chunkOf x == chunk)

/-- The active engine's part of the copy in the tick after capture tick `n` (R397): the base as `old` held the chunk, the lines of it that
this tick has written with their map, and after the last chunk of an epoch its closing digest. -/
def State.copySend (old s : State) : State :=
  if s.life.role = 1 && s.fit && s.partnerStandby then
    let n := s.logic.ltc - 1
    let base := chunkItems (n % 768) old.dynItems
    let delta := chunkItems (n % 768) (old.written s)
    let t := s.sendFelt [.chunkBase (n / 768) (n % 768) base, .chunkDelta (n / 768) (n % 768) (Config.lineMap delta) delta]
    let parts := s.pair.parts ++ [overlay base delta]
    let u : State := { t with pair := { t.pair with parts := parts } }
    if n % 768 = 767 then u.sendFelt [.epochDigest (n / 768) (closingDigest (n / 768) parts)] else u
  else s

/-- Recorded lines that the standby has written since the stand tick stay as they are (R398). -/
def State.verifyTick (old s : State) : State :=
  if s.pair.diffs.isEmpty then s
  else
    let w := old.written s
    { s with pair := { s.pair with diffs := s.pair.diffs.filter (fun x => !w.any (fun y => y.key == x.key)) } }

/-- The copy's chunk of this tick with the closing digest of an epoch that ends, the tick's digest, the first that counts after that
epoch, and a frame that tells role and health (R42, R396, R397, R399, R415). `old` is the state as the tick began. -/
def State.copyTick (old s : State) : State :=
  if !s.pair.linkUp then s
  else
    let d : List FeltFrame := match s.pair.own with
      | some (l, v) => if l = s.logic.ltc then [.digest l v] else []
      | none => []
    ((old.verifyTick s |> old.copySend).sendFelt (d ++ [.control]))

/-- The configuration that takes effect in tick `n` (R498, R309): the Block to be activated in it, or what the Hood armed for it makes
of the running one. -/
def State.nextBlock (n : Nat) (b : Block) (s : State) : Option Block :=
  match s.store.act.bind (fun a => if a.at_ = some n then some a.blk else none) with
  | some nb => some nb
  | none => match s.hood.armed, s.hood.held with
    | some m, some h => if m = n then some (hoodBlock b h) else none
    | _, _ => none

/-- The image copier works for the next tick (R283): from the Hood armed for it (R309) or the Block to be activated in it
(R499), with the points as the new map will have them. -/
def State.stage (b : Block) (s : State) : State :=
  let n := s.logic.ltc + 1
  match s.nextBlock n b with
  | some nb => { s with logic := stageTasks nb ((newMap nb).remap (fun _ => true) s.sig) s.logic }
  | none => { s with logic := stageTasks b s.sig s.logic }

/-- The directory is written (R493, R498). -/
def State.writeDirectory (s : State) : State := { s with store := s.store.writeNow }

/-- The marks of Hoods stand in the Block store (R315). -/
def State.keepHoods (u : HoodUnit) (s : State) : State := { s with hood := u, store := s.store.keep u.chain u.marked }

/-- Store work that falls due: the applied mark of Hoods (R315), the directory where its bound of 1 s is reached. -/
def State.storeTick (s : State) : State :=
  let u := hoodMarkDue s.logic.ltc s.hood
  let s1 := if u.marked = s.hood.marked then s else s.keepHoods u
  match s1.store.dirDue with
  | some n => if n ≤ s1.logic.ltc then s1.writeDirectory else s1
  | none => s1

/-- A stale standby enters role 5 and seeds (R43, R404). -/
def State.rejoin (s : State) : State :=
  { s.setRole 5 with pair := { s.pair with seedNext := true, applied := false, since := 0, bridgeRun := 0 } }

/-- A stale standby hears an active partner over the link again (R43, R404, R406), which is of its variant and runs its Block and
Hoods (R412). -/
def State.rejoins (s : State) : Bool :=
  s.life.role == 3 && s.fit && s.pair.linkUp && s.pair.prole == 1 && s.pair.alive && s.pair.ppart == idPart s.life.variant && s.sameConfig

/-- The pair's counts of a tick, and the roles that follow: a standby in step or heard again (R43), role 0 waiting for its turn. -/
def State.pairTickEnd (s : State) : State :=
  let s1 := { s with pair := sendMode s.life.role s.partnerStandby (pairTick s.pair), hat := { s.hat with witMiss := s.hat.witMiss + 1, witRun := if s.hat.witMiss = 0 then s.hat.witRun + 1 else 0 } }
  let s2 := if s1.paired then { s1 with hat := witLostTick s1.hat } else s1
  let s3 := if s2.life.role = 5 && s2.pair.stepReady (idPart s2.life.variant) then { s2.setRole 2 with pair := stepDone s2.pair } else s2
  (if s3.rejoins then s3.rejoin else s3).takeRole

/-- Load above what R71 states, counted where it is dropped: frames without a token, records without a place, ticks of the change
queue. -/
def State.excessNow (s : State) : Nat :=
  (s.pbi.streams.map (fun x => at! x.counts 6)).sum + (s.pbi.gcbs.map (fun e => e.2.excess)).sum + s.evr.lost + s.cp.ovfTicks

/-- The alarm of dropped excess stands for a second after the last one (R71, log entry 90). -/
def State.excessTick (s : State) : State :=
  { s with life := { s.life with excess := s.excessNow, excessT := if s.life.excess < s.excessNow then 9600 else s.life.excessT - 1 } }

/-- Points of health, alarms and counters that no rule gives an index (R38, R39, R45, R71, R206); the indices are the model's (log
entry 90). -/
def healthWrites (s : State) : List PtWrite :=
  [wN 0xF0000 s.health, wN 0xF0001 (packBits s.alarm0), wN 0xF0002 (packBits s.alarm1), wN 0xF0003 (boolNat (decide (0 < s.life.excessT))),
   wN 0xF0004 s.life.excess, wN 0xF0005 s.logic.selIgn] ++
  mapI (fun m n => wN (0xF0008 + m) n) s.life.eccCorr ++ mapI (fun m n => wN (0xF0010 + m) n) s.life.eccDisc

/-- The engine-local points, of the blocks (`ws`) and of health, the recorders and the pair, as their work of the tick leaves them (R38,
R278, R417, R488). They are written in phase F, so its other readers, the recorders and the publications, see their values of the
tick before (R29), and a change joins the records of the next tick. -/
def State.lateStatus (ws : List PtWrite) (s0 : State) : State :=
  let s := s0.excessTick
  { s with sig := s.sig.writes s.tsu.id (ws ++ healthWrites s ++ pairWrites s.hat s.pair ++ drcWrites s.blk s.drc ++ evrWrites s.evr) }

/-- The copy of the signal space that the MP and the CP read until the next tick has completed (R27). -/
def State.takeView (s : State) : State := { s with view := s.sig.pts }

/-- Sessions idle for 900 s close (R435), an enrolment without the button ends (R512), idle transfers are discarded (R442). -/
def State.sessionTick (s : State) : State :=
  ((((s.closeSessions (fun x => decide (x.idle + 8640000 ≤ s.tsu.statTick))).enrolTimeout).discardIdle 0).discardIdle 1).discardIdle 2

/-- A request that waits in mailbox i with an opcode that R443 does not have is refused (step 1 of R438; log entry 33). -/
def State.unknownTick (i : Fin 16) (s : State) : State :=
  let op := ramNum s.hpi.ram (mbxBase i.val) 2
  if s.hpi.magic && s.hpi.doorbell.getLsbD i.val && !s.owned (.host i) && !cmdTable.contains op then
    s.refuse { op := op }
      { carrier := .host i, tag := ramNum s.hpi.ram (mbxBase i.val + 4) 4, session := ramNum s.hpi.ram (mbxBase i.val + 12) 4 } 0x0100 false
  else s

/-- The status window is refreshed (R424, R427), with the event bits of the first refresh that shows a change (R429). -/
def State.refreshTick (s : State) : State :=
  let w := s.refresh
  let h := w.health != s.hpi.win.health || w.alarm0 != s.hpi.win.alarm0 || w.alarm1 != s.hpi.win.alarm1
  let r := w.role != s.hpi.win.role
  { s with hpi := { s.hpi with win := w, evt := s.hpi.evt ||| (if h then 1 else 0) ||| (if r then 2 else 0) } }

/-- The pair address (R455): held in roles 1 and 6, announced when it is taken, released when the role is left. -/
def State.pairAddrTick (s : State) : State :=
  let holds := s.drives && s.block.proto.pairAddr.isSome
  let arp : List Emit := if holds && !s.cp.holdsPair then [.arp (s.block.proto.pairAddr.getD 0)] else []
  let t := if s.cp.holdsPair && !holds then s.dropPairAddr else s
  { t with cp := { t.cp with holdsPair := holds }, out := t.out ++ arp }

/-- Phase F (R52): the status window first, as phase E left the engine (R424, R427). `old` is the state as the tick began. -/
def State.phaseF (x : TickIn) (old s : State) : State :=
  let s1 := s.takeSnap.slotPin.refreshTick.statusTick x
  let s2 := match s1.blk with
    | some b => (((if s1.protects then (s1.drcTick b).publish else s1).stage b).queueTick).storeTick
    | none => match s1.nextBlock (s1.logic.ltc + 1) {} with
      | some b => s1.stage b
      | none => s1
  let s3 := (old.copyTick (s2.evrTick x)).fillBanks
  let s4 := (s3.pairTickEnd.lateStatus (s1.statusWrites x)).takeView.pairAddrTick
  (List.finRange 16).foldl (fun t i => t.unknownTick i) s4.answerActs.sessionTick.dropJobs

/-! ### The tick -/

/-- Phases A to F. -/
def State.phases (x : TickIn) (aligned : TickId) (s : State) : State :=
  let s1 := s.phaseA x aligned
  let s2 := match s1.blk with
    | some b =>
      let t0 := (s1.imageTick b).phasors b
      let t := if t0.protects then ((t0.phaseB b).phaseC b).phaseD b else t0
      t.phaseE x b s
    | none => ({ s1 with hat := watchdogGo { s1.hat with noCommit := s1.hat.noCommit + 1 } } : State).enableStep.statusLogic
  s.phaseF x s2

/-- The hold-up has ended, or the supply is back and the flush is complete (R525). -/
def State.flushed (s : State) : Bool :=
  s.psu.failed && (decide (holdUpTicks ≤ s.evr.failTicks.getD 0) || (s.evr.stopped && (s.psu.feedA || s.psu.feedB)))

/-- The window's end, and the fall-back that waited for the end of role 1 (R508). -/
def State.windowTick (s : State) : State := s.fallDue.firmwareFallback

/-- TICK: nothing happens before the clock runs (R41). At a tick start at which the hold-up after a supply failure has ended (R525), or the
reset of R44 is due, the engine resets instead; after a supply failure the recorders are flushed first. -/
def State.tick (x : TickIn) (s : State) : State :=
  if !s.tsu.run then s
  else
    let s1 := s.tickStart x
    if s1.flushed then s1.resetEngine 0x10000
    else if s1.resetDue then s1.resetIfDue
    else (s1.phases x s.tsu.id).windowTick

end Sys2Proof.Machine
end

