-- ==== Sys2Proof/Machine/Acquire.lean ====
section
/-! DEFINITION. Commands of the lanes (R72 to R100), the process-bus intake (R104 to R131), the phasor groups and the
synchrophasor streams (R155, R163, R164). -/

namespace Sys2Proof

/-- Edge up to which a lane has converted: the later of its conversion in progress and the tick's start. -/
def laneNow (t : Tsu) (l : Lane) : Nat := Nat.max l.start (t.starts.headD 0)

/-- Change one lane. -/
def Afe.mod (a : Afe) (i : Nat) (f : Lane → Lane) : Afe := { a with lanes := a.lanes.modify i f }

/-- A synchrophasor report as it is sent (R163, R164). -/
def syncFrame (b : Block) (role : Nat) (t : Tsu) (sg : Sig) (n : Nat) (p : SyncStream) (changed : Bool) (a : SyncAcc) : Emit :=
  .synchro n (a.t / 9600 - a.utc) (syncFrac p a.t) (syncQuality b.time role t)
    (mapI (fun i g => syncBlock b.time role t sg changed n p a i g) p.groups)

/-- The first report that is ready leaves a stream. -/
def syncPop (p : Phe) (n : Nat) : Phe := { p with syncs := p.syncs.modify n (fun x => { x with ready := x.ready.drop 1 }) }

end Sys2Proof

namespace Sys2Proof.Machine

/-! ### Lanes -/

/-- LANE_CONVERSION. -/
def execLaneConversion (lane : Fin 16) (code : BitVec 18) (s : State) : Host.Outcome State Fault Refusal :=
  .next { s with afe := if s.tsu.run then s.afe.mod lane.val (laneConvert code) else s.afe }

/-- LANE_CALIBRATION: at tick 0 of a second; a reference failed on every supervised lane makes the engine unhealthy (R92). -/
def State.calibrateLane (lane : Nat) (s : State) : State :=
  if s.tsu.id.k ≠ 0 then s
  else
    let s1 := { s with afe := s.afe.mod lane laneCalibrate }
    if allRefFailed s1.afe then s1.unhealthy causeAfe else s1

/-- LANE_CALIBRATION. -/
def execLaneCalibration (lane : Fin 16) (s : State) : Host.Outcome State Fault Refusal := .next (s.calibrateLane lane.val)

/-- CASSETTE_INSERTION. -/
def execCassetteInsertion (lane : Fin 16) (s : State) : Host.Outcome State Fault Refusal :=
  .next { s with afe := s.afe.mod lane.val cassInsert }

/-- CASSETTE_READ_COMPLETE. -/
def execCassetteReadComplete (lane : Fin 16) (mem : List Byte) (s : State) : Host.Outcome State Fault Refusal :=
  .next { s with afe := s.afe.mod lane.val (fun l => cassComplete (at! s.block.lanes lane.val) (laneNow s.tsu l) (Cassette.ofBytes mem) l) }

/-- CASSETTE_WITHDRAWAL. -/
def execCassetteWithdrawal (lane : Fin 16) (s : State) : Host.Outcome State Fault Refusal :=
  .next { s with afe := s.afe.mod lane.val (fun l => cassWithdraw (laneNow s.tsu l) l) }

/-- CASSETTE_REREAD. -/
def execCassetteReread (lane : Fin 16) (mem : List Byte) (s : State) : Host.Outcome State Fault Refusal :=
  .next { s with afe := s.afe.mod lane.val (fun l => cassReread (at! s.block.lanes lane.val) (laneNow s.tsu l) (Cassette.ofBytes mem) l) }

/-! ### Intake -/

/-- The Block as the port filter uses it: the pair address only while it is held (R455). -/
def State.filterBlock (s : State) : Block :=
  if s.cp.holdsPair then s.block else { s.block with proto := { s.block.proto with pairAddr := none } }

/-- The frame with the stamp that its port gives it (R353), at no earlier instant than what came before it (R372). -/
def State.stamped (f : Frame) (s : State) : Frame := { f with stamp := (at! s.tsu.ports f.port.val).rx (s.tsu.eventAt f.stamp) }

/-- A PTP message for the TSU (R355, R359): what it says is taken, and a Pdelay_Req is answered from the port it came on. -/
def State.ptpTake (port stamp : Nat) (m : PtpMsg) (s : State) : State :=
  let t : State := ({ s with tsu := ptpReceive s.block.time (if port / 2 = 1 then 1 else 2) (port % 2 == 1) m s.tsu } : State).sealTime s.tsu
  match pdelayAnswer s.block.time m with
  | some a => t.sendEvent port a (Emit.pdelayResp port stamp)
  | none => t

/-- The service port (R470): ARP and ICMP echo to its address are answered and the command set is taken; nothing else is. What the command
set brings is a command of its own. -/
def State.serviceFrame (f : Frame) (s : State) : State :=
  if !s.life.booted || !f.fcsOk then s
  else match f.body with
    | .arp => s.emit [.service false]
    | .ipv4 dst 1 _ => if dst = s.block.proto.serviceAddr then s.emit [.service true] else s
    | _ => s

/-- A ring frame goes on to the other process port (R456): not the engine's own that returns, nor one that has gone on from this port. -/
def State.forwards (f : Frame) (s : State) : Bool :=
  s.block.proto.hsr && decide (f.port.val < 2) && !f.own && f.dupKey.any (fun k => !s.pbi.hsrSent.contains (f.port.val, k))

/-- FRAME_RECEIVE: a port that is up stamps every frame (R353); with HSR on the process pair a ring frame is forwarded before it is sorted (R104,
R456). -/
def State.frameReceive (f0 : Frame) (s : State) : State :=
  if f0.port = 4 then s.serviceFrame f0
  else if !s.life.booted || !s.portUp f0.port.val then s
  else
    let f := s.stamped f0
    let r := pbiReceive s.filterBlock s.simOn f s.pbi
    let on := s.forwards f
    let ring : List Emit := if on then [.hsr f] else []
    let sent := if on then ((f.port.val, f.dupKey.getD 0) :: s.pbi.hsrSent).take 64 else s.pbi.hsrSent
    let t : State := { s with pbi := { r.1 with hsrSent := sent }, tsu := (s.tsu.note f0.stamp).rxNote f.port.val f.stamp, out := s.out ++ ring }
    r.2.elim t (fun m => t.ptpTake f.port.val f.stamp m)

/-- FRAME_RECEIVE. -/
def execFrameReceive (f : Frame) (s : State) : Host.Outcome State Fault Refusal := .next (s.frameReceive f)

/-- INTAKE_DEADLINE: 6,000 ns before the coming tick. -/
def execIntakeDeadline (s : State) : Host.Outcome State Fault Refusal := .next (s.judge (nextGrid s.tsu))

/-- BACKUP_RETURN. -/
def execBackupReturn (stream : Fin 96) (s : State) : Host.Outcome State Fault Refusal :=
  .next { s with pbi := { s.pbi with streams := s.pbi.streams.modify stream.val backupGo } }

/-- GOOSE_PUBLISHER_DROPPED: judged for the coming tick, in whose phase A the members take their substitutes and cause 0x01 is
queued (R130). -/
def State.gooseDropped (gcb : Nat) (s : State) : State :=
  match lkup s.pbi.gcbs gcb, s.blk with
  | some g, some _ => { s with pbi := { s.pbi with gcbs := lset s.pbi.gcbs gcb (gooseDrop (deadlineOf (nextGrid s.tsu)) g) } }
  | _, _ => s

/-- GOOSE_PUBLISHER_DROPPED. -/
def execGoosePublisherDropped (gcb : Fin 2048) (s : State) : Host.Outcome State Fault Refusal := .next (s.gooseDropped gcb.val)

/-! ### Groups and synchrophasors -/

/-- FREQUENCY_HOLD_EXPIRY: more than F_HOLD ticks without a usable source. -/
def State.holdExpired (g : Nat) (s : State) : State :=
  match s.blk with
  | none => s
  | some b =>
    let x := at! s.phe.groups g
    if x.fEver && decide ((at! b.groups g).fHoldT < x.holdT) then
      { s with
        phe := { s.phe with groups := s.phe.groups.modify g (holdExpire b.fnom) }
        sig := s.sig.writes s.tsu.id [wR (groupBase g + 0x110) x.f (qInvalid 0x80)] }
    else s

/-- FREQUENCY_HOLD_EXPIRY. -/
def execFrequencyHoldExpiry (group : Fin 64) (s : State) : Host.Outcome State Fault Refusal := .next (s.holdExpired group.val)

/-- SYNCHROPHASOR_SEND: the oldest report that is ready; only the wearer of the Hat sends it. -/
def State.synchroSend (n : Nat) (s : State) : State :=
  match (at! s.phe.syncs n).ready, s.block.proto.syncs[n]? with
  | a :: _, some p =>
    let f := syncFrame s.block s.life.role s.tsu s.sig n p (decide (0 < (at! s.phe.syncs n).cfgTicks)) a
    { s with phe := syncPop s.phe n, out := if s.hat.latch && s.fit then s.out ++ [f] else s.out }
  | _, _ => s

/-- SYNCHROPHASOR_SEND. -/
def execSynchrophasorSend (stream : Fin 8) (s : State) : Host.Outcome State Fault Refusal := .next (s.synchroSend stream.val)

/-- CONFIG_CHANGE_BIT_EXPIRY: the last tick of the 60 s. -/
def execConfigChangeBitExpiry (stream : Fin 8) (s : State) : Host.Outcome State Fault Refusal :=
  .next { s with phe := { s.phe with syncs := s.phe.syncs.modify stream.val (fun x => if x.cfgTicks ≤ 1 then { x with cfgTicks := 0 } else x) } }

end Sys2Proof.Machine
end

