-- ==== Sys2Proof/Machine/FieldIo.lean ====
section
/-! DEFINITION. Commands of the field inputs and outputs (R327 to R344, R381), of the operator actions' tick and of the Hood's
(R27, R206, R309, R315). -/

namespace Sys2Proof

/-- Change one output group. -/
def Fio.grp (f : Fio) (g : Nat) (h : OutGroup → OutGroup) : Fio := { f with grps := f.grps.modify g h }

/-- Change one output. -/
def Fio.out (f : Fio) (o : Nat) (h : OutState → OutState) : Fio := { f with outs := f.outs.modify o h }

end Sys2Proof

namespace Sys2Proof.Machine

/-- DI_RAW_CHANGE (R327, R329), at no earlier instant than what came before it (R372). -/
def execDiRawChange (di : Fin 128) (raw : Bool) (instant : Nat) (s : State) : Host.Outcome State Fault Refusal :=
  .next { s with
    fio := { s.fio with dis := s.fio.dis.modify di.val (diRaw (at! s.block.field.dis di.val) raw (s.tsu.eventAt instant) s.tsu.gen) }
    tsu := s.tsu.note instant }

/-- DI_FILTER_ACCEPT (R327). -/
def execDiFilterAccept (di : Fin 128) (instant : Nat) (s : State) : Host.Outcome State Fault Refusal :=
  .next { s with fio := { s.fio with dis := s.fio.dis.modify di.val (diAccept (at! s.block.field.dis di.val) instant) } }

/-- FAST_CHANNEL_EDGE (R330), at no earlier instant than what came before it (R372). -/
def execFastChannelEdge (ch : Fin 16) (rising : Bool) (instant : Nat) (short : Bool) (s : State) : Host.Outcome State Fault Refusal :=
  .next { s with
    fio := { s.fio with
      fasts := s.fio.fasts.modify ch.val (fastEdge ch.val (at! s.block.field.fasts ch.val) rising (s.tsu.eventAt instant) short) }
    tsu := s.tsu.note instant }

/-- OUTPUT_THERMAL_SHUTDOWN (R336). -/
def execOutputThermalShutdown (o : Fin 96) (s : State) : Host.Outcome State Fault Refusal :=
  .next { s with fio := s.fio.out o.val (outShutdown (at! s.block.field.dos o.val).retry s.tsu.statTick) }

/-- OUTPUT_RETRY (R336): due at the commit of the coming tick, where the engine makes one (R44), while output enable is set and no keeper
holds the group (R337). -/
def execOutputRetry (o : Fin 96) (s : State) : Host.Outcome State Fault Refusal :=
  .next { s with fio := if s.fio.en && s.commits && !(at! s.fio.grps (o.val / 16)).holding then s.fio.out o.val (outRetry (s.tsu.statTick + 1)) else s.fio }

/-- OUTPUT_RETRY_COUNT_RESET (R336). -/
def execOutputRetryCountReset (o : Fin 96) (s : State) : Host.Outcome State Fault Refusal :=
  .next { s with fio := s.fio.out o.val outCountReset }

/-- FIELD_SUPPLY_STATE_CHANGE (R341). -/
def execFieldSupplyStateChange (g : Fin 6) (s : State) : Host.Outcome State Fault Refusal :=
  .next { s with fio := s.fio.grp g.val supApply }

/-- HOLD_KEEPER_HOLD (R344): a tick without a commit while output enable is set. -/
def execHoldKeeperHold (g : Fin 6) (s : State) : Host.Outcome State Fault Refusal :=
  .next { s with fio := if s.fio.en then s.fio.grp g.val (fun x => { x with missed := x.missed + 1, holding := !x.expired }) else s.fio }

/-- HOLD_EXPIRY (R344): HOLDT has passed since the last commit. -/
def execHoldExpiry (g : Fin 6) (s : State) : Host.Outcome State Fault Refusal :=
  .next { s with fio :=
    if s.fio.en && holdDue (at! s.block.field.holdt g.val) (at! s.fio.grps g.val) then
      { s.fio.grp g.val (fun x => { x with holding := false, expired := true }) with outs := grpOff g.val s.fio.outs }
    else s.fio }

/-- OUTPUT_ENABLE_RISE (R377, R381). -/
def execOutputEnableRise (s : State) : Host.Outcome State Fault Refusal :=
  .next { s with fio := if s.hat.enable then setEnable true s.fio else s.fio }

/-- OUTPUT_ENABLE_CLEAR (R335, R377). -/
def execOutputEnableClear (s : State) : Host.Outcome State Fault Refusal :=
  .next { s with fio := if s.hat.enable then s.fio else setEnable false s.fio }

/-- A part of phase A of the coming tick, with that tick's LTC and identity (log entry 4). -/
def State.atNext (f : State → State) (s : State) : State :=
  let t := f { s with logic := { s.logic with ltc := s.logic.ltc + 1 }, tsu := { s.tsu with id := gridId (nextGrid s.tsu) s.tsu.gen } }
  { t with logic := { t.logic with ltc := s.logic.ltc }, tsu := { t.tsu with id := s.tsu.id } }

/-- COMMAND_ACTION_APPLY (R27, R322): the actions named for the coming tick; their answers follow in its phase F. -/
def execCommandActionApply (s : State) : Host.Outcome State Fault Refusal := .next (s.atNext State.applyActs)

/-- SELECTOR_GROUP_SWITCH (R206): in phase A of the coming tick. -/
def execSelectorGroupSwitch (s : State) : Host.Outcome State Fault Refusal := .next (s.atNext State.selectorStep)

/-- HOOD_SWAP_APPLY (R309): in phase A of S, where S is the coming tick. -/
def execHoodSwapApply (s : State) : Host.Outcome State Fault Refusal := .next (s.atNext State.swapHood)

/-- HOOD_APPLIED_MARK (R315). -/
def execHoodAppliedMark (s : State) : Host.Outcome State Fault Refusal := 
  .next (if s.hood.marks.isEmpty then s else s.keepHoods (hoodMark s.hood))

end Sys2Proof.Machine
end

