-- ==== Sys2Proof/Machine/Comtrade.lean ====
section
/-! DEFINITION. Export of disturbance records (R276, R277): the options of DRC_EXPORT and what an exported COMTRADE set says. The bytes
of its files are the standard's (Config.comtrade). -/

namespace Sys2Proof

/-- OPTIONS of DRC_EXPORT (R276, R443). DESIGN CHOICE (log entry 114): the spec gives the options and no bits for them. Here bit 0 asks for
the 1999 revision, bit 1 for one .cff, bits 3:2 give the format, bits 4 to 7 ask for secondary scaling, reinstated samples, quality
channels and no snippets; other bits are 0. None for a word that asks what R276 does not offer. -/
def ComOpts.ofNat (w : Nat) : Option ComOpts :=
  let o : ComOpts := { rev99 := w.testBit 0, single := w.testBit 1, fmt := w / 4 % 4, second := w.testBit 4, reinst := w.testBit 5
                       quality := w.testBit 6, noSnip := w.testBit 7 }
  if 256 ≤ w || o.fmt = 3 || (o.rev99 && (o.single || o.fmt == 0)) then none else some o

/-- Hexadecimal digits of a point index, as ASCII. -/
def hexName (i : Nat) : List Byte :=
  ((List.range 8).map (fun j => i / 16 ^ (7 - j) % 16)).map (fun (d : Nat) => BitVec.ofNat 8 (if d < 10 then 48 + d else 55 + d))

/-- A channel's name and unit: the Block's, or, where it is no longer held, the point index and none (R277). -/
def comChan (b : Option Block) (w : Nat) (peak : F32) : ComChan :=
  match b with
  | some b => { word := w, name := (Config.chanName b.blockId w).1, unit := (Config.chanName b.blockId w).2, peak := peak }
  | none => { word := w, name := hexName (chanIdx w), peak := peak }

/-- RATIO of a local channel's sample point; none of any other point. -/
def ptRatio (b : Block) (w : Nat) : Option F32 :=
  ((List.range 64).find? (fun ch => (localPts b ch).contains (chanIdx w))).map (fun ch => at! (at! b.lanes (ch / 4)).ratio (ch % 4))

/-- An exported analog value: in secondary scaling a local channel's is divided by RATIO (R276). -/
def comScale (o : ComOpts) (b : Option Block) (w : Nat) (x : F32) : F32 :=
  if o.second then (match b.bind (ptRatio · w) with | some r => F.div x r | none => x) else x

/-- The late sample `n` of a member in a record's late table, in primary units. -/
def lateValue (r : DrcRec) (stream hz member n : Nat) : Option F32 :=
  (r.late.find? (fun e => e.stream == stream && e.member == member && e.smpCnt == n % hz && e.sec == n / hz % 4294967296)).map (·.value)

/-- A sample as the frames present it: the value of the tick that takes it with f = 0 (R114), where that reads good and is not missing (R264). -/
def frameValue (r : DrcRec) (c hz d n : Nat) : Option F32 :=
  if n * 9600 % hz ≠ 0 then none else
  (r.frames.zipIdx.find? (fun f => TickId.grid f.1.id == n * 9600 / hz + d && !r.gone.contains f.2)).bind (fun f =>
    if (at! f.1.aq c).toNat % 4 = 0 then f.1.vals[c]? else none)

/-- Reinstatement of analog channel `c` of a process-bus member in a frame (R277): where a late-table sample enters the grid value, it
is formed by R114 from that sample and its neighbour. A neighbour that the record does not hold leaves the value free. -/
def reinstateAt (b : Block) (r : DrcRec) (c : Nat) (m : InMap) (i : Nat) (f : DrcFrame) : Option (Nat × Nat × F32) :=
  match (b.streams[m.sub]?).getD none with
  | none => none
  | some ds =>
    let p := (TickId.grid f.id - ds.d) % 9600 * ds.hz
    let n := (TickId.grid f.id - ds.d) / 9600 * ds.hz + p / 9600
    let late (n : Nat) : Option F32 := lateValue r m.sub ds.hz m.member n
    let has (n : Nat) : Option F32 := (late n).orElse (fun _ => frameValue r c ds.hz ds.d n)
    if p % 9600 = 0 then (late n).map (fun x => (i, c, x))
    else if (late n).isNone && (late (n + 1)).isNone then none
    else match has n, has (n + 1) with
      | some x, some y => some (i, c, F.add x (F.mul (F.ofRat (p % 9600) 9600) (F.sub y x)))
      | _, _ => some (i, c, Config.reinstated r i c)

/-- Every reinstated value of a record: frame, channel, value; a missing frame has none (R264). -/
def reinstated (b : Block) (r : DrcRec) : List (Nat × Nat × F32) :=
  (r.entry.ana.zipIdx.flatMap (fun w =>
    match b.inMap.find? (fun m => !m.goose && m.point == w.1) with
    | some m => ((mapI (reinstateAt b r w.2 m) r.frames).filterMap id).filter (fun e => !r.gone.contains e.1)
    | none => []))

/-- A frame's row (R277): missing and invalid values are none. -/
def comRow (o : ComOpts) (b : Option Block) (r : DrcRec) (re : List (Nat × Nat × F32)) (i : Nat) (f : DrcFrame) : ComRow :=
  let bad (c : Nat) : Bool := r.gone.contains i || qBad ((at! f.aq c).setWidth 16)
  { no := i + 1, stamp := i
    ana := mapI (fun c (x : F32) => match re.find? (fun e => e.1 == i && e.2.1 == c) with
      | some e => some (comScale o b (r.entry.ana.getD c 0) e.2.2)
      | none => if bad c then none else some (comScale o b (r.entry.ana.getD c 0) x)) f.vals
    status := mapI (fun c (x : Bool) => if r.gone.contains i || at! f.bq c then none else some x) f.bv ++
      (if o.quality then mapI (fun c (_ : F32) => if r.gone.contains i then none else some (bad c)) f.vals else []) }

/-- The frames at which GEN changes: frame number, the times before and after the step. -/
def genChanges (fs : List DrcFrame) : List (Nat × TickId × TickId) :=
  ((fs.zip (fs.drop 1)).zipIdx.filter (fun x => x.1.1.id.gen != x.1.2.id.gen)).map (fun x => (x.2 + 2, x.1.1.id, x.1.2.id))

/-- A snippet's set: samp is the per-slot rate of R73, and each word has its own instant, by R100 from the start of the tick that the
snippet names. -/
def comSnip (utc : TickId → Int × Nat) (s : Snip) : ComSnip :=
  { lane := s.lane, samp := (1536000, maskN s.mask), slots := maskSlots s.mask, id := s.id, start := utc s.id
    words := mapI (fun i (w : BitVec 32) => (s.ofs + 160 * i, wordSlot w, wordCode w)) s.words }

/-- The exported set of a record (R276, R277); `b` is the Block named by BLOCK_ID, where it is held. -/
def comSet (o : ComOpts) (b : Option Block) (r : DrcRec) : ComSet :=
  let re := match b with | some b => if o.reinst then reinstated b r else [] | none => []
  let rows := mapI (comRow o b r re) r.frames
  let utc (t : TickId) : Int × Nat := ((t.sec : Int) - r.utcOfs, tickNs t.k)
  { opts := o, recno := r.recno, start := utc r.first, trigger := utc r.trig, tq := r.tq
    analogs := mapI (fun c w => comChan b w (F.maxL (rows.filterMap (fun x => ((x.ana[c]?).getD none).map F.abs)))) r.entry.ana
    statuses := r.entry.bin.map (fun w => comChan b w 0) ++ (if o.quality then r.entry.ana.map (fun w => comChan b w 0) else [])
    rows := rows, gens := genChanges r.frames, reinst := re
    snips := if o.noSnip then [] else r.snips.map (comSnip utc) }

end Sys2Proof

namespace Sys2Proof.Machine

/-- The Block of a BLOCK_ID, where the engine holds it. -/
def State.heldBlock (i : BitVec 128) (s : State) : Option Block :=
  [s.blk, s.store.cur, s.store.prev].findSome? (fun x => x.bind (fun b => if b.blockId = i then some b else none))

/-- The set that an export of a record gives. -/
def State.comtrade (r : DrcRec) (o : ComOpts) (s : State) : ComSet := comSet o (s.heldBlock r.blockId) r

end Sys2Proof.Machine
end

