-- ==== Sys2Proof/Machine/Recorder.lean ====
section
/-! DEFINITION. Commands of the disturbance recorder and the fault locators (R257 to R276). -/

namespace Sys2Proof

/-- Opcode of DRC_EXPORT (R443). -/
def opDrcExport : Nat := 0x0803

/-- An export of all files has ended: the record's exported mark (R276). -/
def markExported (r : DrcRec) : DrcRec := { r with exporting := false, exported := true }

/-- A lane's snippets of a record are copied where they are due (R273). -/
def copyLane (afe : Afe) (lane : Nat) (r : DrcRec) : DrcRec :=
  { r with snips := r.snips.map (fun s => if s.lane = lane then snipStep afe s else s) }

/-- A fault locator's result joins the running records of plans that name its bay (R268). -/
def addFl (res : List FlResult) (r : DrcRec) : DrcRec :=
  if r.state = 1 then { r with fls := r.fls ++ res.filter (fun x => r.entry.bays.getLsbD x.bay) } else r

end Sys2Proof

namespace Sys2Proof.Machine

/-- RECORD_CLOSE. -/
def execRecordClose (plan : Fin 16) (s : State) : Host.Outcome State Fault Refusal :=
  .next { s with drc := closeDue plan.val s.logic.ltc s.drc }

/-- SNIPPET_COPY: in the record the plan runs. -/
def execSnippetCopy (plan : Fin 16) (lane : Fin 16) (s : State) : Host.Outcome State Fault Refusal :=
  .next { s with drc := (match s.drc.running plan.val with
    | some r => s.drc.modRec r.recno (copyLane s.afe lane.val)
    | none => s.drc) }

/-- FAULT_LOCATOR_LATCH: in a tick whose index is a multiple of Pc, with no location pending and no latch of this tick yet. -/
def State.flLatchRow (bay : Nat) (s : State) : State :=
  match s.blk with
  | none => s
  | some b =>
    let e : FlEntry := at! b.fls bay
    let x := at! s.drc.fls bay
    if e.en && x.pend.isNone && x.la.ltc != some s.logic.ltc && x.doneAt != some s.logic.ltc && s.tsu.id.k % (9600 / b.fnom) == 0 then
      { s with drc := { s.drc with fls := s.drc.fls.set bay (flLatch (flRead b s.sig bay e s.logic.ltc) x) } }
    else s

/-- FAULT_LOCATOR_LATCH. -/
def execFaultLocatorLatch (bay : Fin 48) (s : State) : Host.Outcome State Fault Refusal := .next (s.flLatchRow bay.val)

/-- FAULT_LOCATION: a pending location whose tick n_f is the present or the coming one; pos and cc as they stand count with those of the
ticks before (R268). -/
def State.flLocateRow (bay : Nat) (s : State) : State :=
  match s.blk, (at! s.drc.fls bay).pend with
  | some b, some pd =>
    if pd.nf ≤ s.logic.ltc + 1 then
      let x : FlState := { (at! s.drc.fls bay : FlState) with pend := some { pd with cut := pd.cut || flCut b s.sig bay } }
      let r := flLocate b s.sig bay (at! b.fls bay) pd.nf (Config.flLoop s.logic.ltc bay) x
      { s with
        drc := { s.drc with fls := s.drc.fls.set bay r.1, recs := s.drc.recs.map (addFl r.2.2) }
        sig := s.sig.writes s.tsu.id r.2.1
        free := s.free + 1 }
    else s
  | _, _ => s

/-- FAULT_LOCATION. -/
def execFaultLocation (bay : Fin 48) (s : State) : Host.Outcome State Fault Refusal := .next (s.flLocateRow bay.val)

/-- WAVEFRONT_LOCATION: by the active engine, from a record of which no snippet is still running; its result goes through the
command path for the next tick. -/
def State.wfRow (bay recno : Nat) (s : State) : State :=
  match s.blk, s.drc.rec_ recno with
  | some b, some r =>
    let e : FlEntry := at! b.fls bay
    if s.drives && wfFits b bay e r then
      (wfActions bay recno (s.logic.ltc + 1) (wfLocate b bay e r)).foldl (fun t x => t.pushAct x) s
    else s
  | _, _ => s

/-- WAVEFRONT_LOCATION. -/
def execWavefrontLocation (bay : Fin 48) (recno : Nat) (s : State) : Host.Outcome State Fault Refusal := .next (s.wfRow bay.val recno)

/-- DRC_STORAGE_ERROR. -/
def execDrcStorageError (e : DrcErr) (s : State) : Host.Outcome State Fault Refusal :=
  .next { s with drc := storageError e s.drc }

/-- DRC_POWERFAIL_CLOSE: 96 ticks after a supply failure (R263). -/
def execDrcPowerfailClose (s : State) : Host.Outcome State Fault Refusal := .next { s with drc := powerfailGo s.drc }

/-- EXPORT_COMPLETE: a running export job ends with its files, and marks its record. -/
def State.exportDone (job : Nat) (s : State) : State :=
  match s.running.find? (fun j => j.no == job && j.opcode == opDrcExport) with
  | none => s
  | some j =>
    let r := (s.drc.rec_ j.recno).getD {}
    ({ s with drc := s.drc.modRec j.recno markExported } : State).endJob job 2 0 (Config.exportResult (s.comtrade r ((ComOpts.ofNat j.opts).getD {})))

/-- EXPORT_COMPLETE. -/
def execExportComplete (job : Nat) (s : State) : Host.Outcome State Fault Refusal := .next (s.exportDone job)

end Sys2Proof.Machine
end

