-- ==== Sys2Proof/Machine/Commands.lean ====
section
/-! DEFINITION. The commands of R443: opcode, privilege, signature and payload of each. -/

namespace Sys2Proof

/-- Largest data of a chunk (R443). -/
def chunkMax : Nat := 4032

/-- SLOT of a control. -/
def slotFld (slot : Nat) : Fld := fld 4 slot (decide (slot < 64))

/-- VALUE of a control: 1 open, 2 close. -/
def openClose (value : Nat) : Fld := fld 4 value (value == 1 || value == 2)

/-- SESSION_OPEN. -/
def cmdSessionOpen (keyId : Nat) (hnonce : BitVec 256) : CmdSpec :=
  { op := 0x0101, pay := [fld 4 keyId, fld 32 hnonce.toNat] }

/-- SESSION_AUTH. -/
def cmdSessionAuth (sig : BitVec 768) : CmdSpec :=
  { op := 0x0102, pay := [{ bytes := beBytes sig.toNat 96 }] }

/-- SESSION_CLOSE. -/
def cmdSessionClose : CmdSpec :=
  { op := 0x0103 }

/-- SESSION_INFO. -/
def cmdSessionInfo : CmdSpec :=
  { op := 0x0104 }

/-- KEY_ENROL. -/
def cmdKeyEnrol (key : BitVec 776) (priv : BitVec 9) : CmdSpec :=
  { op := 0x0110, pay := [{ bytes := beBytes key.toNat 97 }, fld 4 priv.toNat] }

/-- KEY_REVOKE. -/
def cmdKeyRevoke (keyId : Nat) : CmdSpec :=
  { op := 0x0111, priv := some 8, signed := true, pay := [fld 4 keyId] }

/-- KEY_LIST. -/
def cmdKeyList : CmdSpec :=
  { op := 0x0112 }

/-- GET_IDENTITY. -/
def cmdGetIdentity : CmdSpec :=
  { op := 0x0201 }

/-- GET_STATUS. -/
def cmdGetStatus : CmdSpec :=
  { op := 0x0202 }

/-- GET_HEALTH. -/
def cmdGetHealth : CmdSpec :=
  { op := 0x0203, priv := some 0 }

/-- JOB_STATUS. -/
def cmdJobStatus (job : Nat) : CmdSpec :=
  { op := 0x0210, pay := [fld 4 job] }

/-- JOB_CANCEL: with the privilege and signature of the job's command. -/
def cmdJobCancel (auth : Option Nat × Bool) (job : Nat) : CmdSpec :=
  { op := 0x0211, priv := auth.1, signed := auth.2, pay := [fld 4 job] }

/-- BLOCK_BEGIN: LENGTH is at most 64 MiB (R489). -/
def cmdBlockBegin (length : Nat) (blockId : BitVec 128) : CmdSpec :=
  { op := 0x0301, priv := some 4, pay := [fld 4 length (decide (length ≤ 64 * 2 ^ 20)), fld 16 blockId.toNat] }

/-- BLOCK_CHUNK: `within` says that the chunk ends within LENGTH (R496). -/
def cmdBlockChunk (within : Bool) (offset : Nat) (data : List Byte) : CmdSpec :=
  { op := 0x0302, priv := some 4, pay := [fld 4 offset within, { bytes := data, ok := decide (data.length ≤ chunkMax) }] }

/-- BLOCK_CHECK. -/
def cmdBlockCheck : CmdSpec :=
  { op := opBlockCheck, priv := some 4 }

/-- BLOCK_ACTIVATE. -/
def cmdBlockActivate (slot ntick : Nat) : CmdSpec :=
  { op := opBlockActivate, priv := some 4, signed := true, act := true, change := true, pay := [fld 4 slot (decide (slot ≤ 1)), fld 8 ntick]
    named := some (36, ntick) }

/-- BLOCK_INFO. -/
def cmdBlockInfo : CmdSpec :=
  { op := 0x0305 }

/-- HOOD_BEGIN. -/
def cmdHoodBegin (length : Nat) (hoodId : BitVec 128) : CmdSpec :=
  { op := 0x0401, priv := some 3, pay := [fld 4 length, fld 16 hoodId.toNat] }

/-- HOOD_CHUNK. -/
def cmdHoodChunk (within : Bool) (offset : Nat) (data : List Byte) : CmdSpec :=
  { op := 0x0402, priv := some 3, pay := [fld 4 offset within, { bytes := data, ok := decide (data.length ≤ chunkMax) }] }

/-- HOOD_LOAD. -/
def cmdHoodLoad : CmdSpec :=
  { op := opHoodLoad, priv := some 3, signed := true, act := true }

/-- HOOD_SWAP. -/
def cmdHoodSwap (ntick : Nat) : CmdSpec :=
  { op := 0x0404, priv := some 3, signed := true, act := true, pay := [fld 8 ntick] }

/-- HOOD_CANCEL. -/
def cmdHoodCancel (ntick : Nat) : CmdSpec :=
  { op := 0x0405, priv := some 3, signed := true, act := true, pay := [fld 8 ntick], named := some (32, ntick) }

/-- HOOD_UNLOAD. -/
def cmdHoodUnload : CmdSpec :=
  { op := 0x0406, priv := some 3 }

/-- HOOD_INFO. -/
def cmdHoodInfo : CmdSpec :=
  { op := 0x0407 }

/-- FORCE_SET (R445). -/
def cmdForceSet (ntick point : Nat) (qval : BitVec 16) (value : BitVec 64) : CmdSpec :=
  { op := 0x0501, priv := some 2, signed := true, act := true
    pay := [fld 8 ntick, fld 4 point (decide (point < 2 ^ 20)), fld 2 qval.toNat, fld 2 0, fld 8 value.toNat], named := some (32, ntick) }

/-- FORCE_RELEASE. -/
def cmdForceRelease (ntick point : Nat) : CmdSpec :=
  { op := 0x0502, priv := some 2, signed := true, act := true
    pay := [fld 8 ntick, fld 4 point (decide (point < 2 ^ 20) || point == noPoint)], named := some (32, ntick) }

/-- FORCE_LIST. -/
def cmdForceList (first : Nat) : CmdSpec :=
  { op := 0x0503, priv := some 0, pay := [fld 4 first] }

/-- GROUP_SWITCH. -/
def cmdGroupSwitch (ntick group : Nat) : CmdSpec :=
  { op := 0x0601, priv := some 1, signed := true, act := true
    pay := [fld 8 ntick, fld 4 group (decide (1 ≤ group) && decide (group ≤ 8))], named := some (32, ntick) }

/-- MODE_SET. -/
def cmdModeSet (ntick target mode : Nat) : CmdSpec :=
  { op := 0x0602, priv := some 1, signed := true, act := true
    pay := [fld 8 ntick, fld 4 target (decide (target < 64)), fld 4 mode (decide (1 ≤ mode) && decide (mode ≤ 5))], named := some (32, ntick) }

/-- SIM_SET. -/
def cmdSimSet (ntick sim : Nat) : CmdSpec :=
  { op := 0x0603, priv := some 1, signed := true, act := true, pay := [fld 8 ntick, fld 4 sim (decide (sim ≤ 1))], named := some (32, ntick) }

/-- EVR_INFO. -/
def cmdEvrInfo : CmdSpec :=
  { op := 0x0701 }

/-- EVR_READ. -/
def cmdEvrRead (fromSeq count : Nat) : CmdSpec :=
  { op := 0x0702, priv := some 0, pay := [fld 8 fromSeq, fld 4 count (decide (1 ≤ count) && decide (count ≤ 15))] }

/-- EVR_CLEAR. -/
def cmdEvrClear : CmdSpec :=
  { op := 0x0703, priv := some 6, signed := true }

/-- TOMB_READ. -/
def cmdTombRead (slot : Nat) : CmdSpec :=
  { op := 0x0704, priv := some 0, pay := [fld 4 slot (decide (slot < 32))] }

/-- DRC_LIST. -/
def cmdDrcList (fromRecno : Nat) : CmdSpec :=
  { op := 0x0801, priv := some 0, pay := [fld 4 fromRecno] }

/-- DRC_TRIGGER. -/
def cmdDrcTrigger (ntick plan : Nat) : CmdSpec :=
  { op := 0x0802, priv := some 1, signed := true, act := true, pay := [fld 8 ntick, fld 4 plan (decide (plan < 16))], named := some (32, ntick) }

/-- DRC_EXPORT: `offered` says that R276 offers what OPTIONS asks. -/
def cmdDrcExport (offered : Bool) (recno options : Nat) : CmdSpec :=
  { op := 0x0803, priv := some 0, pay := [fld 4 recno, fld 4 options offered] }

/-- DRC_FILE. -/
def cmdDrcFile (job file offset : Nat) : CmdSpec :=
  { op := 0x0804, priv := some 0, pay := [fld 4 job, fld 4 file, fld 4 offset] }

/-- DRC_DELETE. -/
def cmdDrcDelete (recno : Nat) : CmdSpec :=
  { op := 0x0805, priv := some 6, signed := true, pay := [fld 4 recno] }

/-- TIME_GET. -/
def cmdTimeGet : CmdSpec :=
  { op := 0x0901 }

/-- TIME_STEP. -/
def cmdTimeStep (ntick mode : Nat) (stepSec stepNsec : Int) : CmdSpec :=
  { op := 0x0902, priv := some 5, signed := true, act := true
    pay := [fld 8 ntick, fld 4 mode (decide (mode ≤ 1)), fld 8 (BitVec.ofInt 64 stepSec).toNat,
      fld 4 (BitVec.ofInt 32 stepNsec).toNat (decide (stepNsec.natAbs ≤ 999999999))] }

/-- UTC_OFS_SET. -/
def cmdUtcOfsSet (utcOfs : Nat) : CmdSpec :=
  { op := 0x0903, priv := some 5, signed := true, act := true, pay := [fld 4 utcOfs] }

/-- PAIR_INFO. -/
def cmdPairInfo : CmdSpec :=
  { op := 0x0A01 }

/-- HANDOVER. -/
def cmdHandover (ntick : Nat) : CmdSpec :=
  { op := 0x0A02, priv := some 4, signed := true, act := true, change := true, pay := [fld 8 ntick] }

/-- TO_WAITING. -/
def cmdToWaiting : CmdSpec :=
  { op := 0x0A03, priv := some 4, signed := true, change := true }

/-- UPD_BEGIN. -/
def cmdUpdBegin (length : Nat) : CmdSpec :=
  { op := 0x0B01, priv := some 7, signed := true, pay := [fld 4 length] }

/-- UPD_CHUNK. -/
def cmdUpdChunk (within : Bool) (offset : Nat) (data : List Byte) : CmdSpec :=
  { op := 0x0B02, priv := some 7, pay := [fld 4 offset within, { bytes := data, ok := decide (data.length ≤ chunkMax) }] }

/-- UPD_STAGE (R502). -/
def cmdUpdStage (mode : Nat) (acceptOutage : Bool) : CmdSpec :=
  { op := opUpdStage, priv := some 7, signed := true, pay := [fld 4 mode (decide (mode ≤ 1)), fld 4 (boolNat acceptOutage)] }

/-- UPD_INFO. -/
def cmdUpdInfo : CmdSpec :=
  { op := 0x0B04 }

/-- UPD_DISCARD. -/
def cmdUpdDiscard : CmdSpec :=
  { op := 0x0B05, priv := some 7, signed := true }

/-- POINT_READ. -/
def cmdPointRead (indices : List Nat) : CmdSpec :=
  { op := 0x0C01, priv := some 0
    pay := fld 4 indices.length (decide (1 ≤ indices.length) && decide (indices.length ≤ 126)) :: indices.map (fun i => fld 4 i (decide (i < 2 ^ 20))) }

/-- RANGE_READ. -/
def cmdRangeRead (first count : Nat) : CmdSpec :=
  { op := 0x0C02, priv := some 0
    pay := [fld 4 first (decide (first + count ≤ 2 ^ 20)), fld 4 count (decide (1 ≤ count) && decide (count ≤ 126))] }

/-- POINT_WRITE: `coded` says that VALUE has the encoding of the point's TYPE (R33). -/
def cmdPointWrite (coded : Bool) (ntick point : Nat) (value : BitVec 64) : CmdSpec :=
  { op := 0x0C03, priv := some 1, signed := true, act := true
    pay := [fld 8 ntick, fld 4 point (decide (point < 2 ^ 20)), fld 4 0, fld 8 value.toNat coded], named := some (32, ntick) }

/-- CTL_SELECT. -/
def cmdCtlSelect (slot value : Nat) (origin : BitVec 128) : CmdSpec :=
  { op := 0x0C10, priv := some 1, signed := true, act := true, pay := [slotFld slot, openClose value, fld 16 origin.toNat] }

/-- CTL_OPERATE. -/
def cmdCtlOperate (ntick slot value : Nat) (origin : BitVec 128) : CmdSpec :=
  { op := 0x0C11, priv := some 1, signed := true, act := true, pay := [fld 8 ntick, slotFld slot, openClose value, fld 16 origin.toNat]
    named := some (32, ntick) }

/-- CTL_CANCEL. -/
def cmdCtlCancel (slot : Nat) (origin : BitVec 128) : CmdSpec :=
  { op := 0x0C12, priv := some 1, signed := true, act := true, pay := [slotFld slot, fld 16 origin.toNat] }

/-- SLOT_RESET. -/
def cmdSlotReset (ntick slot kind : Nat) : CmdSpec :=
  { op := 0x0C13, priv := some 1, signed := true, act := true, pay := [fld 8 ntick, slotFld slot, fld 4 kind (kind == 1 || kind == 2)]
    named := some (32, ntick) }

/-- PIN_FIRE. -/
def cmdPinFire : CmdSpec :=
  { op := 0x0D01, priv := some 0 }

/-- SNAP_READ. -/
def cmdSnapRead (bank offset count : Nat) : CmdSpec :=
  { op := 0x0D02, priv := some 0
    pay := [fld 4 bank (decide (bank ≤ 1)), fld 4 offset (decide (offset + count ≤ 16384)), fld 4 count (decide (count ≤ 4032))] }

/-- SNAP_RELEASE. -/
def cmdSnapRelease (bank : Nat) : CmdSpec :=
  { op := 0x0D03, priv := some 0, pay := [fld 4 bank (decide (bank ≤ 1))] }

/-- SELFTEST. -/
def cmdSelftest : CmdSpec :=
  { op := 0x0E01 }

/-- COUNTERS. -/
def cmdCounters : CmdSpec :=
  { op := 0x0E02 }

/-- ENGINE_RESET. -/
def cmdEngineReset : CmdSpec :=
  { op := 0x0E03, priv := some 4, signed := true }

/-- ECHO. -/
def cmdEcho (data : List Byte) : CmdSpec :=
  { op := 0x0E04, pay := [{ bytes := data }] }

end Sys2Proof
end

