-- ==== Sys2Proof/Machine/HostPort.lean ====
section
/-! DEFINITION. The host port (R418 to R431, R447, R16): what the host reads, and the commands that are register accesses. -/

namespace Sys2Proof

/-- Bytes 0x000 to 0x0FF of the status window (R424). -/
def windowHead (w : Window) : List Byte :=
  padTo 256 (leBytes w.seq.toNat 4 ++ leBytes w.role 4 ++ leBytes w.tick 8 ++ leBytes w.sec 8 ++ leBytes (tickNs w.k) 4 ++
    leBytes (w.k + 65536 * w.gen.toNat) 4 ++ leBytes w.health.toNat 4 ++ leBytes w.alarm0.toNat 4 ++ leBytes w.alarm1.toNat 4 ++
    leBytes w.grp 4 ++ leBytes w.ltc 8 ++ leBytes w.tsu.toNat 4 ++ leBytes w.pair.toNat 4 ++ leBytes w.trip.toNat 8 ++
    leBytes w.pickup.toNat 8 ++ leBytes w.evrSeq 8 ++ leBytes w.recno 4)

/-- An entry of STAT_USER (R424). -/
def userBytes (e : BitVec 64 × BitVec 16 × BitVec 16 × BitVec 32) : List Byte :=
  leBytes e.1.toNat 8 ++ leBytes e.2.1.toNat 2 ++ leBytes e.2.2.1.toNat 2 ++ leBytes e.2.2.2.toNat 4

/-- The status window (R424). -/
def windowBytes (w : Window) : List Byte := windowHead w ++ padTo 3840 (w.user.flatMap userBytes)

/-- Place of a host address (R418): 0 unmapped, 1 identity, 2 status window, 3 mailbox control, 4 mailboxes, 5 bank A, 6 bank B,
7 snapshot control, 8 pair registers. -/
def hostRegion (a : Nat) : Nat :=
  if a < 0x100 then 1
  else if a < 0x1100 then 2
  else if 0x2000 ≤ a && a < 0x2014 then 3
  else if 0x10000 ≤ a && a < 0x20000 then 4
  else if 0x20000 ≤ a && a < 0x24000 then 5
  else if 0x24000 ≤ a && a < 0x28000 then 6
  else if 0x28000 ≤ a && a < 0x28014 then 7
  else if 0x30000 ≤ a && a < 0x30008 then 8
  else 0

/-- A little-endian word of a byte string. -/
def wordAt (l : List Byte) (a : Nat) : BitVec 32 := BitVec.ofNat 32 (fieldLe l a 4)

/-- Bytes of a word whose enables are active, written to a memory (R419). -/
def writeWord (l : List (Nat × Byte)) (a : Nat) (v : BitVec 32) (be : BitVec 4) : List (Nat × Byte) :=
  (List.range 4).foldl (fun m k => if be.getLsbD k then ramPut m (a + k) ((v >>> (8 * k)).setWidth 8) else m) l

end Sys2Proof

namespace Sys2Proof.Machine

/-! ### Reads -/

/-- The identity block (R423); the device identity key reads zeros once it is gone (R511). -/
def State.identBytes (s : State) : List Byte :=
  let key : BitVec 776 := if s.sca.ident then Config.identKey s.sca.identN else 0
  let cur : BitVec 128 := if s.life.blockOk then (s.store.cur.map (·.blockId)).getD 0 else 0
  padTo 256 (leBytes 0x495A5645 4 ++ leBytes (idPart s.life.variant).toNat 4 ++ leBytes (65 + s.life.issue) 4 ++ leBytes s.life.fwVer.toNat 4 ++
    leBytes s.sca.serial.toNat 8 ++ leBytes (s.life.unit + 2 * boolNat (!s.life.strapBad)) 4 ++
    leBytes (boolNat s.upd.slot + 2 * boolNat s.upd.confirmed + 4 * boolNat s.upd.fellBack) 4 ++ leBytes cur.toNat 16 ++
    leBytes (if s.sca.ident then keyFp key else 0).toNat 16 ++
    leBytes (idLanes s.life.variant + 256 * idBays s.life.variant + 65536 * boolNat (idLanes s.life.variant != 0)) 4)

/-- SNAP_CTRL (R447). -/
def State.snapCtrl (s : State) : Nat := packBits ((s.hpi.banks.map (·.full)) ++ s.hpi.banks.map (·.filling))

/-- HAT_STATUS (R416). -/
def State.hatStatusWord (s : State) : Nat :=
  hatStatus s.hatReqNow s.fio.en s.unitB s.hat

/-- PAIR_STATUS (R415). -/
def State.pairStatusWord (s : State) : Nat := pairStatus s.logic.ltc s.hat.witOk s.pair

/-- The mailbox of an address. -/
def mbxOf (a : Nat) : Nat := (a - 0x10000) / 0x1000

/-- What a host read of a word returns (R418, R419, R422); HPI_ERR and PIN_LOST also clear, by their own commands. -/
def State.hostWord (addr : Nat) (s : State) : BitVec 32 :=
  let a := addr / 4 * 4
  if !s.hpi.magic then 0
  else
    match hostRegion a with
    | 1 => wordAt s.identBytes a
    | 2 => wordAt (windowBytes s.hpi.win) (a - 0x100)
    | 3 => if a = 0x2000 then s.hpi.doorbell.setWidth 32 else if a = 0x2004 then s.hpi.done.setWidth 32
           else if a = 0x2008 then s.hpi.irqEn.setWidth 32 else if a = 0x200C then s.hpi.evt.setWidth 32
           else BitVec.ofNat 32 (s.hpi.errOwned + 65536 * s.hpi.errUnmap)
    | 4 => if s.hpi.doorbell.getLsbD (mbxOf a) then 0
           else BitVec.ofNat 32 (leNat ((List.range 4).map (fun k => ramGet s.hpi.ram (a + k))))
    | 5 => wordAt (bankBytes (at! s.hpi.banks 0)) (a - 0x20000)
    | 6 => wordAt (bankBytes (at! s.hpi.banks 1)) (a - 0x24000)
    | 7 => if a = 0x28000 then BitVec.ofNat 32 s.snapCtrl else if a = 0x28004 then s.hpi.pinCtrl.setWidth 32
           else if a = 0x28008 then BitVec.ofNat 32 s.hpi.pinLost else if a = 0x2800C then s.hpi.pinSlots.setWidth 32
           else (s.hpi.pinSlots >>> 32).setWidth 32
    | 8 => BitVec.ofNat 32 (if a = 0x30000 then s.pairStatusWord else s.hatStatusWord)
    | _ => 0

/-- HOST_IRQ is asserted (R431), once ID_MAGIC is readable (R422). -/
def State.hostIrq (s : State) : Bool :=
  s.hpi.magic && ((s.hpi.done &&& s.hpi.irqEn.setWidth 16) != 0 || (s.hpi.evt &&& (s.hpi.irqEn >>> 16).setWidth 4) != 0)

/-- A read returns its word to the host. -/
def State.hostRead (v : BitVec 64) (s : State) : State := { s with hpi := { s.hpi with data := v } }

/-! ### Doorbells, events, errors (R429, R430) -/

/-- A write of MBX_DOORBELL: bits that read 0 pass their mailboxes and clear DONE; a bit that reads 1 changes nothing. -/
def ringDoorbell (v : BitVec 16) (h : Hpi) : Hpi :=
  let n := v &&& ~~~h.doorbell
  { h with doorbell := h.doorbell ||| n, done := h.done &&& ~~~n }

/-- An access before ID_MAGIC is readable has no effect (R422). -/
def State.hpiRow (f : Hpi → Hpi) (s : State) : State := if s.hpi.magic then { s with hpi := f s.hpi } else s

/-- MBX_DOORBELL_WRITE. -/
def execMbxDoorbellWrite (v : BitVec 32) (s : State) : Host.Outcome State Fault Refusal :=
  .next (s.hpiRow (ringDoorbell (v.setWidth 16)))

/-- MBX_DONE_CLEAR. -/
def execMbxDoneClear (v : BitVec 32) (s : State) : Host.Outcome State Fault Refusal :=
  .next (s.hpiRow (fun h => { h with done := h.done &&& ~~~v.setWidth 16 }))

/-- MBX_EVT_CLEAR. -/
def execMbxEvtClear (v : BitVec 32) (s : State) : Host.Outcome State Fault Refusal :=
  .next (s.hpiRow (fun h => { h with evt := h.evt &&& ~~~v.setWidth 4 }))

/-- HPI_ERR as a word. -/
def hpiErr (h : Hpi) : Nat := h.errOwned + 65536 * h.errUnmap

/-- HPI_ERR_READ. -/
def execHpiErrRead (s : State) : Host.Outcome State Fault Refusal :=
  .next (s.hpiRow (fun h => { h with data := BitVec.ofNat 64 (hpiErr h), errOwned := 0, errUnmap := 0 }))

/-- An access to a mailbox that the MP owns. -/
def ownedAccess (write : Bool) (h : Hpi) : Hpi :=
  { h with errOwned := sat16 h.errOwned, data := if write then h.data else 0 }

/-- OWNED_MAILBOX_ACCESS. -/
def execOwnedMailboxAccess (mbx : Fin 16) (write : Bool) (s : State) : Host.Outcome State Fault Refusal :=
  .next (s.hpiRow (fun h => if h.doorbell.getLsbD mbx.val then ownedAccess write h else h))

/-- An access to an unmapped address (R419). -/
def unmapped (write : Bool) (h : Hpi) : Hpi :=
  { h with errUnmap := sat16 h.errUnmap, data := if write then h.data else 0 }

/-- UNMAPPED_ACCESS. -/
def execUnmappedAccess (write : Bool) (s : State) : Host.Outcome State Fault Refusal := .next (s.hpiRow (unmapped write))

/-! ### Snapshot control (R447, R448) -/

/-- A write of SNAP_CTRL. -/
def State.snapCtrlWrite (v : BitVec 32) (s : State) : State :=
  if !s.hpi.magic then s
  else
    let t := if v.getLsbD 0 then s.releaseBank 0 else s
    if v.getLsbD 1 then t.releaseBank 1 else t

/-- SNAP_CTRL_RELEASE. -/
def execSnapCtrlRelease (v : BitVec 32) (s : State) : Host.Outcome State Fault Refusal := .next (s.snapCtrlWrite v)

/-- A write of PIN_CTRL: its RW fields, and FIRE, whose Pin falls on the edge after the write, the enables being those of the
write. -/
def State.pinCtrlWrite (v : BitVec 32) (cycle : Nat) (s : State) : State :=
  let t := s.hpiRow (fun h => { h with pinCtrl := v.setWidth 8 })
  if v.getLsbD 8 then t.pin 0x01 cycle false else t

/-- PIN_CTRL_FIRE. -/
def execPinCtrlFire (v : BitVec 32) (cycle : Nat) (s : State) : Host.Outcome State Fault Refusal := .next (s.pinCtrlWrite v cycle)

/-- PIN_LOST_READ. -/
def execPinLostRead (s : State) : Host.Outcome State Fault Refusal :=
  .next (s.hpiRow (fun h => { h with data := BitVec.ofNat 64 h.pinLost, pinLost := 0 }))

/-- PIN_IN_EDGE (R446). -/
def execPinInEdge (cycle : Nat) (s : State) : Host.Outcome State Fault Refusal := .next (s.pin 0x02 cycle false)

/-- HAT_STATUS_CLEAR (R416). -/
def execHatStatusClear (v : BitVec 32) (s : State) : Host.Outcome State Fault Refusal :=
  .next (if s.hpi.magic then { s with hat := hatClear v s.hat } else s)

/-! ### Register writes (R16, R419) -/

/-- A host write to the RW fields of the mailbox control registers and of PIN_SLOTS; a read-only register ignores it. -/
def hpiWrite (a : Nat) (v : BitVec 32) (h : Hpi) : Hpi :=
  if a = 0x2000 then ringDoorbell (v.setWidth 16) h
  else if a = 0x2004 then { h with done := h.done &&& ~~~v.setWidth 16 }
  else if a = 0x2008 then { h with irqEn := v.setWidth 20 }
  else if a = 0x200C then { h with evt := h.evt &&& ~~~v.setWidth 4 }
  else if a = 0x2800C then { h with pinSlots := (h.pinSlots &&& 0xFFFFFFFF00000000) ||| v.setWidth 64 }
  else if a = 0x28010 then { h with pinSlots := (h.pinSlots &&& 0xFFFFFFFF) ||| (v.setWidth 64 <<< 32) }
  else h

/-- A host write of a word (R419): byte enables count in a mailbox alone, elsewhere an inactive one voids the write. -/
def State.hostWrite (addr : Nat) (v : BitVec 32) (be : BitVec 4) (s : State) : State :=
  let a := addr / 4 * 4
  if !s.hpi.magic then s
  else if hostRegion a = 0 then { s with hpi := unmapped true s.hpi }
  else if hostRegion a = 4 then
    if s.hpi.doorbell.getLsbD (mbxOf a) then { s with hpi := ownedAccess true s.hpi }
    else { s with hpi := { s.hpi with ram := writeWord s.hpi.ram a v be } }
  else if be ≠ 0xF then s
  else if a = 0x28000 then s.snapCtrlWrite v
  else if a = 0x28004 then s.pinCtrlWrite v (Config.writeCycle s.free)
  else if a = 0x30004 then { s with hat := hatClear v s.hat }
  else { s with hpi := hpiWrite a v s.hpi }

/-- REGISTER_WRITE: by the host, or by the MP to a TSU register (R351). -/
def execRegisterWrite (tsu : Bool) (addr : BitVec 24) (v : BitVec 64) (be : BitVec 4) (s : State) : Host.Outcome State Fault Refusal :=
  .next (if tsu then ({ s with tsu := writeTsu s.life.role addr.toNat v s.tsu } : State).sealTime s.tsu else s.hostWrite addr.toNat (v.setWidth 32) be)

end Sys2Proof.Machine
end

