-- ==== Sys2Proof/Machine/Sessions.lean ====
section
/-! DEFINITION. Sessions, keys, identity and diagnosis: groups 0x01, 0x02 and 0x0E of the command set (R435 to R443, R512). -/

namespace Sys2Proof

/-- A random SESSION is never 0 (R435). -/
def nonZero (v : BitVec 32) : BitVec 32 := if v = 0 then 1 else v

/-- The session is on the host port. -/
def Session.onHost (x : Session) : Bool := match x.carrier with | .host _ => true | .net _ => false

/-- An entry of KEY_LIST (R443). -/
def keyEntry (k : KeyRec) : List Byte := leBytes k.id 4 ++ leBytes k.priv.toNat 4 ++ leBytes (keyFp k.key).toNat 16

/-- Keys that the sealed area holds at most (R512). -/
def maxKeys : Nat := 32

end Sys2Proof

namespace Sys2Proof.Machine

/-! ### Sessions (R435) -/

/-- All places for sessions of this kind of carrier are taken: 8 on the host port, 16 on the network. -/
def State.sessionsFull (c : Carrier) (s : State) : Bool :=
  match c with
  | .host _ => decide (8 ≤ (s.svc.sessions.filter (fun x => x.onHost)).length)
  | .net _ => decide (16 ≤ (s.svc.sessions.filter (fun x => !x.onHost)).length)

/-- A key that is not enrolled is not authorised. -/
def State.openSession (r : Req) (keyId : Nat) (hnonce : BitVec 256) (s : State) : Except Nat Ans :=
  if !s.sca.keys.any (fun k => k.id == keyId) then .error 0x0102
  else if s.sessionsFull r.carrier then .error 0x0104
  else
    let id := nonZero (Config.session s.free)
    let en := Config.nonce s.free
    let x : Session := { id := id, keyId := keyId, carrier := r.carrier, enonce := en, hnonce := hnonce, idle := s.tsu.statTick }
    ({ s with svc := { s.svc with sessions := s.svc.sessions ++ [x] }, free := s.free + 1 } : State).ok
      (leBytes id.toNat 4 ++ leBytes en.toNat 32)

/-- SESSION_OPEN. -/
def execSessionOpen (r : Req) (keyId : Nat) (hnonce : BitVec 256) (s : State) : Host.Outcome State Fault Refusal :=
  .next (s.command (cmdSessionOpen keyId hnonce) r (State.openSession r keyId hnonce))

/-- What SESSION_AUTH signs: ID_SERIAL, SESSION, ENONCE and the host nonce. -/
def State.openBytes (x : Session) (s : State) : List Byte :=
  leBytes s.sca.serial.toNat 8 ++ leBytes x.id.toNat 4 ++ leBytes x.enonce.toNat 32 ++ leBytes x.hnonce.toNat 32

/-- The session takes the privileges that its key has enrolled. -/
def State.authSession (r : Req) (sig : BitVec 768) (s : State) : Except Nat Ans :=
  match s.session r with
  | none => .error 0x0102
  | some x =>
    if !s.keySigned x.keyId (sha384 (s.openBytes x)) sig then .error 0x0102
    else
      let p := s.checkEnv.priv x.keyId
      (s.modSession x (fun y => { y with authed := true, priv := p })).ok (leBytes p.toNat 4)

/-- SESSION_AUTH. -/
def execSessionAuth (r : Req) (sig : BitVec 768) (s : State) : Host.Outcome State Fault Refusal :=
  .next (s.command (cmdSessionAuth sig) r (State.authSession r sig))

/-- SESSION_CLOSE: of the session that the request names. -/
def execSessionClose (r : Req) (s : State) : Host.Outcome State Fault Refusal :=
  .next (s.command cmdSessionClose r (fun t =>
    match t.session r with
    | none => .error 0x0102
    | some x => (t.closeSessions (fun y => y.id == x.id && y.carrier.same x.carrier)).ok []) )

/-- SESSION_INFO: the idle time is the one before this command. -/
def execSessionInfo (r : Req) (s : State) : Host.Outcome State Fault Refusal :=
  .next (s.command cmdSessionInfo r (fun t =>
    match s.session r with
    | none => .error 0x0102
    | some x => t.ok (leBytes x.keyId 4 ++ leBytes x.priv.toNat 4 ++ leBytes (x.lastTag.getD 0) 4 ++
        leBytes ((s.tsu.statTick - x.idle) / 9600) 4)))

/-- SESSION_TIMEOUT: 900 s without a command. -/
def execSessionTimeout (session : Nat) (s : State) : Host.Outcome State Fault Refusal :=
  .next (s.closeSessions (fun x => x.id.toNat == session && decide (x.idle + 8640000 ≤ s.tsu.statTick)))

/-! ### Keys (R512) -/

/-- KEY_ENROL: a button that is held already ends the job at once. -/
def State.enrol (key : BitVec 776) (priv : BitVec 9) (s : State) : Except Nat Ans :=
  if maxKeys ≤ s.sca.keys.length then .error 0x0104
  else
    match s.openJob { opcode := opKeyEnrol, key := key, priv := priv } with
    | .error e => .error e
    | .ok a =>
      if s.sca.button then
        .ok { a with s := { a.s.endJob s.svc.nextJob 3 0x0102 (Config.jobResult s.free) with free := s.free + 1 } }
      else .ok a

/-- KEY_ENROL. -/
def execKeyEnrol (r : Req) (key : BitVec 776) (priv : BitVec 9) (s : State) : Host.Outcome State Fault Refusal :=
  .next (s.command (cmdKeyEnrol key priv) r (State.enrol key priv))

/-- KEY_ENROL_BUTTON: the waiting key takes the next KEY_ID; the button counts as held until the next tick (log entry 7). -/
def State.enrolButton (s : State) : State :=
  let t : State := { s with sca := { s.sca with button := true } }
  match s.jobOf opKeyEnrol with
  | none => t
  | some j =>
    let k : KeyRec := { id := s.sca.nextKey, key := j.key, priv := j.priv }
    let u : State := { t with sca := { t.sca with keys := s.sca.keys ++ [k], nextKey := s.sca.nextKey + 1 }, free := s.free + 1 }
    u.endJob j.no 2 0 (Config.jobResult s.free)

/-- KEY_ENROL_BUTTON. -/
def execKeyEnrolButton (s : State) : Host.Outcome State Fault Refusal := .next s.enrolButton

/-- KEY_ENROL_TIMEOUT. -/
def execKeyEnrolTimeout (s : State) : Host.Outcome State Fault Refusal := .next s.enrolTimeout

/-- KEY_REVOKE: the key goes at once, and its sessions close. -/
def execKeyRevoke (r : Req) (keyId : Nat) (s : State) : Host.Outcome State Fault Refusal :=
  .next (s.command (cmdKeyRevoke keyId) r (fun t =>
    if !t.sca.keys.any (fun k => k.id == keyId) then .error 0x0103
    else
      let u : State := { t with sca := { t.sca with keys := t.sca.keys.filter (fun k => k.id != keyId) } }
      (u.closeSessions (fun x => x.keyId == keyId)).ok []))

/-- KEY_LIST. -/
def execKeyList (r : Req) (s : State) : Host.Outcome State Fault Refusal :=
  .next (s.command cmdKeyList r (fun t => t.ok ((t.sca.keys.take 32).flatMap keyEntry)))

/-! ### Identity, status, health -/

/-- GET_IDENTITY. -/
def execGetIdentity (r : Req) (s : State) : Host.Outcome State Fault Refusal :=
  .next (s.command cmdGetIdentity r (fun t =>
    t.ok (t.identBytes ++ beBytes (if t.sca.ident then Config.identKey t.sca.identN else (0 : BitVec 776)).toNat 97)))

/-- GET_STATUS. -/
def execGetStatus (r : Req) (s : State) : Host.Outcome State Fault Refusal :=
  .next (s.command cmdGetStatus r (fun t => t.ok (windowHead t.hpi.win)))

/-- VALUE of `n` points from an index on. -/
def State.values (first n : Nat) (s : State) : List Byte := (List.range n).flatMap (fun k => leBytes (s.seen (first + k)).value.toNat 8)

/-- GET_HEALTH. -/
def execGetHealth (r : Req) (s : State) : Host.Outcome State Fault Refusal :=
  .next (s.command cmdGetHealth r (fun t => t.ok (t.values 0xF0000 128)))

/-- SELFTEST: the result word is a free value (log entry 6). -/
def execSelftest (r : Req) (s : State) : Host.Outcome State Fault Refusal :=
  .next (s.command cmdSelftest r (fun t =>
    t.used.ok (leBytes (Config.selftestWord t.free).toNat 4 ++ leBytes t.hpi.win.health.toNat 4)))

/-- COUNTERS; HPI_ERR is not cleared by this read (R429 clears it by a read of the register). -/
def execCounters (r : Req) (s : State) : Host.Outcome State Fault Refusal :=
  .next (s.command cmdCounters r (fun t =>
    t.ok (leBytes (hpiErr t.hpi) 4 ++ leBytes t.svc.sessions.length 4 ++ leBytes t.svc.sigFails 4 ++ leBytes t.svc.refused 4)))

/-- A command that resets the engine after its response. -/
def State.leaveAns (cause : Nat) (s : State) : Except Nat Ans := (s.leave cause).ok []

/-- ENGINE_RESET. -/
def execEngineReset (r : Req) (s : State) : Host.Outcome State Fault Refusal :=
  .next (s.command cmdEngineReset r (State.leaveAns 0x10001))

/-- TO_WAITING (R43): in roles 1 to 6. -/
def execToWaiting (r : Req) (s : State) : Host.Outcome State Fault Refusal :=
  .next (s.command cmdToWaiting r (State.leaveAns 0x10002))

/-- ECHO: up to 4,064 bytes. -/
def execEcho (r : Req) (data : List Byte) (s : State) : Host.Outcome State Fault Refusal :=
  .next (s.command (cmdEcho data) r (fun t => t.ok data))

end Sys2Proof.Machine
end

