-- ==== Sys2Proof/Machine/Blocks.lean ====
section
/-! DEFINITION. Blocks, Hoods, update packages and jobs: groups 0x03, 0x04 and 0x0B of the command set, JOB_STATUS and
JOB_CANCEL (R304 to R316, R442, R443, R492 to R503). -/

namespace Sys2Proof

/-- A chunk joins a transfer. -/
def putChunk (ofs : Nat) (data : List Byte) (now : Nat) (x : Xfer) : Xfer := { x with got := x.got ++ [(ofs, data)], lastT := now }

/-- A BEGIN meets the transfer of another session (R442). -/
def foreign (session : Nat) (x : Option Xfer) : Bool :=
  match x with
  | some y => y.session.toNat != session
  | none => false

/-- A chunk ends within the LENGTH of the running transfer (R496). -/
def chunkFits (ofs len : Nat) (x : Option Xfer) : Bool :=
  match x with
  | some y => decide (ofs + len ≤ y.length)
  | none => true

/-- Accept a chunk of a transfer: of this session (R442). -/
def takeChunk (session ofs : Nat) (data : List Byte) (now : Nat) (x : Option Xfer) : Except Nat Xfer :=
  match x with
  | none => .error 0x0103
  | some y =>
    if y.session.toNat ≠ session then .error 0x0104
    else .ok (putChunk ofs data now y)

/-- The Block that a transfer's bytes spell (R489, R490). -/
def Xfer.blockOf (x : Xfer) : Block :=
  let l := x.bytes
  (Config.blockParts ((List.range 14).map (fun k => sectionOf l 28 (k + 1)))).block l

/-- The Hood that a transfer's bytes spell (R305). -/
def Xfer.hoodOf (x : Xfer) : Hood :=
  let l := x.bytes
  (Config.hoodParts l).hood l

/-- The staged Block's STATE (R494): none, incomplete, complete, checked. -/
def stagedState (x : Option Xfer) (checked : Bool) : Nat :=
  match x with
  | none => 0
  | some y => if !y.complete then 1 else if checked then 3 else 2


/-- Privilege and signature of a job's command (R443). -/
def jobAuth (op : Nat) : Option Nat × Bool :=
  if op = opBlockCheck then (some 4, false)
  else if op = opBlockActivate then (some 4, true)
  else if op = opHoodLoad then (some 3, true)
  else if op = opDrcExport then (some 0, false)
  else if op = opUpdStage then (some 7, true)
  else (none, false)

/-- STATE of a job that ended with a status: done or failed. -/
def endState (final : Nat) : Nat := if final = 0 then 2 else 3

/-- The header check of an update package (R502, R503): against the running image with its SHA-256 hash, the device's firmware decryption
key where it is held, and the security level. -/
def packageCode (fw : BitVec 32) (hash : List Byte) (fwKey : Option Nat) (secLvl : Nat) (p : Package) : Nat :=
  firstCode [
    (!p.formOk, 0x0500), (fwKey.map (fun d => keyFp (publicKey d)) != some p.devFp, 0x0501), (p.fromVer != fw || p.fromHash != hash, 0x0502),
    (decide (p.secLvl < secLvl), 0x0508)]

end Sys2Proof

namespace Sys2Proof.Machine

/-- In a pair, the partner is reachable and not in role 2 (R314, R497). -/
def State.partnerBusy (s : State) : Bool := s.paired && s.pair.linkUp && s.pair.prole != 2

/-- A job ends with a status and a RESULT to which R443 gives no meaning. -/
def State.endPlain (no final : Nat) (s : State) : State :=
  { s.endJob no (endState final) final (Config.jobResult s.free) with free := s.free + 1 }

/-! ### Block transfer and check (R442, R492, R494, R496) -/

/-- BLOCK_BEGIN: LENGTH is at most 64 MiB (R489); a staged Block is discarded. -/
def execBlockBegin (r : Req) (length : Nat) (blockId : BitVec 128) (s : State) : Host.Outcome State Fault Refusal :=
  .next (s.command (cmdBlockBegin length blockId) r (fun t =>
    if foreign r.session t.store.xfer then .error 0x0104
    else
      let x : Xfer := { session := BitVec.ofNat 32 r.session, length := length, idv := blockId, lastT := t.tsu.statTick }
      ({ t with store := { t.store with xfer := some x, checked := false } } : State).ok []))

/-- BLOCK_CHUNK. -/
def execBlockChunk (r : Req) (offset : Nat) (data : List Byte) (s : State) : Host.Outcome State Fault Refusal :=
  .next (s.command (cmdBlockChunk (chunkFits offset data.length s.store.xfer) offset data) r (fun t =>
    match takeChunk r.session offset data t.tsu.statTick t.store.xfer with
    | .error e => .error e
    | .ok x => ({ t with store := { t.store with xfer := some x, checked := false } } : State).ok []))

/-- The first failing code of the staged Block (R492). -/
def State.stagedCode (s : State) : Nat :=
  match s.store.xfer with
  | some x => if x.complete then blockCheck s.checkEnv x.blockOf else 0x0204
  | none => 0x0204

/-- BLOCK_CHECK. -/
def execBlockCheck (r : Req) (s : State) : Host.Outcome State Fault Refusal :=
  .next (s.command cmdBlockCheck r (State.openJob { opcode := opBlockCheck }))

/-- The check of the staged Block ends. -/
def State.blockChecked (s : State) : State :=
  match s.jobOf opBlockCheck with
  | none => s
  | some j =>
    let c := s.stagedCode
    ({ s with store := { s.store with checked := c == 0 } } : State).endPlain j.no c

/-- BLOCK_CHECK_COMPLETE. -/
def execBlockCheckComplete (s : State) : Host.Outcome State Fault Refusal := .next s.blockChecked

/-- BLOCK_INFO (R443, R494). -/
def execBlockInfo (r : Req) (s : State) : Host.Outcome State Fault Refusal :=
  .next (s.command cmdBlockInfo r (fun t =>
    let idOf (b : Option Block) : Nat := ((b.map Block.blockId).getD 0).toNat
    t.ok (leBytes (idOf t.store.cur) 16 ++ leBytes (idOf t.store.prev) 16 ++ leBytes ((t.store.xfer.map Xfer.idv).getD 0).toNat 16 ++
      leBytes (stagedState t.store.xfer t.store.checked + 4 * boolNat t.store.prev.isSome + 8 * boolNat t.store.conv) 4)))

/-! ### Activation (R497, R498, R500) -/

/-- The Block that BLOCK_ACTIVATE names. -/
def State.slotBlock (slot : Nat) (s : State) : Option Block := if slot = 0 then s.store.xfer.map Xfer.blockOf else s.store.prev

/-- R497's cases of wrong state. -/
def State.activateBarred (s : State) : Bool :=
  s.hood.armed.isSome || s.pair.ho.isSome || (s.jobOf opBlockActivate).isSome || !s.upd.confirmed || s.partnerBusy

/-- An activation is accepted as a job; the active engine of a pair forwards the Block (R500). -/
def State.activateGo (slot ntick : Nat) (s : State) : Except Nat Ans :=
  if s.activateBarred || !ntickOk s.logic.ltc ntick then .error 0x0103
  else if !s.jobFree opBlockActivate then .error 0x0104
  else
    match s.slotBlock slot with
    | none => .error 0x0207
    | some b =>
      let t : State := { s with
        store := { s.store with act := some { blk := b, prev := slot == 1, job := s.svc.nextJob, ntick := ntick }, partnerOk := none } }
      (t.toPartner [.forward (.block b)]).openJob { opcode := opBlockActivate }

/-- BLOCK_ACTIVATE. -/
def execBlockActivate (r : Req) (slot : Nat) (ntick : Nat) (s : State) : Host.Outcome State Fault Refusal :=
  .next (s.command (cmdBlockActivate slot ntick) r (State.activateGo slot ntick))

/-- The activation tick A of an activation whose preparation ends now (R498): 96 ticks ahead where none is named. -/
def State.activationTick (a : Activation) (s : State) : Nat := if a.ntick = 0 then s.logic.ltc + 96 else a.ntick

/-- What this engine's check of an activation finds, then whether the Block, written to a slot meanwhile, reads back (R493), then the partner's
code, then the strict force policy (R321, R500). -/
def State.prepCode (a : Activation) (partner : Nat) (s : State) : Nat :=
  firstNz [
    if !a.prev && !((s.store.xfer.map Xfer.complete).getD false) then 0x0204 else blockCheck s.checkEnv a.blk,
    if s.store.bad then 0x0206 else 0,
    if s.pair.linkUp then partner else 0,
    if s.block.fpol = 2 && (!(({ newMap a.blk with fpol := 1 } : NewMap).lostForces s.sig).isEmpty ||
      (s.waitingForces (s.activationTick a)).any (losesPoint s.block a.blk)) then 0x02B5 else 0]

/-- Preparation ends: the activation tick is named, 96 ticks ahead at least (R498), and mirrored; or the job fails. -/
def State.prepared (job partner : Nat) (s : State) : State :=
  match s.store.act with
  | none => s.endPlain job 0x0207
  | some a =>
    let c := firstNz [s.prepCode a partner, if a.ntick ≠ 0 ∧ a.ntick < s.logic.ltc + 96 then 0x0205 else 0]
    if c ≠ 0 then ({ s with store := { s.store with act := none } } : State).endPlain job c
    else
      let n := s.activationTick a
      let t : State := { s with
        store := { s.store with act := some { a with at_ := some n }, partnerOk := some partner }
        svc := { s.svc with jobs := s.svc.jobs.map (fun j => if j.no = job then { j with armed := true, result := BitVec.ofNat 64 n } else j) } }
      t.pushAct { act := .blockActivate, ntick := n, opcode := opBlockActivate }

/-- The prepared Block takes effect where its tick has come. -/
def State.activationDue (s : State) : State :=
  match s.store.act with
  | some a => if a.at_.isSome && decide (a.at_.getD 0 ≤ s.logic.ltc) then s.applyActivation else s
  | none => s

/-- BLOCK_ACTIVATION_APPLY: in phase A of A, where A is the coming tick. -/
def execBlockActivationApply (s : State) : Host.Outcome State Fault Refusal := .next (s.atNext State.activationDue)

/-- BLOCK_DIRECTORY_WRITE: once an activation has left it to be written. -/
def execBlockDirectoryWrite (s : State) : Host.Outcome State Fault Refusal :=
  .next (if s.store.dirDue.isSome then s.writeDirectory else s)

/-! ### Hoods (R304 to R310) -/

/-- HOOD_BEGIN: LENGTH is at most 16 MiB (R305). -/
def execHoodBegin (r : Req) (length : Nat) (hoodId : BitVec 128) (s : State) : Host.Outcome State Fault Refusal :=
  .next (s.command (cmdHoodBegin length hoodId) r (fun t =>
    if foreign r.session t.store.hoodX then .error 0x0104
    else if 16 * 2 ^ 20 < length then .error 0x02B0
    else
      let x : Xfer := { session := BitVec.ofNat 32 r.session, length := length, idv := hoodId, lastT := t.tsu.statTick }
      ({ t with store := { t.store with hoodX := some x } } : State).ok []))

/-- HOOD_CHUNK. -/
def execHoodChunk (r : Req) (offset : Nat) (data : List Byte) (s : State) : Host.Outcome State Fault Refusal :=
  .next (s.command (cmdHoodChunk (chunkFits offset data.length s.store.hoodX) offset data) r (fun t =>
    match takeChunk r.session offset data t.tsu.statTick t.store.hoodX with
    | .error e => .error e
    | .ok x => ({ t with store := { t.store with hoodX := some x } } : State).ok []))

/-- The package received, malformed where the transfer is not complete (R305, R316). -/
def State.hoodReceived (s : State) : Hood :=
  match s.store.hoodX with
  | some x => if x.complete then x.hoodOf else { x.hoodOf with formOk := false }
  | none => { formOk := false }

/-- HOOD_LOAD: the package goes to a reachable partner (R314). -/
def State.hoodLoadGo (s : State) : Except Nat Ans :=
  if s.partnerBusy || s.hood.armed.isSome then .error 0x0103
  else
    (s.toPartner [.forward (.hood s.hoodReceived)]).openJob { opcode := opHoodLoad }

/-- HOOD_LOAD. -/
def execHoodLoad (r : Req) (s : State) : Host.Outcome State Fault Refusal :=
  .next (s.command cmdHoodLoad r State.hoodLoadGo)

/-- The check ends: own code, then the partner's; the Hood is loaded where both pass. The standby has no job of its own: the Hood
forwarded to it, whose check it has passed, is loaded where the active engine's check passed too (R314). -/
def State.hoodLoaded (partner : Nat) (s : State) : State :=
  match s.jobOf opHoodLoad with
  | none =>
    match s.hood.cand with
    | none => s
    | some h =>
      { s with hood := if partner = 0 && s.hood.armed.isNone then { s.hood with held := some h, loaded := true, cand := none }
                       else { s.hood with cand := none } }
  | some j =>
    let h := s.hoodReceived
    let c := firstNz [s.checkHood h, if s.pair.linkUp then partner else 0, if s.hood.armed.isSome then 0x0103 else 0]
    if c ≠ 0 then s.endPlain j.no c
    else ({ s with hood := { s.hood with held := some h, loaded := true }, store := { s.store with hoodX := none } } : State).endPlain j.no 0

/-- HOOD_LOAD_COMPLETE. -/
def execHoodLoadComplete (partner : Nat) (s : State) : Host.Outcome State Fault Refusal := .next (s.hoodLoaded partner)

/-- The swap tick that a command names; 0 names the earliest that R308 admits. -/
def swapTick (ltc n : Nat) : Nat := if n = 0 then ltc + 48 else n

/-- HOOD_SWAP's checks (R308, R321). -/
def State.swapCode (h : Hood) (n : Nat) (s : State) : Nat :=
  firstCode [
    (decide (n < s.logic.ltc + 48) || !swapTickOk s.block h n, 0x02B4),
    (s.block.fpol == 2 && (s.sig.forces.map (·.point) ++ s.waitingForces n).any (hoodTouches s.block h), 0x02B5)]

/-- A swap is armed at once, and takes effect at S. -/
def State.hoodSwapGo (cmd : CmdSpec) (r : Req) (ntick : Nat) (s : State) : Except Nat Ans :=
  match s.hood.held with
  | none => .error 0x0103
  | some h =>
    let n := swapTick s.logic.ltc ntick
    if s.partnerBusy || s.hood.armed.isSome || !s.hood.loaded then .error 0x0103
    else
      let c := s.swapCode h n
      if c ≠ 0 then .error c
      else
        let x := s.signAct cmd r { act := .hoodSwap, ntick := n, opcode := 0x0404, keyId := ((s.session r).map (·.keyId)).getD 0
                                   session := r.session, reply := r.carrier.reply, tag := r.tag }
        .ok { s := (s.pushAct x).prepare x, later := true }

/-- HOOD_SWAP. -/
def execHoodSwap (r : Req) (ntick : Nat) (s : State) : Host.Outcome State Fault Refusal :=
  .next (s.command (cmdHoodSwap ntick) r (State.hoodSwapGo (cmdHoodSwap ntick) r ntick))

/-- HOOD_CANCEL: its tick lies before S (R310). -/
def State.hoodCancelGo (c : CmdSpec) (r : Req) (ntick : Nat) (s : State) : Except Nat Ans :=
  match s.hood.armed with
  | none => .error 0x0103
  | some n => if s.partnerBusy || decide (n ≤ ntickOf s.logic.ltc ntick) then .error 0x0103 else s.actAt c r ntick .hoodCancel

/-- HOOD_CANCEL. -/
def execHoodCancel (r : Req) (ntick : Nat) (s : State) : Host.Outcome State Fault Refusal :=
  let c := cmdHoodCancel ntick
  .next (s.command c r (State.hoodCancelGo c r ntick))

/-- HOOD_UNLOAD: a loaded Hood that is not armed (R306). -/
def execHoodUnload (r : Req) (s : State) : Host.Outcome State Fault Refusal :=
  .next (s.command cmdHoodUnload r (fun t =>
    if !t.hood.loaded || t.hood.armed.isSome then .error 0x0103
    else ({ t with hood := { t.hood with held := none, loaded := false } } : State).ok []))

/-- HOOD_INFO. -/
def execHoodInfo (r : Req) (s : State) : Host.Outcome State Fault Refusal :=
  .next (s.command cmdHoodInfo r (fun t => t.ok (t.values 0xF02C0 10)))

/-! ### Update packages (R501 to R503) -/

/-- UPD_BEGIN. -/
def execUpdBegin (r : Req) (length : Nat) (s : State) : Host.Outcome State Fault Refusal :=
  .next (s.command (cmdUpdBegin length) r (fun t =>
    if foreign r.session t.upd.xfer then .error 0x0104
    else if 32 * 2 ^ 20 < length then .error 0x0500
    else if t.upd.stage ≠ 0 then .error 0x0503
    else
      let x : Xfer := { session := BitVec.ofNat 32 r.session, length := length, lastT := t.tsu.statTick }
      ({ t with upd := { t.upd with stage := 1, xfer := some x, pkg := none } } : State).ok []))

/-- UPD_CHUNK. -/
def execUpdChunk (r : Req) (offset : Nat) (data : List Byte) (s : State) : Host.Outcome State Fault Refusal :=
  .next (s.command (cmdUpdChunk (chunkFits offset data.length s.upd.xfer) offset data) r (fun t =>
    match takeChunk r.session offset data t.tsu.statTick t.upd.xfer with
    | .error e => .error e
    | .ok x => ({ t with upd := { t.upd with xfer := some x } } : State).ok []))

/-- The package staged, or received as a whole (R501). -/
def State.package (s : State) : Option Package :=
  match s.upd.pkg with
  | some p => some p
  | none =>
    match s.upd.xfer with
    | some x => if x.complete then some (Package.ofBytes x.bytes) else none
    | none => none

/-- MODE 1 is refused in the present state (R503). -/
def State.bootBarred (s : State) : Bool :=
  s.life.role == 3 || s.life.role == 5 || s.hood.armed.isSome || s.pair.ho.isSome || (s.jobOf opBlockActivate).isSome

/-- The codes of UPD_STAGE that the engine's state gives (R503). -/
def State.stageCode (mode : Nat) (outage : Bool) (s : State) : Nat :=
  firstCode [
    (mode == 1 && !outage && (s.life.role == 6 || (s.life.role == 1 && !s.pair.linkUp)), 0x0504),
    (mode == 1 && s.life.role == 2 && !(s.pair.linkUp && s.pair.prole == 1 && !s.pair.psick), 0x0505),
    (!s.upd.confirmed, 0x0506),
    (s.package.isNone, 0x0507)]

/-- UPD_STAGE. -/
def execUpdStage (r : Req) (mode : Nat) (acceptOutage : Bool) (s : State) : Host.Outcome State Fault Refusal :=
  .next (s.command (cmdUpdStage mode acceptOutage) r (fun t =>
    if mode = 1 && t.bootBarred then .error 0x0103
    else if !t.jobFree opUpdStage then .error 0x0104
    else
      let c := t.stageCode mode acceptOutage
      if c ≠ 0 then .error c else t.openJob { opcode := opUpdStage, opts := mode }))

/-- The header check ends: the package is staged, and with MODE 1 the engine resets into its boot (R502, R504). -/
def State.stageDone (j : Job) (s : State) : State :=
  match s.package with
  | none => s.endPlain j.no 0x0507
  | some p =>
    let c := packageCode s.life.fwVer s.upd.hash s.sca.fwKey s.sca.secLvl p
    if c ≠ 0 then s.endPlain j.no c
    else
      let t := ({ s with upd := { s.upd with stage := if j.opts = 1 then 3 else 2, pkg := some p, xfer := none } } : State).endPlain j.no 0
      if j.opts = 1 then t.leave 0x10003 else t

/-- CONF of UPD_INFO (R502). -/
def confCode (u : Upd) : Nat := if u.confirmed then 0 else if u.fallPend then 2 else 1

/-- Seconds left in the confirm window (R502). -/
def State.windowLeft (s : State) : Nat :=
  if s.upd.confirmed then 0 else (s.upd.begun + s.block.time.confWin * 9600 - s.tsu.statTick) / 9600

/-- UPD_INFO. -/
def execUpdInfo (r : Req) (s : State) : Host.Outcome State Fault Refusal :=
  .next (s.command cmdUpdInfo r (fun t =>
    t.ok (leBytes t.upd.stage 4 ++ leBytes ((t.upd.pkg.map Package.toVer).getD 0).toNat 4 ++ leBytes t.life.fwVer.toNat 4 ++
      leBytes t.upd.altVer.toNat 4 ++ leBytes (confCode t.upd) 4 ++ leBytes t.windowLeft 4 ++ leBytes t.upd.matches_ 4 ++
      leBytes t.upd.lastFail 4 ++ leBytes t.sca.secLvl 4)))

/-- UPD_DISCARD. -/
def execUpdDiscard (r : Req) (s : State) : Host.Outcome State Fault Refusal :=
  .next (s.command cmdUpdDiscard r (fun t =>
    ({ t with upd := { t.upd with stage := 0, xfer := none, pkg := none, cut := false } } : State).ok []))

/-! ### Jobs (R442) -/

/-- Payload of JOB_STATUS: what a running job has not named yet is a free value, as PROGRESS is (log entry 6). -/
def jobBytes (free : Nat) (j : Job) : List Byte :=
  let fin : Nat := if j.state = 1 then (Config.jobResult free).toNat else j.final
  let res : BitVec 64 := if j.state = 1 && !j.armed then Config.jobResult (free + 1) else j.result
  leBytes j.state 1 ++ leBytes 0 1 ++ leBytes (Config.jobProgress free).toNat 2 ++ leBytes fin 2 ++ leBytes 0 2 ++ leBytes res.toNat 8

/-- JOB_STATUS. -/
def execJobStatus (r : Req) (job : Nat) (s : State) : Host.Outcome State Fault Refusal :=
  .next (s.command (cmdJobStatus job) r (fun t =>
    match t.svc.jobs.find? (fun j => j.no == job) with
    | none => .error 0x0103
    | some j => ({ t with free := t.free + 2 } : State).ok (jobBytes t.free j)))

/-- What a cancelled job leaves undone. -/
def State.dropJob (j : Job) (s : State) : State :=
  if j.opcode = opBlockActivate then { s with store := { s.store with act := none } }
  else if j.opcode = opDrcExport then { s with drc := s.drc.modRec j.recno (fun x => { x with exporting := false }) }
  else s

/-- JOB_CANCEL: with the privilege and signature of the job's command. -/
def execJobCancel (r : Req) (job : Nat) (s : State) : Host.Outcome State Fault Refusal :=
  let auth := jobAuth (((s.svc.jobs.find? (fun j => j.no == job)).map (·.opcode)).getD 0)
  .next (s.command (cmdJobCancel auth job) r (fun t =>
    match t.running.find? (fun j => j.no == job) with
    | none => .error 0x0103
    | some j =>
      if j.armed then .error 0x0103
      else ({ (t.dropJob j).endJob j.no 4 (Config.jobProgress t.free).toNat (Config.jobResult t.free) with free := t.free + 1 } : State).ok []))

/-- JOB_END: the running job of a number finishes as its command has it; `final` is the partner's code where that counts. -/
def State.jobEnd (job final result : Nat) (s : State) : State :=
  match s.running.find? (fun j => j.no == job) with
  | none => s
  | some j =>
    if j.opcode = opKeyEnrol then s.enrolTimeout
    else if j.opcode = opBlockCheck then s.blockChecked
    else if j.opcode = opBlockActivate then (if j.armed then s else s.prepared job final)
    else if j.opcode = opHoodLoad then s.hoodLoaded final
    else if j.opcode = opDrcExport then s.exportDone job
    else if j.opcode = opUpdStage then s.stageDone j
    else s.endJob job (endState final) final (BitVec.ofNat 64 result)

/-- JOB_END. -/
def execJobEnd (job : Nat) (final : Nat) (result : Nat) (s : State) : Host.Outcome State Fault Refusal := .next (s.jobEnd job final result)

/-- TRANSFER_DISCARD. -/
def execTransferDiscard (kind : Fin 3) (s : State) : Host.Outcome State Fault Refusal := .next (s.discardIdle kind.val)

end Sys2Proof.Machine
end

