-- ==== Sys2Proof/Machine/Breaker.lean ====
section
/-! DEFINITION. Commands that name an event of one breaker slot or station scheme (R230 to R250). The inputs are those of the
slot's next pass on the signal space as it stands; a count of ticks is the one it reaches in that pass (log entry 4). -/

namespace Sys2Proof

/-- A backup trip of another slot's breaker failure (R239): class XL; a failed slot stays, one in mode Off runs no sequence (R245). -/
def backupTrip (x : SlotIn) (s : SlotState) : SlotState :=
  if s.state = 7 || x.mode = 5 then s else if s.state = 2 then { s with tclass := clsMax s.tclass 4 } else tripEnter 4 s

end Sys2Proof

namespace Sys2Proof.Machine

/-- Inputs of a slot in use. -/
def State.slotIn (slot : Nat) (s : State) : Option SlotIn :=
  match s.blk with
  | none => none
  | some b =>
    match b.slots[slot]? with
    | none => none
    | some e => if e.use = 0 then none else some (slotInputs b s.sig s.phe.pres false none (pathBad s.fio e) slot e)

/-- Let an event of a slot come about, with its points and records and what the station protocols hear of it. -/
def State.slotRow (slot : Nat) (f : SlotIn → SlotState → Option (SlotState × List Told)) (s : State) : State :=
  match s.slotIn slot with
  | none => s
  | some x =>
    match f x (at! s.slots slot) with
    | none => s
    | some (y, ev) =>
      ({ s with
        slots := s.slots.set slot y
        sig := s.sig.writes s.tsu.id (slotWrites slot x y)
        evr := { s.evr with tickEv := s.evr.tickEv ++ ev.map Prod.fst } } : State).sayAll (termMsgs ev)

/-- An event on a condition, without a record. -/
def State.slotWhen (slot : Nat) (c : SlotIn → SlotState → Bool) (f : SlotIn → SlotState → SlotState) (s : State) : State :=
  s.slotRow slot (fun x y => if c x y then some (f x y, []) else none)

/-- An event of the state machine: a slot in mode Off has none (R245). -/
def State.seqWhen (slot : Nat) (c : SlotIn → SlotState → Bool) (f : SlotIn → SlotState → SlotState) (s : State) : State :=
  s.slotWhen slot (fun x y => x.mode != 5 && c x y) f

/-- TRIP_MINIMUM_EXPIRY (R235). -/
def execTripMinimumExpiry (slot : Fin 64) (s : State) : Host.Outcome State Fault Refusal :=
  .next (s.seqWhen slot.val (fun x y => y.state == 2 && !x.active && decide (x.ttmin ≤ y.tmr + 1) && x.openConf) tripEnd)

/-- TRIP_MAXIMUM_EXPIRY (R235, R240). -/
def execTripMaximumExpiry (slot : Fin 64) (s : State) : Host.Outcome State Fault Refusal :=
  .next (s.seqWhen slot.val
    (fun x y => y.state == 2 && (x.active || !x.openConf) && decide (x.ttmax ≤ y.tmr + 1)) (fun _ y => tripFail y))

/-- DEAD_TIME_EXPIRY (R235): a reclose, or lockout after TWAIT without permission. -/
def execDeadTimeExpiry (slot : Fin 64) (s : State) : Host.Outcome State Fault Refusal :=
  .next (s.seqWhen slot.val
    (fun x y => y.state == 4 && !x.active && !x.isOn && !x.blk79 &&
      (if x.recOk then decide (x.td y.shot ≤ y.tmr + 1) else decide (x.td y.shot + x.n 11 ≤ y.tmr + 1)))
    (fun x y => if x.recOk then deadClose y else deadLock y))

/-- CLOSE_MAXIMUM_EXPIRY (R235). -/
def execCloseMaximumExpiry (slot : Fin 64) (s : State) : Host.Outcome State Fault Refusal :=
  .next (s.seqWhen slot.val (fun x y => y.state == 3 && !x.active && !x.isOn && decide (x.tclmax ≤ y.tmr + 1)) (fun _ y => closeFail y))

/-- RECLAIM_EXPIRY (R235). -/
def execReclaimExpiry (slot : Fin 64) (s : State) : Host.Outcome State Fault Refusal :=
  .next (s.seqWhen slot.val
    (fun x y => y.state == 5 && !x.active && decide ((if y.manual then x.n 10 else x.n 9) ≤ y.tmr + 1)) (fun _ y => reclaimEnd y))

/-- POSITION_DISCREPANCY (R230). -/
def execPositionDiscrepancy (slot : Fin 64) (s : State) : Host.Outcome State Fault Refusal :=
  .next (s.slotWhen slot.val (fun x y => (x.pos == 0 || x.pos == 3) && decide (x.n 18 ≤ y.disc)) (fun _ y => discSet y))

/-- RETRIP (R239). -/
def execRetripSet (slot : Fin 64) (s : State) : Host.Outcome State Fault Refusal :=
  .next (s.slotWhen slot.val (fun x y => (bfStep x (x.bfInit y) y).retrip && !y.retrip) (fun _ y => { retripGo y with trigOn := true }))

/-- bf_trip of a slot, and the trips of its BFT targets; in the modes that drive nothing no target trips (R239, R245). -/
def State.bfTripRow (slot : Nat) (s : State) : State :=
  match s.slotIn slot with
  | none => s
  | some x =>
    let y := at! s.slots slot
    if x.mode != 5 && (bfStep x (x.bfInit y) y).bfTrip && !y.bfTrip then
      let t := s.slotWhen slot (fun _ _ => true) (fun _ y => bfGo y)
      if x.mode = 2 || x.mode = 4 then t else x.e.bft.foldl (fun t j => t.slotWhen j (fun _ _ => true) (fun z y => backupTrip z y)) t
    else s

/-- BREAKER_FAILURE_TRIP. -/
def execBreakerFailureTrip (slot : Fin 64) (s : State) : Host.Outcome State Fault Refusal := .next (s.bfTripRow slot.val)

/-- SELECTION_TIMEOUT (R243). -/
def execSelectionTimeout (slot : Fin 64) (s : State) : Host.Outcome State Fault Refusal :=
  .next (s.slotRow slot.val (fun x y =>
    if y.sel != 0 && decide (x.n 17 ≤ y.selTmr + 1) then some (selTimeout y, [(ctlEvent slot.val 7 y.selBy, y.selTo)]) else none))

/-- CONTROL_TERMINATION (R243). -/
def execControlTermination (slot : Fin 64) (s : State) : Host.Outcome State Fault Refusal :=
  .next (s.slotRow slot.val (fun x y =>
    if y.ctls.any (fun c => (ctlFinal x c).isSome) then some (ctlTerminate x y, ctlEnds slot.val x y) else none))

/-! ### Station schemes -/

/-- BUS_BLOCKING_EXTENSION_EXPIRY (R248): the last tick of the extension, with no invalid member. -/
def execBusBlockingExtensionExpiry (i : Fin 8) (s : State) : Host.Outcome State Fault Refusal :=
  .next { s with schemes :=
    if i.val < s.block.busBlocks.length ∧ (bbStep 1 s.sig (at! s.block.busBlocks i.val) (at! s.schemes.bbExt i.val)).2 = 0
    then { s.schemes with bbExt := s.schemes.bbExt.modify i.val bbExpire } else s.schemes }

/-- INTERTRIP_PULSE_EXPIRY (R249): the last tick of TPULSE. -/
def execIntertripPulseExpiry (i : Fin 32) (s : State) : Host.Outcome State Fault Refusal :=
  .next { s with schemes := if at! s.schemes.itLeft i.val ≤ 1 then { s.schemes with itLeft := s.schemes.itLeft.modify i.val itExpire } else s.schemes }

/-- A stage's close request, where its next evaluation issues one of the wanted sort (R250): the slot asked takes it, slots no
longer Open are skipped, each with its record. -/
def State.shedRow (i : Nat) (first : Bool) (s : State) : State :=
  match s.blk with
  | none => s
  | some b =>
    match b.sheds[i]? with
    | none => s
    | some e =>
      let old := at! s.schemes.shed i
      let hold := (b.sheds.zipIdx).any (fun h => decide (i < h.2) && h.1.rflags.testBit 0 && !(shedLeft h.1 s.slots).isEmpty)
      let r := shedStep s.sig e hold s.slots old
      if r.1.on && r.1.since == 0 && old.on != first then
        let s1 := { s with
          schemes := { s.schemes with shed := s.schemes.shed.modify i (fun _ => r.1) }
          slots := r.2.2.2.foldl (fun l j => l.modify j (fun y => { y with shed := false })) s.slots
          evr := { s.evr with tickEv := s.evr.tickEv ++ r.2.2.2.map (skipEvent i) } }
        match r.2.2.1 with
        | none => s1
        | some (j, free) => s1.slotRow j (fun x y =>
            let r := restoreAsk j x i free false false y
            some (if r.1 = 1 then closeStart r.2.1 else r.2.1, r.2.2.map (fun e => (e, Reply.none))))
      else s

/-- LOAD_SHED_RESTORATION_START. -/
def execLoadShedRestorationStart (i : Fin 16) (s : State) : Host.Outcome State Fault Refusal := .next (s.shedRow i.val true)

/-- LOAD_SHED_RESTORE_STEP. -/
def execLoadShedRestoreStep (i : Fin 16) (s : State) : Host.Outcome State Fault Refusal := .next (s.shedRow i.val false)

end Sys2Proof.Machine
end

