-- ==== Sys2Proof/Machine/Life.lean ====
section
/-! DEFINITION. Commands of the life states, faults, the supply, the sealed area and firmware (R38 to R45, R502 to R516, R525,
R531). -/

namespace Sys2Proof

/-- The sealed area with everything zeroised (R511, R514): what is not in it stays, and a KEY_ID is never given twice. -/
def zeroise (c : Sca) : Sca :=
  { ident := false, fwKey := none, cedunFw := 0, cedunDbg := 0, tamper := true, nextKey := c.nextKey, identN := c.identN, serial := c.serial }

/-- The identity key and the enrolled keys zeroised (R513). -/
def dropKeys (c : Sca) : Sca := { c with ident := false, keys := [] }

/-- Lowest hardware issue that the firmware runs on (R9): issue C. -/
def minIssue : Nat := 2

/-- What the check of a boot carries from Hood to Hood: the first failing code, the configuration, its identity, the Hoods and the
bytes below. -/
structure BootStep where
  code : Nat
  blk  : Block
  base : BitVec 128
  n    : Nat := 0
  room : Nat

/-- One applied Hood upon what stands below it (R315). -/
def bootStep (v : CheckEnv) (a : BootStep) (h : Hood) : BootStep :=
  { code := if a.code = 0 then hoodCheck v a.blk a.base a.n a.room h else a.code, blk := hoodBlock a.blk h, base := h.hoodId, n := a.n + 1
    room := a.room + h.length }

/-- The check of a boot (R41, R315): the Block, then each applied Hood upon what stands below it; the first failing code. -/
def bootCheck (v : CheckEnv) (b : Block) (chain : List Hood) : Nat :=
  (chain.foldl (bootStep v) { code := blockCheck v b, blk := b, base := b.blockId, room := b.length }).code

/-- The number of a memory of R38. -/
def EccMem.ix : EccMem → Nat
  | .teLocal => 0
  | .dynamicState => 1
  | .blockCopy => 2
  | .intake .. => 3
  | .staging .. => 4
  | .protocol _ => 5
  | .mram _ => 6

/-- A Block as the new image converts it (R506): it keeps its identity and its settings, in the new firmware's format, and bears the
signature of the device identity key. -/
def convertBlock (fw : BitVec 32) (by_ : Nat × Nat) (b : Block) : Block := { b with converted := true, convBy := some by_, format := blockFormat fw }

/-- The schedule re-check of R61 at a conversion: of the Block with its chain of Hoods. -/
def convCode (fw : BitVec 32) (chain : List Hood) (b : Block) : Nat := schedCode fw (chain.foldl hoodBlock b)

/-- The stamping mode of a port follows its module (R531). -/
def sfpForced (m : Sfp) : Bool := m != .sx && m != .lx && m != .absent

/-- The module serves a Felt cage (R531). -/
def sfpFelt (m : Sfp) : Bool := m == .sfpp || m == .dac

end Sys2Proof

namespace Sys2Proof.Machine

/-! ### Start (R41) -/

/-- A start of a machine that runs is a power cycle. -/
def State.powerOff (s : State) : State := if s.life.booted then s.resetEngine 0x10000 else s

/-- The identity key pair is generated at the first start (R510). -/
def firstKey (c : Sca) : Sca := if c.identN = 0 && !c.tamper then { c with ident := true, identN := 1 } else c

/-- Step 1 of R41: the MP's tests, the hardware issue, the strap; a sealed area without contents (R511), its cell (R510); the clock (R369).
An engine that fails its self-test or whose tamper latch is set is unhealthy and stays in role 0 (log entry 32). -/
def State.startUp (strap : BitVec 2) (sealedSec : Nat) (sealedOk selfOk : Bool) (cellMv : Nat) (s : State) : State :=
  let c := firstKey (if sealedOk then s.sca else zeroise s.sca)
  let sec := if sealedOk then sealedSec else 0
  let sick := c.tamper || !selfOk
  { s with
    sca := { c with gen := c.gen + 1, rtc := sec }
    tsu := tsuPowerUp sec c.gen c.utc s.tsu
    life := { s.life with
      booted := true, unit := boolNat (strap.getLsbD 0), strapBad := !strap.getLsbD 1, hwBad := decide (s.life.issue < minIssue)
      selfOk := selfOk, healthy := !sick, sealBad := !sealedOk
      cause := if c.tamper then causeTamper else if selfOk then s.life.cause else causeMp
      prevCause := !sick && s.life.prevCause
      resetCause := if sealedOk then s.life.resetCause else 0x10007, cellLow := decide (cellMv < 2600) }
    pair := { s.pair with mixed := s.pair.linkUp && s.pair.pfw != s.life.fwVer }
    hpi := { s.hpi with magic := true }
    psu := if s.psu.feedA || s.psu.feedB then s.psu else {} }

/-- The records of a start (R475): kind 0x0040 (R516), the activation that a power loss undid (R498), a Hood not applied (R315);
tombstone entries are copied (R486). -/
def State.startRecords (s : State) : State :=
  let r0 : EvRec := { kind := 0x40, subject := s.life.resetCause, value := s.life.lost, arg := s.life.fwVer.setWidth 128 }
  let r1 : List EvRec := match s.store.dirDue, s.store.cur with
    | some _, some b => [{ kind := 0x16, rflags := 1, arg := b.blockId }]
    | _, _ => []
  let r2 : List EvRec := s.hood.storedUnapplied.map (fun i => { kind := 0x15, arg := i })
  { s with
    evr := { evrPowerUp { s.evr with localEv := s.evr.localEv ++ [r0] ++ r2 } with tickEv := s.evr.tickEv ++ r1 }
    store := { s.store with dirDue := none } }

/-- Steps 3 and 4 of R41: the current Block is checked with its chain of Hoods, loaded if it passes, and the role follows. The image
copier has then worked for the first tick (R283). -/
def State.startBlock (s : State) : State :=
  match s.store.cur with
  | none => s
  | some b =>
    if bootCheck s.checkEnv b s.hood.chain = 0 then
      let nb := s.hood.chain.foldl hoodBlock b
      let t := s.activate nb
      ({ t with logic := stageTasks nb t.sig t.logic, hood := s.hood, evr := s.evr
                life := { t.life with blockOk := true } }).takeRole
    else { s with life := { s.life with blockOk := false } }

/-- What remains after a failed update boot (R505): a tombstone entry, LAST_FAIL, no package; failures of steps 5 and 6 reset
into the old slot. -/
def State.updateFailed (fail : Nat) (p : Package) (s : State) : State :=
  { s with
    upd := { s.upd with stage := 0, pkg := none, xfer := none, cut := false, lastFail := fail, fellBack := decide (4 ≤ fail) }
    life := { s.life with resetCause := if 4 ≤ fail then 0x10004 else s.life.resetCause }
    evr := tombPut (tickStamp s.tsu.id s.logic.ltc (fallEvent s.life.fwVer p.toVer)) s.evr }

/-- The new image runs, unconfirmed, with converted Blocks beside those it found (R504, R506); `hash` is its SHA-256 hash. -/
def State.updateBooted (p : Package) (hash : List Byte) (s : State) : State :=
  { s with
    life := { s.life with fwVer := p.toVer }
    upd := { s.upd with stage := 0, pkg := none, xfer := none, cut := false, slot := !s.upd.slot, altVer := s.life.fwVer, hash := hash
                        altHash := s.upd.hash, confirmed := false, fellBack := false, secNew := p.secLvl, lastFail := 0 }
    store := s.store.convert (convertBlock p.toVer (s.sca.serial.toNat, s.sca.identN)) }

/-- Steps 1 to 3 of R504: the package is decrypted and its tag checked, the image patched, Cedun's signature on the result verified. The
failure under R505, 0 none. -/
def State.loaderFail (x : BootTry) (p : Package) (s : State) : Nat :=
  if (s.sca.fwKey.bind p.plain).isNone then 1
  else match x.image with
    | none => 2
    | some (h, _, sig) => if ecdsaOk s.sca.cedunFw h sig then 0 else 3

/-- Steps 5 and 6 of R504: current and previous Block and the Hood chain are converted, and the new image passes its self-test and the
schedule re-check of R61 on what was converted. -/
def State.imageFail (x : BootTry) (p : Package) (s : State) : Nat :=
  firstCode [
    (!s.sca.ident && (s.store.cur.isSome || s.store.prev.isSome), 4),
    (s.hood.chain.any (fun h => !Config.hoodConverts p.toVer h), 4),
    (!x.selfOk, 5),
    ((s.store.cur.map (convCode p.toVer s.hood.chain)).getD 0 != 0, 5),
    ((s.store.prev.map (convCode p.toVer [])).getD 0 != 0, 5)]

/-- UPDATE_BOOT: after the reset of UPD_STAGE MODE 1, before the start goes on (R504). A power loss in the first four steps repeats the boot
once; the second one counts as failure 2 (R505). -/
def State.updateBoot (x : BootTry) (s : State) : State :=
  match s.upd.pkg with
  | none => s
  | some p =>
    if s.life.booted || s.upd.stage ≠ 3 then s
    else if x.cut then (if s.upd.cut then s.updateFailed 2 p else { s with upd := { s.upd with cut := true } })
    else
      match firstNz [s.loaderFail x p, s.imageFail x p] with
      | 0 => s.updateBooted p ((x.image.map (fun i => i.2.1)).getD [])
      | f => s.updateFailed f p

/-- UPDATE_BOOT. -/
def execUpdateBoot (x : BootTry) (s : State) : Host.Outcome State Fault Refusal := .next (s.updateBoot x)

/-- POWER_UP: a start (R41). With a boot into an update pending, that comes first (R504); a power loss in it ends the start. -/
def State.powerUp (strap : BitVec 2) (sealedSec : Nat) (sealedOk selfOk : Bool) (cellMv : Nat) (x : BootTry) (s : State) : State :=
  let t := s.powerOff.updateBoot x
  if t.upd.stage = 3 && t.upd.pkg.isSome then t else ((t.startUp strap sealedSec sealedOk selfOk cellMv).startRecords).startBlock

/-- POWER_UP. -/
def execPowerUp (strap : BitVec 2) (sealedSec : Nat) (sealedOk selfOk : Bool) (cellMv : Nat) (boot : BootTry) (s : State) :
    Host.Outcome State Fault Refusal := .next (s.powerUp strap sealedSec sealedOk selfOk cellMv boot)

/-! ### The tick -/

/-- TICK. -/
def execTick (x : TickIn) (s : State) : Host.Outcome State Fault Refusal := .next (s.tick x)

/-! ### Health and errors -/

/-- ENGINE_UNHEALTHY: one of the causes of R425. -/
def execEngineUnhealthy (cause : Nat) (s : State) : Host.Outcome State Fault Refusal :=
  .next (if 1 ≤ cause ∧ cause ≤ 8 then s.unhealthy cause else s)

/-- UNHEALTHY_RESET. -/
def execUnhealthyReset (s : State) : Host.Outcome State Fault Refusal := .next s.resetIfDue

/-- ECC_CORRECTED: counted; the content is as it was. -/
def execEccCorrected (mem : EccMem) (s : State) : Host.Outcome State Fault Refusal :=
  .next { s with life := { s.life with eccCorr := bump s.life.eccCorr mem.ix } }

/-- An uncorrectable error, memory by memory (R39, R487). -/
def State.eccUncorrectable (mem : EccMem) (s : State) : State :=
  match mem with
  | .teLocal => s.unhealthy causeTe
  | .dynamicState => s.unhealthy causeState
  | .blockCopy => s.unhealthy causeBlock
  | .intake goose sub i => { s with life := { s.life with eccDisc := bump s.life.eccDisc 0 }, pbi := intakeDrop goose sub i s.pbi }
  | .staging no first n =>
    { s with life := { s.life with eccDisc := bump s.life.eccDisc 1 }, drc := s.drc.modRec no (dropFrames first n) }
  | .protocol i => { s with life := { s.life with eccDisc := bump s.life.eccDisc 2 }, cp := { s.cp with queue := s.cp.queue.eraseIdx i } }
  | .mram p => { s with evr := evrBadAt s.tsu.id s.logic.ltc s.recReach p s.evr }

/-- ECC_UNCORRECTABLE. -/
def execEccUncorrectable (mem : EccMem) (s : State) : Host.Outcome State Fault Refusal := .next (s.eccUncorrectable mem)

/-- CLOCK_STEP_APPLY: the armed step where its tick has come (R352). -/
def execClockStepApply (s : State) : Host.Outcome State Fault Refusal :=
  let r := applyArmed s.tsu
  .next ((({ s with tsu := r.1, evr := { s.evr with localEv := s.evr.localEv ++ r.2 } } : State).stepShift s.tsu.clk).sealTime s.tsu)

/-! ### Supply (R525) -/

/-- SUPPLY_FAILURE: detection; from then on nothing more is committed, the recorders flush, and the engine resets. -/
def State.supplyFailure (s : State) : State :=
  if s.psu.failed || !s.life.booted then s
  else { s with
    psu := { s.psu with feedA := false, feedB := false, failed := true }
    evr := { s.evr with failTicks := some 0, localEv := s.evr.localEv ++ [{ kind := 0x41 }] }
    drc := { s.drc with failTicks := some 0 } }

/-- SUPPLY_FAILURE. -/
def execSupplyFailure (s : State) : Host.Outcome State Fault Refusal := .next s.supplyFailure

/-- EVR_POWERFAIL_STOP: the end of writing, 160 ticks after detection (R484, R485). -/
def execEvrPowerfailStop (s : State) : Host.Outcome State Fault Refusal :=
  .next { s with evr := if 161 ≤ s.evr.failTicks.getD 0 then evrStop s.tsu.id s.logic.ltc s.evr else s.evr }

/-- FEED_LOST. -/
def execFeedLost (feedB : Bool) (s : State) : Host.Outcome State Fault Refusal :=
  .next { s with psu := if feedB then { s.psu with feedB := false } else { s.psu with feedA := false } }

/-- FEED_RESTORED. -/
def execFeedRestored (feedB : Bool) (s : State) : Host.Outcome State Fault Refusal :=
  .next { s with psu := if feedB then { s.psu with feedB := true } else { s.psu with feedA := true } }

/-- CELL_CHECK: below 2.6 V (R510). -/
def execCellCheck (mv : Nat) (s : State) : Host.Outcome State Fault Refusal :=
  .next { s with life := { s.life with cellLow := decide (mv < 2600) } }

/-! ### The sealed area (R513 to R515) -/

/-- TAMPER, powered or not: an engine that runs becomes unhealthy, and the reset that follows names the zeroisation (R516). -/
def State.tamperGo (s : State) : State :=
  let s1 := s.unhealthy causeTamper
  { s1 with
    sca := zeroise s.sca
    svc := { s1.svc with sessions := [] }
    life := { s1.life with leaving := s.life.booted, resetCause := 0x10006 } }

/-- TAMPER. -/
def execTamper (s : State) : Host.Outcome State Fault Refusal := .next s.tamperGo

/-- DEBUG_UNLOCK: zeroises, then opens until the next reset; sessions of the keys that go close (R512). Without Cedun's debug key, as after
tamper, no signature is valid. -/
def execDebugUnlock (sigOk : Bool) (s : State) : Host.Outcome State Fault Refusal :=
  .next (if sigOk && s.life.booted && s.sca.cedunDbg != 0 then
    { s with sca := { dropKeys s.sca with debug := true }, svc := { s.svc with sessions := [] } } else s)

/-- FACTORY_ERASE (R515): keys and Block store go, a new identity key comes, the latch clears, and the engine starts. -/
def State.factoryErase (s : State) : State :=
  let t := ({ s with sca := { dropKeys s.sca with tamper := false, ident := true, identN := s.sca.identN + 1, debug := false } } : State).resetEngine 0x10005
  { t with store := {}, hood := {}, life := { t.life with cause := 0, prevCause := false } }

/-- FACTORY_ERASE: with FERASE grounded and the button held for 10 s; not while the recorders are flushed after a supply failure (R525). -/
def execFactoryErase (grounded : Bool) (heldMs : Nat) (s : State) : Host.Outcome State Fault Refusal :=
  .next (if grounded && decide (10000 ≤ heldMs) && !s.psu.failed then s.factoryErase else s)

/-! ### Firmware (R507, R508) -/

/-- A new image has what its confirmation needs (R507). -/
def State.confirmDue (s : State) : Bool :=
  !s.upd.confirmed && s.life.booted && s.life.blockOk &&
  (if s.paired then decide (1000 ≤ s.upd.matches_)
   else s.life.role == 6 && s.commits && s.hat.noCommit == 0 && !s.tsu.starts.isEmpty)

/-- FIRMWARE_CONFIRM. -/
def State.firmwareConfirm (s : State) : State :=
  if !s.confirmDue then s
  else { s with
    upd := { s.upd with confirmed := true, fallPend := false }
    sca := { s.sca with secLvl := Nat.max s.sca.secLvl s.upd.secNew }
    store := s.store.confirm
    evr := { s.evr with localEv := s.evr.localEv ++ [{ kind := 0x60, value := s.life.fwVer.toNat }] } }

/-- FIRMWARE_CONFIRM. -/
def execFirmwareConfirm (s : State) : Host.Outcome State Fault Refusal := .next s.firmwareConfirm

/-- FIRMWARE_FALLBACK. -/
def execFirmwareFallback (s : State) : Host.Outcome State Fault Refusal := .next s.firmwareFallback

/-! ### Modules (R531) -/

/-- SFP_MODULE_CHANGE: process and station cages set the stamping mode; a Felt cage without its module loses its lane. -/
def State.sfpChange (cage : Nat) (m : Sfp) (s : State) : State :=
  let s1 := { s with pbi := { s.pbi with cages := s.pbi.cages.set cage m } }
  if cage < 4 then { s1 with tsu := { s1.tsu with ports := s1.tsu.ports.modify cage (fun p => { p with forced := sfpForced m, copper := m == .t }) } }
  else if sfpFelt m then s1
  else { s1 with pair := (let p := setLane (cage - 4) false s1.pair; if p.linkUp then p else if s1.pair.linkUp then linkDown p else p) }

/-- SFP_MODULE_CHANGE. -/
def execSfpModuleChange (cage : Fin 6) (m : Sfp) (s : State) : Host.Outcome State Fault Refusal := .next (s.sfpChange cage.val m)

end Sys2Proof.Machine
end

