-- ==== Sys2Proof/Machine/PairCmds.lean ====
section
/-! DEFINITION. Commands of the pair (R378 to R412, R449, R487, R500): Hat, witness, mirror, digests, copy, link, handover,
and what the partner forwards. -/

namespace Sys2Proof

/-- A record of the partner as it is staged here (R487). -/
def fromPartner (r : EvRec) : EvRec := { r with rflags := r.rflags ||| 2, origSeq := r.seq, seq := 0, prevTag := 0, tag := 0 }

end Sys2Proof

namespace Sys2Proof.Machine

/-! ### The Hat -/

/-- A change of the Hat and of the role that follows; output enable falls with it and rises by its own row (R381). -/
def State.hatRow (f : Hat → Hat) (s : State) : State :=
  (((({ s with hat := f s.hat } : State).latchNote s.hat).latchRole).enableLower).fallDue

/-- A pending action of the witness takes effect on the first edge of the tick, which a Pin may mark (R446). -/
def State.witPin (a : Nat) (s : State) : State := if s.hat.act = a then s.pin 0x10 0 false else s

/-- HAT_GRANT (R378, R46, R47); an engine in role 6 ignores it (R379). -/
def execHatGrant (hatIn : Bool) (s : State) : Host.Outcome State Fault Refusal :=
  .next ((s.witPin 1).hatRow (hatGrantGo s.mayGrant hatIn))

/-- The tick H of the planned handover is the coming one, and the witness frame of H − 1 carried both actions (R403). -/
def State.hoNow (s : State) : Bool := match s.pair.ho with | some h => decide (h.at_ ≤ s.logic.ltc + 1) | none => false

/-- See `hoNow`: the handover takes place. -/
def State.hoDone (s : State) : Bool := s.hoNow && s.pair.hoA && s.hat.act == 2

/-- A pending revoke takes effect (R378); the one of a planned handover ends the plan (R403). -/
def State.revokeRow (s : State) : State :=
  let t := s.witPin 2
  (if s.hoDone then t.handoverTick else t).hatRow hatRevokeGo

/-- HAT_REVOKE (R378). -/
def execHatRevoke (s : State) : Host.Outcome State Fault Refusal := .next s.revokeRow

/-- LONE_LATCH_SET (R379): in role 6. -/
def execLoneLatchSet (hatIn : Bool) (s : State) : Host.Outcome State Fault Refusal :=
  .next (s.hatRow (fun h => if s.life.role = 6 then loneLatchGo s.fit hatIn h else h))

/-- HAT_RACE (R380). -/
def execHatRace (s : State) : Host.Outcome State Fault Refusal := .next s.race

/-- COMMIT_WATCHDOG (R378). -/
def execCommitWatchdog (s : State) : Host.Outcome State Fault Refusal :=
  .next (({ s with hat := watchdogGo s.hat } : State).enableLower)

/-- WITNESS_LOST (R385). -/
def execWitnessLost (s : State) : Host.Outcome State Fault Refusal := .next { s with hat := witLostGo s.hat }

/-- HAT_LOOP_FAULT (R521): the third tick without the own loop. -/
def execHatLoopFault (s : State) : Host.Outcome State Fault Refusal :=
  .next { s with hat := if s.hat.latch && !s.hat.ownLoop && decide (2 ≤ s.hat.loopBad) then { s.hat with loopBad := Nat.max s.hat.loopBad 3 } else s.hat }

/-! ### The witness bus -/

/-- A witness frame carries both actions of a handover from this unit (R403). -/
def bothActions (bytes : List Byte) (unitB : Bool) : Bool :=
  fieldLe bytes (if unitB then 13 else 12) 1 == 2 && fieldLe bytes (if unitB then 12 else 13) 1 == 1

/-- The witness grants unit A, and this is unit B (R409). -/
def grantsOther (bytes : List Byte) (unitB : Bool) : Bool := unitB && fieldLe bytes 12 1 == 1

/-- WITNESS_FRAME_RECEIVE: a valid frame's action waits for the next tick; a frame of the tick before H may carry the handover;
a unit B that starts without a Felt link sees unit A granted (R409). -/
def State.witnessFrame (bytes : List Byte) (inSlot : Bool) (s : State) : State :=
  if !s.life.booted || s.life.role = 4 then s
  else
    let ok := witValid bytes inSlot s.unitB s.pair.reported
    let ho := ok && bothActions bytes s.unitB
    let start := ok && s.life.role == 0 && s.life.blockOk && s.paired && !s.pair.linkUp && grantsOther bytes s.unitB
    { s with
      hat := witFrameGo bytes inSlot s.unitB (s.life.role == 6) s.pair.reported s.hat
      pair := { s.pair with hoA := ho, startAlarm := s.pair.startAlarm || start } }

/-- WITNESS_FRAME_RECEIVE. -/
def execWitnessFrameReceive (bytes : List Byte) (inSlot : Bool) (s : State) : Host.Outcome State Fault Refusal :=
  .next (s.witnessFrame bytes inSlot)

/-- WITNESS_DECISION (R388): by an engine in role 4, on the frames it accepts of those that came in the bus tick, with its own frame.
A frame comes as its bytes and its start on the own clock. -/
def State.witness (xa xb : Option (List Byte × Nat)) (s : State) : State :=
  if s.life.role ≠ 4 then s
  else
    let (fa, fb) := s.wit.accepts xa xb
    let (a, b) := (fa.map (·.1), fb.map (·.1))
    let r := witDecide a b s.wit
    let w : Witness := { r.1.note fa with seq := (s.wit.seq + 1) % 65536 }
    { s with wit := w
             out := s.out ++ [.witnessFrame (s.wit.sendAt fa fb (gridNs (TickId.grid s.tsu.id))) (witFrameBytes w.seq a b r.2.1 r.2.2)] }

/-- WITNESS_DECISION. -/
def execWitnessDecision (fa fb : Option (List Byte × Nat)) (s : State) : Host.Outcome State Fault Refusal := .next (s.witness fa fb)

/-- What a partner's frame tells: its health (R387); its role comes over the Felt link (R415). -/
def State.partnerFrame (f : EngFrame) (s : State) : State :=
  { s with pair := { s.pair with pframe := some f, pframeT := some 0, psick := !f.healthy } }

/-- Unit B's frame of this bus tick has gone already: its last one started less than half a tick before (R386). -/
def State.w1Gone (start : Nat) (s : State) : Bool :=
  match s.pair.w1Last with
  | some a => decide (start ≤ a + 52083)
  | none => false

/-- PARTNER_ENGINE_FRAME_RECEIVE: unit B sends its own frame 30.00 µs after the start of unit A's (R386); it reports the last
tick completed before the frame starts (R383). -/
def State.engineFrame (f : EngFrame) (start : Nat) (s : State) : State :=
    let t := s.partnerFrame f
    if s.unitB && s.life.role ≠ 4 then
      let u : State := { t with pair := { t.pair with w1At := some start } }
      if s.w1Gone (start + w1Offset) then u else u.w1Start (start + w1Offset)
    else t

/-- The partner's frame where it is valid (R385). Unit B takes its timing from unit A's frame, so that one lies in its slot wherever it
starts (R386); DEDUCED: unit B's lies in it near 30 µs after the start of unit A's own, with the tolerance of the witness (log
entry 116). -/
def State.partnerEngFrame (bytes : List Byte) (start : Nat) (s : State) : Option EngFrame :=
  if !s.life.booted then none
  else (EngFrame.ofBytes bytes).filter (fun f => f.unitB != s.unitB && (s.unitB || nearNs start (gridNs (TickId.grid s.tsu.id) + w1Offset)))

/-- PARTNER_ENGINE_FRAME_RECEIVE: a frame that is not valid is ignored. -/
def execPartnerEngineFrameReceive (bytes : List Byte) (start : Nat) (s : State) : Host.Outcome State Fault Refusal :=
  .next (match s.partnerEngFrame bytes start with
    | some f => s.engineFrame f start
    | none => s)

/-! ### The mirror (R391 to R394) -/

/-- A Felt frame is taken (R390): its lane is up, its CRC-32C is right, and no copy of it has been taken. -/
def State.feltTakes (h : FeltHdr) (s : State) : Bool := h.laneUp s.pair && h.crcOk && !s.pair.feltGot.contains h.seq

/-- The partner is heard with a frame that is taken. -/
def State.hear (h : FeltHdr) (s : State) : State := { s with pair := s.pair.hear h }

/-- A Felt frame (R390): the first good copy of the two has its effect `f`; a copy with a wrong CRC is a frame error of its lane
(R417); a second good copy is discarded. DESIGN CHOICE: the last 64 numbers taken are remembered (log entry 119). -/
def State.felt (h : FeltHdr) (f : State → State) (s : State) : State :=
  if s.feltTakes h then f (s.hear h)
  else if h.laneUp s.pair && !h.crcOk then { s with pair := { s.pair with laneErr := s.pair.laneErr.modify h.lane.val (· + 1) } }
  else s

/-- An operator action of the partner: a signed one is checked again against the own keys (R512); it is queued and prepared at once. -/
def State.partnerAct (a : Action) (t : State) : State :=
  if t.trusts a then ({ t with svc := { t.svc with acts := t.svc.acts ++ [{ a with reply := .none }] } } : State).prepare a else t

/-- MIRROR_ITEM_RECEIVE: an operator action takes its place in the queue; any other item waits for its tick. -/
def State.mirrorItem (ltc : Nat) (item : MirrorItem) (t : State) : State :=
  if !mirrors t.life.role then t
  else
    match item with
    | .action a => t.partnerAct a
    | i => { t with pair := { t.pair with items := t.pair.items ++ [(ltc, i)] } }

/-- MIRROR_ITEM_RECEIVE. -/
def execMirrorItemReceive (h : FeltHdr) (ltc : Nat) (item : MirrorItem) (s : State) : Host.Outcome State Fault Refusal :=
  .next (s.felt h (State.mirrorItem ltc item))

/-- CLOSE_FRAME_RECEIVE. -/
def execCloseFrameReceive (h : FeltHdr) (id : TickId) (ltc n : Nat) (s : State) : Host.Outcome State Fault Refusal :=
  .next (s.felt h (fun t => { t with pair := { t.pair with close := if mirrors t.life.role then some (id, ltc, n) else t.pair.close } }))

/-- The coming tick's mirror data are complete. -/
def State.closeAhead (s : State) : Bool := mirrorReady s.pair (gridId (nextGrid s.tsu) s.tsu.gen) (match s.pair.close with
  | some (_, l, _) => if s.life.role = 5 then l else s.logic.ltc + 1
  | none => s.logic.ltc + 1)

/-- TICK_BRIDGE: the coming tick's CLOSE or items have not arrived by its start. -/
def State.bridgeRow (s : State) : State :=
  if mirrors s.life.role && !s.closeAhead && !s.pair.bridgeNow then
    ({ s with pair := bridgeGo s.pair } : State).staleIfDue
  else s

/-- TICK_BRIDGE. -/
def execTickBridge (s : State) : Host.Outcome State Fault Refusal := .next s.bridgeRow

/-- PLAUSIBILITY_WINDOW: a window that is full is evaluated. -/
def execPlausibilityWindow (s : State) : Host.Outcome State Fault Refusal :=
  .next { s with pair := if mirrors s.life.role then plausWindow s.block s.pair else s.pair }

/-! ### Digests and the copy (R395 to R400) -/

/-- DIGEST_COMPARE; a new image counts consecutive matches towards its confirmation (R507). -/
def State.digestRow (ltc : Nat) (d : BitVec 128) (s : State) : State :=
  let n := match s.pair.own with
    | some (l, v) => if l ≠ ltc || !s.pair.kin (idPart s.life.variant) then s.upd.matches_ else if v = d then (if mirrors s.life.role && s.pair.applied then s.upd.matches_ + 1 else s.upd.matches_) else 0
    | none => s.upd.matches_
  { s with pair := if s.pair.kin (idPart s.life.variant) then digestGo s.life.role ltc d s.pair else s.pair, upd := { s.upd with matches_ := n } }

/-- DIGEST_COMPARE. -/
def execDigestCompare (h : FeltHdr) (ltc : Nat) (digest : BitVec 128) (s : State) : Host.Outcome State Fault Refusal :=
  .next (s.felt h (State.digestRow ltc digest))

/-- STANDBY_IN_STEP (R43). -/
def State.inStepRow (s : State) : State :=
  if s.life.role = 5 && s.pair.stepReady (idPart s.life.variant) then { s.setRole 2 with pair := stepDone s.pair } else s

/-- STANDBY_IN_STEP. -/
def execStandbyInStep (s : State) : Host.Outcome State Fault Refusal := .next s.inStepRow

/-- EPOCH_START (R397): at an LTC that is a multiple of 768. -/
def execEpochStart (s : State) : Host.Outcome State Fault Refusal :=
  .next (if s.logic.ltc % 768 = 0 then s.epochStart s.logic.ltc else s)

/-- Items of a completed chunk that differ here (R398); engine-local points are not compared (R400). -/
def State.copyDiffs (items : List CopyItem) (s : State) : List CopyItem :=
  items.filter (fun x => s.copyGet x != x && !(match x with | .point i _ => lateLocal i | _ => false))

/-- A completed chunk: a seeding engine writes it at the end of the next phase A (R399), where it can read the partner's state map
(R411); a verifying one records what differs as its own state stands after phase E of the stand tick (R398), and with another
firmware version compares nothing (R411). -/
def State.chunkDone (chunk : Nat) (items : List CopyItem) (t : State) : State :=
  if t.pair.copy = 2 then
    if t.pair.mixed && !Config.mapReadable t.life.fwVer t.pair.pfw then { t with pair := { copyDiscard t.pair with err := 0x0402 } }
    else { t with pair := { chunkNote chunk items t.pair with seeds := t.pair.seeds ++ items } }
  else { t with pair := { chunkNote chunk items t.pair with diffs := t.pair.diffs ++ (if t.pair.mixed then [] else t.copyDiffs items) } }

/-- CHUNK_RECEIVE: a base waits for its delta; a delta without the base of its chunk discards the copy (R400). -/
def State.chunkRow (epoch chunk : Nat) (delta : Bool) (items : List CopyItem) (t : State) : State :=
  if !chunkCounts epoch chunk t.pair || !t.pair.kin (idPart t.life.variant) then t
  else if !delta then { t with pair := { t.pair with base := some (chunk, items) } }
  else
    match t.pair.base with
    | some (c, b) => if c = chunk then t.chunkDone chunk (overlay b items) else { t with pair := copyDiscard t.pair }
    | none => { t with pair := copyDiscard t.pair }

/-- CHUNK_RECEIVE. -/
def execChunkReceive (h : FeltHdr) (epoch chunk : Nat) (delta : Bool) (items : List CopyItem) (s : State) : Host.Outcome State Fault Refusal :=
  .next (s.felt h (State.chunkRow epoch chunk delta items))

/-- Correct a recorded item (R398). -/
def State.correct (s : State) (x : CopyItem) : State :=
  let t := s.copyPut x
  { t with pair := { s.pair with corrected := s.pair.corrected + 1, corrT := 9600 } }

/-- EPOCH_CLOSING_DIGEST: the copy is applied where it is whole and the digest is that of its chunks, else discarded (R399, R400). -/
def State.epochRow (epoch : Nat) (digest : BitVec 128) (t : State) : State :=
  if !chunkCounts epoch 0 t.pair || !t.pair.kin (idPart t.life.variant) then t
  else if !t.pair.copyFull || digest != closingDigest epoch t.pair.parts then { t with pair := copyDiscard t.pair }
  else
    let u := t.pair.diffs.foldl State.correct t
    { u with pair := epochApplied u.pair }

/-- EPOCH_CLOSING_DIGEST. -/
def execEpochClosingDigest (h : FeltHdr) (epoch : Nat) (digest : BitVec 128) (s : State) : Host.Outcome State Fault Refusal :=
  .next (s.felt h (State.epochRow epoch digest))

/-! ### The Felt link (R404, R405, R411, R412) -/

/-- FELT_LINK_DOWN. -/
def execFeltLinkDown (s : State) : Host.Outcome State Fault Refusal := .next { s with pair := if s.pair.linkUp then linkDown s.pair else s.pair }

/-- One lane of the link fails; with the last lane the link is down. -/
def laneDown (lane : Nat) (p : Pair) : Pair :=
  let q := setLane lane false p
  if q.linkUp then q else if p.linkUp then linkDown p else q

/-- FELT_LINK_LANE_DOWN. -/
def execFeltLinkLaneDown (lane : Fin 2) (s : State) : Host.Outcome State Fault Refusal := .next { s with pair := laneDown lane.val s.pair }

/-- The cage of a lane holds a module that serves it (R531). -/
def State.laneFit (lane : Nat) (s : State) : Bool := sfpFelt (at! s.pbi.cages (4 + lane))

/-- FELT_LINK_LANE_RESTORED: a lane without its module stays down. -/
def execFeltLinkLaneRestored (lane : Fin 2) (s : State) : Host.Outcome State Fault Refusal :=
  .next { s with pair := if s.laneFit lane.val then setLane lane.val true s.pair else s.pair }

/-- The link is up on the lanes whose cages serve them (R531), with what the partner reports of itself. -/
def linkRestored (a b : Bool) (own part : BitVec 32) (role : Nat) (ownFw fwVer : BitVec 32) (blockId hoodId : BitVec 128) (p : Pair) : Pair :=
  { p with laneA := a, laneB := b, prole := role, ppart := part, pfw := fwVer, pblock := blockId, phood := hoodId, psick := false
           mixed := ownFw != fwVer, feltGot := [], err := if part = own then 0 else 0x0405, startAlarm := false }

/-- FELT_LINK_RESTORED: a stale standby enters role 5 and seeds, an engine in role 0 may join, each where it runs the active engine's Block
and Hoods, which the active engine sends to a partner that runs others (R314, R412). Engines of different variants do not enter step
(R8). With no module in either cage no link comes up (R531). -/
def State.linkUpRow (part : BitVec 32) (role : Nat) (fwVer : BitVec 32) (blockId hoodId : BitVec 128) (s : State) : State :=
  if !s.laneFit 0 && !s.laneFit 1 then s
  else
    let t : State := { s with
      pair := linkRestored (s.laneFit 0) (s.laneFit 1) (idPart s.life.variant) part role s.life.fwVer fwVer blockId hoodId s.pair }
    if part ≠ idPart s.life.variant then t
    else if s.life.role = 3 then (if t.sameConfig then t.rejoin else t)
    else if s.life.role = 1 && !t.sameConfig then t.sendFelt [.config (s.store.cur.getD s.block) s.hood.chain]
    else t.takeRole

/-- FELT_LINK_RESTORED. -/
def execFeltLinkRestored (part : BitVec 32) (role : Nat) (fwVer : BitVec 32) (blockId hoodId : BitVec 128) (s : State) :
    Host.Outcome State Fault Refusal := .next (s.linkUpRow part role fwVer blockId hoodId)

/-- PARTNER_BLOCK_TAKE: an engine that would join, from role 0 or as a stale standby, takes the active engine's Block and Hoods, where its
own check passes them, and reports 0x0406 where it does not (R412, R500). DEDUCED: a stale standby that cannot take them stays in
role 3, from which R43 leads it to role 0 by a reset alone (log entry 117). -/
def State.blockTakeGo (b : Block) (hoods : List Hood) (s : State) : State :=
  if bootCheck s.checkEnv b hoods ≠ 0 then ({ s with pair := { s.pair with err := 0x0406 } } : State).sendFelt [.checkResult opHandover 0x0406]
  else
    let t := s.activate (hoods.foldl hoodBlock b)
    let u : State := { t with
      hood := hoodOfChain hoods t.hood
      store := { t.store.take b hoods with dirDue := some (s.logic.ltc + 9600), act := none }
      life := { t.life with blockOk := true }
      pair := { s.pair with err := 0, pblock := b.blockId, phood := lastHood hoods } }
    if s.life.role = 3 then u.rejoin else u.takeRole

/-- The Block that a joining engine would take (R506): in place of one that the partner has converted, its own conversion of the Block with
the same BLOCK_ID, which alone it trusts; without one it takes none. -/
def State.takes (b : Block) (s : State) : Option Block :=
  if b.converted && !s.checkEnv.blockSigned b then s.store.cur.filter (fun c => c.converted && c.blockId == b.blockId) else some b

/-- PARTNER_BLOCK_TAKE: in role 0 or 3, with an active partner over the link. -/
def State.blockTake (b : Block) (hoods : List Hood) (s : State) : State :=
  if !(s.life.role == 0 || s.life.role == 3) || !s.pair.linkUp || s.pair.prole ≠ 1 then s
  else s.blockTakeGo ((s.takes b).getD b) hoods

/-- PARTNER_BLOCK_TAKE. -/
def execPartnerBlockTake (b : Block) (hoods : List Hood) (s : State) : Host.Outcome State Fault Refusal := .next (s.blockTake b hoods)

/-! ### Handover (R403) -/

/-- HANDOVER_APPLY: the witness frame of H − 1 carried both actions. -/
def execHandoverApply (s : State) : Host.Outcome State Fault Refusal :=
  .next (if s.hoDone then s.revokeRow else s)

/-- HANDOVER_LAPSE. -/
def execHandoverLapse (s : State) : Host.Outcome State Fault Refusal :=
  .next (if s.hoNow && !s.hoDone then s.handoverTick else s)

/-! ### What the partner sends -/

/-- PARTNER_RECORD_RECEIVE (R487). -/
def execPartnerRecordReceive (h : FeltHdr) (r : EvRec) (s : State) : Host.Outcome State Fault Refusal :=
  .next (s.felt h (fun t => { t with evr := { t.evr with localEv := t.evr.localEv ++ [fromPartner r], fromPartner := t.evr.fromPartner + 1 } }))

/-- Main-clock cycles of the tick before the present one, at the present rate. -/
def lastCycles (t : Tsu) : Nat :=
  let g := TickId.grid t.id
  ((gridNs g - gridNs (g - 1)) * fracOne + t.inc - 1) / t.inc

/-- FORWARDED_PIN_RECEIVE (R449): 1,536 cycles after its offset in the tick that it names, or on the first edge of the next tick. A Pin of
the tick before that lay within it names that tick, and one of the coming tick waits for it; no other tick's is taken (log entry 130). -/
def State.pinForwarded (id : TickId) (offset : Nat) (s : State) : State :=
  let g := TickId.grid s.tsu.id
  let n := offset + 1536
  let later (p : Nat × Bool) : State := { s with hpi := { s.hpi with pinNext := s.hpi.pinNext ++ [p] } }
  if id.grid = g then (if n < cyclesTo s.tsu (gridNs (nextGrid s.tsu)) then s.pin 0x08 n false else later (0, true))
  else if id.grid + 1 = g then (if n < lastCycles s.tsu then s.pinBack 0x08 n false 1 else s.pin 0x08 0 true)
  else if id.grid = nextGrid s.tsu then later (n, false)
  else s

/-- FORWARDED_PIN_RECEIVE. -/
def execForwardedPinReceive (h : FeltHdr) (id : TickId) (offset : Nat) (s : State) : Host.Outcome State Fault Refusal :=
  .next (s.felt h (State.pinForwarded id offset))

/-- FORWARDED_COMMAND_RECEIVE: a Block is checked against the own keys and prepared (R500); a Hood is checked and waits until the
check has passed in both engines (R314); each answers with what the check found. A signed command is checked again (R512). -/
def State.forwarded (x : Forwarded) (t : State) : State :=
  match x with
  | .block b =>
    let c := firstNz [blockCheck t.checkEnv b, if t.store.bad then 0x0206 else 0]
    (if c = 0 then { t with store := { t.store with act := some { blk := b } } } else t).sendFelt [.checkResult opBlockActivate c]
  | .hood h =>
    let c := t.checkHood h
    ({ t with hood := { t.hood with cand := if c = 0 then some h else none } } : State).sendFelt [.checkResult opHoodLoad c]
  | .action a => t.partnerAct a

/-- FORWARDED_COMMAND_RECEIVE. -/
def execForwardedCommandReceive (h : FeltHdr) (x : Forwarded) (s : State) : Host.Outcome State Fault Refusal :=
  .next (s.felt h (State.forwarded x))

end Sys2Proof.Machine
end

