-- ==== Sys2Proof/Machine/Points.lean ====
section
/-! DEFINITION. Points, forces, groups, modes, controls, Pins and snapshots: groups 0x05, 0x06, 0x0C and 0x0D of the command
set (R443 to R450). -/

namespace Sys2Proof

/-- A force table entry (R317). -/
def forceBytes (f : ForceEntry) : List Byte :=
  leBytes f.point 4 ++ [f.typ, 0#8] ++ leBytes f.qval.toNat 2 ++ leBytes f.value.toNat 8 ++ leBytes f.session 4 ++ leBytes 0 4 ++ leBytes f.setLtc 8

/-- Entries of the force table (R317). -/
def forceMax : Nat := 4096

/-- The point that a force names, for a force that adds an entry. -/
def Act.newForce (sg : Sig) : Act → Option Nat
  | .forceSet p _ _ => if (sg.force p).isNone then some p else none
  | _ => none

/-- POINT_WRITE may write a point: its writer is the command path (R28), and it has no command of its own (R127, R177, R204). -/
def pointWritable (b : Block) (i : Nat) : Bool :=
  !neverForced i && !absentPt b.ident.part.toNat i && (match mapEntry b i with | some m => m.writer == .cmd | none => false)

end Sys2Proof

namespace Sys2Proof.Machine

/-! ### Forces (R317 to R322, R445) -/

/-- The force table is full for a new entry, those accepted and waiting counted in. -/
def State.forcesFull (point : Nat) (s : State) : Bool :=
  let waiting := (s.svc.acts.filterMap (fun x => x.act.newForce s.sig)).eraseDups
  (s.sig.force point).isNone && !waiting.contains point && decide (forceMax ≤ s.sig.forces.length + waiting.length)

/-- The armed Hood removes or retypes the point: under the strict policy always refused, else from S on (R321, R322). -/
def State.hoodForceCode (n point : Nat) (s : State) : Nat :=
  match s.hood.armed, s.hood.held with
  | some a, some h =>
    if !hoodTouches s.block h point then 0
    else if s.block.fpol = 2 then 0x02C3
    else if a ≤ n then 0x02C0 else 0
  | _, _ => 0

/-- The same rule for a prepared Block (R321). -/
def State.blockForceCode (n point : Nat) (s : State) : Nat :=
  match s.store.act with
  | some a =>
    match a.at_ with
    | some t => if !losesPoint s.block a.blk point then 0 else if s.block.fpol = 2 then 0x02C3 else if t ≤ n then 0x02C0 else 0
    | none => 0
  | none => 0

/-- A point of a bay that the variant does not have (R5). -/
def State.absentPoint (point : Nat) (s : State) : Bool := absentPt (idPart s.life.variant).toNat point

/-- The codes of R5 and R318 for a force. -/
def State.forceCode (n point : Nat) (qval : BitVec 16) (value : BitVec 64) (s : State) : Nat :=
  let typ := ((mapEntry s.block point).map MapPoint.typ).getD 0
  firstNz [
    if s.absentPoint point then 0x0103 else 0,
    if s.blk.isSome && forceable s.block point then 0 else 0x02C0,
    if s.forcesFull point then 0x02C1 else 0,
    if forceValueOk typ qval value then 0 else 0x02C2,
    s.hoodForceCode n point,
    s.blockForceCode n point]

/-- FORCE_SET. -/
def execForceSet (r : Req) (ntick point : Nat) (qval : BitVec 16) (value : BitVec 64) (s : State) : Host.Outcome State Fault Refusal :=
  let c := cmdForceSet ntick point qval value
  .next (s.command c r (fun t =>
    if !ntickOk t.logic.ltc ntick then .error 0x0103
    else
      let e := t.forceCode (ntickOf t.logic.ltc ntick) point qval value
      if e ≠ 0 then .error e else t.actAt c r ntick (.forceSet point qval value)))

/-- The codes of R5 and R538 for a release: of a point of an absent bay, or while FPOL forbids every force. -/
def State.releaseCode (point : Nat) (s : State) : Nat :=
  if s.absentPoint point then 0x0103 else if s.block.fpol == 0 then 0x02C0 else 0

/-- FORCE_RELEASE: one point, or all for 0xFFFF_FFFF. -/
def execForceRelease (r : Req) (ntick point : Nat) (s : State) : Host.Outcome State Fault Refusal :=
  let c := cmdForceRelease ntick point
  .next (s.command c r (fun t =>
    if !ntickOk t.logic.ltc ntick then .error 0x0103
    else
      let e := t.releaseCode point
      if e ≠ 0 then .error e else t.actAt c r ntick (.forceRelease point)))

/-- FORCE_LIST: from the FIRST entry on, with the count of entries returned. -/
def execForceList (r : Req) (first : Nat) (s : State) : Host.Outcome State Fault Refusal :=
  .next (s.command (cmdForceList first) r (fun t =>
    let l := (t.sig.forces.drop first).take 126
    t.ok (leBytes l.length 4 ++ l.flatMap forceBytes)))

/-! ### Group, modes, simulation (R127, R177, R204, R206) -/

/-- GROUP_SWITCH. -/
def execGroupSwitch (r : Req) (ntick group : Nat) (s : State) : Host.Outcome State Fault Refusal :=
  let c := cmdGroupSwitch ntick group
  .next (s.command c r (fun t =>
    if t.block.selector.isSome then .error 0x0103 else t.actAt c r ntick (.groupSwitch group)))

/-- A bay that the variant does not have (R5). -/
def State.absentBay (i : Nat) (s : State) : Bool := decide (idBays s.life.variant ≤ i) && decide (i < 48)

/-- MODE_SET. -/
def execModeSet (r : Req) (ntick target mode : Nat) (s : State) : Host.Outcome State Fault Refusal :=
  let c := cmdModeSet ntick target mode
  .next (s.command c r (fun t =>
    if t.absentBay target then .error 0x0103 else t.actAt c r ntick (.modeSet target mode)))

/-- SIM_SET. -/
def execSimSet (r : Req) (ntick sim : Nat) (s : State) : Host.Outcome State Fault Refusal :=
  let c := cmdSimSet ntick sim
  .next (s.command c r (fun t => t.actAt c r ntick (.simSet (sim == 1))))

/-! ### Points -/

/-- Records of points, after their count. -/
def State.records (l : List Nat) (s : State) : List Byte := leBytes l.length 4 ++ l.flatMap (fun i => pointBytes (s.seen i))

/-- POINT_READ. -/
def execPointRead (r : Req) (indices : List Nat) (s : State) : Host.Outcome State Fault Refusal :=
  .next (s.command (cmdPointRead indices) r (fun t => t.ok (t.records indices)))

/-- RANGE_READ. -/
def execRangeRead (r : Req) (first count : Nat) (s : State) : Host.Outcome State Fault Refusal :=
  .next (s.command (cmdRangeRead first count) r
    (fun t => t.ok (t.records ((List.range count).map (first + ·)))))

/-- VALUE has the encoding of the point's TYPE (R33); a point that is not mapped has none. -/
def State.valueCoded (point : Nat) (value : BitVec 64) (s : State) : Bool :=
  match mapEntry s.block point with
  | some m => forceValueOk m.typ 0 value
  | none => true

/-- A point that POINT_WRITE may write, in the running configuration. -/
def State.pointOpen (point : Nat) (s : State) : Bool := s.blk.isSome && pointWritable s.block point

/-- POINT_WRITE. -/
def execPointWrite (r : Req) (ntick point : Nat) (value : BitVec 64) (s : State) : Host.Outcome State Fault Refusal :=
  let c := cmdPointWrite (s.valueCoded point value) ntick point value
  .next (s.command c r (fun t => if t.pointOpen point then t.actAt c r ntick (.pointWrite point value) else .error 0x0103))

/-! ### Controls (R241 to R244) -/

/-- A slot in use, which the variant has (R5). -/
def State.slotThere (slot : Nat) (s : State) : Bool :=
  s.blk.isSome && !s.absentBay slot && (match s.block.slots[slot]? with | some e => e.use != 0 | none => false)

/-- Accept a control of a slot. -/
def State.control (c : CmdSpec) (r : Req) (ntick slot : Nat) (a : Act) (s : State) : Except Nat Ans :=
  if s.slotThere slot then s.actAt c r ntick a else .error 0x0103

/-- CTL_SELECT. -/
def execCtlSelect (r : Req) (slot value : Nat) (origin : BitVec 128) (s : State) : Host.Outcome State Fault Refusal :=
  let c := cmdCtlSelect slot value origin
  .next (s.command c r (State.control c r 0 slot (.ctlSelect slot value origin none)))

/-- CTL_OPERATE. -/
def execCtlOperate (r : Req) (ntick slot value : Nat) (origin : BitVec 128) (s : State) : Host.Outcome State Fault Refusal :=
  let c := cmdCtlOperate ntick slot value origin
  .next (s.command c r (State.control c r ntick slot (.ctlOperate slot value origin none)))

/-- CTL_CANCEL. -/
def execCtlCancel (r : Req) (slot : Nat) (origin : BitVec 128) (s : State) : Host.Outcome State Fault Refusal :=
  let c := cmdCtlCancel slot origin
  .next (s.command c r (State.control c r 0 slot (.ctlCancel slot origin)))

/-- SLOT_RESET: KIND 1 lockout, 2 failed. -/
def execSlotReset (r : Req) (ntick slot kind : Nat) (s : State) : Host.Outcome State Fault Refusal :=
  let c := cmdSlotReset ntick slot kind
  .next (s.command c r (State.control c r ntick slot (.slotReset slot kind)))

/-! ### Pins and snapshots (R446 to R450) -/

/-- PIN_FIRE. -/
def execPinFire (r : Req) (cycle : Nat) (s : State) : Host.Outcome State Fault Refusal :=
  .next (s.command cmdPinFire r (fun t => (t.pin 0x01 cycle false).ok []))

/-- SNAP_READ. -/
def execSnapRead (r : Req) (bank offset count : Nat) (s : State) : Host.Outcome State Fault Refusal :=
  .next (s.command (cmdSnapRead bank offset count) r
    (fun t => t.ok (((bankBytes (at! t.hpi.banks bank)).drop offset).take count)))

/-- SNAP_RELEASE. -/
def execSnapRelease (r : Req) (bank : Nat) (s : State) : Host.Outcome State Fault Refusal :=
  .next (s.command (cmdSnapRelease bank) r (fun t => (t.releaseBank bank).ok []))

end Sys2Proof.Machine
end

