-- ==== Sys2Proof/Machine/Protect.lean ====
section
/-! DEFINITION. Commands that name an event of one element instance or flange slot (R172 to R218). The event is what the
instance's next evaluation finds, on the signal space as it stands; the command lets that event alone come about (log entry 4). -/

namespace Sys2Proof

/-- Fields of a directional window, and the outputs that read its decision (R188, R189). -/
def takeWindow (n o : ElemState) : ElemState :=
  { o with str := n.str, op := n.op, opP := n.opP, tmr := n.tmr, held := n.held, last := n.last, wst := n.wst, wn := n.wn, wq := n.wq, wN := n.wN, wEv := n.wEv, wEq := n.wEq, rho := n.rho, wHold := n.wHold
           rearm := n.rearm, dir := n.dir }

/-- Polarisation is lost (R185): every direction is unknown, and with NOPOL 0 the instance is blocked. -/
def takePolLost (v : ElEnv) (o : ElemState) : ElemState :=
  let x := { memExpire o with dir := 0, dirP := [0, 0, 0], cDir := [0, 0, 0] }
  if v.n 11 = 0 then elemBlock false true x else x

/-- One phase's operate by its curve (R215), and the time left of the instance. -/
def takeCurveOp (p : Nat) (n o : ElemState) : ElemState :=
  { o with op := o.op || at! n.opP p, opP := setAt o.opP p (at! n.opP p), ttt := n.ttt }

/-- Operate outputs. -/
def takeOp (n o : ElemState) : ElemState := { o with op := n.op, opP := n.opP }

/-- A phase's start, or the general one of a single-quantity instance (R172). -/
def startsNow (p : Nat) (n o : ElemState) : Bool := (at! n.strP p && !at! o.strP p) || (n.str && !o.str && n.strP.all (!·))

/-- The start takes effect. -/
def takeStart (p : Nat) (n o : ElemState) : ElemState :=
  { o with str := n.str, strP := setAt o.strP p (at! n.strP p), conf := setAt o.conf p 0 }

end Sys2Proof

namespace Sys2Proof.Machine

/-- The environment of instance `i` on the present space. -/
def State.elEnv (b : Block) (i : Nat) (e : ElemEntry) (s : State) : ElEnv :=
  Sys2Proof.elEnv b s.tsu.id s.sig s.phe.pres (clpGroup b s.tsu.id s.sig s.phe.pres s.elems s.flus) i e

/-- Evaluate instance `i` on the present space; where `due` finds the event, take it over and write the instance's points. -/
def State.elemRow (i : Nat) (due : ElEnv → ElNext → ElemState → FluSlot → Bool) (take : ElEnv → ElNext → ElemState → ElemState)
    (takeF : ElNext → FluSlot → FluSlot) (s : State) : State :=
  match s.blk with
  | none => s
  | some b =>
    match b.elems[i]? with
    | none => s
    | some e =>
      let v := s.elEnv b i e
      let old := at! s.elems i
      let f := at! s.flus i
      let n := elemEval v old f
      if due v n old f then
        let x := take v n old
        { s with
          elems := setAt s.elems i x
          flus := setAt s.flus i (takeF n f)
          sig := s.sig.writes s.tsu.id (elemWrites v { n with st := x, flu := takeF n f } old) }
      else s

/-- A row on an element's state alone. -/
def State.elemOnly (i : Nat) (types : List Nat) (due : ElEnv → ElemState → ElemState → Bool)
    (take : ElEnv → ElemState → ElemState → ElemState) (s : State) : State :=
  s.elemRow i (fun v n o _ => (types.isEmpty || types.contains v.e.etype) && due v n.st o) (fun v n o => take v n.st o) (fun _ f => f)

/-- START_CONFIRMATION (R172). -/
def execStartConfirmation (i : Fin 2048) (phase : Fin 3) (s : State) : Host.Outcome State Fault Refusal :=
  .next (s.elemOnly i.val [] (fun _ n o => startsNow phase.val n o) (fun _ n o => takeStart phase.val n o))

/-- ELEMENT_OPERATE (R173). -/
def execElementOperate (i : Fin 2048) (s : State) : Host.Outcome State Fault Refusal :=
  .next (s.elemOnly i.val [] (fun _ n o => n.op && !o.op) (fun _ n o => { takeOp n o with tmr := n.tmr }))

/-- ELEMENT_TIMER_RESET (R173). -/
def execElementTimerReset (i : Fin 2048) (s : State) : Host.Outcome State Fault Refusal :=
  .next (s.elemOnly i.val [] (fun _ n o => !n.str && n.tmr == 0 && o.tmr != 0) (fun _ n o => { o with tmr := 0, held := n.held }))

/-- POLARISATION_MEMORY_EXPIRY (R185): MEMT ticks on memory voltage. -/
def execPolarisationMemoryExpiry (i : Fin 2048) (s : State) : Host.Outcome State Fault Refusal :=
  .next (s.elemOnly i.val [0x0121] (fun v n o => o.memOn && n.polLost && decide (v.n 9 ≤ o.memN)) (fun v _ o => takePolLost v o))

/-- TRANSIENT_WINDOW_END (R188). -/
def execTransientWindowEnd (i : Fin 2048) (s : State) : Host.Outcome State Fault Refusal :=
  .next (s.elemOnly i.val [0x0124] (fun _ n o => n.wst == 2 && o.wst != 2) (fun _ n o => takeWindow n o))

/-- TRANSIENT_HOLD_END (R188). -/
def execTransientHoldEnd (i : Fin 2048) (s : State) : Host.Outcome State Fault Refusal :=
  .next (s.elemOnly i.val [0x0124] (fun _ n o => n.wst == 0 && o.wst == 2) (fun _ n o => takeWindow n o))

/-- FDIR_WINDOW_END (R189). -/
def execFdirWindowEnd (i : Fin 2048) (s : State) : Host.Outcome State Fault Refusal :=
  .next (s.elemOnly i.val [0x0125] (fun _ n o => n.wst == 2 && o.wst != 2) (fun _ n o => takeWindow n o))

/-- FDIR_HOLD_END (R189): the decision ends, or the element re-arms. -/
def execFdirHoldEnd (i : Fin 2048) (s : State) : Host.Outcome State Fault Refusal :=
  .next (s.elemOnly i.val [0x0125] (fun _ n o => o.wst == 2 && (n.wst == 0 || (n.dir == 0 && o.dir != 0))) (fun _ n o => takeWindow n o))

/-- THERMAL_EVALUATION (R190). -/
def execThermalEvaluation (i : Fin 2048) (s : State) : Host.Outcome State Fault Refusal :=
  .next (s.elemOnly i.val [0x0141] (fun _ n o => n.last != o.last)
    (fun _ n o => { takeOp n o with theta := n.theta, cmp := n.cmp, alarm := n.alarm, ttt := n.ttt, str := n.str, ieq := n.ieq, last := n.last }))

/-- COLD_LOAD_TRANSITION (R198). -/
def execColdLoadTransition (i : Fin 2048) (s : State) : Host.Outcome State Fault Refusal :=
  .next (s.elemOnly i.val [0x0182] (fun _ n o => n.clpSt != o.clpSt)
    (fun _ n o => { takeOp n o with clpSt := n.clpSt, clpTmr := n.clpTmr, clpEnd := n.clpEnd }))

/-- HIZ_CYCLE_EVALUATION (R199). -/
def execHizCycleEvaluation (i : Fin 2048) (s : State) : Host.Outcome State Fault Refusal :=
  .next (s.elemOnly i.val [0x0191] (fun _ n o => n.last != o.last)
    (fun _ n o => { o with i3 := n.i3, e := n.e, a3 := n.a3, aE := n.aE, hizInit := n.hizInit, act := n.act, alarm := n.alarm, last := n.last }))

/-- FUSE_FAILURE_DECLARE (R200). -/
def execFuseFailureDeclare (i : Fin 2048) (s : State) : Host.Outcome State Fault Refusal :=
  .next (s.elemOnly i.val [0x01A1] (fun _ n o => n.op && !o.op) (fun _ n o => fuseDeclare n.cause { o with fuseT := n.fuseT, tmr := n.tmr }))

/-- FUSE_FAILURE_CLEAR (R200). -/
def execFuseFailureClear (i : Fin 2048) (s : State) : Host.Outcome State Fault Refusal :=
  .next (s.elemOnly i.val [0x01A1] (fun _ n o => o.op && !n.op) (fun _ _ o => fuseClear o))

/-- INRUSH_HOLD_EXPIRY (R197): TR ticks have passed since the last phase dropped off, or an invalid input ends op. -/
def execInrushHoldExpiry (i : Fin 2048) (s : State) : Host.Outcome State Fault Refusal :=
  .next (s.elemOnly i.val [0x0181] (fun _ n o => o.op && !n.op && !n.str) (fun _ n o => { takeOp n o with opHold := n.opHold }))

/-- SOURCE_CHANGE_HOLD_END (R202). -/
def execSourceChangeHoldEnd (i : Fin 2048) (s : State) : Host.Outcome State Fault Refusal :=
  .next (s.elemOnly i.val [0x0124, 0x0125, 0x0191, 0x01A1] (fun _ n o => decide (0 < o.srcHold) && n.srcHold == 0)
    (fun _ _ o => { o with srcHold := 0 }))

/-- FLANGE_OPERATE (R215). -/
def execFlangeOperate (i : Fin 2048) (phase : Fin 3) (s : State) : Host.Outcome State Fault Refusal :=
  .next (s.elemRow i.val (fun v n _ f => v.curve && n.flu.op phase.val && !f.op phase.val) (fun _ n o => takeCurveOp phase.val n.st o)
    (fun n f => f.setPh phase.val (n.flu.ph phase.val)))

/-- FLANGE_DEFINITE_RESET (R218). -/
def execFlangeDefiniteReset (i : Fin 2048) (phase : Fin 3) (s : State) : Host.Outcome State Fault Refusal :=
  .next (s.elemRow i.val (fun v n _ f => v.curve && at! f.st phase.val == 2 && at! n.flu.st phase.val == 0) (fun _ _ o => o)
    (fun _ f => f.setPh phase.val (fluClear (f.ph phase.val))))

/-- FLANGE_INVERSE_RESET_DONE (R218). -/
def execFlangeInverseResetDone (i : Fin 2048) (phase : Fin 3) (s : State) : Host.Outcome State Fault Refusal :=
  .next (s.elemRow i.val (fun v n _ f => v.curve && at! f.st phase.val == 3 && at! n.flu.st phase.val == 0) (fun _ _ o => o)
    (fun n f => f.setPh phase.val (n.flu.ph phase.val)))

end Sys2Proof.Machine
end

