-- ==== Sys2Proof/Machine/Records.lean ====
section
/-! DEFINITION. Commands on the two recorders: groups 0x07 and 0x08 of the command set, and the clear, erase and recovery of the
event recorder (R253, R276, R443, R482, R483, R486). -/

namespace Sys2Proof

/-- A tombstone slot as it stands (R486); an empty one reads zeros. -/
def tombBytes (x : Option (EvRec × Bool)) : List Byte :=
  match x with
  | some (r, _) => recAll r
  | none => List.replicate 256 0#8

/-- A record that may be deleted or exported: neither recording nor being exported (R260). -/
def DrcRec.idle (r : DrcRec) : Bool := r.state != 1 && !r.exporting

end Sys2Proof

namespace Sys2Proof.Machine

/-! ### Event recorder -/

/-- EVR_INFO. -/
def execEvrInfo (r : Req) (s : State) : Host.Outcome State Fault Refusal :=
  .next (s.command cmdEvrInfo r (fun t => t.ok (evrInfoBytes t.evr)))

/-- EVR_READ: COUNT 1 to 15. -/
def execEvrRead (r : Req) (fromSeq count : Nat) (s : State) : Host.Outcome State Fault Refusal :=
  .next (s.command (cmdEvrRead fromSeq count) r (fun t => t.ok ((evrHeld fromSeq count t.evr).flatMap recAll)))

/-- A clear is taken for phase F of the next tick; a failed recorder refuses it, and one at a time waits. -/
def State.clearGo (r : Req) (s : State) : Except Nat Ans :=
  if s.evr.state = 2 then .error 0x0103
  else if s.evr.clearReq.isSome then .error 0x0104
  else
    let key := ((s.session r).map (·.keyId)).getD 0
    let fp := ((s.sca.keys.find? (fun k => k.id == key)).map (fun k => keyFp k.key)).getD 0
    .ok { s := { s with
            evr := { s.evr with clearReq := some (key, fp, s.logic.ltc + 1, r.tag) }
            svc := { s.svc with waits := s.svc.waits ++ [(r.carrier, 0x0703, r.tag, r.session)] } }
          later := true }

/-- EVR_CLEAR. -/
def execEvrClear (r : Req) (s : State) : Host.Outcome State Fault Refusal :=
  .next (s.command cmdEvrClear r (State.clearGo r))

/-- The clear named for this tick is applied and answered. -/
def State.clearDue (s : State) : State :=
  match s.evr.clearReq with
  | some (key, fp, at_, tag) =>
    if at_ ≤ s.logic.ltc then
      let e := evrClearGo s.block.evrPlans s.sig key fp s.tsu.id s.logic.ltc s.evr
      let t := ({ s with evr := e } : State)
      (if clearPins s.block.evrPlans key fp s.evr then t.pin 0x20 23592 false else t).answerClear (some (tag, e.lastSeq))
    else s
  | none => s

/-- EVR_CLEAR_APPLY: in phase F of the coming tick. -/
def execEvrClearApply (s : State) : Host.Outcome State Fault Refusal := .next (s.atNext State.clearDue)

/-- EVR_ERASE_COMPLETE. -/
def execEvrEraseComplete (s : State) : Host.Outcome State Fault Refusal :=
  .next { s with evr := { s.evr with erasing := false } }

/-- EVR_RECOVERY. -/
def execEvrRecovery (s : State) : Host.Outcome State Fault Refusal := .next { s with evr := evrRecover s.tsu.id s.logic.ltc s.recReach s.evr }

/-- TOMB_READ: SLOT 0 to 31. -/
def execTombRead (r : Req) (slot : Nat) (s : State) : Host.Outcome State Fault Refusal :=
  .next (s.command (cmdTombRead slot) r (fun t => t.ok (tombBytes (at! t.evr.tomb slot))))

/-! ### Disturbance recorder -/

/-- DRC_LIST: up to 63 records from a number on. -/
def execDrcList (r : Req) (fromRecno : Nat) (s : State) : Host.Outcome State Fault Refusal :=
  .next (s.command (cmdDrcList fromRecno) r
    (fun t => t.ok (((t.drc.recs.filter (fun x => decide (fromRecno ≤ x.recno))).take 63).flatMap drcHeader)))

/-- DRC_TRIGGER: of a plan in use. -/
def execDrcTrigger (r : Req) (ntick plan : Nat) (s : State) : Host.Outcome State Fault Refusal :=
  let c := cmdDrcTrigger ntick plan
  .next (s.command c r (fun t =>
    if (at! t.block.plans plan).use then t.actAt c r ntick (.drcTrigger plan) else .error 0x0103))

/-- An export begins as a job; the record is held meanwhile (R260). -/
def State.exportGo (recno options : Nat) (s : State) : Except Nat Ans :=
  match s.drc.rec_ recno with
  | none => .error 0x0103
  | some x =>
    if x.state = 1 then .error 0x0103
    else if !s.jobFree opDrcExport then .error 0x0104
    else ({ s with drc := s.drc.modRec recno (fun y => { y with exporting := true }) } : State).openJob
      { opcode := opDrcExport, recno := recno, opts := options }

/-- DRC_EXPORT. -/
def execDrcExport (r : Req) (recno options : Nat) (s : State) : Host.Outcome State Fault Refusal :=
  .next (s.command (cmdDrcExport (ComOpts.ofNat options).isSome recno options) r (State.exportGo recno options))

/-- The record and options of a completed export. -/
def State.exported (job : Nat) (s : State) : Option (DrcRec × ComOpts) :=
  match s.svc.jobs.find? (fun j => j.no == job && j.opcode == opDrcExport && j.state == 2) with
  | some j => (s.drc.rec_ j.recno).map (fun r => (r, (ComOpts.ofNat j.opts).getD {}))
  | none => none

/-- DRC_FILE: bytes of a file of a completed export. -/
def execDrcFile (r : Req) (job file offset : Nat) (s : State) : Host.Outcome State Fault Refusal :=
  .next (s.command (cmdDrcFile job file offset) r (fun t =>
    match t.exported job with
    | none => .error 0x0103
    | some x => t.ok (((Config.comtrade (t.comtrade x.1 x.2) file).drop offset).take 4032)))

/-- DRC_DELETE: not while the record is recorded or exported. -/
def execDrcDelete (r : Req) (recno : Nat) (s : State) : Host.Outcome State Fault Refusal :=
  .next (s.command (cmdDrcDelete recno) r (fun t =>
    match t.drc.rec_ recno with
    | none => .error 0x0103
    | some x =>
      if !x.idle then .error 0x0103
      else ({ t with drc := { t.drc with recs := t.drc.recs.filter (fun y => y.recno != recno) } } : State).ok []))

end Sys2Proof.Machine
end

