-- ==== Sys2Proof/Machine/Station.lean ====
section
/-! DEFINITION. Station protocols and networks (R452 to R471). -/

namespace Sys2Proof

/-- What the protocol map lets a protocol do (R454). -/
def ProtoMaps.perm (m : ProtoMaps) (p : Nat) : ProtoPerm := at! m.perms p

/-- The permission of R454 that an action needs. -/
def ProtoPerm.lets (p : ProtoPerm) : StationAct → Bool
  | .select _ _ | .operate _ _ | .coil _ _ | .cancel _ => p.controls
  | .group _ => p.groups
  | .mode _ _ | .sim _ => p.modes
  | .write _ _ => p.writes

/-- The slot that a control of a station protocol names. -/
def StationAct.slot : StationAct → Option Nat
  | .select k _ | .operate k _ | .coil k _ | .cancel k => some k
  | .group _ | .mode _ _ | .sim _ | .write _ _ => none

/-- The operator action of R27 that a station action is. -/
def StationAct.toAct (origin : BitVec 128) (test : Option Bool) : StationAct → Act
  | .select k v => .ctlSelect k v origin test
  | .operate k v => .ctlOperate k v origin test
  | .coil k v => .ctlOperate k v origin test true
  | .cancel k => .ctlCancel k origin
  | .group g => .groupSwitch g
  | .mode t m => .modeSet t m
  | .sim on => .simSet on
  | .write p v => .pointWrite p v

/-- The opcode of the command that makes the same action (R443, R475). -/
def StationAct.opcode : StationAct → Nat
  | .select _ _ => 0x0C10
  | .operate _ _ | .coil _ _ => 0x0C11
  | .cancel _ => 0x0C12
  | .group _ => 0x0601
  | .mode _ _ => 0x0602
  | .sim _ => 0x0603
  | .write _ _ => 0x0C03

/-- The encodings that the same command checks (R438 step 2). -/
def StationAct.form : StationAct → Bool
  | .select k v | .operate k v | .coil k v => decide (k < 64) && (v == 1 || v == 2)
  | .cancel k => decide (k < 64)
  | .group g => decide (1 ≤ g) && decide (g ≤ 8)
  | .mode t m => decide (t < 64) && decide (1 ≤ m) && decide (m ≤ 5)
  | .sim _ => true
  | .write p _ => decide (p < 2 ^ 20)

/-- How a protocol reports a refusal: a control in the wrong state, and any action of an engine that does not drive, as R461 has it
(R457), Modbus with an exception (R466; the others' wire forms are the standards'). -/
def stRefusal (proto conn : Nat) (drives : Bool) (a : StationAct) (code : Nat) : StMsg :=
  if (a.slot.isSome || !drives) && code == 0x0103 then outcome proto conn 3 false
  else if proto = 3 then { proto := proto, conn := conn, kind := 3, code := if a.slot.isSome then 4 else 2 }
  else { proto := proto, conn := conn, kind := 3, code := code }

/-- The originator of R243 for a protocol without an origin field (R461): protocol, connection, and the common address of IEC 104 or the
address of a DNP3 master. -/
def stOrigin (proto conn ca : Nat) : BitVec 128 := BitVec.ofNat 128 (2 ^ 64 * (proto + 1) + 2 ^ 32 * (ca % 2 ^ 32) + conn + 1)

/-- Reports that a buffered report control block keeps (R459). -/
def rcbCap : Nat := 4096

/-- Members of a dataset (R459). -/
def datasetMax : Nat := 512

/-- Keep a report and the newest others that fit the buffer; older ones lost raise BufOvfl. -/
def rcbKeep (es : List ChgEntry) (r : Rcb) : Rcb :=
  let l := r.buffer ++ [es]
  { r with buffer := l.drop (l.length - rcbCap), ovfl := r.ovfl || decide (rcbCap < l.length) }

/-- Entries of a dataset's or a map's points. -/
def entriesOf (pts : List Nat) (es : List ChgEntry) : List ChgEntry := es.filter (fun e => pts.contains e.point)

/-- What a report carries. -/
def entryPts (es : List ChgEntry) : List (Nat × Point) := es.map (fun e => (e.point, e.rec_))

/-- The trigger options take an entry (R459): a change of the value, of the quality, or an update whichever it is. -/
def RcbOpts.takes (o : RcbOpts) (e : ChgEntry) : Bool := (o.dchg && e.vchg) || (o.qchg && e.qchg) || o.dupd

/-- The shortest integrity period, 100 ms (R459). -/
def intgMin : Nat := 960

/-- What a control relay output block does to a slot (R465): 2 closes, 1 opens. -/
def Crob.value : Crob → Option Nat
  | .latchOn | .pulseOn | .close => some 2
  | .latchOff | .trip => some 1
  | .other => none

/-- A TLS association opens with the cipher suites and groups of R458. -/
def tlsOk (suite group : Nat) : Bool := (suite == 0x1302 || suite == 0x1301) && (group == 24 || group == 23)

/-- The edition of the model that an association sees (R459): that of the entry for the client's address and certificate subject, else
the Block's default. -/
def editionOf (m : ProtoMaps) (p : TlsPeer) : Nat :=
  ((m.clients.find? (fun c => c.addr == p.addr && c.subject == p.subject)).map (·.edition)).getD m.defEdition

/-- A KeyUpdate is due (R458). -/
def keyDue (now : Nat) (a : Assoc) : Bool := decide (a.keyT + 34560000 ≤ now) || decide (2 ^ 30 ≤ a.recs)

/-- MMS associations at most (R459). -/
def maxMms : Nat := 16

/-- Requests in flight on an association at most (R469). -/
def maxFlight : Nat := 4

end Sys2Proof

namespace Sys2Proof.Machine

/-! ### Messages and points -/

/-- The protocol is served: the port is up and the Block enables it (R458). -/
def State.serves (proto : Nat) (s : State) : Bool := s.hpi.magic && s.blk.isSome && (s.block.proto.perm proto).enabled

/-- The last completed tick's copy of points (R27). -/
def State.points (l : List Nat) (s : State) : List (Nat × Point) :=
  l.map (fun i => (i, if statPt i then s.seen i else ({ s.sig with pts := s.view } : Sig).published i))

/-- The points that a protocol maps. -/
def State.mapped (proto : Nat) (s : State) : List Nat := s.block.proto.points proto

/-- A read of mapped points is answered in every role except 0 (R457); else a refusal. -/
def State.readPts (proto conn code : Nat) (l : List Nat) (s : State) : State :=
  if s.life.role ≠ 0 && l.all (fun i => (s.mapped proto).contains i) then s.say { proto := proto, conn := conn, pts := s.points l }
  else s.say { proto := proto, conn := conn, kind := 3, code := code }

/-- Another read: answered in every role except 0 (R457). -/
def State.answerRead (m : StMsg) (s : State) : State :=
  s.say (if s.life.role = 0 then { proto := m.proto, conn := m.conn, kind := 3, code := 0x0103 } else m)

/-! ### Actions of station protocols (R454, R457) -/

/-- A value to be written has the encoding of its point's TYPE (R33). -/
def State.actCoded (a : StationAct) (s : State) : Bool :=
  match a with
  | .write p v => s.valueCoded p v
  | _ => true

/-- The code that refuses an action, 0 where none does: the map's permission, then R438 from step 4 on. -/
def State.stCode (proto : Nat) (a : StationAct) (s : State) : Nat :=
  if !(a.form && s.actCoded a) then 0x0101
  else if !(s.block.proto.perm proto).lets a then 0x0102
  else if !s.drives then 0x0103
  else
    match a with
    | .select k _ | .operate k _ | .coil k _ | .cancel k => if s.slotThere k && (s.block.proto.slots proto).contains k then 0 else 0x0103
    | .group _ => if s.block.selector.isSome then 0x0103 else 0
    | .mode t _ => if s.absentBay t then 0x0103 else 0
    | .sim _ => 0
    | .write p _ => if s.pointOpen p then 0 else 0x0103

/-- An action of a station protocol: NTICK 0 through the command path, the outcome after the tick; or its refusal. -/
def State.stationGo (proto conn : Nat) (a : StationAct) (origin : BitVec 128) (test : Option Bool) (ack : Bool) (s : State) : State :=
  if !s.serves proto then s
  else
    let e := s.stCode proto a
    if e ≠ 0 then (if ack then s.say (stRefusal proto conn s.drives a e) else s)
    else s.pushAct { act := a.toAct origin test, ntick := s.logic.ltc + 1, opcode := a.opcode, reply := if ack then .station proto conn else .none }

/-- Several actions of one request: none is taken where one is refused, and the last is answered (log entry 123). -/
def State.stationAll (proto conn : Nat) (l : List StationAct) (origin : BitVec 128) (s : State) : State :=
  match l.find? (fun a => s.stCode proto a != 0) with
  | some a => s.say (stRefusal proto conn s.drives a (s.stCode proto a))
  | none => l.zipIdx.foldl (fun t a => t.stationGo proto conn a.1 origin none (a.2 + 1 == l.length)) s

/-- STATION_PROTOCOL_CONTROL. -/
def execStationProtocolControl (proto : Fin 6) (act : StationAct) (origin : BitVec 128) (test : Option Bool) (s : State) :
    Host.Outcome State Fault Refusal :=
  .next (s.stationGo proto.val 0 act origin test true)

/-! ### The change queue's consumers (R452, R453) -/

/-- A client's association is open. -/
def State.assocOpen (id : Nat) (s : State) : Bool := s.cp.assocs.any (fun a => a.id == id && a.service == 0)

/-- A drained entry as the protocols see it: the queued record, published as its slot's mode has it (R245). -/
def State.shown (e : ChgEntry) (s : State) : ChgEntry := { e with rec_ := s.sig.attr e.point e.rec_ }

/-- The image of points as changes (R453). -/
def State.imageOf (l : List Nat) (s : State) : List ChgEntry := (s.points l).map (fun p => { point := p.1, id := s.tsu.id, rec_ := p.2 })

/-- A control block reports to its client (R459): first what it has kept, then `more`, one report each. -/
def rcbFlush (i : Nat) (r : Rcb) (more : List (List (Nat × Point))) : Rcb × List StMsg :=
  let ls := r.buffer.map entryPts ++ more
  ({ r with seq := r.seq + ls.length, ovfl := r.ovfl && ls.isEmpty, buffer := [] },
   mapI (fun k l => { proto := 0, conn := r.assoc, kind := 1, code := r.seq + k, ovfl := r.ovfl && rcbBuffered i && k == 0, ev := true, pts := l }) ls)

/-- A report control block takes drained entries and the image that is due (R453): reported to its client, buffered while the client of a
buffered one is away. -/
def State.rcbDrain (es : List ChgEntry) (s : State) (i : Nat) (r : Rcb) : Rcb × List StMsg :=
  if !r.on then (r, [])
  else
    let l := (entriesOf r.dataset es).filter r.opts.takes ++ if r.image then s.imageOf r.dataset else []
    let r1 := { r with image := false }
    if l.isEmpty then (r1, [])
    else if s.assocOpen r.assoc then rcbFlush i r1 [entryPts l]
    else if rcbBuffered i then (rcbKeep l r1, [])
    else (r1, [])

/-- What a connection of IEC 104 with data transfer is told: changes with cause 3, and every mapped point after an overflow (R453). -/
def State.connDrain (es : List ChgEntry) (s : State) (i : Nat) (c : Conn104) : Conn104 × List StMsg :=
  if !(s.serves 1 && c.open_ && c.started) then (c, [])
  else
    let m (l : List (Nat × Point)) : List StMsg := if l.isEmpty then [] else [{ proto := 1, conn := i, kind := 1, code := 3, ev := true, pts := l }]
    ({ c with image := false }, m (entryPts (entriesOf (s.mapped 1) es)) ++ if c.image then m (s.points (s.mapped 1)) else [])

/-- The class of a point: 1 until a master assigns another (log entry 34). -/
def dnpClass (d : Dnp3) (p : Nat) : Nat := (lkup d.classes p).getD 1

/-- A DNP3 master takes drained entries: unsolicited where it has enabled them, else held as events of their classes. -/
def State.dnpDrain (es : List ChgEntry) (s : State) (i : Nat) (d : Dnp3) : Dnp3 × List StMsg :=
  let l := (entriesOf (s.mapped 2) es).filter (fun e => dnpClass d e.point != 0)
  if !s.serves 2 || l.isEmpty then (d, [])
  else if d.unsol then (d, [{ proto := 2, conn := i, kind := 1, ev := true, pts := entryPts l }])
  else ({ d with events := d.events ++ l }, [])

/-- The RS-485 ports that run IEC 103 (R467). -/
def State.ports103 (s : State) : List Nat := (List.range 2).filter (fun p => (s.block.proto.serial.getD p { kind := 0 }).kind == 2)

/-- What IEC 103 sends on its ports: changes, and a general interrogation that the engine starts after an overflow. -/
def State.drain103 (es : List ChgEntry) (s : State) : List StMsg :=
  if !s.serves 4 then []
  else s.ports103.flatMap (fun p =>
    let m (l : List (Nat × Point)) : List StMsg := if l.isEmpty then [] else [{ proto := 4, conn := p, kind := 1, ev := true, pts := l }]
    m (entryPts (entriesOf (s.mapped 4) es)) ++ if s.cp.gi103 then m (s.points (s.mapped 4)) else [])

/-- CHANGE_QUEUE_DRAIN: the CP takes entries from the front, in order. -/
def State.drain (n : Nat) (s : State) : State :=
  if !s.hpi.magic then s
  else
    let es := (s.cp.queue.take n).map s.shown
    let rs := mapI (s.rcbDrain es) s.cp.rcbs
    let cs := mapI (s.connDrain es) s.cp.conns
    let ds := mapI (s.dnpDrain es) s.cp.dnps
    ({ s with cp := { s.cp with queue := s.cp.queue.drop n, gi103 := false
                                rcbs := rs.map (·.1), conns := cs.map (·.1), dnps := ds.map (·.1) } } : State).sayAll
      (rs.flatMap (·.2) ++ cs.flatMap (·.2) ++ ds.flatMap (·.2) ++ s.drain103 es)

/-- CHANGE_QUEUE_DRAIN. -/
def execChangeQueueDrain (n : Nat) (s : State) : Host.Outcome State Fault Refusal := .next (s.drain n)

/-! ### TLS (R458) -/

/-- TLS_HANDSHAKE: mutual authentication, with the device identity key and against the trust anchors; no resumption; a revoked
certificate is refused (R458). The service port carries the command set alone (R470), and the pair address is reached while it is held
(R455). -/
def State.tlsOpen (assoc suite group : Nat) (certOk : Bool) (serial : Nat) (p : TlsPeer) (resumed : Bool) (s : State) : State :=
  let ok := s.hpi.magic && s.blk.isSome && s.sca.ident && !s.block.proto.anchors.isEmpty && certOk && !resumed && tlsOk suite group &&
    !s.cp.crl.contains serial && !s.cp.assocs.any (fun a => a.id == assoc) && (!p.pair || (s.cp.holdsPair && !p.front)) &&
    (p.service == 1 || (p.service == 0 && !p.front && s.serves 0 && decide ((s.cp.assocs.filter (fun a => a.service == 0)).length < maxMms)))
  if ok then { s with cp := { s.cp with assocs := s.cp.assocs ++
      [{ id := assoc, service := p.service, suite := suite, group := group, keyT := s.tsu.statTick, edition := editionOf s.block.proto p
         front := p.front, pair := p.pair }] } }
  else s

/-- TLS_HANDSHAKE. -/
def execTlsHandshake (assoc suite group : Nat) (certOk : Bool) (serial : Nat) (peer : TlsPeer) (resumed : Bool) (s : State) :
    Host.Outcome State Fault Refusal :=
  .next (s.tlsOpen assoc suite group certOk serial peer resumed)

/-- TLS_KEY_UPDATE: where it is due. -/
def State.tlsUpdate (assoc : Nat) (s : State) : State :=
  if s.cp.assocs.any (fun a => a.id == assoc && keyDue s.tsu.statTick a) then
    { s with
      cp := { s.cp with assocs := s.cp.assocs.map (fun a => if a.id = assoc then { a with keyT := s.tsu.statTick, recs := 0 } else a) }
      out := s.out ++ [.tls assoc 1] }
  else s

/-- TLS_KEY_UPDATE. -/
def execTlsKeyUpdate (assoc : Nat) (s : State) : Host.Outcome State Fault Refusal := .next (s.tlsUpdate assoc)

/-- TLS_ASSOCIATION_CLOSE. -/
def execTlsAssociationClose (assoc : Nat) (s : State) : Host.Outcome State Fault Refusal := .next (s.tlsClose assoc)

/-- CRL_LOAD: a list that verifies replaces the one held. -/
def execCrlLoad (serials : List Nat) (sigOk : Bool) (s : State) : Host.Outcome State Fault Refusal :=
  .next (if sigOk then { s with cp := { s.cp with crl := serials } } else s)

/-! ### The encapsulated command set (R469) -/

/-- ENCAPSULATED_COMMAND: a request's record arrives on a command-set association. A known opcode is in flight, and its own
command follows; an unknown one is refused, and one beyond the four in flight. -/
def State.encapsulated (assoc opcode tag session : Nat) (s : State) : State :=
  match s.cp.assocs.find? (fun a => a.id == assoc && a.service == 1) with
  | none => s
  | some a =>
    let t := s.modAssoc assoc (fun x => { x with recs := x.recs + 1, pending := x.pending + 1 })
    let r : Req := { carrier := .net assoc, tag := tag, session := session }
    if !cmdTable.contains opcode then t.refuse { op := opcode } r 0x0100 false
    else if maxFlight ≤ a.pending then t.refuse { op := opcode } r 0x0104 false
    else t

/-- ENCAPSULATED_COMMAND. -/
def execEncapsulatedCommand (assoc opcode tag session : Nat) (s : State) : Host.Outcome State Fault Refusal :=
  .next (s.encapsulated assoc opcode tag session)

/-! ### MMS (R459, R460) -/

/-- Change one report control block. -/
def State.modRcb (i : Nat) (f : Rcb → Rcb) (s : State) : State := { s with cp := { s.cp with rcbs := s.cp.rcbs.modify i f } }

/-- A control block reports what it has kept, and `more`. -/
def State.rcbGo (i : Nat) (more : List (List (Nat × Point))) (s : State) : State :=
  let x := rcbFlush i (at! s.cp.rcbs i) more
  (s.modRcb i (fun _ => x.1)).sayAll x.2

/-- Enable or disable a report control block: its kind is that of its number, its members are mapped points, its integrity period is at
least 100 ms, and another client does not hold it. An enabled buffered one reports what it has kept. -/
def State.enableReport (assoc i : Nat) (on : Bool) (dataset : List Nat) (buffered : Bool) (o : RcbOpts) (s : State) : State :=
  let r := at! s.cp.rcbs i
  let ok := decide (i < 256) && buffered == rcbBuffered i && decide (dataset.length ≤ datasetMax) &&
    dataset.all (fun p => (s.mapped 0).contains p) && (o.period == 0 || decide (intgMin ≤ o.period)) &&
    (!r.on || r.assoc == assoc || !s.assocOpen r.assoc)
  if !ok then s.say { proto := 0, conn := assoc, kind := 3, code := 0x0103 }
  else
    let t := (s.modRcb i (fun r => { r with on := on, assoc := assoc, dataset := dataset, opts := o, intT := s.tsu.statTick })).say { proto := 0, conn := assoc }
    if on then t.rcbGo i [] else t

/-- A report of a whole dataset, for a general interrogation or an integrity period. -/
def State.reportAll (i : Nat) (s : State) : State :=
  let r := at! s.cp.rcbs i
  if r.on && s.assocOpen r.assoc then s.rcbGo i [s.points r.dataset] else s

/-- The integrity period of a control block, 0 for none: its own or the Block's (R459). -/
def State.intgPeriod (r : Rcb) (s : State) : Nat :=
  if !r.opts.integrity then 0 else if r.opts.period = 0 then s.block.proto.integrity else r.opts.period

/-- REPORT_INTEGRITY_PERIOD: once the period has passed since the last one. -/
def State.integrityRow (i : Nat) (s : State) : State :=
  let r := at! s.cp.rcbs i
  let p := s.intgPeriod r
  if 0 < p && decide (r.intT + p ≤ s.tsu.statTick) then (s.modRcb i (fun r => { r with intT := s.tsu.statTick })).reportAll i else s

/-- FileDelete: with privilege E, a record that is neither recorded nor exported (R260). -/
def State.mmsDelete (assoc recno : Nat) (privE : Bool) (s : State) : State :=
  let gone := (match s.drc.rec_ recno with | some x => x.idle | none => false)
  if !privE then s.say { proto := 0, conn := assoc, kind := 3, code := 0x0102 }
  else if !gone then s.say { proto := 0, conn := assoc, kind := 3, code := 0x0103 }
  else ({ s with drc := { s.drc with recs := s.drc.recs.filter (fun y => y.recno != recno) } } : State).say { proto := 0, conn := assoc }

/-- A record of an association has come (R458). -/
def State.heardTls (assoc : Nat) (s : State) : State := s.modAssoc assoc (fun a => { a with recs := a.recs + 1 })

/-- A service request of an open MMS association. -/
def State.mms (assoc : Nat) (q : MmsReq) (s0 : State) : State :=
  if !(s0.serves 0 && s0.assocOpen assoc) then s0
  else
    let s := s0.heardTls assoc
    match q with
    | .read pts => s.readPts 0 assoc 0x0103 pts
    | .control k v op test origin => s.stationGo 0 assoc (if op then .operate k v else .select k v) origin (some test) true
    | .cancel k origin => s.stationGo 0 assoc (.cancel k) origin none true
    | .activateGroup g => s.stationGo 0 assoc (.group g) 0 none true
    | .setMode t m => s.stationGo 0 assoc (.mode t m) 0 none true
    | .setSim on => s.stationGo 0 assoc (.sim on) 0 none true
    | .write p v => s.stationGo 0 assoc (.write p v) 0 none true
    | .enableReport i on ds buf o => s.enableReport assoc i on ds buf o
    | .generalInterrogation i =>
      if (at! s.cp.rcbs i).assoc = assoc ∧ (at! s.cp.rcbs i).opts.gi = true ∧ s.life.role ≠ 0 then s.reportAll i
      else s.say { proto := 0, conn := assoc, kind := 3, code := 0x0103 }
    | .fileDirectory => s.answerRead { proto := 0, conn := assoc, data := s.drc.recs.flatMap drcHeader }
    | .getFile n =>
      match s.drc.rec_ n with
      | some x => s.answerRead { proto := 0, conn := assoc, data := Config.comtrade (s.comtrade x {}) 0 }
      | none => s.say { proto := 0, conn := assoc, kind := 3, code := 0x0103 }
    | .fileDelete n e => s.mmsDelete assoc n e
    | .unsupported => s.say { proto := 0, conn := assoc, kind := 3 }

/-- MMS_REQUEST. -/
def execMmsRequest (assoc : Nat) (q : MmsReq) (s : State) : Host.Outcome State Fault Refusal := .next (s.mms assoc q)

/-- REPORT_INTEGRITY_PERIOD. -/
def execReportIntegrityPeriod (rcb : Fin 256) (s : State) : Host.Outcome State Fault Refusal := .next (s.integrityRow rcb.val)

/-! ### IEC 60870-5-104 (R464) -/

/-- A frame of I format has been received: it acknowledges what was sent, so that what waits goes on, and w of them are acknowledged
(log entry 34). -/
def State.heard104 (i : Nat) (s : State) : State :=
  let c := at! s.cp.conns i
  let now := s.tsu.statTick
  let full := decide (s.block.proto.w104 ≤ c.toAck + 1)
  let t := (s.modConn i (fun c => { c with
    unacked := 0, toAck := if full then 0 else c.toAck + 1, rxT := if c.toAck = 0 then now else c.rxT, lastT := now })).flush104 i
  if full then t.say { proto := 1, conn := i, kind := 5, code := 1 } else t

/-- A frame of U format has been received. -/
def State.heardU (i : Nat) (f : Conn104 → Conn104) (s : State) : State := s.modConn i (fun c => f { c with lastT := s.tsu.statTick })

/-- Data transfer starts on a connection (R464): the others of its redundancy group stop, and what waited on them goes on here (log entry
34). -/
def State.start104 (i : Nat) (s : State) : State :=
  let g := s.block.proto.group104[i]?
  let mine (j : Nat) (c : Conn104) : Bool := j != i && c.started && s.block.proto.group104[j]? == g
  let kept := ((mapI (fun j c => if mine j c then c.wait else []) s.cp.conns).flatten).map (fun m => { m with conn := i })
  ({ s with cp := { s.cp with conns := mapI (fun j c => if mine j c then { c with started := false, wait := [] } else c) s.cp.conns } } : State).modConn i
    (fun c => { c with open_ := true, started := true, wait := c.wait ++ kept })

/-- Counter values: the signed and unsigned integer points (R33). -/
def isCounter (p : Point) : Bool := p.typ == 3 || p.typ == 4

/-- What an ASDU asks for, on a connection with data transfer started. A control with another common address is refused with cause 46
(log entry 34). -/
def State.asdu104 (i : Nat) (q : Iec104Req) (s : State) : State :=
  match q with
  | .control typ k v sel age ca =>
    if !([45, 46, 58, 59].contains typ) then s.say { proto := 1, conn := i, kind := 3, code := typ }
    else if ca ≠ s.block.proto.ca104 then s.say { proto := 1, conn := i, kind := 3, code := 46 }
    else if (typ = 58 ∨ typ = 59) ∧ s.block.proto.cmdAge < age then s.say (outcome 1 i 3 false)
    else s.stationGo 1 i (if sel then .select k v else .operate k v) (stOrigin 1 i ca) none true
  | .interrogation => s.readPts 1 i 0x0103 (s.mapped 1)
  | .counterInterrogation => s.readPts 1 i 0x0103 ((s.mapped 1).filter (fun p => isCounter (s.seen p)))
  | .read p => s.readPts 1 i 0x0103 [p]
  | .test => s.say { proto := 1, conn := i, kind := 4 }
  | .clockSync => s.say { proto := 1, conn := i, kind := 2, code := 1 }
  | .unsupported typ => s.say { proto := 1, conn := i, kind := 3, code := typ }
  | .connect _ | .startDt | .stopDt | .testFr | .testCon => s

/-- A frame of a controlling station. -/
def State.iec104 (i : Nat) (q : Iec104Req) (s : State) : State :=
  if !s.serves 1 then s
  else
    match q with
    | .connect pair => if pair && !s.cp.holdsPair then s else s.modConn i (fun _ => { open_ := true, pair := pair, lastT := s.tsu.statTick })
    | .startDt => (((s.heardU i id).start104 i).flush104 i).say { proto := 1, conn := i, kind := 4, code := 1 }
    | .stopDt => (s.heardU i (fun c => { c with open_ := true, started := false })).say { proto := 1, conn := i, kind := 4, code := 2 }
    | .testFr => (s.heardU i (fun c => { c with open_ := true })).say { proto := 1, conn := i, kind := 4, code := 3 }
    | .testCon => s.heardU i (fun c => { c with test := false })
    | .control .. | .interrogation | .counterInterrogation | .read _ | .test | .clockSync | .unsupported _ =>
      if (at! s.cp.conns i).started then (s.heard104 i).asdu104 i q else s

/-- IEC104_REQUEST. -/
def execIec104Request (conn : Fin 4) (q : Iec104Req) (s : State) : Host.Outcome State Fault Refusal := .next (s.iec104 conn.val q)

/-- IEC104_TIMER_EXPIRY, once its time of the Block has passed (R464): t1 closes a connection whose frame or test is unacknowledged, t2
acknowledges, t3 tests a connection on which nothing has come. -/
def State.timer104 (i timer : Nat) (s : State) : State :=
  let c := at! s.cp.conns i
  let m := s.block.proto
  let now := s.tsu.statTick
  if !c.open_ then s
  else if timer = 0 then (if (c.test || decide (0 < c.unacked)) && decide (c.sentT + m.t1 ≤ now) then s.modConn i (fun _ => {}) else s)
  else if timer = 1 then
    (if 0 < c.toAck && decide (c.rxT + m.t2 ≤ now)
     then (s.modConn i (fun c => { c with toAck := 0 })).say { proto := 1, conn := i, kind := 5, code := 1 } else s)
  else if !c.test && decide (c.lastT + m.t3 ≤ now) then
    (s.modConn i (fun c => { c with test := true, sentT := if c.unacked = 0 then now else c.sentT })).say { proto := 1, conn := i, kind := 5, code := 2 }
  else s

/-- IEC104_TIMER_EXPIRY. -/
def execIec104TimerExpiry (conn : Fin 4) (timer : Fin 3) (s : State) : Host.Outcome State Fault Refusal :=
  .next (s.timer104 conn.val timer.val)

/-! ### DNP3 (R465) -/

/-- Change one master's view. -/
def State.modDnp (i : Nat) (f : Dnp3 → Dnp3) (s : State) : State := { s with cp := { s.cp with dnps := s.cp.dnps.modify i f } }

/-- A class poll: class 0 gives every mapped point and ends the overflow indication (R453), another its events. -/
def State.dnpPoll (i cls : Nat) (s : State) : State :=
  let d := at! s.cp.dnps i
  if s.life.role = 0 then s.say { proto := 2, conn := i, kind := 3, code := 0x0103 }
  else if cls = 0 then (s.modDnp i (fun d => { d with ovfl := false })).say { proto := 2, conn := i, pts := s.points (s.mapped 2) }
  else
    let mine (e : ChgEntry) : Bool := dnpClass d e.point == cls
    (s.modDnp i (fun d => { d with events := d.events.filter (fun e => !mine e) })).say
      { proto := 2, conn := i, ev := true, pts := entryPts (d.events.filter mine) }

/-- A read of points in a variation (R465): one that their objects lack is refused. -/
def State.dnpRead (i var : Nat) (l : List Nat) (s : State) : State :=
  let ok := var = 0 || (s.points l).all (fun p => (dnpObject p.2.typ.toNat false).2.1.contains var)
  if s.life.role ≠ 0 && ok && l.all (fun p => (s.mapped 2).contains p) then s.say { proto := 2, conn := i, var := var, pts := s.points l }
  else s.say { proto := 2, conn := i, kind := 3, code := 2 }

/-- A control relay output block: latch on, pulse on and close close the slot, latch off and trip open it (log entry 34); another operation
is not supported. -/
def State.crob (i slot : Nat) (op : Crob) (src : Nat) (sel ack : Bool) (s : State) : State :=
  match op.value with
  | some v => s.stationGo 2 i (if sel then .select slot v else .operate slot v) (stOrigin 2 i src) none ack
  | none => if ack then s.say (outcome 2 i 3 false) else s

/-- The time in milliseconds of UTC since 1970 (R359, R465). -/
def State.utcMs (s : State) : Nat :=
  let ns := gridNs (TickId.grid s.tsu.id)
  ns / 1000000 - 1000 * utcAt s.block.time s.tsu (TickId.grid s.tsu.id)

/-- A request of a master. Codes of a plain answer are bits of the second IIN octet. Output states are g10v2 of the slots' positions. -/
def State.dnp3 (i : Nat) (q : Dnp3Req) (s : State) : State :=
  if !s.serves 2 then s
  else
    match q with
    | .connect pair => if pair && !s.cp.holdsPair then s else s.modDnp i (fun _ => { pair := pair })
    | .readClass c => s.dnpPoll i c
    | .read pts var => s.dnpRead i var pts
    | .readOutputs l =>
      if l.all (fun k => (s.block.proto.slots 2).contains k) then
        s.answerRead { proto := 2, conn := i, var := 2562, pts := s.points (l.map (fun k => slotBase k + 1)) }
      else s.say { proto := 2, conn := i, kind := 3, code := 2 }
    | .select k op src => s.crob i k op src true true
    | .operate k op src => s.crob i k op src false true
    | .directOperate k op src ack => s.crob i k op src false ack
    | .readTime => s.answerRead { proto := 2, conn := i, var := 12801, data := leBytes s.utcMs 6 }
    | .writeTime => s.say { proto := 2, conn := i, kind := 3, code := 4 }
    | .enableUnsolicited on => (s.modDnp i (fun d => { d with unsol := on })).say { proto := 2, conn := i }
    | .assignClass p c =>
      if c ≤ 3 ∧ (s.mapped 2).contains p then
        (s.modDnp i (fun d => { d with classes := lset d.classes p c })).say { proto := 2, conn := i }
      else s.say { proto := 2, conn := i, kind := 3, code := 4 }
    | .unsupported => s.say { proto := 2, conn := i, kind := 3, code := 1 }

/-- DNP3_REQUEST. -/
def execDnp3Request (master : Fin 4) (q : Dnp3Req) (s : State) : Host.Outcome State Fault Refusal := .next (s.dnp3 master.val q)

/-! ### Modbus (R466) -/

/-- A read by function code: 1 and 2 give bits, 3 and 4 registers (R466). -/
def State.modbusRead (i fc : Nat) (l : List Nat) (s : State) : State :=
  let ps := s.points l
  if !(s.life.role ≠ 0 && l.all (fun p => (s.mapped 3).contains p)) then s.say { proto := 3, conn := i, kind := 3, code := 2 }
  else s.say { proto := 3, conn := i, pts := ps
               data := if fc ≤ 2 then leBytes (packBits (ps.map (fun p => p.2.value.getLsbD 0))) ((ps.length + 7) / 8) else ps.flatMap (fun p => modbusBytes p.2) }

/-- A Modbus request. Codes of a refusal are exceptions. A coil that is mapped to a slot is a direct control. -/
def State.modbus (i : Nat) (q : ModbusReq) (s : State) : State :=
  if !s.serves 3 then s
  else
    match q with
    | .read fc pts => if 1 ≤ fc ∧ fc ≤ 4 then s.modbusRead i fc pts else s.say { proto := 3, conn := i, kind := 3, code := 1 }
    | .writeCoils l => s.stationAll 3 i (l.map (fun x => .coil x.1 x.2)) (stOrigin 3 i 0)
    | .writeRegisters l => s.stationAll 3 i (l.map (fun x => .write x.1 x.2)) 0
    | .identification => s.answerRead { proto := 3, conn := i, data := s.identBytes }
    | .unsupported _ => s.say { proto := 3, conn := i, kind := 3, code := 1 }

/-- The RS-485 port as the Block sets it. -/
def State.serialPort (p : Nat) (s : State) : SerialPort := s.block.proto.serial.getD p { kind := 0 }

/-- A client of TCP, or the master of a port that runs Modbus RTU where it calls the engine's address. -/
def State.modbusFrom (p : ModbusPeer) (q : ModbusReq) (s : State) : State :=
  match p with
  | .tcp c => s.modbus c.val q
  | .rtu port addr => if (s.serialPort port.val).kind = 1 ∧ (s.serialPort port.val).addr = addr then s.modbus (8 + port.val) q else s

/-- MODBUS_REQUEST. -/
def execModbusRequest (peer : ModbusPeer) (q : ModbusReq) (s : State) : Host.Outcome State Fault Refusal := .next (s.modbusFrom peer q)

/-! ### IEC 60870-5-103 (R467) -/

/-- A request of a primary station on a port that runs IEC 103. -/
def State.iec103 (port : Nat) (q : Iec103Req) (s : State) : State :=
  if !(s.serves 4 && (s.serialPort port).kind == 2) then s
  else
    match q with
    | .interrogation => s.readPts 4 port 0x0103 (s.mapped 4)
    | .timeSync => s.say { proto := 4, conn := port, kind := 4 }
    | .command k v => s.stationGo 4 port (.operate k v) (stOrigin 4 port 0) none true
    | .unsupported => s.say { proto := 4, conn := port, kind := 3 }

/-- IEC103_REQUEST. -/
def execIec103Request (port : Fin 2) (q : Iec103Req) (s : State) : Host.Outcome State Fault Refusal := .next (s.iec103 port.val q)

/-! ### C37.118.2 (R468) -/

/-- Transmission of a stream on or off. -/
def syncOn (n : Nat) (on pair : Bool) (p : Phe) : Phe :=
  { p with syncs := p.syncs.modify n (fun x => { x with on := on, viaPair := pair, ready := if on then x.ready else [] }) }

/-- A header or configuration frame, in every role except 0 (R457). -/
def State.c37Frame (n kind : Nat) (s : State) : State := if s.life.role = 0 then s else s.emit [.c37Config n kind (c37Cfg s.block n kind)]

/-- A command to a stream: data is refused until the engine wears the Hat; extended frames are ignored. -/
def State.c37 (n : Nat) (q : C37Cmd) (s : State) : State :=
  if !(s.serves 5 && (s.block.proto.syncs[n]?).isSome) then s
  else
    match q with
    | .dataOn pair => if s.hat.latch && (!pair || s.cp.holdsPair) then { s with phe := syncOn n true pair s.phe } else s
    | .dataOff => { s with phe := syncOn n false false s.phe }
    | .sendHdr => s.c37Frame n 0
    | .sendCfg1 => s.c37Frame n 1
    | .sendCfg2 => s.c37Frame n 2
    | .sendCfg3 => s.c37Frame n 3
    | .extended => s

/-- C37_118_COMMAND. -/
def execC37Command (stream : Fin 8) (q : C37Cmd) (s : State) : Host.Outcome State Fault Refusal := .next (s.c37 stream.val q)

/-! ### GOOSE, PRP (R463, R455) -/

/-- GOOSE_RETRANSMIT: of a publication whose next evaluation finds it due and its dataset unchanged. -/
def State.retransmit (n : Nat) (s : State) : State :=
  match s.block.proto.goosePubs[n]? with
  | none => s
  | some p =>
    let x := at! s.cp.pubs n
    if !(s.protects && x.live && x.vals == pubVals s.sig p && decide (x.due ≤ 1)) then s
    else
      { s with cp := { s.cp with pubs := s.cp.pubs.modify n (pubRepeat p) }
               out := if s.hat.latch && s.fit then s.out ++ [pubFrame n p (pubRepeat p x)] else s.out }

/-- GOOSE_RETRANSMIT. -/
def execGooseRetransmit (pub : Fin 128) (s : State) : Host.Outcome State Fault Refusal := .next (s.retransmit pub.val)

/-- Ticks from one PRP supervision frame to the next, 2 s (R455). -/
def prpPeriod : Nat := 19200

/-- PRP_SUPERVISION_SEND: on the station pair, which always runs PRP (R103), 2 s after the last one (R455). -/
def execPrpSupervisionSend (s : State) : Host.Outcome State Fault Refusal :=
  .next (if s.life.booted && s.cp.prpT.all (fun t => decide (t + prpPeriod ≤ s.tsu.statTick))
    then ({ s with cp := { s.cp with prpT := some s.tsu.statTick } } : State).emit [.prpSupervision] else s)

end Sys2Proof.Machine
end

