-- ==== Sys2Proof/Machine/Tasks.lean ====
section
/-! DEFINITION. Commands of the logic tasks (R282 to R294) and the 25 bit-logic instructions (R295 to R298). -/

namespace Sys2Proof.Machine

/-! ### Tasks -/

/-- Change the logic alone. -/
def State.logicRow (f : Block → Logic → Logic × List EvRec) (s : State) : State :=
  match s.blk with
  | none => s
  | some b =>
    let r := f b s.logic
    { s with logic := r.1, evr := { s.evr with tickEv := s.evr.tickEv ++ r.2 } }

/-- TASK_RELEASE: a cyclic task due at this LTC that is not running (R282, R283). -/
def execTaskRelease (t : Fin 10) (s : State) : Host.Outcome State Fault Refusal :=
  .next (s.logicRow (fun b lg =>
    if dueAt (at! b.tasks t.val) lg.ltc && !(at! lg.tasks t.val).busy
    then ({ lg with tasks := lg.tasks.modify t.val (releaseTask lg.ltc) }, []) else (lg, [])))

/-- EVENT_TASK_RELEASE (R292, R293). -/
def execEventTaskRelease (s : State) : Host.Outcome State Fault Refusal :=
  .next (s.logicRow (fun b lg => (b.tasks.zipIdx.foldl (fun (l : Logic) e => if e.1.kind = 2 then eventRelease e.2 l else l) lg, [])))

/-- ERROR_TASK_RELEASE (R294). -/
def execErrorTaskRelease (s : State) : Host.Outcome State Fault Refusal :=
  .next (s.logicRow (fun b lg => (if hasErrTask b then errorRelease 9 lg else lg, [])))

/-- TASK_COMPLETE: a cycle that waits for phase E commits its outputs (R285, R289). -/
def State.taskDone (t : Nat) (s : State) : State :=
  match s.blk with
  | none => s
  | some b =>
    let x := at! s.logic.tasks t
    if x.st = 4 then
      { s with
        logic := { s.logic with tasks := s.logic.tasks.modify t (completeTask s.logic.ltc) }
        sig := s.sig.writes s.tsu.id (taskWrites (at! b.tasks t) x) }
    else s

/-- TASK_COMPLETE. -/
def execTaskComplete (t : Fin 10) (s : State) : Host.Outcome State Fault Refusal := .next (s.taskDone t.val)

/-- A due release that finds its cycle running, and whether the cycle is due for abandonment (R290, R291). -/
def lateRelease (e : TaskEntry) (lg : Logic) (t : TaskState) : Option Bool :=
  if dueAt e lg.ltc && t.busy then some (decide (e.maxrel ≠ 0) && decide (t.relLtc + e.maxrel * e.period ≤ lg.ltc)) else none

/-- RELEASE_SKIPPED (R290). -/
def execReleaseSkipped (t : Fin 10) (s : State) : Host.Outcome State Fault Refusal :=
  .next (s.logicRow (fun b lg =>
    if lateRelease (at! b.tasks t.val) lg (at! lg.tasks t.val) = some false then doSkip t.val lg else (lg, [])))

/-- CYCLE_ABANDONED (R291). -/
def execCycleAbandoned (t : Fin 10) (s : State) : Host.Outcome State Fault Refusal :=
  .next (s.logicRow (fun b lg =>
    if lateRelease (at! b.tasks t.val) lg (at! lg.tasks t.val) = some true then doAbandon t.val lg else (lg, [])))

/-! ### Bit-logic instructions -/

/-- An instruction runs on the cycle that bit-logic unit `u` carries (R288, R297); an idle unit has none. A cycle that it ends
leaves the unit and waits for phase E. -/
def State.bluRow (u : Nat) (f : CycleEnv → Work → Work) (s : State) : State :=
  match s.blk, at! s.logic.cur (2 + u) with
  | some b, some t =>
    let v := cycEnv b (fun i => (s.sig.rd i).typ) t (at! s.logic.tasks t)
    { s with logic := unloadDone (2 + u) { s.logic with work := s.logic.work.modify (2 + u) (f v) } }
  | _, _ => s

/-- NOP. -/
def execBluNop (u : Fin 2) (_m : BitVec 4) (_idx : BitVec 20) (s : State) : Host.Outcome State Fault Refusal :=
  .next (s.bluRow u.val (fun _ w => bluOpNop w))

/-- LD. -/
def execBluLd (u : Fin 2) (m : BitVec 4) (idx : BitVec 20) (s : State) : Host.Outcome State Fault Refusal :=
  .next (s.bluRow u.val (fun v w => bluOpLd v m idx.toNat w))

/-- ST. -/
def execBluSt (u : Fin 2) (m : BitVec 4) (idx : BitVec 20) (s : State) : Host.Outcome State Fault Refusal :=
  .next (s.bluRow u.val (fun _ w => bluOpSt m idx.toNat w))

/-- AND. -/
def execBluAnd (u : Fin 2) (m : BitVec 4) (idx : BitVec 20) (s : State) : Host.Outcome State Fault Refusal :=
  .next (s.bluRow u.val (fun v w => bluOpAnd v m idx.toNat w))

/-- OR. -/
def execBluOr (u : Fin 2) (m : BitVec 4) (idx : BitVec 20) (s : State) : Host.Outcome State Fault Refusal :=
  .next (s.bluRow u.val (fun v w => bluOpOr v m idx.toNat w))

/-- XOR. -/
def execBluXor (u : Fin 2) (m : BitVec 4) (idx : BitVec 20) (s : State) : Host.Outcome State Fault Refusal :=
  .next (s.bluRow u.val (fun v w => bluOpXor v m idx.toNat w))

/-- SET. -/
def execBluSet (u : Fin 2) (_m : BitVec 4) (idx : BitVec 20) (s : State) : Host.Outcome State Fault Refusal :=
  .next (s.bluRow u.val (fun _ w => bluOpSet idx.toNat w))

/-- RST. -/
def execBluRst (u : Fin 2) (_m : BitVec 4) (idx : BitVec 20) (s : State) : Host.Outcome State Fault Refusal :=
  .next (s.bluRow u.val (fun _ w => bluOpRst idx.toNat w))

/-- LDK. -/
def execBluLdk (u : Fin 2) (_m : BitVec 4) (idx : BitVec 20) (s : State) : Host.Outcome State Fault Refusal :=
  .next (s.bluRow u.val (fun _ w => bluOpLdk idx.toNat w))

/-- LDV. -/
def execBluLdv (u : Fin 2) (_m : BitVec 4) (idx : BitVec 20) (s : State) : Host.Outcome State Fault Refusal :=
  .next (s.bluRow u.val (fun v w => bluOpLdv v idx.toNat w))

/-- LDQ. -/
def execBluLdq (u : Fin 2) (_m : BitVec 4) (idx : BitVec 20) (s : State) : Host.Outcome State Fault Refusal :=
  .next (s.bluRow u.val (fun v w => bluOpLdq v idx.toNat w))

/-- LDS. -/
def execBluLds (u : Fin 2) (_m : BitVec 4) (idx : BitVec 20) (s : State) : Host.Outcome State Fault Refusal :=
  .next (s.bluRow u.val (fun v w => bluOpLds v idx.toNat w))

/-- ANDB. -/
def execBluAndb (u : Fin 2) (m : BitVec 4) (idx : BitVec 20) (s : State) : Host.Outcome State Fault Refusal :=
  .next (s.bluRow u.val (fun v w => bluOpAndb v m idx.toNat w))

/-- ORB. -/
def execBluOrb (u : Fin 2) (m : BitVec 4) (idx : BitVec 20) (s : State) : Host.Outcome State Fault Refusal :=
  .next (s.bluRow u.val (fun v w => bluOpOrb v m idx.toNat w))

/-- CLB. -/
def execBluClb (u : Fin 2) (_m : BitVec 4) (_idx : BitVec 20) (s : State) : Host.Outcome State Fault Refusal :=
  .next (s.bluRow u.val (fun _ w => bluOpClb w))

/-- TON. -/
def execBluTon (u : Fin 2) (_m : BitVec 4) (idx : BitVec 20) (s : State) : Host.Outcome State Fault Refusal :=
  .next (s.bluRow u.val (fun v w => bluOpTon v idx.toNat w))

/-- TOF. -/
def execBluTof (u : Fin 2) (_m : BitVec 4) (idx : BitVec 20) (s : State) : Host.Outcome State Fault Refusal :=
  .next (s.bluRow u.val (fun v w => bluOpTof v idx.toNat w))

/-- TP. -/
def execBluTp (u : Fin 2) (_m : BitVec 4) (idx : BitVec 20) (s : State) : Host.Outcome State Fault Refusal :=
  .next (s.bluRow u.val (fun v w => bluOpTp v idx.toNat w))

/-- REDGE. -/
def execBluRedge (u : Fin 2) (_m : BitVec 4) (idx : BitVec 20) (s : State) : Host.Outcome State Fault Refusal :=
  .next (s.bluRow u.val (fun _ w => bluOpRedge idx.toNat w))

/-- FEDGE. -/
def execBluFedge (u : Fin 2) (_m : BitVec 4) (idx : BitVec 20) (s : State) : Host.Outcome State Fault Refusal :=
  .next (s.bluRow u.val (fun _ w => bluOpFedge idx.toNat w))

/-- CTU. -/
def execBluCtu (u : Fin 2) (_m : BitVec 4) (idx : BitVec 20) (s : State) : Host.Outcome State Fault Refusal :=
  .next (s.bluRow u.val (fun v w => bluOpCtu v idx.toNat w))

/-- CRS. -/
def execBluCrs (u : Fin 2) (_m : BitVec 4) (idx : BitVec 20) (s : State) : Host.Outcome State Fault Refusal :=
  .next (s.bluRow u.val (fun _ w => bluOpCrs idx.toNat w))

/-- JC. -/
def execBluJc (u : Fin 2) (_m : BitVec 4) (idx : BitVec 20) (s : State) : Host.Outcome State Fault Refusal :=
  .next (s.bluRow u.val (fun _ w => bluOpJc idx.toNat w))

/-- JNC. -/
def execBluJnc (u : Fin 2) (_m : BitVec 4) (idx : BitVec 20) (s : State) : Host.Outcome State Fault Refusal :=
  .next (s.bluRow u.val (fun _ w => bluOpJnc idx.toNat w))

/-- END. -/
def execBluEnd (u : Fin 2) (_m : BitVec 4) (_idx : BitVec 20) (s : State) : Host.Outcome State Fault Refusal :=
  .next (s.bluRow u.val (fun _ w => bluOpEnd w))

end Sys2Proof.Machine
end

