-- ==== Sys2Proof/Machine/TimePair.lean ====
section
/-! DEFINITION. Time and pair commands: groups 0x09 and 0x0A of the command set (R368, R403, R414, R443). -/

namespace Sys2Proof

/-- A signed number as a 64-bit word. -/
def word64 (n : Int) : Nat := (BitVec.ofInt 64 n).toNat

/-- The tick that TIME_STEP names; 0 names the earliest that R368 admits. -/
def stepTick (ltc n : Nat) : Nat := if n = 0 then ltc + 2 else n

/-- The tick that HANDOVER names; 0 names the earliest that R403 admits. -/
def handoverAt (ltc n : Nat) : Nat := if n = 0 then ltc + 48 else n

/-- The codes of R368 for a step of `want` ns: MODE 0 expects it of the pending one. -/
def stepCode (jump ltc n mode : Nat) (want : Int) (t : Tsu) : Nat :=
  let step := if mode = 0 then t.pend.getD 0 else want
  let after := (t.ns : Int) + step
  firstCode [
    (mode == 0 && t.pend.isNone, 0x0300),
    (decide (n < ltc + 2) || decide (ltc + 9600 < n), 0x0301),
    (decide (after < 0) || decide (2 ^ 40 * 1000000000 < after), 0x0302),
    (mode == 0 && decide (jump < (want - step).natAbs), 0x0303),
    (t.arm, 0x0304)]

end Sys2Proof

namespace Sys2Proof.Machine

/-- TIME_GET; EST_ERR that is unknown reads all ones (R362). -/
def execTimeGet (r : Req) (s : State) : Host.Outcome State Fault Refusal :=
  .next (s.command cmdTimeGet r (fun t =>
    t.ok (leBytes (t.tsu.ns / 1000000000) 8 ++ leBytes (t.tsu.ns % 1000000000) 4 ++ leBytes t.tsu.gen.toNat 2 ++ leBytes t.tsu.st 2 ++
      leBytes ((estNow t.tsu).getD (2 ^ 64 - 1)) 8 ++ leBytes (word64 (t.tsu.pend.getD 0)) 8)))

/-- A step is armed at once for its tick, and mirrored. -/
def State.stepGo (r : Req) (ntick mode : Nat) (want : Int) (s : State) : Except Nat Ans :=
  let n := stepTick s.logic.ltc ntick
  let c := stepCode s.block.time.jump s.logic.ltc n mode want s.tsu
  if c ≠ 0 then .error c
  else
    let step := if mode = 0 then s.tsu.pend.getD 0 else want
    let x : Action := { act := .timeStep (step.tdiv 1000000000) (step.tmod 1000000000), ntick := n, opcode := 0x0902
                        keyId := ((s.session r).map (·.keyId)).getD 0, session := r.session, reply := r.carrier.reply, tag := r.tag }
    .ok { s := (s.pushAct x).prepare x, later := true }

/-- TIME_STEP: MODE 0 accepts the pending step, 1 gives one. -/
def execTimeStep (r : Req) (ntick mode : Nat) (stepSec stepNsec : Int) (s : State) : Host.Outcome State Fault Refusal :=
  .next (s.command (cmdTimeStep ntick mode stepSec stepNsec) r
    (State.stepGo r ntick mode (stepSec * 1000000000 + stepNsec)))

/-- UTC_OFS_SET: for this engine's clock, and kept in the sealed area (R359). -/
def execUtcOfsSet (r : Req) (utcOfs : Nat) (s : State) : Host.Outcome State Fault Refusal :=
  .next (s.command (cmdUtcOfsSet utcOfs) r (fun t =>
    if 255 < utcOfs then .error 0x0305
    else ({ t with tsu := { t.tsu with utcOfs := some utcOfs }, sca := { t.sca with utc := some utcOfs } } : State).ok []))

/-- PAIR_INFO: of the partner, what it last reported. -/
def execPairInfo (r : Req) (s : State) : Host.Outcome State Fault Refusal :=
  .next (s.command cmdPairInfo r (fun t =>
    t.ok (leBytes t.pairStatusWord 4 ++ leBytes t.hatStatusWord 4 ++ leBytes t.pair.ppart.toNat 4 ++ leBytes t.pair.pfw.toNat 4 ++
      leBytes t.pair.pblock.toNat 16)))

/-- The partner that would seed from this engine cannot read its state map (R411). -/
def State.mapUnread (s : State) : Bool := s.pair.mixed && s.pair.prole == 5 && !Config.mapReadable s.pair.pfw s.life.fwVer

/-- The partner's Block or Hoods cannot be taken (R412): a reachable engine of this variant that stays in role 0 or 3 with others. -/
def State.configUntaken (s : State) : Bool :=
  (s.pair.prole == 0 || s.pair.prole == 3) && s.pair.ppart == idPart s.life.variant && !s.sameConfig

/-- The codes of R414 for a handover at H; those that say why the partner is not in step stand before the one that says that it is not
(DESIGN CHOICE, log entry 129). -/
def State.handoverCode (h : Nat) (partnerWit : Bool) (s : State) : Nat :=
  firstCode [
    (!s.pair.linkUp, 0x0400),
    (s.pair.ppart != idPart s.life.variant, 0x0405),
    (s.mapUnread, 0x0402),
    (s.configUntaken, 0x0406),
    (!s.pair.partnerInStep, 0x0401),
    (decide (s.hat.witRun < 3) || !partnerWit, 0x0403),
    (decide (h < s.logic.ltc + 48) || decide (s.logic.ltc + 9600 < h) || s.pair.ho.isSome, 0x0404)]

/-- A handover is planned: H as LTC and as a tick identity. -/
def State.handoverGo (ntick : Nat) (partnerWit : Bool) (s : State) : Except Nat Ans :=
  let h := handoverAt s.logic.ltc ntick
  if s.life.role ≠ 1 then .error 0x0103
  else
    let c := s.handoverCode h partnerWit
    if c ≠ 0 then .error c
    else
      let id := gridId (TickId.grid s.tsu.id + (h - s.logic.ltc)) s.tsu.gen
      .ok { s := { s with pair := { s.pair with ho := some { at_ := h, id := id }, hoA := false } }, ntick := h }

/-- HANDOVER; `partnerWit` says that the partner has received valid witness frames in each of the last 3 ticks. -/
def execHandover (r : Req) (ntick : Nat) (partnerWit : Bool) (s : State) : Host.Outcome State Fault Refusal :=
  .next (s.command (cmdHandover ntick) r (State.handoverGo ntick partnerWit))

end Sys2Proof.Machine
end

