-- ==== Sys2Proof/Machine/Timing.lean ====
section
/-! DEFINITION. Commands of the time-sync unit (R350 to R370). -/

namespace Sys2Proof.Machine

/-- Change the TSU alone, with its records (R475). -/
def State.tsuRow (f : TimeCfg → Nat → Tsu → Tsu × List EvRec) (s : State) : State :=
  let r := f s.block.time s.life.role s.tsu
  { s with tsu := r.1, evr := { s.evr with localEv := s.evr.localEv ++ r.2 } }

/-- The same where the clock may be stepped. -/
def State.stepRow (f : TimeCfg → Nat → Tsu → Tsu × List EvRec) (s : State) : State :=
  ((s.tsuRow f).stepShift s.tsu.clk).sealTime s.tsu

/-- TSU_INC_WRITE (R350). -/
def execTsuIncWrite (v : BitVec 64) (cycle : Nat) (s : State) : Host.Outcome State Fault Refusal :=
  .next { s with tsu := writeInc v cycle s.tsu }

/-- TSU_SEC_READ (R351). -/
def execTsuSecRead (cycle : Nat) (s : State) : Host.Outcome State Fault Refusal := .next { s with tsu := readSec cycle s.tsu }

/-- TSU_STEP_ARM (R352). -/
def execTsuStepArm (s : State) : Host.Outcome State Fault Refusal := .next { s with tsu := { s.tsu with arm := true } }

/-- TSU_CTRL_CLEAR (R351). -/
def execTsuCtrlClear (v : BitVec 32) (s : State) : Host.Outcome State Fault Refusal := .next { s with tsu := clearCtrl v s.tsu }

/-- SERVO_MEASUREMENT (R361, R365 to R367, R370). -/
def execServoMeasurement (m : Measurement) (s : State) : Host.Outcome State Fault Refusal :=
  .next (s.tsuRow (fun c role t => measure c role m t))

/-- IRIG_FRAME (R357). -/
def execIrigFrame (f : IrigFrame) (s : State) : Host.Outcome State Fault Refusal :=
  .next { s with tsu := irigReceive s.block.time f s.tsu }

/-- PPS_EDGE (R358). -/
def execPpsEdge (instant : Nat) (s : State) : Host.Outcome State Fault Refusal :=
  .next { s with tsu := ppsReceive s.block.time instant s.tsu }

/-- SOURCE_SWITCH (R360): the choice of the source, on what qualifies now. -/
def execSourceSwitch (s : State) : Host.Outcome State Fault Refusal :=
  .next (s.tsuRow (fun c role t =>
    let u := qualStep c t
    if t.run && (role = 2 || role = 5 || pickSource c u != 0) then (sourceStep c role u, []) else (u, [])))

/-- HOLDOVER_ENTRY (R361): no source qualifies any longer. -/
def execHoldoverEntry (s : State) : Host.Outcome State Fault Refusal :=
  .next (s.tsuRow (fun c role t =>
    let u := qualStep c t
    if t.run && !(role = 2 || role = 5) && u.src != 0 && pickSource c u == 0 then (holdoverGo (if u.disq.isEmpty then 3 else 4) u, []) else (t, [])))

/-- TSU_LOCK (R361). -/
def execTsuLock (s : State) : Host.Outcome State Fault Refusal := .next { s with tsu := lockStep s.tsu }

/-- INITIAL_ALIGNMENT (R369). -/
def execInitialAlignment (src : Nat) (offset : Int) (s : State) : Host.Outcome State Fault Refusal :=
  .next (s.stepRow (fun c role t => initAlign c role src offset t))

/-- INIT_WAIT_EXPIRY (R369); the engine may then leave role 0. -/
def execInitWaitExpiry (s : State) : Host.Outcome State Fault Refusal :=
  .next s.initEnd.takeRole

/-- RTC_WRITEBACK (R369): while locked. -/
def execRtcWriteback (s : State) : Host.Outcome State Fault Refusal :=
  .next { s with sca := if s.tsu.st = 2 then { s.sca with rtc := s.tsu.ns / 1000000000, gen := s.tsu.gen, utc := s.tsu.utcOfs } else s.sca }

/-- PARTNER_ALIGNMENT (R370). -/
def execPartnerAlignment (offset : Int) (gen : BitVec 16) (s : State) : Host.Outcome State Fault Refusal :=
  .next (s.stepRow (fun c role t => partnerAlign c role offset gen t))

/-- LEAP_SECOND (R359). -/
def execLeapSecond (s : State) : Host.Outcome State Fault Refusal :=
  .next (({ s with tsu := leapStep s.block.time s.tsu } : State).sealTime s.tsu)

/-- PAIR_TIME_DIVERGENCE (R370). -/
def execPairTimeDivergence (s : State) : Host.Outcome State Fault Refusal := .next { s with tsu := divergeStep s.tsu }

/-- PTP_DELAY_REQUEST_SEND (R355, R356): on both LANs of every pair that carries PTP, where the port is up (R531). -/
def execPtpDelayRequestSend (instant : Nat) (s : State) : Host.Outcome State Fault Refusal :=
  let ports := if s.tsu.run then [0, 1, 2, 3].filter (fun p => ptpPair s.block.time (p / 2) && s.portUp p) else []
  .next (ports.foldl (fun u p => u.sendEvent p instant (Emit.delayRequest p))
    { s with tsu := { s.tsu with delayReqs := s.tsu.delayReqs + ports.length } })

end Sys2Proof.Machine
end

