-- ==== Sys2Proof/Machine/Dispatch.lean ====
section
/-! DEFINITION. The dispatch: one arm per command. -/

namespace Sys2Proof.Machine

/-- The effect of a command on everything but the queue. -/
def exec (i : Instr) (s : State) : Host.Outcome State Fault Refusal :=
  match i with
  | .powerUp strap sealedSec sealedOk selfOk cellMv boot => Sys2Proof.Machine.execPowerUp strap sealedSec sealedOk selfOk cellMv boot s
  | .updateBoot boot => Sys2Proof.Machine.execUpdateBoot boot s
  | .tick x => Sys2Proof.Machine.execTick x s
  | .engineUnhealthy cause => Sys2Proof.Machine.execEngineUnhealthy cause s
  | .unhealthyReset => Sys2Proof.Machine.execUnhealthyReset s
  | .eccCorrected mem => Sys2Proof.Machine.execEccCorrected mem s
  | .eccUncorrectable mem => Sys2Proof.Machine.execEccUncorrectable mem s
  | .clockStepApply => Sys2Proof.Machine.execClockStepApply s
  | .laneConversion lane code => Sys2Proof.Machine.execLaneConversion lane code s
  | .laneCalibration lane => Sys2Proof.Machine.execLaneCalibration lane s
  | .cassetteInsertion lane => Sys2Proof.Machine.execCassetteInsertion lane s
  | .cassetteReadComplete lane c => Sys2Proof.Machine.execCassetteReadComplete lane c s
  | .cassetteWithdrawal lane => Sys2Proof.Machine.execCassetteWithdrawal lane s
  | .cassetteReread lane c => Sys2Proof.Machine.execCassetteReread lane c s
  | .frameReceive f => Sys2Proof.Machine.execFrameReceive f s
  | .intakeDeadline => Sys2Proof.Machine.execIntakeDeadline s
  | .backupReturn stream => Sys2Proof.Machine.execBackupReturn stream s
  | .goosePublisherDropped gcb => Sys2Proof.Machine.execGoosePublisherDropped gcb s
  | .frequencyHoldExpiry group => Sys2Proof.Machine.execFrequencyHoldExpiry group s
  | .synchrophasorSend stream => Sys2Proof.Machine.execSynchrophasorSend stream s
  | .configChangeBitExpiry stream => Sys2Proof.Machine.execConfigChangeBitExpiry stream s
  | .startConfirmation elem phase => Sys2Proof.Machine.execStartConfirmation elem phase s
  | .elementOperate elem => Sys2Proof.Machine.execElementOperate elem s
  | .elementTimerReset elem => Sys2Proof.Machine.execElementTimerReset elem s
  | .polarisationMemoryExpiry elem => Sys2Proof.Machine.execPolarisationMemoryExpiry elem s
  | .transientWindowEnd elem => Sys2Proof.Machine.execTransientWindowEnd elem s
  | .transientHoldEnd elem => Sys2Proof.Machine.execTransientHoldEnd elem s
  | .fdirWindowEnd elem => Sys2Proof.Machine.execFdirWindowEnd elem s
  | .fdirHoldEnd elem => Sys2Proof.Machine.execFdirHoldEnd elem s
  | .thermalEvaluation elem => Sys2Proof.Machine.execThermalEvaluation elem s
  | .coldLoadTransition elem => Sys2Proof.Machine.execColdLoadTransition elem s
  | .hizCycleEvaluation elem => Sys2Proof.Machine.execHizCycleEvaluation elem s
  | .fuseFailureDeclare elem => Sys2Proof.Machine.execFuseFailureDeclare elem s
  | .fuseFailureClear elem => Sys2Proof.Machine.execFuseFailureClear elem s
  | .inrushHoldExpiry elem => Sys2Proof.Machine.execInrushHoldExpiry elem s
  | .sourceChangeHoldEnd elem => Sys2Proof.Machine.execSourceChangeHoldEnd elem s
  | .flangeOperate elem phase => Sys2Proof.Machine.execFlangeOperate elem phase s
  | .flangeDefiniteReset elem phase => Sys2Proof.Machine.execFlangeDefiniteReset elem phase s
  | .flangeInverseResetDone elem phase => Sys2Proof.Machine.execFlangeInverseResetDone elem phase s
  | .tripMinimumExpiry slot => Sys2Proof.Machine.execTripMinimumExpiry slot s
  | .tripMaximumExpiry slot => Sys2Proof.Machine.execTripMaximumExpiry slot s
  | .deadTimeExpiry slot => Sys2Proof.Machine.execDeadTimeExpiry slot s
  | .closeMaximumExpiry slot => Sys2Proof.Machine.execCloseMaximumExpiry slot s
  | .reclaimExpiry slot => Sys2Proof.Machine.execReclaimExpiry slot s
  | .positionDiscrepancy slot => Sys2Proof.Machine.execPositionDiscrepancy slot s
  | .retripSet slot => Sys2Proof.Machine.execRetripSet slot s
  | .breakerFailureTrip slot => Sys2Proof.Machine.execBreakerFailureTrip slot s
  | .selectionTimeout slot => Sys2Proof.Machine.execSelectionTimeout slot s
  | .controlTermination slot => Sys2Proof.Machine.execControlTermination slot s
  | .busBlockingExtensionExpiry elem => Sys2Proof.Machine.execBusBlockingExtensionExpiry elem s
  | .intertripPulseExpiry elem => Sys2Proof.Machine.execIntertripPulseExpiry elem s
  | .loadShedRestorationStart elem => Sys2Proof.Machine.execLoadShedRestorationStart elem s
  | .loadShedRestoreStep elem => Sys2Proof.Machine.execLoadShedRestoreStep elem s
  | .recordClose plan => Sys2Proof.Machine.execRecordClose plan s
  | .snippetCopy plan lane => Sys2Proof.Machine.execSnippetCopy plan lane s
  | .faultLocatorLatch bay => Sys2Proof.Machine.execFaultLocatorLatch bay s
  | .faultLocation bay => Sys2Proof.Machine.execFaultLocation bay s
  | .wavefrontLocation bay recno => Sys2Proof.Machine.execWavefrontLocation bay recno s
  | .drcStorageError e => Sys2Proof.Machine.execDrcStorageError e s
  | .drcPowerfailClose => Sys2Proof.Machine.execDrcPowerfailClose s
  | .exportComplete job => Sys2Proof.Machine.execExportComplete job s
  | .taskRelease t => Sys2Proof.Machine.execTaskRelease t s
  | .eventTaskRelease => Sys2Proof.Machine.execEventTaskRelease s
  | .errorTaskRelease => Sys2Proof.Machine.execErrorTaskRelease s
  | .taskComplete t => Sys2Proof.Machine.execTaskComplete t s
  | .releaseSkipped t => Sys2Proof.Machine.execReleaseSkipped t s
  | .cycleAbandoned t => Sys2Proof.Machine.execCycleAbandoned t s
  | .bluNop u m idx => Sys2Proof.Machine.execBluNop u m idx s
  | .bluLd u m idx => Sys2Proof.Machine.execBluLd u m idx s
  | .bluSt u m idx => Sys2Proof.Machine.execBluSt u m idx s
  | .bluAnd u m idx => Sys2Proof.Machine.execBluAnd u m idx s
  | .bluOr u m idx => Sys2Proof.Machine.execBluOr u m idx s
  | .bluXor u m idx => Sys2Proof.Machine.execBluXor u m idx s
  | .bluSet u m idx => Sys2Proof.Machine.execBluSet u m idx s
  | .bluRst u m idx => Sys2Proof.Machine.execBluRst u m idx s
  | .bluLdk u m idx => Sys2Proof.Machine.execBluLdk u m idx s
  | .bluLdv u m idx => Sys2Proof.Machine.execBluLdv u m idx s
  | .bluLdq u m idx => Sys2Proof.Machine.execBluLdq u m idx s
  | .bluLds u m idx => Sys2Proof.Machine.execBluLds u m idx s
  | .bluAndb u m idx => Sys2Proof.Machine.execBluAndb u m idx s
  | .bluOrb u m idx => Sys2Proof.Machine.execBluOrb u m idx s
  | .bluClb u m idx => Sys2Proof.Machine.execBluClb u m idx s
  | .bluTon u m idx => Sys2Proof.Machine.execBluTon u m idx s
  | .bluTof u m idx => Sys2Proof.Machine.execBluTof u m idx s
  | .bluTp u m idx => Sys2Proof.Machine.execBluTp u m idx s
  | .bluRedge u m idx => Sys2Proof.Machine.execBluRedge u m idx s
  | .bluFedge u m idx => Sys2Proof.Machine.execBluFedge u m idx s
  | .bluCtu u m idx => Sys2Proof.Machine.execBluCtu u m idx s
  | .bluCrs u m idx => Sys2Proof.Machine.execBluCrs u m idx s
  | .bluJc u m idx => Sys2Proof.Machine.execBluJc u m idx s
  | .bluJnc u m idx => Sys2Proof.Machine.execBluJnc u m idx s
  | .bluEnd u m idx => Sys2Proof.Machine.execBluEnd u m idx s
  | .commandActionApply => Sys2Proof.Machine.execCommandActionApply s
  | .selectorGroupSwitch => Sys2Proof.Machine.execSelectorGroupSwitch s
  | .hoodSwapApply => Sys2Proof.Machine.execHoodSwapApply s
  | .hoodAppliedMark => Sys2Proof.Machine.execHoodAppliedMark s
  | .hoodLoadComplete partner => Sys2Proof.Machine.execHoodLoadComplete partner s
  | .diRawChange di raw instant => Sys2Proof.Machine.execDiRawChange di raw instant s
  | .diFilterAccept di instant => Sys2Proof.Machine.execDiFilterAccept di instant s
  | .fastChannelEdge ch rising instant short => Sys2Proof.Machine.execFastChannelEdge ch rising instant short s
  | .outputThermalShutdown o => Sys2Proof.Machine.execOutputThermalShutdown o s
  | .outputRetry o => Sys2Proof.Machine.execOutputRetry o s
  | .outputRetryCountReset o => Sys2Proof.Machine.execOutputRetryCountReset o s
  | .fieldSupplyStateChange g => Sys2Proof.Machine.execFieldSupplyStateChange g s
  | .holdKeeperHold g => Sys2Proof.Machine.execHoldKeeperHold g s
  | .holdExpiry g => Sys2Proof.Machine.execHoldExpiry g s
  | .outputEnableRise => Sys2Proof.Machine.execOutputEnableRise s
  | .outputEnableClear => Sys2Proof.Machine.execOutputEnableClear s
  | .tsuIncWrite v cycle => Sys2Proof.Machine.execTsuIncWrite v cycle s
  | .tsuSecRead cycle => Sys2Proof.Machine.execTsuSecRead cycle s
  | .tsuStepArm => Sys2Proof.Machine.execTsuStepArm s
  | .tsuCtrlClear v => Sys2Proof.Machine.execTsuCtrlClear v s
  | .servoMeasurement m => Sys2Proof.Machine.execServoMeasurement m s
  | .irigFrame f => Sys2Proof.Machine.execIrigFrame f s
  | .ppsEdge instant => Sys2Proof.Machine.execPpsEdge instant s
  | .sourceSwitch => Sys2Proof.Machine.execSourceSwitch s
  | .holdoverEntry => Sys2Proof.Machine.execHoldoverEntry s
  | .tsuLock => Sys2Proof.Machine.execTsuLock s
  | .initialAlignment src offset => Sys2Proof.Machine.execInitialAlignment src offset s
  | .rtcWriteback => Sys2Proof.Machine.execRtcWriteback s
  | .partnerAlignment offset gen => Sys2Proof.Machine.execPartnerAlignment offset gen s
  | .leapSecond => Sys2Proof.Machine.execLeapSecond s
  | .pairTimeDivergence => Sys2Proof.Machine.execPairTimeDivergence s
  | .witnessFrameReceive bytes inSlot => Sys2Proof.Machine.execWitnessFrameReceive bytes inSlot s
  | .hatGrant hatIn => Sys2Proof.Machine.execHatGrant hatIn s
  | .hatRevoke => Sys2Proof.Machine.execHatRevoke s
  | .loneLatchSet hatIn => Sys2Proof.Machine.execLoneLatchSet hatIn s
  | .hatRace => Sys2Proof.Machine.execHatRace s
  | .commitWatchdog => Sys2Proof.Machine.execCommitWatchdog s
  | .witnessLost => Sys2Proof.Machine.execWitnessLost s
  | .witnessDecision fa fb => Sys2Proof.Machine.execWitnessDecision fa fb s
  | .hatLoopFault => Sys2Proof.Machine.execHatLoopFault s
  | .mirrorItemReceive h ltc item => Sys2Proof.Machine.execMirrorItemReceive h ltc item s
  | .closeFrameReceive h id ltc n => Sys2Proof.Machine.execCloseFrameReceive h id ltc n s
  | .tickBridge => Sys2Proof.Machine.execTickBridge s
  | .digestCompare h ltc digest => Sys2Proof.Machine.execDigestCompare h ltc digest s
  | .standbyInStep => Sys2Proof.Machine.execStandbyInStep s
  | .epochStart => Sys2Proof.Machine.execEpochStart s
  | .chunkReceive h epoch chunk ok items => Sys2Proof.Machine.execChunkReceive h epoch chunk ok items s
  | .epochClosingDigest h epoch ok => Sys2Proof.Machine.execEpochClosingDigest h epoch ok s
  | .plausibilityWindow => Sys2Proof.Machine.execPlausibilityWindow s
  | .feltLinkDown => Sys2Proof.Machine.execFeltLinkDown s
  | .feltLinkLaneDown lane => Sys2Proof.Machine.execFeltLinkLaneDown lane s
  | .feltLinkRestored part role fwVer blockId hoodId => Sys2Proof.Machine.execFeltLinkRestored part role fwVer blockId hoodId s
  | .partnerBlockTake b hoods => Sys2Proof.Machine.execPartnerBlockTake b hoods s
  | .handoverApply => Sys2Proof.Machine.execHandoverApply s
  | .handoverLapse => Sys2Proof.Machine.execHandoverLapse s
  | .partnerRecordReceive h r => Sys2Proof.Machine.execPartnerRecordReceive h r s
  | .forwardedPinReceive h id offset => Sys2Proof.Machine.execForwardedPinReceive h id offset s
  | .pinInEdge cycle => Sys2Proof.Machine.execPinInEdge cycle s
  | .mbxDoorbellWrite v => Sys2Proof.Machine.execMbxDoorbellWrite v s
  | .mbxDoneClear v => Sys2Proof.Machine.execMbxDoneClear v s
  | .mbxEvtClear v => Sys2Proof.Machine.execMbxEvtClear v s
  | .hpiErrRead => Sys2Proof.Machine.execHpiErrRead s
  | .ownedMailboxAccess mbx write => Sys2Proof.Machine.execOwnedMailboxAccess mbx write s
  | .unmappedAccess write => Sys2Proof.Machine.execUnmappedAccess write s
  | .snapCtrlRelease v => Sys2Proof.Machine.execSnapCtrlRelease v s
  | .pinCtrlFire v cycle => Sys2Proof.Machine.execPinCtrlFire v cycle s
  | .pinLostRead => Sys2Proof.Machine.execPinLostRead s
  | .hatStatusClear v => Sys2Proof.Machine.execHatStatusClear v s
  | .registerWrite tsu addr v be => Sys2Proof.Machine.execRegisterWrite tsu addr v be s
  | .sessionOpen r keyId hnonce => Sys2Proof.Machine.execSessionOpen r keyId hnonce s
  | .sessionAuth r sig => Sys2Proof.Machine.execSessionAuth r sig s
  | .sessionClose r => Sys2Proof.Machine.execSessionClose r s
  | .sessionInfo r => Sys2Proof.Machine.execSessionInfo r s
  | .sessionTimeout session => Sys2Proof.Machine.execSessionTimeout session s
  | .keyEnrol r key priv => Sys2Proof.Machine.execKeyEnrol r key priv s
  | .keyEnrolButton => Sys2Proof.Machine.execKeyEnrolButton s
  | .keyEnrolTimeout => Sys2Proof.Machine.execKeyEnrolTimeout s
  | .keyRevoke r keyId => Sys2Proof.Machine.execKeyRevoke r keyId s
  | .keyList r => Sys2Proof.Machine.execKeyList r s
  | .getIdentity r => Sys2Proof.Machine.execGetIdentity r s
  | .getStatus r => Sys2Proof.Machine.execGetStatus r s
  | .getHealth r => Sys2Proof.Machine.execGetHealth r s
  | .jobStatus r job => Sys2Proof.Machine.execJobStatus r job s
  | .jobCancel r job => Sys2Proof.Machine.execJobCancel r job s
  | .jobEnd job final result => Sys2Proof.Machine.execJobEnd job final result s
  | .transferDiscard kind => Sys2Proof.Machine.execTransferDiscard kind s
  | .blockBegin r length blockId => Sys2Proof.Machine.execBlockBegin r length blockId s
  | .blockChunk r offset data => Sys2Proof.Machine.execBlockChunk r offset data s
  | .blockCheck r => Sys2Proof.Machine.execBlockCheck r s
  | .blockCheckComplete => Sys2Proof.Machine.execBlockCheckComplete s
  | .blockActivate r slot ntick => Sys2Proof.Machine.execBlockActivate r slot ntick s
  | .blockActivationApply => Sys2Proof.Machine.execBlockActivationApply s
  | .blockDirectoryWrite => Sys2Proof.Machine.execBlockDirectoryWrite s
  | .blockInfo r => Sys2Proof.Machine.execBlockInfo r s
  | .hoodBegin r length hoodId => Sys2Proof.Machine.execHoodBegin r length hoodId s
  | .hoodChunk r offset data => Sys2Proof.Machine.execHoodChunk r offset data s
  | .hoodLoad r => Sys2Proof.Machine.execHoodLoad r s
  | .hoodSwap r ntick => Sys2Proof.Machine.execHoodSwap r ntick s
  | .hoodCancel r ntick => Sys2Proof.Machine.execHoodCancel r ntick s
  | .hoodUnload r => Sys2Proof.Machine.execHoodUnload r s
  | .hoodInfo r => Sys2Proof.Machine.execHoodInfo r s
  | .forceSet r ntick point qval value => Sys2Proof.Machine.execForceSet r ntick point qval value s
  | .forceRelease r ntick point => Sys2Proof.Machine.execForceRelease r ntick point s
  | .forceList r first => Sys2Proof.Machine.execForceList r first s
  | .groupSwitch r ntick group => Sys2Proof.Machine.execGroupSwitch r ntick group s
  | .modeSet r ntick target mode => Sys2Proof.Machine.execModeSet r ntick target mode s
  | .simSet r ntick sim => Sys2Proof.Machine.execSimSet r ntick sim s
  | .evrInfo r => Sys2Proof.Machine.execEvrInfo r s
  | .evrRead r fromSeq count => Sys2Proof.Machine.execEvrRead r fromSeq count s
  | .evrClear r => Sys2Proof.Machine.execEvrClear r s
  | .evrClearApply => Sys2Proof.Machine.execEvrClearApply s
  | .evrEraseComplete => Sys2Proof.Machine.execEvrEraseComplete s
  | .tombRead r slot => Sys2Proof.Machine.execTombRead r slot s
  | .drcList r fromRecno => Sys2Proof.Machine.execDrcList r fromRecno s
  | .drcTrigger r ntick plan => Sys2Proof.Machine.execDrcTrigger r ntick plan s
  | .drcExport r recno options => Sys2Proof.Machine.execDrcExport r recno options s
  | .drcFile r job file offset => Sys2Proof.Machine.execDrcFile r job file offset s
  | .drcDelete r recno => Sys2Proof.Machine.execDrcDelete r recno s
  | .timeGet r => Sys2Proof.Machine.execTimeGet r s
  | .timeStep r ntick mode stepSec stepNsec => Sys2Proof.Machine.execTimeStep r ntick mode stepSec stepNsec s
  | .utcOfsSet r utcOfs => Sys2Proof.Machine.execUtcOfsSet r utcOfs s
  | .pairInfo r => Sys2Proof.Machine.execPairInfo r s
  | .handover r ntick partnerWit => Sys2Proof.Machine.execHandover r ntick partnerWit s
  | .toWaiting r => Sys2Proof.Machine.execToWaiting r s
  | .updBegin r length => Sys2Proof.Machine.execUpdBegin r length s
  | .updChunk r offset data => Sys2Proof.Machine.execUpdChunk r offset data s
  | .updStage r mode acceptOutage => Sys2Proof.Machine.execUpdStage r mode acceptOutage s
  | .updInfo r => Sys2Proof.Machine.execUpdInfo r s
  | .updDiscard r => Sys2Proof.Machine.execUpdDiscard r s
  | .firmwareConfirm => Sys2Proof.Machine.execFirmwareConfirm s
  | .firmwareFallback => Sys2Proof.Machine.execFirmwareFallback s
  | .pointRead r indices => Sys2Proof.Machine.execPointRead r indices s
  | .rangeRead r first count => Sys2Proof.Machine.execRangeRead r first count s
  | .pointWrite r ntick point value => Sys2Proof.Machine.execPointWrite r ntick point value s
  | .ctlSelect r slot value origin => Sys2Proof.Machine.execCtlSelect r slot value origin s
  | .ctlOperate r ntick slot value origin => Sys2Proof.Machine.execCtlOperate r ntick slot value origin s
  | .ctlCancel r slot origin => Sys2Proof.Machine.execCtlCancel r slot origin s
  | .slotReset r ntick slot kind => Sys2Proof.Machine.execSlotReset r ntick slot kind s
  | .pinFire r cycle => Sys2Proof.Machine.execPinFire r cycle s
  | .snapRead r bank offset count => Sys2Proof.Machine.execSnapRead r bank offset count s
  | .snapRelease r bank => Sys2Proof.Machine.execSnapRelease r bank s
  | .selftest r => Sys2Proof.Machine.execSelftest r s
  | .counters r => Sys2Proof.Machine.execCounters r s
  | .engineReset r => Sys2Proof.Machine.execEngineReset r s
  | .echo r data => Sys2Proof.Machine.execEcho r data s
  | .encapsulatedCommand assoc opcode tag session => Sys2Proof.Machine.execEncapsulatedCommand assoc opcode tag session s
  | .stationProtocolControl proto act origin test => Sys2Proof.Machine.execStationProtocolControl proto act origin test s
  | .mmsRequest assoc q => Sys2Proof.Machine.execMmsRequest assoc q s
  | .iec104Request conn q => Sys2Proof.Machine.execIec104Request conn q s
  | .dnp3Request master q => Sys2Proof.Machine.execDnp3Request master q s
  | .modbusRequest peer q => Sys2Proof.Machine.execModbusRequest peer q s
  | .iec103Request port q => Sys2Proof.Machine.execIec103Request port q s
  | .c37Command stream q => Sys2Proof.Machine.execC37Command stream q s
  | .gooseRetransmit pub => Sys2Proof.Machine.execGooseRetransmit pub s
  | .prpSupervisionSend => Sys2Proof.Machine.execPrpSupervisionSend s
  | .tlsKeyUpdate assoc => Sys2Proof.Machine.execTlsKeyUpdate assoc s
  | .supplyFailure => Sys2Proof.Machine.execSupplyFailure s
  | .evrPowerfailStop => Sys2Proof.Machine.execEvrPowerfailStop s
  | .feedLost feedB => Sys2Proof.Machine.execFeedLost feedB s
  | .cellCheck mv => Sys2Proof.Machine.execCellCheck mv s
  | .tamper => Sys2Proof.Machine.execTamper s
  | .debugUnlock sigOk => Sys2Proof.Machine.execDebugUnlock sigOk s
  | .factoryErase grounded heldMs => Sys2Proof.Machine.execFactoryErase grounded heldMs s
  | .partnerEngineFrameReceive bytes start => Sys2Proof.Machine.execPartnerEngineFrameReceive bytes start s
  | .forwardedCommandReceive h x => Sys2Proof.Machine.execForwardedCommandReceive h x s
  | .feltLinkLaneRestored lane => Sys2Proof.Machine.execFeltLinkLaneRestored lane s
  | .feedRestored feedB => Sys2Proof.Machine.execFeedRestored feedB s
  | .sfpModuleChange cage m => Sys2Proof.Machine.execSfpModuleChange cage m s
  | .tlsHandshake assoc suite group certOk serial peer resumed => Sys2Proof.Machine.execTlsHandshake assoc suite group certOk serial peer resumed s
  | .tlsAssociationClose assoc => Sys2Proof.Machine.execTlsAssociationClose assoc s
  | .crlLoad serials sigOk => Sys2Proof.Machine.execCrlLoad serials sigOk s
  | .changeQueueDrain n => Sys2Proof.Machine.execChangeQueueDrain n s
  | .reportIntegrityPeriod rcb => Sys2Proof.Machine.execReportIntegrityPeriod rcb s
  | .iec104TimerExpiry conn timer => Sys2Proof.Machine.execIec104TimerExpiry conn timer s
  | .ptpDelayRequestSend instant => Sys2Proof.Machine.execPtpDelayRequestSend instant s
  | .evrRecovery => Sys2Proof.Machine.execEvrRecovery s
  | .initWaitExpiry => Sys2Proof.Machine.execInitWaitExpiry s

end Sys2Proof.Machine
end

