-- ==== Sys2Proof/WellFormed.lean ====
section
/-! DEFINITION. Well-formed commands: the operands fit the fields of their carriers (R432, R443, R84, R425, R450). What a
field may hold besides, the engine checks itself, with a status (R438). -/

namespace Sys2Proof

/-- A 4-byte field. -/
def u32 (n : Nat) : Bool := decide (n < 2 ^ 32)

/-- An 8-byte field. -/
def u64 (n : Nat) : Bool := decide (n < 2 ^ 64)

/-- The header's TAG, LENGTH and SESSION are 4 bytes each (R432). -/
def Req.wf (r : Req) : Bool := u32 r.tag && u32 r.length && u32 r.session

/-- A cycle of the main clock within a tick (R48, R450). -/
def cycleWf (n : Nat) : Bool := decide (n < 51220)

/-- A cassette memory has 256 bytes (R84). -/
def cassetteWf (mem : List Byte) : Bool := mem.length == 256

/-- Six supply voltages (R341). -/
def tickInWf (x : TickIn) : Bool := x.supply.length == 6

/-- Well-formed commands. -/
def Instr.wf : Instr → Bool
  | .powerUp _ sealedSec _ _ _ _ => u64 sealedSec
  | .tick x => tickInWf x
  | .engineUnhealthy cause => decide (1 ≤ cause) && decide (cause ≤ 8)
  | .cassetteReadComplete _ c => cassetteWf c
  | .cassetteReread _ c => cassetteWf c
  | .frameReceive f => decide (f.bytes < 65536)
  | .wavefrontLocation _ recno => u32 recno
  | .drcStorageError (.write blk) => u32 blk
  | .drcStorageError (.read no first n) => u32 no && u32 first && u32 n
  | .initialAlignment src _ => decide (src ≤ 4)
  | .witnessFrameReceive bytes _ => decide (bytes.length < 2048)
  | .mirrorItemReceive _ ltc _ => u64 ltc
  | .closeFrameReceive _ _ ltc _ => u64 ltc
  | .digestCompare _ ltc _ => u64 ltc
  | .pinInEdge cycle => cycleWf cycle
  | .pinCtrlFire _ cycle => cycleWf cycle
  | .sessionOpen r keyId _ => r.wf && u32 keyId
  | .sessionAuth r _ => r.wf
  | .sessionClose r => r.wf
  | .sessionInfo r => r.wf
  | .keyEnrol r _ _ => r.wf
  | .keyRevoke r keyId => r.wf && u32 keyId
  | .keyList r => r.wf
  | .getIdentity r => r.wf
  | .getStatus r => r.wf
  | .getHealth r => r.wf
  | .jobStatus r job => r.wf && u32 job
  | .jobCancel r job => r.wf && u32 job
  | .jobEnd _ final result => decide (final < 65536) && u64 result
  | .blockBegin r length _ => r.wf && u32 length
  | .blockChunk r offset _ => r.wf && u32 offset
  | .blockCheck r => r.wf
  | .blockActivate r slot ntick => r.wf && u32 slot && u64 ntick
  | .blockInfo r => r.wf
  | .hoodBegin r length _ => r.wf && u32 length
  | .hoodChunk r offset _ => r.wf && u32 offset
  | .hoodLoad r => r.wf
  | .hoodSwap r ntick => r.wf && u64 ntick
  | .hoodCancel r ntick => r.wf && u64 ntick
  | .hoodUnload r => r.wf
  | .hoodInfo r => r.wf
  | .forceSet r ntick point _ _ => r.wf && u64 ntick && u32 point
  | .forceRelease r ntick point => r.wf && u64 ntick && u32 point
  | .forceList r first => r.wf && u32 first
  | .groupSwitch r ntick group => r.wf && u64 ntick && u32 group
  | .modeSet r ntick target mode => r.wf && u64 ntick && u32 target && u32 mode
  | .simSet r ntick sim => r.wf && u64 ntick && u32 sim
  | .evrInfo r => r.wf
  | .evrRead r fromSeq count => r.wf && u64 fromSeq && u32 count
  | .evrClear r => r.wf
  | .tombRead r slot => r.wf && u32 slot
  | .drcList r fromRecno => r.wf && u32 fromRecno
  | .drcTrigger r ntick plan => r.wf && u64 ntick && u32 plan
  | .drcExport r recno options => r.wf && u32 recno && u32 options
  | .drcFile r job file offset => r.wf && u32 job && u32 file && u32 offset
  | .drcDelete r recno => r.wf && u32 recno
  | .timeGet r => r.wf
  | .timeStep r ntick mode _ _ => r.wf && u64 ntick && u32 mode
  | .utcOfsSet r utcOfs => r.wf && u32 utcOfs
  | .pairInfo r => r.wf
  | .handover r ntick _ => r.wf && u64 ntick
  | .toWaiting r => r.wf
  | .updBegin r length => r.wf && u32 length
  | .updChunk r offset _ => r.wf && u32 offset
  | .updStage r mode _ => r.wf && u32 mode
  | .updInfo r => r.wf
  | .updDiscard r => r.wf
  | .pointRead r indices => r.wf && decide (indices.length ≤ 1015) && indices.all u32
  | .rangeRead r first count => r.wf && u32 first && u32 count
  | .pointWrite r ntick point _ => r.wf && u64 ntick && u32 point
  | .ctlSelect r slot value _ => r.wf && u32 slot && u32 value
  | .ctlOperate r ntick slot value _ => r.wf && u64 ntick && u32 slot && u32 value
  | .ctlCancel r slot _ => r.wf && u32 slot
  | .slotReset r ntick slot kind => r.wf && u64 ntick && u32 slot && u32 kind
  | .pinFire r cycle => r.wf && cycleWf cycle
  | .snapRead r bank offset count => r.wf && u32 bank && u32 offset && u32 count
  | .snapRelease r bank => r.wf && u32 bank
  | .selftest r => r.wf
  | .counters r => r.wf
  | .engineReset r => r.wf
  | .echo r data => r.wf && decide (data.length ≤ 4064)
  | .encapsulatedCommand _ opcode tag session => decide (opcode < 65536) && u32 tag && u32 session
  | .updateBoot .. | .unhealthyReset | .eccCorrected .. | .eccUncorrectable .. | .clockStepApply | .laneConversion ..
  | .laneCalibration .. | .cassetteInsertion .. | .cassetteWithdrawal .. | .intakeDeadline | .backupReturn .. | .goosePublisherDropped ..
  | .frequencyHoldExpiry .. | .synchrophasorSend .. | .configChangeBitExpiry .. | .startConfirmation .. | .elementOperate .. | .elementTimerReset ..
  | .polarisationMemoryExpiry .. | .transientWindowEnd .. | .transientHoldEnd .. | .fdirWindowEnd .. | .fdirHoldEnd .. | .thermalEvaluation ..
  | .coldLoadTransition .. | .hizCycleEvaluation .. | .fuseFailureDeclare .. | .fuseFailureClear .. | .inrushHoldExpiry .. | .sourceChangeHoldEnd ..
  | .flangeOperate .. | .flangeDefiniteReset .. | .flangeInverseResetDone .. | .tripMinimumExpiry .. | .tripMaximumExpiry .. | .deadTimeExpiry ..
  | .closeMaximumExpiry .. | .reclaimExpiry .. | .positionDiscrepancy .. | .retripSet .. | .breakerFailureTrip .. | .selectionTimeout ..
  | .controlTermination .. | .busBlockingExtensionExpiry .. | .intertripPulseExpiry .. | .loadShedRestorationStart .. | .loadShedRestoreStep .. | .recordClose ..
  | .snippetCopy .. | .faultLocatorLatch .. | .faultLocation .. | .drcPowerfailClose | .exportComplete .. | .taskRelease ..
  | .eventTaskRelease | .errorTaskRelease | .taskComplete .. | .releaseSkipped .. | .cycleAbandoned .. | .bluNop ..
  | .bluLd .. | .bluSt .. | .bluAnd .. | .bluOr .. | .bluXor .. | .bluSet ..
  | .bluRst .. | .bluLdk .. | .bluLdv .. | .bluLdq .. | .bluLds .. | .bluAndb ..
  | .bluOrb .. | .bluClb .. | .bluTon .. | .bluTof .. | .bluTp .. | .bluRedge ..
  | .bluFedge .. | .bluCtu .. | .bluCrs .. | .bluJc .. | .bluJnc .. | .bluEnd ..
  | .commandActionApply | .selectorGroupSwitch | .hoodSwapApply | .hoodAppliedMark | .hoodLoadComplete .. | .diRawChange ..
  | .diFilterAccept .. | .fastChannelEdge .. | .outputThermalShutdown .. | .outputRetry .. | .outputRetryCountReset .. | .fieldSupplyStateChange ..
  | .holdKeeperHold .. | .holdExpiry .. | .outputEnableRise | .outputEnableClear | .tsuIncWrite .. | .tsuSecRead ..
  | .tsuStepArm | .tsuCtrlClear .. | .servoMeasurement .. | .irigFrame .. | .ppsEdge .. | .sourceSwitch
  | .holdoverEntry | .tsuLock | .rtcWriteback | .partnerAlignment .. | .leapSecond | .pairTimeDivergence
  | .hatGrant .. | .hatRevoke | .loneLatchSet .. | .hatRace | .commitWatchdog | .witnessLost
  | .witnessDecision .. | .hatLoopFault | .tickBridge | .standbyInStep | .epochStart | .chunkReceive ..
  | .epochClosingDigest .. | .plausibilityWindow .. | .feltLinkDown | .feltLinkLaneDown .. | .feltLinkRestored .. | .partnerBlockTake ..
  | .handoverApply | .handoverLapse | .partnerRecordReceive .. | .forwardedPinReceive .. | .mbxDoorbellWrite .. | .mbxDoneClear ..
  | .mbxEvtClear .. | .hpiErrRead | .ownedMailboxAccess .. | .unmappedAccess .. | .snapCtrlRelease .. | .pinLostRead
  | .hatStatusClear .. | .registerWrite .. | .sessionTimeout .. | .keyEnrolButton | .keyEnrolTimeout | .transferDiscard ..
  | .blockCheckComplete | .blockActivationApply | .blockDirectoryWrite | .evrClearApply | .evrEraseComplete | .firmwareConfirm
  | .firmwareFallback | .stationProtocolControl .. | .mmsRequest .. | .iec104Request .. | .dnp3Request .. | .modbusRequest ..
  | .iec103Request .. | .c37Command .. | .gooseRetransmit .. | .prpSupervisionSend | .tlsKeyUpdate .. | .supplyFailure
  | .evrPowerfailStop | .feedLost .. | .cellCheck .. | .tamper | .debugUnlock .. | .factoryErase ..
  | .partnerEngineFrameReceive .. | .forwardedCommandReceive .. | .feltLinkLaneRestored .. | .feedRestored .. | .sfpModuleChange .. | .tlsHandshake ..
  | .tlsAssociationClose .. | .crlLoad .. | .changeQueueDrain .. | .reportIntegrityPeriod .. | .iec104TimerExpiry .. | .ptpDelayRequestSend ..
  | .evrRecovery | .initWaitExpiry => true

end Sys2Proof
end

