-- ==== Sys2Proof/Safety.lean ====
section
/-! DEFINITION. What claims call a safe step, the invariants of the state, and the terms in which claims about commands are
stated. -/

namespace Sys2Proof

/-- A mailbox command (R443): the request that it answers. -/
def Instr.request : Instr → Option Req
  | .sessionOpen r _ _ | .sessionAuth r _ | .sessionClose r | .sessionInfo r | .keyEnrol r _ _ | .keyRevoke r _ | .keyList r
  | .getIdentity r | .getStatus r | .getHealth r | .jobStatus r _ | .jobCancel r _
  | .blockBegin r _ _ | .blockChunk r _ _ | .blockCheck r | .blockActivate r _ _ | .blockInfo r
  | .hoodBegin r _ _ | .hoodChunk r _ _ | .hoodLoad r | .hoodSwap r _ | .hoodCancel r _ | .hoodUnload r | .hoodInfo r
  | .forceSet r _ _ _ _ | .forceRelease r _ _ | .forceList r _ | .groupSwitch r _ _ | .modeSet r _ _ _ | .simSet r _ _
  | .evrInfo r | .evrRead r _ _ | .evrClear r | .tombRead r _ | .drcList r _ | .drcTrigger r _ _ | .drcExport r _ _ | .drcFile r _ _ _
  | .drcDelete r _ | .timeGet r | .timeStep r _ _ _ _ | .utcOfsSet r _ | .pairInfo r | .handover r _ _ | .toWaiting r
  | .updBegin r _ | .updChunk r _ _ | .updStage r _ _ | .updInfo r | .updDiscard r
  | .pointRead r _ | .rangeRead r _ _ | .pointWrite r _ _ _ | .ctlSelect r _ _ _ | .ctlOperate r _ _ _ _ | .ctlCancel r _ _
  | .slotReset r _ _ _ | .pinFire r _ | .snapRead r _ _ _ | .snapRelease r _ | .selftest r | .counters r | .engineReset r
  | .echo r _ => some r
  | _ => none

/-- A request of a station protocol (R452 to R468). -/
def Instr.station : Instr → Bool
  | .stationProtocolControl _ _ _ _ | .mmsRequest _ _ | .iec104Request _ _ | .dnp3Request _ _ | .modbusRequest _ _ | .iec103Request _ _ => true
  | _ => false

end Sys2Proof

namespace Sys2Proof.Machine

/-! ### Invariants -/

/-- The mailbox RAM has its canonical form. -/
def State.RamInv (s : State) : Prop := ramWf s.hpi.ram = true

/-- The signal space has its canonical form. -/
def State.PtsInv (s : State) : Prop := ptsWf s.sig.pts = true

/-- Memory has its canonical form. -/
def State.Inv (s : State) : Prop := s.RamInv ∧ s.PtsInv

/-- No mailbox both waits for its answer and shows one (R430). -/
def State.MailboxInv (s : State) : Prop := s.hpi.doorbell &&& s.hpi.done = 0

/-- The role is one of R40, the one that a grant of the tick may have to give back among them (R46). -/
def State.RoleInv (s : State) : Prop := s.life.role ≤ 6 ∧ ∀ r, s.hat.was = some r → r ≤ 6

/-- Output enable is set only with the latch set and the partner's loop de-energised (R377; it rises after them, R381), and without it
every switch is off (R335). -/
def State.OutputInv (s : State) : Prop :=
  (s.fio.en = true → s.hat.enable = true) ∧ (s.fio.en = false → ∀ o ∈ s.fio.outs, o.sw = false)

/-- The step answers a next state: the engine neither faults nor refuses. -/
def SafeStep (s : State) : Prop := ∃ t, step s = .next t

/-! ### Mailbox commands -/

/-- A request reaches the MP and passes steps 1 to 4 of R438: form, session, privilege, signature, TAG and role are as the command
needs them. -/
def State.admits (c : CmdSpec) (r : Req) (s : State) : Bool :=
  s.reached r.carrier && (c.formBad r).isNone && (s.touch c r).authed c r && roleOk s.life.role c

/-- A command is answered at once from the state it has made: its TAG counts (R437) and its response is written (R433). -/
def State.answered (c : CmdSpec) (r : Req) (payload : List Byte) (s : State) (status : Nat := 0) (ntick : Nat := 0) : State :=
  (s.markTag c r).respond r.carrier.reply
    { status := status, opcode := c.op, tag := r.tag, session := r.session, ntick := ntick, payload := payload }

/-- A command that is answered later: its TAG counts, and its mailbox stays the engine's (R430, R440). -/
def State.held (c : CmdSpec) (r : Req) (s : State) : State := (s.markTag c r).own r.carrier

/-- A request's operator action is queued for a tick (R27), to be answered after it. -/
def State.queued (c : CmdSpec) (r : Req) (ntick : Nat) (a : Act) (s : State) : State :=
  let t := s.touch c r
  (t.pushAct (t.signAct c r { act := a, ntick := ntick, opcode := c.op, keyId := ((t.session r).map (·.keyId)).getD 0
                              session := r.session, reply := r.carrier.reply, tag := r.tag })).held c r

/-! ### Engines of the tick -/

/-- The Block's element `i` is evaluated on the present space: its environment and what its evaluation finds. -/
def State.elemAt (i : Nat) (s : State) : Option (ElEnv × ElNext) :=
  match s.blk with
  | none => none
  | some b => (b.elems[i]?).map (fun e =>
      let v := s.elEnv b i e
      (v, elemEval v (at! s.elems i) (at! s.flus i)))

/-- An element takes a state and a flange slot, and writes its points. -/
def State.elemSet (i : Nat) (v : ElEnv) (n : ElNext) (x : ElemState) (f : FluSlot) (s : State) : State :=
  { s with elems := setAt s.elems i x, flus := setAt s.flus i f
           sig := s.sig.writes s.tsu.id (elemWrites v { n with st := x, flu := f } (at! s.elems i)) }

/-- A breaker slot takes a state, writes its points and leaves records, of which the station protocols hear. -/
def State.slotSet (k : Nat) (x : SlotIn) (y : SlotState) (ev : List Told) (s : State) : State :=
  ({ s with slots := s.slots.set k y, sig := s.sig.writes s.tsu.id (slotWrites k x y)
            evr := { s.evr with tickEv := s.evr.tickEv ++ ev.map Prod.fst } } : State).sayAll (termMsgs ev)

/-- The work of a logic unit changes. -/
def State.work (u : Nat) (f : Work → Work) (s : State) : State :=
  { s with logic := { s.logic with work := s.logic.work.modify u f } }

/-- The cycle that bit-logic unit `u` carries, as its instructions see it. -/
def State.cycle (u : Nat) (s : State) : Option CycleEnv :=
  match s.blk, at! s.logic.cur (2 + u) with
  | some b, some t => some (cycEnv b (fun i => (s.sig.rd i).typ) t (at! s.logic.tasks t))
  | _, _ => none

end Sys2Proof.Machine
end

