-- ==== Sys2Proof/Certificates/Slice0/Obligations.lean ====
section
/-! DEFINITION. The statements for the provers, from the spec's rules. -/

open Sys2Proof Sys2Proof.Machine

/-- For every command c and state s, the step of s with c at the front of its queue is exec of c on s with the queue's
rest. With an empty queue the step answers the state itself; that the block then idles is the model's own choice (log
entry 3). -/
def Obligations.StepRunsFront : Prop :=
  (∀ (c : Instr) (rest : List Instr) (s : State), step { s with pending := c :: rest } = exec c { s with pending := rest }) ∧
  ∀ s : State, s.pending = [] → step s = .next s

/-- At reset no command waits, the role is 0 (Waiting), no host register is readable, both doorbell registers read 0, the
clock does not run and TSU_INC is its nominal value, the Hat latch and output enable are clear and every output is
off, no Block is held, no key is enrolled and no force is set, no element has started and every breaker slot is in
state 0. -/
def Obligations.ResetState : Prop :=
  State.reset.pending = [] ∧ State.reset.life.role = 0 ∧ State.reset.hpi.magic = false ∧ State.reset.hpi.doorbell = 0 ∧
  State.reset.hpi.done = 0 ∧ State.reset.tsu.run = false ∧ State.reset.tsu.inc = 0x411AAAAAB ∧ State.reset.hat.latch = false ∧
  State.reset.fio.en = false ∧ (∀ o ∈ State.reset.fio.outs, o.sw = false) ∧ State.reset.store.cur = none ∧ State.reset.blk = none ∧
  State.reset.sca.keys = [] ∧ State.reset.sig.forces = [] ∧ (∀ e ∈ State.reset.elems, e.str = false ∧ e.op = false) ∧
  ∀ y ∈ State.reset.slots, y.state = 0

/-- The state after reset meets the four invariants that the tier 3 statements carry through every step: both memories
have their canonical form, no mailbox is both waiting and answered, the role is one of R40, and the outputs follow the
latch. -/
def Obligations.InvariantsHoldAtReset : Prop :=
  State.reset.Inv ∧ State.reset.MailboxInv ∧ State.reset.RoleInv ∧ State.reset.OutputInv

/-- For every state whose mailbox RAM and signal space have their canonical form (addresses or indices strictly rising,
and no entry equal to what an unlisted one reads as), every step that answers a next state answers one of the same
form, whatever command is at the front of the queue. That an unlisted mailbox byte reads 0 is the model's choice (log
entry 2). -/
def Obligations.MemoryStaysCanonical : Prop :=
  ∀ s t : State, s.Inv → step s = .next t → t.Inv

/-- A mailbox's MBX_DOORBELL bit is set while the engine owns it and its MBX_DONE bit once it is answered. For every state
in which no mailbox has both bits set, no step leaves one with both. -/
def Obligations.MailboxOwnedOrAnswered : Prop :=
  ∀ s t : State, s.MailboxInv → step s = .next t → t.MailboxInv

/-- The engine is in exactly one of the roles 0 to 6 of R40: from every state whose role is one of them, every step leads
to a state whose role is one of them. -/
def Obligations.RoleStaysLegal : Prop :=
  ∀ s t : State, s.RoleInv → step s = .next t → t.RoleInv

/-- Output enable is set only while the engine's own Hat latch is set and the partner's Hat loop is de-energised, and
while it is clear every output switch is off. If this holds in a state, it holds after every step from it: no command,
tick, reset, activation or copy turns an output on without the Hat. -/
def Obligations.OutputsFollowLatch : Prop :=
  ∀ s t : State, s.OutputInv → step s = .next t → t.OutputInv

/-- SEQ never resets, neither at a clear, a power cycle nor a factory erase: no step of any kind leaves a last sequence
number lower than it found. -/
def Obligations.SequenceNeverFalls : Prop :=
  ∀ s t : State, step s = .next t → s.evr.lastSeq ≤ t.evr.lastSeq

/-- POWER_UP takes the unit from the strap: bit 0 names unit A or B, and a clear bit 1 is no valid strap. No other command
changes which unit the engine is, a reset included: only the POWER_UP that follows reads the strap again. (A POWER_UP that a power
loss in a pending update boot ends is no start.) -/
def Obligations.UnitIdReadOnce : Prop :=
  (∀ (s : State) (strap : BitVec 2) (sec mv : Nat) (ok self : Bool) (x : BootTry), x.cut = false ∨ s.upd.stage ≠ 3 ∨ s.upd.pkg = none →
    ∃ t, exec (.powerUp strap sec ok self mv x) s = .next t ∧
    t.life.unit = boolNat (strap.getLsbD 0) ∧ t.life.strapBad = !strap.getLsbD 1) ∧
  ∀ (c : Instr) (s t : State), (∀ strap sec ok self mv x, c ≠ .powerUp strap sec ok self mv x) → exec c s = .next t →
    t.life.unit = s.life.unit

/-- An accepted operator action takes effect in phase A of its named tick. So no mailbox command and no request of a
station protocol changes, when it arrives, the signal space, the field outputs, the Hat (but for the mark that the partner
has taken it, of an engine that leaves), the acquisition, the phasor engine, the elements, the breaker slots, the schemes, the logic, the running Block or the role. -/
def Obligations.RequestsWaitForTheTick : Prop :=
  ∀ (c : Instr) (s t : State), c.request.isSome = true ∨ c.station = true → exec c s = .next t →
    t.sig = s.sig ∧ t.fio = s.fio ∧ t.hat = { s.hat with taken := t.hat.taken } ∧ t.afe = s.afe ∧ t.pbi = s.pbi ∧ t.phe = s.phe ∧ t.elems = s.elems ∧ t.flus = s.flus ∧
    t.slots = s.slots ∧ t.schemes = s.schemes ∧ t.logic = s.logic ∧ t.blk = s.blk ∧ t.wit = s.wit ∧ t.life.role = s.life.role

/-- For every signed command of right form that reaches the engine and whose session exists: where the session has accepted a
signed command with a TAG not below the request's, or the signature is bad, the request is refused with 0x0102. Whatever
refuses a command, its form, its session, privilege, signature or TAG, the role or a code of its own, its session's TAG stays.
An accepted signed command makes its TAG the session's last, so that the same request is then such a repeat. -/
def Obligations.ReplayIsRefused : Prop :=
  (∀ (c : CmdSpec) (p : Nat) (r : Req) (go : State → Except Nat Ans) (s : State) (x : Session),
    c.priv = some p → c.signed = true → c.formBad r = none → s.reached r.carrier = true →
    s.session r = some x → (s.sigGood c r = false ∨ ∃ n, x.lastTag = some n ∧ r.tag ≤ n) →
    s.command c r go = (s.touch c r).refuse c r 0x0102 (!s.sigGood c r)) ∧
  (∀ (c : CmdSpec) (r : Req) (go : State → Except Nat Ans) (s : State) (x : Session), s.session r = some x → s.reached r.carrier = true →
    ((c.formBad r).isSome = true ∨ (s.touch c r).authed c r = false ∨ roleOk s.life.role c = false ∨ ∃ e, go (s.touch c r) = .error e) →
    (((s.command c r go).session r).map (·.lastTag)) = some x.lastTag) ∧
  ∀ (c : CmdSpec) (r : Req) (s : State) (x : Session), c.signed = true → s.session r = some x →
    (((s.markTag c r).session r).map (·.lastTag)) = some (some r.tag)

/-- Nothing happens to a request before the port opens, to a mailbox that the engine owns, or to one that has come over no open
association. Otherwise a request of wrong form is refused with 0x0101, one of right form without session, privilege,
signature or TAG with 0x0102, one that passes these in a wrong role with 0x0103, and one that passes all with the code that
the command itself finds, whichever of these comes first. A refusal is counted and answered, with the offset of the field
that offends. -/
def Obligations.FirstFailingCheckAnswers : Prop :=
  ∀ (c : CmdSpec) (r : Req) (go : State → Except Nat Ans) (s : State),
    (s.reached r.carrier = false → s.command c r go = s) ∧
    (s.hpi.magic = false ∨ s.owned r.carrier = true → s.reached r.carrier = false) ∧
    (s.reached r.carrier = true →
      (∀ o, c.formBad r = some o → s.command c r go = (s.touch c r).refuse c r 0x0101 ((s.touch c r).sigFailed c r) ∧
        ∀ st, st ≠ 0x0100 → st ≠ 0x0104 → s.errOfs c r st = o) ∧
      (c.formBad r = none → (s.touch c r).authed c r = false → s.command c r go = (s.touch c r).refuse c r 0x0102 ((s.touch c r).sigFailed c r)) ∧
      (c.formBad r = none → (s.touch c r).authed c r = true → roleOk s.life.role c = false →
        s.command c r go = (s.touch c r).refuse c r 0x0103 ((s.touch c r).sigFailed c r)) ∧
      ∀ e, s.admits c r = true → c.op ≠ 0x0102 → go (s.touch c r) = .error e → s.command c r go = (s.touch c r).refuse c r e false)

/-- Writing a response to mailbox i overwrites the mailbox from its offset 0 with the response's bytes, changes no other
byte of the mailbox memory, clears the mailbox's DOORBELL bit, sets its DONE bit and leaves the bits of the other
mailboxes. -/
def Obligations.ResponseFillsItsMailbox : Prop :=
  ∀ (i : Fin 16) (x : Resp) (s : State), let t := s.respond (.host i.val) x
    (∀ k, k < (respBytes x).length → ramGet t.hpi.ram (mbxBase i.val + k) = (respBytes x).getD k 0) ∧
    (∀ a, (a < mbxBase i.val ∨ mbxBase i.val + (respBytes x).length ≤ a) → ramGet t.hpi.ram a = ramGet s.hpi.ram a) ∧
    t.hpi.doorbell.getLsbD i.val = false ∧ t.hpi.done.getLsbD i.val = true ∧
    (∀ j, j ≠ i.val → t.hpi.doorbell.getLsbD j = s.hpi.doorbell.getLsbD j ∧ t.hpi.done.getLsbD j = s.hpi.done.getLsbD j) ∧
    t = { s with hpi := { s.hpi with ram := t.hpi.ram, doorbell := t.hpi.doorbell, done := t.hpi.done } }

/-- REGISTER_WRITE of a word in a mailbox that the engine does not own changes the bytes whose enables are active: with
all four the word reads back as written, with none it reads as before. No word at another aligned address changes. A
write to an owned mailbox changes no byte and is counted in HPI_ERR. -/
def Obligations.MailboxWordReadsBack : Prop :=
  ∀ (s : State) (a : BitVec 24) (v : BitVec 64) (be : BitVec 4), s.hpi.magic = true → 0x10000 ≤ a.toNat → a.toNat < 0x20000 →
    (s.hpi.doorbell.getLsbD (mbxOf (a.toNat / 4 * 4)) = false →
      ∃ t, exec (.registerWrite false a v be) s = .next t ∧
        t = { s with hpi := { s.hpi with ram := t.hpi.ram } } ∧ (be = 0xF → t.hostWord a.toNat = v.setWidth 32) ∧ (be = 0 → t = s) ∧
        (∀ k < 4, ramGet t.hpi.ram (a.toNat / 4 * 4 + k) =
          if be.getLsbD k then ((v.setWidth 32 : BitVec 32) >>> (8 * k)).setWidth 8 else ramGet s.hpi.ram (a.toNat / 4 * 4 + k)) ∧
        ∀ d, (d < a.toNat / 4 * 4 ∨ a.toNat / 4 * 4 + 4 ≤ d) → ramGet t.hpi.ram d = ramGet s.hpi.ram d) ∧
    (s.hpi.doorbell.getLsbD (mbxOf (a.toNat / 4 * 4)) = true →
      exec (.registerWrite false a v be) s = .next { s with hpi := { s.hpi with errOwned := Nat.min (s.hpi.errOwned + 1) 65535 } })

/-- In a space of canonical form: a write to an allocated or engine-local point that is not forced gives it the written
VALUE and QUALITY and CHANGED when either differs from the value at the start of the tick, and every other point reads
as before. A write to an unallocated point changes nothing. A write to a forced point changes no point record: it goes
to the underlying record of its force. -/
def Obligations.PointReadsWhatWasWritten : Prop :=
  ∀ (id : TickId) (g : Sig) (w : PtWrite), ptsWf g.pts = true →
    ((g.rd w.idx).typ = 0 → localRegion w.idx = false → g.write id w = g) ∧
    (((g.rd w.idx).typ ≠ 0 ∨ localRegion w.idx = true) → (g.rd w.idx).forced = false →
      ((g.write id w).rd w.idx).value = w.value ∧ ((g.write id w).rd w.idx).qual = w.qual ∧
      (((g.write id w).rd w.idx).flags.getLsbD 1 = (w.value != (g.oldOf w.idx (g.rd w.idx)).value || w.qual != (g.oldOf w.idx (g.rd w.idx)).qual)) ∧
      (g.write id w).forces = g.forces ∧ ∀ j, j ≠ w.idx → (g.write id w).rd j = g.rd j) ∧
    (((g.rd w.idx).typ ≠ 0 ∨ localRegion w.idx = true) → (g.rd w.idx).forced = true →
      (g.write id w).pts = g.pts ∧ (g.write id w).forces =
        g.forces.map (fun f => if f.point = w.idx then { f with under := w.apply id f.under } else f))

/-- In a space of canonical form, a force on an unforced point of another TYPE than a local sample makes it read VALUE,
with QVAL and bit 10 and FORCED set, and enters the force table; a later write by its writer changes nothing that a
reader sees; and the release that follows makes it read the written VALUE and QUALITY, with FORCED clear and no entry
left. -/
def Obligations.ForceHidesAndReleases : Prop :=
  ∀ (id1 id2 : TickId) (ltc i session : Nat) (q : BitVec 16) (v : BitVec 64) (w : PtWrite) (g : Sig),
    ptsWf g.pts = true → g.force i = none → (g.rd i).typ ≠ 0 → (g.rd i).typ ≠ 8 → w.idx = i →
    let g1 := forceSet id1 ltc i q v session g
    let g2 := g1.write id2 w
    let g3 := forceReleaseAll i g2
    i ≠ 0xFFFFFFFF →
    (g1.rd i).value = v ∧ (g1.rd i).qual = qNorm (q ||| 0x400) ∧ (g1.rd i).forced = true ∧ (g1.force i).isSome = true ∧
    (∀ j, g2.rd j = g1.rd j) ∧
    (g3.rd i).value = w.value ∧ (g3.rd i).qual = w.qual ∧ (g3.rd i).forced = false ∧ g3.force i = none

/-- The actions that a tick applies are exactly those accepted whose named tick has come. They are in the order of R322: a
Hood swap, force releases, force sets, all others; and actions of one rank keep the order in which they were accepted.
That an activation comes before them is the model's choice (log entry 30). -/
def Obligations.DueActionsInOrder : Prop :=
  ∀ s : State, s.dueActs.Pairwise (fun a b => a.act.rank ≤ b.act.rank) ∧
    s.dueActs.Perm (s.svc.acts.filter (fun x => decide (x.ntick ≤ s.logic.ltc))) ∧
    ∀ k, s.dueActs.filter (fun x => x.act.rank == k) =
      (s.svc.acts.filter (fun x => decide (x.ntick ≤ s.logic.ltc))).filter (fun x => x.act.rank == k)

/-- For every pair of frames and every state of the witness, its decision never grants both units, never revokes both, and
revokes one exactly when it grants the other and that one wore the Hat, as its frame or else the last one before says. Where the other unit's frame is missing or is
neither eligible nor eligible for a planned handover, the wearer is not revoked. -/
def Obligations.WitnessGrantsOne : Prop :=
  ∀ (fa fb : Option EngFrame) (w : Witness), let r := witDecide fa fb w
    ¬(r.2.1 = 1 ∧ r.2.2 = 1) ∧ r.2.1 ≤ 2 ∧ r.2.2 ≤ 2 ∧ (r.2.1 = 2 ↔ r.2.2 = 1 ∧ r.1.latA = true) ∧
    (r.2.2 = 2 ↔ r.2.1 = 1 ∧ r.1.latB = true) ∧ r.1.latA = (fa.map (·.latch)).getD w.latA ∧ r.1.latB = (fb.map (·.latch)).getD w.latB ∧
    ((∀ f, fb = some f → eligible f = false ∧ eligiblePlanned f = false) → r.2.1 ≠ 2) ∧
    ((∀ f, fa = some f → eligible f = false ∧ eligiblePlanned f = false) → r.2.2 ≠ 2)

/-- From the tick start at which an unhealthy or leaving engine, whose supply has not failed, has run 20 ticks, it has reset: it does not run, its role
is 0, the latch, output enable and all outputs are off, and the reset cause is the cause of its health or that of the
command; after a debug unlock it is that of R513. -/
def Obligations.UnhealthyEngineResetsInTime : Prop :=
  ∀ (s : State) (x : TickIn) (n : Nat), s.tsu.run = true → s.life.sickTicks = some n → 19 ≤ n → s.psu.failed = false →
    ∃ t, exec (.tick x) s = .next t ∧ t.life.booted = false ∧ t.tsu.run = false ∧ t.life.role = 0 ∧ t.hat.latch = false ∧
      t.fio.en = false ∧ (∀ o ∈ t.fio.outs, o.sw = false) ∧ t.hpi.magic = false ∧ t.pending = s.pending ∧
      t.life.resetCause = if s.sca.debug then 0x10008 else if s.life.leaving then s.life.resetCause else s.life.cause

/-- With the clock stopped TICK changes nothing. Otherwise, in a healthy engine with a confirmed image whose supply has not failed and which
takes no LTC from a partner, TICK answers a state whose LTC is one higher, whose queue is the same and, with no step
armed, whose tick identity is that of the next grid number. -/
def Obligations.TickRuns : Prop :=
  (∀ (s : State) (x : TickIn), s.tsu.run = false → exec (.tick x) s = .next s) ∧
  ∀ (s : State) (x : TickIn), s.tsu.run = true → s.life.sickTicks = none → s.psu.failed = false → s.pair.close = none → s.upd.confirmed = true →
    ∃ t, exec (.tick x) s = .next t ∧ t.logic.ltc = s.logic.ltc + 1 ∧ t.pending = s.pending ∧
      (s.tsu.arm = false → t.tsu.id = gridId (nextGrid s.tsu) s.tsu.gen)

/-- Every POWER_UP that no power loss in a pending update boot ends answers a running engine: ID_MAGIC is readable, the sealed area's generation is one higher, and a
record of kind 0x0040 with the reset cause is raised. An engine that passes its self-test with its sealed area intact
and no tamper latch is healthy. One whose sealed area has lost its contents has its keys and identity zeroised, its
tamper latch set and reset cause 0x10007. The cell is low below 2.6 V. At the first start the identity key is made. Of a running engine started again, one that is unsound or holds no Block is
in role 0. -/
def Obligations.PowerUpStarts : Prop :=
  ∀ (s : State) (strap : BitVec 2) (sec mv : Nat) (ok self : Bool) (x : BootTry), x.cut = false ∨ s.upd.stage ≠ 3 ∨ s.upd.pkg = none →
    ∃ t, exec (.powerUp strap sec ok self mv x) s = .next t ∧
    t.life.booted = true ∧ t.life.cellLow = decide (mv < 2600) ∧ (ok = true → s.sca.tamper = false → s.sca.identN = 0 → t.sca.ident = true) ∧ t.hpi.magic = true ∧ t.pending = s.pending ∧ (∃ r ∈ t.evr.localEv, r.kind = 0x40 ∧ r.subject = t.life.resetCause) ∧
    (ok = true → t.sca.gen = s.sca.gen + 1 ∧ t.sca.keys = s.sca.keys ∧ t.life.healthy = (self && !s.sca.tamper)) ∧
    (ok = false → t.sca.tamper = true ∧ t.sca.keys = [] ∧ t.sca.ident = false ∧ t.life.healthy = false ∧ t.life.resetCause = 0x10007) ∧
    (s.life.booted = true → ok = false ∨ self = false ∨ s.sca.tamper = true ∨ (s.store.slot s.store.bootAt).blk = none → t.life.role = 0)

/-- With a package waiting for its boot, a boot without failure runs the package's version from the other slot,
unconfirmed, keeps the version that it left, and takes the Blocks it found converted: each keeps its BLOCK_ID, is CONVERTED, and the old ones
stay, to be given back by a fall-back. A boot that fails keeps the running version, drops the package and reports in LAST_FAIL the first step
that failed: 1 where the package does not decrypt, 2 where no image results, 3 where Cedun's key does not verify it, then 4 and 5. A power loss
in the boot leaves it pending once; a second one counts as failure 2. Nothing else of the engine changes but the event recorder and the
reset cause; without such a package nothing changes at all. -/
def Obligations.UpdateBootSwitchesImage : Prop :=
  (∀ (s : State) (p : Package) (x : BootTry), s.upd.pkg = some p → s.life.booted = false → s.upd.stage = 3 → x.cut = false →
    let fail := if s.loaderFail x p ≠ 0 then s.loaderFail x p else s.imageFail x p
    let by_ := (s.sca.serial.toNat, s.sca.identN)
    (fail = 0 → ∃ t, exec (.updateBoot x) s = .next t ∧ t = { s with life := t.life, upd := t.upd, store := t.store } ∧
      t.life = { s.life with fwVer := p.toVer } ∧ t.upd.altVer = s.life.fwVer ∧ t.upd.confirmed = false ∧ t.upd.slot = !s.upd.slot ∧
      t.upd.pkg = none ∧ t.upd.stage = 0 ∧ t.upd.lastFail = 0 ∧
      t.store.cur = s.store.cur.map (convertBlock p.toVer by_) ∧ t.store.prev = s.store.prev.map (convertBlock p.toVer by_) ∧
      t.store.giveUp.cur = s.store.cur ∧ t.store.giveUp.prev = s.store.prev) ∧
    (fail ≠ 0 → ∃ t, exec (.updateBoot x) s = .next t ∧ t = { s with life := t.life, upd := t.upd, evr := t.evr } ∧ t.life.fwVer = s.life.fwVer ∧
      t.upd.lastFail = fail ∧ t.upd.pkg = none ∧ t.upd.stage = 0 ∧ t.upd.confirmed = s.upd.confirmed ∧ t.upd.slot = s.upd.slot ∧
      t.life.resetCause = if 4 ≤ fail then 0x10004 else s.life.resetCause)) ∧
  (∀ (s : State) (p : Package) (x : BootTry), (s.sca.fwKey.bind p.plain = none → s.loaderFail x p = 1) ∧
    (∀ d, s.sca.fwKey.bind p.plain = some d → (x.image = none → s.loaderFail x p = 2) ∧
      ∀ h k g, x.image = some (h, k, g) → s.loaderFail x p = if ecdsaOk s.sca.cedunFw h g = true then 0 else 3)) ∧
  (∀ (s : State) (p : Package) (x : BootTry), s.upd.pkg = some p → s.life.booted = false → s.upd.stage = 3 → x.cut = true →
    (s.upd.cut = false → exec (.updateBoot x) s = .next { s with upd := { s.upd with cut := true } }) ∧
    (s.upd.cut = true → ∃ t, exec (.updateBoot x) s = .next t ∧ t.upd.lastFail = 2 ∧ t.upd.pkg = none ∧ t.upd.stage = 0 ∧ t.life = s.life)) ∧
  (∀ (fw : BitVec 32) (w : Nat × Nat) (b : Block), convertBlock fw w b = { b with converted := true, convBy := some w, format := (convertBlock fw w b).format }) ∧
  ∀ (s : State) (x : BootTry), s.upd.pkg = none → exec (.updateBoot x) s = .next s

/-- ENGINE_UNHEALTHY with a CAUSE of R425 takes a healthy engine out of health, names the cause and raises a record of
kind 0x0032; an engine that is unhealthy keeps its first cause. A grant of the same tick is taken back: the latch and
the outputs are off and the role is that before the grant. An uncorrectable error of a tick engine's memory, of
the dynamic state and of the Block's copy is such a cause, 2, 3 and 4; one of the intake, of the staging queue and of
the protocol memory is counted and discards the sample or frame, the record block, or the queue entry it affects; one of
the MRAM is the recorder's. ECC_CORRECTED is counted and has no other effect. UNHEALTHY_RESET resets an engine whose
reset is due and no other. -/
def Obligations.HealthCausesTakeEffect : Prop :=
  (∀ (s : State) (cause r : Nat), 1 ≤ cause → cause ≤ 8 → s.life.healthy = true → s.hat.was = some r → ∃ t,
    exec (.engineUnhealthy cause) s = .next t ∧ t.life = { s.life with role := r, healthy := false, cause := cause, prevCause := false, sickTicks := some (s.life.sickTicks.getD 0) } ∧
    t = { s with life := t.life, hat := t.hat, pair := t.pair, fio := t.fio, evr := t.evr } ∧
    t.hat.latch = false ∧ t.hat.granted = false ∧ t.fio.en = false ∧ (∀ o ∈ t.fio.outs, o.sw = true → s.fio.en = false)) ∧
  (∀ (s : State) (cause : Nat), 1 ≤ cause → cause ≤ 8 → s.life.healthy = true → s.hat.was = none →
    exec (.engineUnhealthy cause) s = .next { s with
      life := { s.life with healthy := false, cause := cause, prevCause := false, sickTicks := some (s.life.sickTicks.getD 0) }
      hat := { s.hat with taken := s.life.sickTicks.isSome && s.hat.taken }
      evr := { s.evr with localEv := s.evr.localEv ++ [{ kind := 0x32, subject := cause }] } }) ∧
  (∀ (s : State) (cause : Nat), s.life.healthy = false → exec (.engineUnhealthy cause) s = .next s) ∧
  (∀ s : State, exec (.eccUncorrectable .teLocal) s = exec (.engineUnhealthy 2) s ∧
    exec (.eccUncorrectable .dynamicState) s = exec (.engineUnhealthy 3) s ∧ exec (.eccUncorrectable .blockCopy) s = exec (.engineUnhealthy 4) s ∧
    (∀ (n i : Nat), exec (.eccUncorrectable (.intake false n i)) s = .next { s with
      life := { s.life with eccDisc := s.life.eccDisc.modify 0 (· + 1) }
      pbi := { s.pbi with streams := s.pbi.streams.modify n (fun x => { x with samples := x.samples.eraseIdx i }) } }) ∧
    (∀ (n i : Nat), exec (.eccUncorrectable (.intake true n i)) s = .next { s with
      life := { s.life with eccDisc := s.life.eccDisc.modify 0 (· + 1) }
      pbi := { s.pbi with gcbs := s.pbi.gcbs.map (fun e => if e.1 = n then (e.1, { e.2 with waits := e.2.waits.eraseIdx i }) else e) } }) ∧
    (∀ (no k n : Nat), ∃ f : DrcRec → DrcRec, exec (.eccUncorrectable (.staging no k n)) s = .next { s with
      life := { s.life with eccDisc := s.life.eccDisc.modify 1 (· + 1) }
      drc := { s.drc with recs := s.drc.recs.map (fun r => if r.recno = no then f r else r) } } ∧
      ∀ r, f r = { r with gone := (f r).gone } ∧ ∀ i, i ∈ (f r).gone ↔ i ∈ r.gone ∨ (k ≤ i ∧ i < k + n ∧ i < r.frames.length)) ∧
    (∀ i : Nat, exec (.eccUncorrectable (.protocol i)) s = .next { s with
      life := { s.life with eccDisc := s.life.eccDisc.modify 2 (· + 1) }, cp := { s.cp with queue := s.cp.queue.eraseIdx i } })) ∧
  (∀ (s : State) (pos : Nat), exec (.eccUncorrectable (.mram pos)) s =
    .next { s with evr := evrBadAt s.tsu.id s.logic.ltc s.recReach pos s.evr }) ∧
  (∀ (s : State) (m : EccMem), exec (.eccCorrected m) s = .next { s with life := { s.life with eccCorr := s.life.eccCorr.modify m.ix (· + 1) } }) ∧
  ∀ s : State, (s.resetDue = false → exec .unhealthyReset s = .next s) ∧
    (s.resetDue = true → exec .unhealthyReset s = .next (({ s with evr := keepCause s.tsu.id s.logic.ltc s.evr } : State).resetEngine
      (if s.life.leaving then s.life.resetCause else s.life.cause)))

/-- SUPPLY_FAILURE marks a running engine's supply as failed, starts both recorders' counts from its detection and raises
a record of kind 0x0041. FEED_LOST and FEED_RESTORED set one feed. The event recorder stops once its count has reached
160 ticks, the disturbance recorder closes its open records once 96 ticks have passed, and before that neither row
changes anything. CELL_CHECK raises the low-cell indication below 2.6 V. -/
def Obligations.SupplyEventsTakeEffect : Prop :=
  (∀ s : State, s.life.booted = true → s.psu.failed = false →
    exec .supplyFailure s = .next { s with
      psu := { s.psu with feedA := false, feedB := false, failed := true }
      evr := { s.evr with failTicks := some 0, localEv := s.evr.localEv ++ [{ kind := 0x41 }] }
      drc := { s.drc with failTicks := some 0 } }) ∧
  (∀ s : State, exec (.feedLost false) s = .next { s with psu := { s.psu with feedA := false } } ∧
    exec (.feedLost true) s = .next { s with psu := { s.psu with feedB := false } } ∧
    exec (.feedRestored false) s = .next { s with psu := { s.psu with feedA := true } } ∧
    exec (.feedRestored true) s = .next { s with psu := { s.psu with feedB := true } }) ∧
  (∀ (s : State) (n : Nat), s.evr.failTicks = some n → exec .evrPowerfailStop s =
    .next (if 161 ≤ n then { s with evr := evrStop s.tsu.id s.logic.ltc s.evr } else s)) ∧
  (∀ (s : State) (n : Nat), s.drc.failTicks = some n → exec .drcPowerfailClose s =
    .next (if n = 96 then { s with drc := { powerfailClose (writeStep s.drc) with failTicks := some 97 } } else s)) ∧
  ∀ (s : State) (mv : Nat), exec (.cellCheck mv) s = .next { s with life := { s.life with cellLow := decide (mv < 2600) } }

/-- After TAMPER the identity key, the decryption key, Cedun's keys and every enrolled key are gone, the tamper latch is set, no session
is open, the engine is unhealthy, and its reset cause is 0x10006. A debug unlock that verifies, of a running engine,
drops the identity key and the enrolled keys, closes every session and opens debug access; one that does not verify, or for which Cedun's
debug key is gone, changes nothing. A factory erase with FERASE grounded and the button held for 10 s drops the keys and both Blocks,
clears the latch, makes a new identity key and restarts the engine; a shorter press changes nothing, nor one after a supply failure. KEY_IDs are never
given twice: the next one stays. -/
def Obligations.SealedAreaIsZeroised : Prop :=
  (∀ s : State, ∃ t, exec .tamper s = .next t ∧ t.sca.ident = false ∧ t.sca.fwKey = none ∧ t.sca.cedunFw = 0 ∧ t.sca.cedunDbg = 0 ∧ t.sca.keys = [] ∧ t.sca.tamper = true ∧
    t.sca.nextKey = s.sca.nextKey ∧ t.svc.sessions = [] ∧ t.life.healthy = false ∧ t.life.resetCause = 0x10006 ∧
    t = { s with sca := t.sca, svc := t.svc, life := t.life, evr := t.evr, hat := t.hat, pair := t.pair, fio := t.fio } ∧
    (s.life.healthy = true → s.hat.was = none → t.hat = { s.hat with taken := s.life.sickTicks.isSome && s.hat.taken } ∧
      t.pair = s.pair ∧ t.fio = s.fio) ∧
    (s.life.healthy = false → t.hat = s.hat ∧ t.pair = s.pair ∧ t.fio = s.fio ∧ t.evr = s.evr)) ∧
  (∀ s : State, s.life.booted = true → s.sca.cedunDbg ≠ 0 → ∃ t, exec (.debugUnlock true) s = .next t ∧ t.sca.ident = false ∧ t.sca.keys = [] ∧ t.sca.debug = true ∧
    t.sca.nextKey = s.sca.nextKey ∧ t.svc.sessions = [] ∧ t = { s with sca := t.sca, svc := t.svc }) ∧
  (∀ s : State, exec (.debugUnlock false) s = .next s ∧ (s.sca.cedunDbg = 0 → exec (.debugUnlock true) s = .next s)) ∧
  (∀ (s : State) (ms : Nat), 10000 ≤ ms → s.psu.failed = false → ∃ t, exec (.factoryErase true ms) s = .next t ∧ t.sca.keys = [] ∧ t.sca.tamper = false ∧
    t.sca.ident = true ∧ t.sca.identN = s.sca.identN + 1 ∧ t.sca.nextKey = s.sca.nextKey ∧ t.store.cur = none ∧ t.store.prev = none ∧
    t.svc.sessions = [] ∧ t.life.booted = false ∧ t.evr.lastSeq = s.evr.lastSeq) ∧
  ∀ (s : State) (g : Bool) (ms : Nat), g = false ∨ ms < 10000 ∨ s.psu.failed = true → exec (.factoryErase g ms) s = .next s

/-- FIRMWARE_CONFIRM in an engine that has what R507 asks for marks the image confirmed, never lowers SECLVL, gives up the
old Blocks and raises a record of kind 0x0060; otherwise it changes nothing. FIRMWARE_FALLBACK after the window has
ended waits for the handover in role 1, and otherwise brings back the version and the Blocks it was updated from and
resets with cause 0x10004 (0x10008 after a debug unlock); before the end it changes nothing. A fall-back that has waited comes as soon as the
engine has left role 1 (LAST_FAIL 7, else 6: log entry 47). -/
def Obligations.FirmwareConfirmsOrFallsBack : Prop :=
  (∀ s : State, s.confirmDue = true → exec .firmwareConfirm s = .next { s with
      upd := { s.upd with confirmed := true, fallPend := false }
      sca := { s.sca with secLvl := Nat.max s.sca.secLvl s.upd.secNew }
      store := s.store.confirm
      evr := { s.evr with localEv := s.evr.localEv ++ [{ kind := 0x60, value := s.life.fwVer.toNat }] } }) ∧
  (∀ x : Store, x.confirm.cur = x.cur ∧ x.confirm.prev = x.prev ∧ x.confirm.conv = false ∧ x.confirm.afterReset.cur = x.cur ∧
    x.confirm.afterReset.prev = x.prev) ∧
  (∀ s : State, s.confirmDue = false → exec .firmwareConfirm s = .next s) ∧
  (∀ s : State, s.windowEnded = true → s.life.role = 1 → exec .firmwareFallback s = .next { s with upd := { s.upd with fallPend := true } }) ∧
  (∀ s : State, s.windowEnded = true → s.life.role ≠ 1 → ∃ t, exec .firmwareFallback s = .next t ∧ t.life.fwVer = s.upd.altVer ∧
    t.upd.altVer = s.life.fwVer ∧ t.upd.confirmed = true ∧ t.upd.fellBack = true ∧ t.store.cur = (s.store.slot s.store.dir.cur).blk ∧
    t.store.prev = (s.store.slot s.store.dir.prev).blk ∧ t.store.conv = false ∧ t.upd.lastFail = (if s.upd.fallPend = true then 7 else 6) ∧ t.life.booted = false ∧ t.life.resetCause = if s.sca.debug then 0x10008 else 0x10004) ∧
  (∀ s : State, s.fallDue = if s.upd.fallPend = true ∧ s.upd.confirmed = false ∧ s.life.role ≠ 1 ∧ s.psu.failed = false then s.fallBack else s) ∧
  (∀ s : State, s.windowEnded = true → s.life.role ≠ 1 → exec .firmwareFallback s = .next s.fallBack) ∧
  ∀ s : State, s.windowEnded = false → exec .firmwareFallback s = .next s

/-- A write of TSU_INC from 0x4115AAAAB to 0x411FAAAAB is taken from its main-clock cycle on: up to that cycle the clock has
counted with the old increment, and from it on it counts with the new one. One outside is ignored and sets INC_REJ, whether as
TSU_INC_WRITE or as REGISTER_WRITE. A read of TSU_SEC latches NSEC and FRAC of the same instant, so that the three join to the
whole clock, and changes nothing else. TSU_STEP_ARM arms. Writing 1 clears STEP_DONE and INC_REJ, writing 0 leaves them. A
REGISTER_WRITE to a TSU register changes the TSU alone, and the generation in the sealed area with TSU_GEN; TSU_STEP_SEC,
TSU_STEP_AT and TSU_GEN are as written, the last in roles 0 and 5 only. -/
def Obligations.ClockRegistersTakeEffect : Prop :=
  (∀ (s : State) (v : BitVec 64) (n : Nat), 0x4115AAAAB ≤ v.toNat → v.toNat ≤ 0x411FAAAAB →
    ∃ t, exec (.tsuIncWrite v n) s = .next t ∧ t = { s with tsu := t.tsu } ∧
      t.tsu = { s.tsu with clk := t.tsu.clk, inc := v.toNat, incAt := Nat.max (tickCycle s.tsu n) s.tsu.incAt } ∧
      (t.tsu.incAt * v.toNat ≤ s.tsu.clk + t.tsu.incAt * s.tsu.inc →
        t.tsu.clk + t.tsu.incAt * v.toNat = s.tsu.clk + t.tsu.incAt * s.tsu.inc)) ∧
  (∀ (s : State) (v : BitVec 64) (n : Nat), v.toNat < 2 ^ 40 → (v.toNat < 0x4115AAAAB ∨ 0x411FAAAAB < v.toNat) →
    exec (.tsuIncWrite v n) s = .next { s with tsu := { s.tsu with incRej := true } }) ∧
  (∀ (s : State) (n : Nat), s.tsu.clkAt n < 2 ^ 94 → ∃ t, exec (.tsuSecRead n) s = .next t ∧ t = { s with tsu := t.tsu } ∧
    t.tsu = { s.tsu with mpRead := t.tsu.mpRead, latNsec := t.tsu.latNsec, latFrac := t.tsu.latFrac } ∧
    s.tsu.clkAt n = (t.tsu.mpRead.toNat * 1000000000 + t.tsu.latNsec.toNat) * 2 ^ 32 + t.tsu.latFrac.toNat) ∧
  (∀ s : State, exec .tsuStepArm s = .next { s with tsu := { s.tsu with arm := true } }) ∧
  (∀ (s : State) (v : BitVec 32), exec (.tsuCtrlClear v) s = .next { s with tsu := { s.tsu with
    done := s.tsu.done && !v.getLsbD 1, incRej := s.tsu.incRej && !v.getLsbD 2 } }) ∧
  (∀ (s : State) (v : BitVec 64) (be : BitVec 4),
    exec (.registerWrite true 0x10 v be) s = exec (.tsuIncWrite v 0) s ∧
    exec (.registerWrite true 0x20 v be) s = .next { s with tsu := { s.tsu with stepSec := v.toInt } } ∧
    exec (.registerWrite true 0x30 v be) s = .next { s with tsu := { s.tsu with stepAt := v.toNat } } ∧
    ((s.life.role = 0 ∨ s.life.role = 5) → ∃ g, exec (.registerWrite true 0x38 v be) s =
      .next { s with tsu := { s.tsu with gen := v.setWidth 16 }, sca := { s.sca with gen := g } } ∧ (v.setWidth 16 ≠ s.tsu.gen → g = v.setWidth 16)) ∧
    (s.life.role ≠ 0 → s.life.role ≠ 5 → exec (.registerWrite true 0x38 v be) s = .next s)) ∧
  ∀ (s : State) (a : BitVec 24) (v : BitVec 64) (be : BitVec 4), ∃ u g, exec (.registerWrite true a v be) s =
    .next { s with tsu := u, sca := { s.sca with gen := g } } ∧ (u.gen = s.tsu.gen → g = s.sca.gen)

/-- CLOCK_STEP_APPLY with a step armed for the present STAT_TICK adds it to the clock, increments the generation, which the sealed area
then holds, clears STEP_ARM, sets STEP_DONE, stretches the tick and raises one record of kind 0x0021; without one it changes
nothing. RTC_WRITEBACK while locked stores second, generation and UTC offset in the sealed area. LEAP_SECOND,
PAIR_TIME_DIVERGENCE, INITIAL_ALIGNMENT and PARTNER_ALIGNMENT act on the TSU, the last two with the record of their
step. A step leaves elapsed times of input filters, fast channels and GOOSE states as they are (log entry 93). INIT_WAIT_EXPIRY ends the
wait, and the engine may then leave role 0. -/
def Obligations.ClockStepsTakeEffect : Prop :=
  (∀ s : State, stepDue s.tsu = true → ∃ t r, exec .clockStepApply s = .next t ∧
    t = (({ s with tsu := t.tsu, evr := t.evr } : State).stepShift s.tsu.clk).sealTime s.tsu ∧
    t.tsu.clk = ((s.tsu.clk : Int) + s.tsu.stepNs * 2 ^ 32).toNat ∧ t.tsu.gen = s.tsu.gen + 1 ∧ t.sca.gen = s.tsu.gen + 1 ∧ t.tsu.arm = false ∧
    t.tsu.done = true ∧ t.tsu.stretched = true ∧ t.tsu.id = s.tsu.id ∧ t.evr.localEv = s.evr.localEv ++ [r] ∧ r.kind = 0x21) ∧
  (∀ s : State, stepDue s.tsu = false → exec .clockStepApply s = .next { s with evr := { s.evr with localEv := s.evr.localEv ++ [] } }) ∧
  (∀ s : State, s.tsu.st = 2 → exec .rtcWriteback s =
    .next { s with sca := { s.sca with rtc := s.tsu.clk / 2 ^ 32 / 1000000000, gen := s.tsu.gen, utc := s.tsu.utcOfs } }) ∧
  (∀ s : State, s.tsu.st ≠ 2 → exec .rtcWriteback s = .next s) ∧
  (∀ s : State, exec .leapSecond s = .next (({ s with tsu := leapStep s.block.time s.tsu } : State).sealTime s.tsu) ∧
    exec .pairTimeDivergence s = .next { s with tsu := divergeStep s.tsu } ∧
    exec .initWaitExpiry s = .next (if s.blk.isSome then ({ s with tsu := initExpire s.block.time s.tsu } : State) else s).takeRole) ∧
  (∀ (s : State) (src : Nat) (ofs : Int), exec (.initialAlignment src ofs) s = .next ((({ s with
    tsu := (initAlign s.block.time s.life.role src ofs s.tsu).1
    evr := { s.evr with localEv := s.evr.localEv ++ (initAlign s.block.time s.life.role src ofs s.tsu).2 } } : State).stepShift s.tsu.clk).sealTime s.tsu)) ∧
  ∀ (s : State) (ofs : Int) (gen : BitVec 16), exec (.partnerAlignment ofs gen) s = .next ((({ s with
    tsu := (partnerAlign s.block.time s.life.role ofs gen s.tsu).1
    evr := { s.evr with localEv := s.evr.localEv ++ (partnerAlign s.block.time s.life.role ofs gen s.tsu).2 } } : State).stepShift s.tsu.clk).sealTime s.tsu)

/-- An IRIG-B frame, a 1PPS edge and the lock act on the TSU alone. SERVO_MEASUREMENT acts on the TSU and raises the
records of what it finds. SOURCE_SWITCH follows the source that qualifies, HOLDOVER_ENTRY enters holdover where none
does, in STATE 4 while a refusal is open. PTP_DELAY_REQUEST_SEND sends one request from each port that is up of every pair that carries PTP
while the clock runs, with the stamp of its port, and counts it. -/
def Obligations.TimeSourcesTakeEffect : Prop :=
  (∀ (s : State) (m : Measurement), exec (.servoMeasurement m) s = .next { s with
    tsu := (measure s.block.time s.life.role m s.tsu).1
    evr := { s.evr with localEv := s.evr.localEv ++ (measure s.block.time s.life.role m s.tsu).2 } }) ∧
  (∀ (s : State) (f : IrigFrame), exec (.irigFrame f) s = .next { s with tsu := irigReceive s.block.time f s.tsu }) ∧
  (∀ (s : State) (ns : Nat), exec (.ppsEdge ns) s = .next { s with tsu := ppsReceive s.block.time ns s.tsu }) ∧
  (∀ s : State, exec .tsuLock s = .next { s with tsu := lockStep s.tsu }) ∧
  (∀ s : State, s.tsu.run = true → (s.life.role = 2 ∨ s.life.role = 5 ∨ pickSource s.block.time (qualStep s.block.time s.tsu) ≠ 0) →
    ∃ t, exec .sourceSwitch s = .next t ∧ t.tsu = sourceStep s.block.time s.life.role (qualStep s.block.time s.tsu) ∧
      t = { s with tsu := t.tsu, evr := t.evr } ∧ t.evr.localEv = s.evr.localEv) ∧
  (∀ s : State, s.tsu.run = true → s.life.role ≠ 2 → s.life.role ≠ 5 →
    (qualStep s.block.time s.tsu).src ≠ 0 → pickSource s.block.time (qualStep s.block.time s.tsu) = 0 →
    ∃ t, exec .holdoverEntry s = .next t ∧ t.tsu = holdoverGo (if s.tsu.disq = [] then 3 else 4) (qualStep s.block.time s.tsu) ∧
      t = { s with tsu := t.tsu, evr := t.evr }) ∧
  ∀ (s : State) (ns : Nat),
    let ports := if s.tsu.run then [0, 1, 2, 3].filter (fun p => ptpPair s.block.time (p / 2) && s.portUp p) else []
    let at_ := Nat.max ns (Nat.max s.tsu.ns s.tsu.seen)
    ∃ t, exec (.ptpDelayRequestSend ns) s = .next t ∧ t = { s with tsu := t.tsu, out := t.out } ∧
      t.tsu = { s.tsu with delayReqs := s.tsu.delayReqs + ports.length, ports := t.tsu.ports, seen := if ports = [] then s.tsu.seen else at_ } ∧
      t.out = s.out ++ ports.map (fun p => Emit.delayRequest p ((at! s.tsu.ports p).tx at_)) ∧
      ∀ p ∈ ports, p < s.tsu.ports.length → (at! t.tsu.ports p).sent = (at! s.tsu.ports p).tx at_

/-- A conversion acts on its lane while the clock runs. LANE_CALIBRATION acts on its lane at tick 0 of a second, and makes
the engine unhealthy with cause 6 when the reference has then failed on every supervised lane; in another tick it
changes nothing. The insertion, the read memory, the withdrawal and the re-read of a cassette act on their lane: no
other lane and nothing beside the lanes changes. -/
def Obligations.LanesTakeEffect : Prop :=
  (∀ (s : State) (l : Fin 16) (code : BitVec 18), s.tsu.run = true → exec (.laneConversion l code) s =
    .next { s with afe := { s.afe with lanes := s.afe.lanes.modify l.val (laneConvert code) } }) ∧
  (∀ (s : State) (l : Fin 16) (code : BitVec 18), s.tsu.run = false → exec (.laneConversion l code) s = .next s) ∧
  (∀ (s : State) (l : Fin 16), s.tsu.id.k ≠ 0 → exec (.laneCalibration l) s = .next s) ∧
  (∀ (s : State) (l : Fin 16), s.tsu.id.k = 0 → ∃ t, exec (.laneCalibration l) s = .next t ∧
    t.afe = { s.afe with lanes := s.afe.lanes.modify l.val laneCalibrate } ∧
    t = { s with afe := t.afe, life := t.life, evr := t.evr, hat := t.hat, pair := t.pair, fio := t.fio } ∧
    (allRefFailed t.afe = true → t.life.healthy = false ∧ (s.life.healthy = true → t.life.cause = 6) ∧ (s.life.healthy = false → t.life = s.life)) ∧
    (allRefFailed t.afe = false → t = { s with afe := t.afe })) ∧
  (∀ (s : State) (l : Fin 16), exec (.cassetteInsertion l) s =
    .next { s with afe := { s.afe with lanes := s.afe.lanes.modify l.val cassInsert } }) ∧
  (∀ (s : State) (l : Fin 16) (m : List Byte), exec (.cassetteReadComplete l m) s = .next { s with afe := { s.afe with
    lanes := s.afe.lanes.modify l.val (fun x => cassComplete (at! s.block.lanes l.val) (laneNow s.tsu x) (Cassette.ofBytes m) x) } }) ∧
  (∀ (s : State) (l : Fin 16), exec (.cassetteWithdrawal l) s = .next { s with afe := { s.afe with
    lanes := s.afe.lanes.modify l.val (fun x => cassWithdraw (laneNow s.tsu x) x) } }) ∧
  ∀ (s : State) (l : Fin 16) (m : List Byte), exec (.cassetteReread l m) s = .next { s with afe := { s.afe with
    lanes := s.afe.lanes.modify l.val (fun x => cassReread (at! s.block.lanes l.val) (laneNow s.tsu x) (Cassette.ofBytes m) x) } }

/-- In a running engine whose port has a module that serves it, FRAME_RECEIVE stamps the frame, with the corrections of R353 for its port, and gives it to the intake, at no earlier instant than what came before it; a PTP
message acts on the clock, a Pdelay_Req of the own domain is answered in the profiles with peer delay, and a tagged frame on the
process pair is forwarded where HSR is selected, unless it is the engine's own or has been forwarded. The service port answers ARP and
an echo to its address and drops the rest. An engine that does not run takes no frame, nor does a port that is down. INTAKE_DEADLINE
judges every stream and control block for the coming tick, once. BACKUP_RETURN gives a stream its members back.
GOOSE_PUBLISHER_DROPPED of a control block whose time allowed to live has ended by the coming deadline, with no frame
accepted for the tick or waiting to be, marks it dropped, for the coming phase A to show; any other stays as it is. -/
def Obligations.ProcessBusTakesEffect : Prop :=
  (∀ (s : State) (f : Frame), s.life.booted = false ∨ (f.port ≠ 4 ∧ s.portUp f.port.val = false) → exec (.frameReceive f) s = .next s) ∧
  (∀ (s : State) (f : Frame), f.port = 4 → s.life.booted = true → f.fcsOk = true →
    (f.body = .arp → exec (.frameReceive f) s = .next { s with out := s.out ++ [.service false] }) ∧
    (∀ n, f.body = .ipv4 s.block.proto.serviceAddr 1 n → exec (.frameReceive f) s = .next { s with out := s.out ++ [.service true] }) ∧
    (f.body ≠ .arp → (∀ n, f.body ≠ .ipv4 s.block.proto.serviceAddr 1 n) → exec (.frameReceive f) s = .next s)) ∧
  (∀ (s : State) (f0 : Frame), f0.port ≠ 4 → s.life.booted = true → s.portUp f0.port.val = true →
    let p := at! s.tsu.ports f0.port.val
    let fix : Int := if p.mac || p.forced then (if p.copper then -344 else -112) else 0
    let at_ := Nat.max f0.stamp (Nat.max s.tsu.ns s.tsu.seen)
    let f : Frame := { f0 with stamp := Nat.max ((at_ : Int) + fix + p.corr).toNat p.last }
    let r := pbiReceive s.filterBlock s.simOn f s.pbi
    let on : Bool := s.block.proto.hsr && decide (f.port.val < 2) && !f.own && f.dupKey.any (fun k => !s.pbi.hsrSent.contains (f.port.val, k))
    ∃ t, exec (.frameReceive f0) s = .next t ∧ t = { s with pbi := { r.1 with hsrSent := t.pbi.hsrSent }, tsu := t.tsu, sca := t.sca, out := t.out } ∧
      (on = false → t.pbi.hsrSent = s.pbi.hsrSent) ∧ (∀ k, on = true → f.dupKey = some k → (f.port.val, k) ∈ t.pbi.hsrSent) ∧
      (r.2 = none → t.sca = s.sca ∧ t.tsu = { s.tsu with seen := at_, ports := s.tsu.ports.modify f.port.val (fun x => { x with last := f.stamp }) }) ∧
      t.out = s.out ++ (if on = true then [.hsr f] else []) ++
        (match r.2 with
         | some ⟨d, .pdelayReq a⟩ => if d = s.block.time.domain ∧ s.block.time.profile ≤ 1 then [.pdelayResp f.port.val f.stamp (p.tx (Nat.max a at_))] else []
         | _ => [])) ∧
  (∀ (s : State) (b : Block), s.blk = some b → exec .intakeDeadline s = .next (if s.pbi.judged then s else
    { s with pbi := { pbiJudge b (nextGrid s.tsu) s.pbi with judged := true } })) ∧
  (∀ (s : State) (n : Fin 96), exec (.backupReturn n) s = .next { s with pbi := { s.pbi with streams := s.pbi.streams.modify n.val backupGo } }) ∧
  ∀ (s : State) (n : Fin 2048) (b : Block) (g : Gcb), s.blk = some b → lkup s.pbi.gcbs n.val = some g →
    let dl := deadlineOf (nextGrid s.tsu)
    (∀ e, g.ends = some e → e ≤ dl → g.got = false → (∀ w ∈ g.waits, w.done < dl → w.bad = true) → g.dropped = false →
      exec (.goosePublisherDropped n) s = .next { s with
        pbi := { s.pbi with gcbs := lset s.pbi.gcbs n.val { g with dropped := true, dirty := true } } }) ∧
    ∃ h, exec (.goosePublisherDropped n) s = .next { s with pbi := { s.pbi with gcbs := lset s.pbi.gcbs n.val h } } ∧
      (g.dropped = true ∨ g.got = true ∨ g.ends = none ∨ (∃ e, g.ends = some e ∧ dl < e) ∨ (∃ w ∈ g.waits, w.done < dl ∧ w.bad = false) → h = g)

/-- FREQUENCY_HOLD_EXPIRY of a group that has had no source for longer than F_HOLD takes its frequency back to nominal and
writes the frequency point invalid; before that it changes nothing. SYNCHROPHASOR_SEND takes the oldest report that is
ready off its stream, and the report leaves the engine where it wears the Hat and is fit. CONFIG_CHANGE_BIT_EXPIRY
clears the bit in its last tick. -/
def Obligations.PhasorRowsTakeEffect : Prop :=
  (∀ (s : State) (g : Fin 64) (b : Block), s.blk = some b → exec (.frequencyHoldExpiry g) s = .next
    (if (at! s.phe.groups g.val).fEver = true ∧ (at! b.groups g.val).fHoldT < (at! s.phe.groups g.val).holdT then { s with
      phe := { s.phe with groups := s.phe.groups.modify g.val (holdExpire b.fnom) }
      sig := s.sig.writes s.tsu.id [wR (groupBase g.val + 0x110) (at! s.phe.groups g.val).f (qInvalid 0x80)] } else s)) ∧
  (∀ (s : State) (n : Fin 8) (a : SyncAcc) (l : List SyncAcc) (p : SyncStream), (at! s.phe.syncs n.val).ready = a :: l →
    s.block.proto.syncs[n.val]? = some p → ∃ t f, exec (.synchrophasorSend n) s = .next t ∧ t = { s with phe := t.phe, out := t.out } ∧
      t.phe.syncs = s.phe.syncs.modify n.val (fun x => { x with ready := x.ready.drop 1 }) ∧
      t.out = s.out ++ (if s.hat.latch = true ∧ s.fit = true then [f] else [])) ∧
  ∀ (s : State) (n : Fin 8), exec (.configChangeBitExpiry n) s = .next { s with phe := { s.phe with
    syncs := s.phe.syncs.modify n.val (fun x => if x.cfgTicks ≤ 1 then { x with cfgTicks := 0 } else x) } }

/-- In a process or station cage a 1000BASE-X module leaves the port free to stamp in boundary mode, and any other module
forces MAC mode, a 1000BASE-T one with its own corrections; an empty cage forces nothing. A Felt cage with a module that serves the link changes nothing but the
cage; without one its lane goes down, and when that was the last lane the link is down. -/
def Obligations.ModulesSetPorts : Prop :=
  (∀ (s : State) (c : Fin 6) (m : Sfp), c.val < 4 → exec (.sfpModuleChange c m) s = .next { s with
    pbi := { s.pbi with cages := s.pbi.cages.set c.val m }
    tsu := { s.tsu with ports := s.tsu.ports.modify c.val (fun p => { p with forced := m != .sx && m != .lx && m != .absent, copper := m == .t }) } }) ∧
  (∀ (s : State) (c : Fin 6) (m : Sfp), 4 ≤ c.val → (m = .sfpp ∨ m = .dac) →
    exec (.sfpModuleChange c m) s = .next { s with pbi := { s.pbi with cages := s.pbi.cages.set c.val m } }) ∧
  ∀ (s : State) (c : Fin 6) (m : Sfp), 4 ≤ c.val → m ≠ .sfpp → m ≠ .dac →
    ∃ t, exec (.sfpModuleChange c m) s = .next t ∧ t = { s with pbi := { s.pbi with cages := s.pbi.cages.set c.val m }, pair := t.pair } ∧
      (c.val = 4 → t.pair.laneA = false) ∧ (c.val = 5 → t.pair.laneB = false) ∧
      (s.pair.linkUp = true → t.pair.linkUp = false → t.pair.prole = 0 ∧ t.pair.items = [] ∧ t.pair.close = none)

/-- For an instance of the running Block whose evaluation on the present space finds the event, the row lets that event
come about: the instance takes the fields of the event alone (start, operate, timer, thermal state, cold-load state,
cause) and writes its points; every other instance and every other part of the engine stays. Where the evaluation does
not find it, nothing changes. That such a row acts on the space as it stands is the model's choice (log entry 4). -/
def Obligations.ElementDecisionsTakeEffect : Prop :=
  ∀ (s : State) (i : Fin 2048) (v : ElEnv) (n : ElNext), s.elemAt i.val = some (v, n) →
    let o := at! s.elems i.val
    let f := at! s.flus i.val
    (∀ p : Fin 3, exec (.startConfirmation i p) s = .next
      (if (at! n.st.strP p.val = true ∧ at! o.strP p.val = false) ∨ (n.st.str = true ∧ o.str = false ∧ ∀ x ∈ n.st.strP, x = false)
        then s.elemSet i.val v n { o with str := n.st.str, strP := setAt o.strP p.val (at! n.st.strP p.val), conf := setAt o.conf p.val 0 } f
        else s)) ∧
    exec (.elementOperate i) s = .next (if n.st.op = true ∧ o.op = false
      then s.elemSet i.val v n { o with op := n.st.op, opP := n.st.opP, tmr := n.st.tmr } f else s) ∧
    exec (.elementTimerReset i) s = .next (if n.st.str = false ∧ n.st.tmr = 0 ∧ o.tmr ≠ 0
      then s.elemSet i.val v n { o with tmr := 0, held := n.st.held } f else s) ∧
    exec (.thermalEvaluation i) s = .next (if v.e.etype = 0x0141 ∧ n.st.last ≠ o.last
      then s.elemSet i.val v n { o with op := n.st.op, opP := n.st.opP, theta := n.st.theta, cmp := n.st.cmp, alarm := n.st.alarm
                                        ttt := n.st.ttt, str := n.st.str, ieq := n.st.ieq, last := n.st.last } f else s) ∧
    exec (.coldLoadTransition i) s = .next (if v.e.etype = 0x0182 ∧ n.st.clpSt ≠ o.clpSt
      then s.elemSet i.val v n { o with op := n.st.op, opP := n.st.opP, clpSt := n.st.clpSt, clpTmr := n.st.clpTmr, clpEnd := n.st.clpEnd } f
      else s) ∧
    exec (.fuseFailureDeclare i) s = .next (if v.e.etype = 0x01A1 ∧ n.st.op = true ∧ o.op = false
      then s.elemSet i.val v n { o with op := true, cause := n.st.cause, recT := 0, fuseT := n.st.fuseT, tmr := n.st.tmr } f else s) ∧
    exec (.fuseFailureClear i) s = .next (if v.e.etype = 0x01A1 ∧ o.op = true ∧ n.st.op = false
      then s.elemSet i.val v n { o with op := false, cause := 0, recT := 0, fuseT := 0 } f else s) ∧
    exec (.inrushHoldExpiry i) s = .next (if v.e.etype = 0x0181 ∧ o.op = true ∧ n.st.op = false ∧ n.st.str = false
      then s.elemSet i.val v n { o with op := false, opP := n.st.opP, opHold := n.st.opHold } f else s)

/-- For an instance of the running Block whose evaluation on the present space finds the event: the polarisation memory
ends, with every direction unknown and, under NOPOL 0, the instance blocked; a window is decided and a hold ends, with the outputs that
read the decision; a cycle of the high-impedance element is evaluated, or the hold after a source
change ends. A flange phase operates where its accumulator reaches full scale, is cleared at the end of a definite
reset and takes its accumulator's last decrement at the end of an inverse one. Where the evaluation does not find the
event nothing changes (log entry 4). -/
def Obligations.ElementWindowsTakeEffect : Prop :=
  ∀ (s : State) (i : Fin 2048) (v : ElEnv) (n : ElNext), s.elemAt i.val = some (v, n) →
    let o := at! s.elems i.val
    let f := at! s.flus i.val
    let w : ElemState := { o with str := n.st.str, op := n.st.op, opP := n.st.opP, tmr := n.st.tmr, held := n.st.held, last := n.st.last
                                  wst := n.st.wst, wn := n.st.wn, wq := n.st.wq, wN := n.st.wN, wEv := n.st.wEv, wEq := n.st.wEq
                                  rho := n.st.rho, wHold := n.st.wHold, rearm := n.st.rearm, dir := n.st.dir }
    let lost : ElemState := { o with memOn := false, memSet := false, polLost := true, dir := 0, dirP := [0, 0, 0], cDir := [0, 0, 0] }
    exec (.polarisationMemoryExpiry i) s = .next (if v.e.etype = 0x0121 ∧ o.memOn = true ∧ n.st.polLost = true ∧ v.n 9 ≤ o.memN
      then s.elemSet i.val v n (if v.n 11 = 0 then elemBlock false true lost else lost) f else s) ∧
    exec (.transientWindowEnd i) s = .next (if v.e.etype = 0x0124 ∧ n.st.wst = 2 ∧ o.wst ≠ 2
      then s.elemSet i.val v n w f else s) ∧
    exec (.transientHoldEnd i) s = .next (if v.e.etype = 0x0124 ∧ n.st.wst = 0 ∧ o.wst = 2
      then s.elemSet i.val v n w f else s) ∧
    exec (.fdirWindowEnd i) s = .next (if v.e.etype = 0x0125 ∧ n.st.wst = 2 ∧ o.wst ≠ 2
      then s.elemSet i.val v n w f else s) ∧
    exec (.fdirHoldEnd i) s = .next (if v.e.etype = 0x0125 ∧ o.wst = 2 ∧ (n.st.wst = 0 ∨ (n.st.dir = 0 ∧ o.dir ≠ 0))
      then s.elemSet i.val v n w f else s) ∧
    exec (.hizCycleEvaluation i) s = .next (if v.e.etype = 0x0191 ∧ n.st.last ≠ o.last
      then s.elemSet i.val v n { o with i3 := n.st.i3, e := n.st.e, a3 := n.st.a3, aE := n.st.aE, hizInit := n.st.hizInit
                                        act := n.st.act, alarm := n.st.alarm, last := n.st.last } f else s) ∧
    exec (.sourceChangeHoldEnd i) s = .next
      (if (v.e.etype = 0x0124 ∨ v.e.etype = 0x0125 ∨ v.e.etype = 0x0191 ∨ v.e.etype = 0x01A1) ∧ 0 < o.srcHold ∧ n.st.srcHold = 0
        then s.elemSet i.val v n { o with srcHold := 0 } f else s) ∧
    ∀ p : Fin 3,
      exec (.flangeOperate i p) s = .next (if v.curve = true ∧ at! n.flu.acc p.val = fluFS ∧ at! f.acc p.val ≠ fluFS
        then s.elemSet i.val v n { o with op := o.op || at! n.st.opP p.val, opP := setAt o.opP p.val (at! n.st.opP p.val), ttt := n.st.ttt }
          { f with acc := setAt f.acc p.val (at! n.flu.acc p.val), ctr := setAt f.ctr p.val (at! n.flu.ctr p.val)
                   st := setAt f.st p.val (at! n.flu.st p.val) } else s) ∧
      exec (.flangeDefiniteReset i p) s = .next (if v.curve = true ∧ at! f.st p.val = 2 ∧ at! n.flu.st p.val = 0
        then s.elemSet i.val v n o { f with acc := setAt f.acc p.val 0, ctr := setAt f.ctr p.val 0, st := setAt f.st p.val 0 } else s) ∧
      exec (.flangeInverseResetDone i p) s = .next (if v.curve = true ∧ at! f.st p.val = 3 ∧ at! n.flu.st p.val = 0
        then s.elemSet i.val v n o
          { f with acc := setAt f.acc p.val (at! n.flu.acc p.val), ctr := setAt f.ctr p.val (at! n.flu.ctr p.val)
                   st := setAt f.st p.val 0 } else s)

/-- For a slot in use, with the inputs of its next pass: trip minimum with open confirmed leaves Tripping; trip maximum
fails the slot; the end of the dead time closes with permission and locks out after the wait without; close maximum
leads to lockout from a reclose and to Open otherwise, with alarm bit 1; reclaim ends in Ready with shot 0. A position
that stays intermediate or bad for TDISC raises alarm bit 2, retrip sets, and bf_trip sets with alarm bit 5 and trips
the backup slot in class XL, in the modes that drive; a slot in mode Off runs no sequence. Where the event is not there nothing
changes (log entry 4). -/
def Obligations.BreakerSlotEventsTakeEffect : Prop :=
  ∀ (s : State) (k : Fin 64) (x : SlotIn), s.slotIn k.val = some x →
    let y := at! s.slots k.val
    exec (.tripMinimumExpiry k) s = .next (if x.mode ≠ 5 ∧ y.state = 2 ∧ x.active = false ∧ x.ttmin ≤ y.tmr + 1 ∧ x.openConf = true
      then s.slotSet k.val x (tripEnd x y) [] else s) ∧
    exec (.tripMaximumExpiry k) s = .next (if x.mode ≠ 5 ∧ y.state = 2 ∧ (x.active = true ∨ x.openConf = false) ∧ x.ttmax ≤ y.tmr + 1
      then s.slotSet k.val x { y.enter 7 with retrip := false } [] else s) ∧
    exec (.deadTimeExpiry k) s = .next (if x.mode ≠ 5 ∧ y.state = 4 ∧ x.active = false ∧ x.isOn = false ∧ x.blk79 = false ∧
        x.td y.shot + (if x.recOk = true then 0 else x.n 11) ≤ y.tmr + 1
      then s.slotSet k.val x (if x.recOk = true then { y.enter 3 with recl := true, manual := false } else y.enter 6) [] else s) ∧
    exec (.closeMaximumExpiry k) s = .next (if x.mode ≠ 5 ∧ y.state = 3 ∧ x.active = false ∧ x.isOn = false ∧ x.tclmax ≤ y.tmr + 1
      then s.slotSet k.val x ((y.enter (if y.recl = true then 6 else 0)).setAl 1 true) [] else s) ∧
    exec (.reclaimExpiry k) s = .next
      (if x.mode ≠ 5 ∧ y.state = 5 ∧ x.active = false ∧ (if y.manual = true then x.n 10 else x.n 9) ≤ y.tmr + 1
      then s.slotSet k.val x { y.enter 1 with shot := 0 } [] else s) ∧
    exec (.positionDiscrepancy k) s = .next (if (x.pos = 0 ∨ x.pos = 3) ∧ x.n 18 ≤ y.disc then s.slotSet k.val x (y.setAl 2 true) [] else s) ∧
    exec (.retripSet k) s = .next (if (bfStep x (x.bfInit y) y).retrip = true ∧ y.retrip = false
      then s.slotSet k.val x { y with retrip := true, trigOn := true } [] else s) ∧
    let t := s.slotSet k.val x { y.setAl 5 true with bfTrip := true, bfHold := 0, bfNew := true } []
    let due := x.mode ≠ 5 ∧ (bfStep x (x.bfInit y) y).bfTrip = true ∧ y.bfTrip = false
    (¬due → exec (.breakerFailureTrip k) s = .next s) ∧
    (due → x.mode = 2 ∨ x.mode = 4 ∨ x.e.bft = [] → exec (.breakerFailureTrip k) s = .next t) ∧
    ∀ (j : Nat) (z : SlotIn), due → x.mode ≠ 2 → x.mode ≠ 4 → x.e.bft = [j] → t.slotIn j = some z →
      exec (.breakerFailureTrip k) s = .next (t.slotSet j z (backupTrip z (at! t.slots j)) [])

/-- At the end of Tripping: a manual trip leads to Open with shot 0; a trip in the dead time, one of class PL or XL, and
one of class P or PL of a slot closed onto a fault by hand lead to Lockout; a trip of class P with 79 enabled, from
Closed or from Reclaim after a reclose, with shots left and no block leads to Dead time, another of class P with 79
enabled to Lockout and without it to Open; a trip of class X leads to Open. Every such end resets the state's timer
and lets go of the trip output. A backup trip brings a slot to Tripping in class XL, or raises the class of one that
trips already; a failed slot stays as it is, and so does one in mode Off. -/
def Obligations.TrippingEndsByClass : Prop :=
  (∀ (x : SlotIn) (y : SlotState), (tripEnd x y).tmr = 0 ∧ (tripEnd x y).trip = false ∧ (tripEnd x y).close = false ∧
    ((tripEnd x y).state = 0 ∨ (tripEnd x y).state = 4 ∨ (tripEnd x y).state = 6) ∧
    (y.tclass = 5 → (tripEnd x y).state = 0 ∧ (tripEnd x y).shot = 0) ∧
    (y.tclass ≠ 5 → (tripEnd x y).shot = y.shot) ∧
    (y.tclass ≠ 5 → y.from_ = 4 ∨ y.tclass = 2 ∨ y.tclass = 4 → (tripEnd x y).state = 6) ∧
    (y.tclass = 1 → y.from_ = 5 → y.manual = true → (tripEnd x y).state = 6) ∧
    ((tripEnd x y).state = 4 ↔ y.tclass = 1 ∧ x.n 0 = 1 ∧ (y.from_ = 1 ∨ y.from_ = 5 ∧ y.manual = false) ∧ y.shot < x.c 4 ∧ x.blk79 = false) ∧
    (y.tclass = 1 → x.n 0 ≠ 1 → y.from_ ≠ 4 → ¬(y.from_ = 5 ∧ y.manual = true) → (tripEnd x y).state = 0) ∧
    (y.tclass = 1 → x.n 0 = 1 → (tripEnd x y).state = 4 ∨ (tripEnd x y).state = 6) ∧
    (y.tclass = 3 → y.from_ ≠ 4 → (tripEnd x y).state = 0)) ∧
  ∀ (x : SlotIn) (y : SlotState), (y.state = 7 ∨ x.mode = 5 → backupTrip x y = y) ∧ (y.state ≠ 7 → x.mode ≠ 5 →
    (backupTrip x y).state = 2 ∧ (y.state ≠ 2 → (backupTrip x y).tclass = 4 ∧
      (backupTrip x y).from_ = y.state ∧ (backupTrip x y).trips = y.trips + 1 ∧ (backupTrip x y).tmr = 0) ∧
    (y.state = 2 → backupTrip x y = { y with tclass := clsMax y.tclass 4 }))

/-- A selection that has lasted TSEL is dropped with result 7 and its record of kind 0x0003. A commanded operation
terminates with result 8 where the wanted position comes before its maximum expires, and with result 9 once it has; a close that
an operator has brought about ends the slot's wait for restoration. The bus-blocking
extension and the intertrip pulse end in their last tick. A load-shed stage whose evaluation starts its restoration,
or takes its next step, asks its lowest open slot to close and skips slots that are no longer open, each with its
record. Where the event is not there nothing changes (log entry 4). -/
def Obligations.ControlsAndSchemesTakeEffect : Prop :=
  (∀ (s : State) (k : Fin 64) (x : SlotIn), s.slotIn k.val = some x →
    let y := at! s.slots k.val
    exec (.selectionTimeout k) s = .next (if y.sel ≠ 0 ∧ x.n 17 ≤ y.selTmr + 1
      then s.slotSet k.val x { y with sel := 0, selBy := 0, selTmr := 0, cmdRes := 7 } [(ctlEvent k.val 7 y.selBy, y.selTo)] else s) ∧
    (y.ctls = [] → exec (.controlTermination k) s = .next s) ∧
    ∀ c : CtlPend, y.ctls = [c] →
      let due := (if c.value = 2 then x.tclmax else x.ttmax) ≤ c.tmr
      let there := (if c.value = 2 then x.isOn else x.isOff) = true
      (due → exec (.controlTermination k) s = .next (s.slotSet k.val x { y with ctls := [], cmdRes := 9 } [(ctlEvent k.val 9 c.by_, c.reply)])) ∧
      (¬due → there → exec (.controlTermination k) s = .next
        (s.slotSet k.val x { y with ctls := [], cmdRes := 8, shed := y.shed && c.value != 2 } [(ctlEvent k.val 8 c.by_, c.reply)])) ∧
      (¬due → ¬there → exec (.controlTermination k) s = .next s)) ∧
  (∀ (s : State) (i : Fin 8), exec (.busBlockingExtensionExpiry i) s = .next
    (if i.val < s.block.busBlocks.length ∧ (bbStep 1 s.sig (at! s.block.busBlocks i.val) (at! s.schemes.bbExt i.val)).2 = 0
      then { s with schemes := { s.schemes with bbExt := s.schemes.bbExt.modify i.val (fun _ => 0) } } else s)) ∧
  (∀ (s : State) (i : Fin 32), exec (.intertripPulseExpiry i) s = .next
    (if at! s.schemes.itLeft i.val ≤ 1 then { s with schemes := { s.schemes with itLeft := s.schemes.itLeft.modify i.val (fun _ => 0) } } else s)) ∧
  ∀ (s : State) (i : Fin 16) (b : Block) (e : ShedStage), s.blk = some b → b.sheds[i.val]? = some e →
    let o := at! s.schemes.shed i.val
    let h := (b.sheds.zipIdx).any (fun h => decide (i.val < h.2) && h.1.rflags.testBit 0 && !(shedLeft h.1 s.slots).isEmpty)
    let r := shedStep s.sig e h s.slots o
    let t : State := { s with
      schemes := { s.schemes with shed := s.schemes.shed.modify i.val (fun _ => r.1) }
      slots := r.2.2.2.foldl (fun l j => l.modify j (fun y => { y with shed := false })) s.slots
      evr := { s.evr with tickEv := s.evr.tickEv ++ r.2.2.2.map (fun j => { kind := 4, subject := j, value := i.val, rflags := 1 }) } }
    let asks := r.1.on = true ∧ r.1.since = 0
    (¬asks → exec (.loadShedRestorationStart i) s = .next s ∧ exec (.loadShedRestoreStep i) s = .next s) ∧
    (asks → r.2.2.1 = none → exec (.loadShedRestorationStart i) s = .next (if o.on = true then s else t) ∧
      exec (.loadShedRestoreStep i) s = .next (if o.on = true then t else s)) ∧
    ∀ (j : Nat) (free : Bool) (x : SlotIn), asks → r.2.2.1 = some (j, free) → t.slotIn j = some x →
      let n := closeResult x none free false (at! t.slots j)
      let y : SlotState := { at! t.slots j with cmdRes := n, shed := false }
      let u := t.slotSet j x (if n = 1 then closeStart y else y)
        (([ctlEvent j n 0] ++ (if n = 1 then [] else [skipEvent i.val j])).map (fun e => (e, .none)))
      exec (.loadShedRestorationStart i) s = .next (if o.on = true then s else u) ∧
      exec (.loadShedRestoreStep i) s = .next (if o.on = true then u else s)

/-- RECORD_CLOSE of the record that a plan runs, at or after its end tick, closes it as complete with the space it uses
and frees the plan; before that nothing changes. SNIPPET_COPY copies the snippets of a lane that are due, in the
record that the plan runs. DRC_STORAGE_ERROR takes a block whose write fails out of use, once, and of a frame block that
cannot be read its frames read as missing and FLAGS bit 5 of the record sets. EXPORT_COMPLETE of a running export job
ends the job with FINAL 0 and its files' result and marks its record as exported; of no such job nothing changes. -/
def Obligations.RecordersTakeEffect : Prop :=
  (∀ (s : State) (p : Fin 16) (r : DrcRec), s.drc.running p.val = some r →
    (r.state = 1 → r.endLtc ≤ s.logic.ltc → exec (.recordClose p) s = .next { s with drc := { s.drc with
      recs := s.drc.recs.map (fun q => if q.recno = r.recno then { q with state := 2, kib := Nat.min q.kib q.usedKib } else q)
      plans := s.drc.plans.modify p.val (fun x => { x with run := none }) } }) ∧
    (s.logic.ltc < r.endLtc → exec (.recordClose p) s = .next s) ∧
    ∀ l : Fin 16, exec (.snippetCopy p l) s = .next { s with drc := { s.drc with
      recs := s.drc.recs.map (fun q => if q.recno = r.recno then { q with snips := q.snips.map (fun n =>
        if n.lane = l.val ∧ n.due (at! s.afe.lanes l.val) = true then copySnip n (at! s.afe.lanes l.val) else n) } else q) } }) ∧
  (∀ (s : State) (k : Nat), exec (.drcStorageError (.write k)) s = .next
    (if k ∈ s.drc.bad then s else { s with drc := { s.drc with bad := s.drc.bad ++ [k] } })) ∧
  (∀ (s : State) (no k n : Nat), ∃ f : DrcRec → DrcRec, exec (.drcStorageError (.read no k n)) s = .next { s with drc := { s.drc with
      recs := s.drc.recs.map (fun r => if r.recno = no then f r else r) } } ∧
    ∀ r, f r = { r with gone := (f r).gone, flags := r.flags ||| 0x20, badBlks := r.badBlks + 1 } ∧
      ∀ i, i ∈ (f r).gone ↔ i ∈ r.gone ∨ (k ≤ i ∧ i < k + n ∧ i < r.frames.length)) ∧
  (∀ (s : State) (n : Nat) (j : Job), s.running.find? (fun j => j.no == n && j.opcode == 0x0803) = some j → ∃ t result,
    exec (.exportComplete n) s = .next t ∧ t = { s with drc := t.drc, svc := t.svc, hpi := t.hpi } ∧
    t.drc = { s.drc with recs := s.drc.recs.map (fun r => if r.recno = j.recno then { r with exporting := false, exported := true } else r) } ∧
    t.svc = { s.svc with jobs := s.svc.jobs.map (fun j =>
      if j.no = n ∧ j.state = 1 then { j with state := 2, final := 0, result := result, endedAt := s.tsu.statTick } else j) } ∧
    t.hpi = { s.hpi with evt := s.hpi.evt ||| 8 }) ∧
  ∀ (s : State) (n : Nat), (∀ j ∈ s.svc.jobs, j.no = n → j.state = 1 → j.opcode ≠ 0x0803) → exec (.exportComplete n) s = .next s

/-- In a tick whose index is a multiple of the nominal cycle, FAULT_LOCATOR_LATCH of an enabled locator with no location
pending and none computed in that tick moves its latest latch back and takes the present phasors. FAULT_LOCATION of a pending
location whose tick has come computes it, a breaker that reads open or no current by then with it, writes its points, joins its result to the running records of plans that name the bay, and leaves no
location pending. WAVEFRONT_LOCATION in the active engine queues the writes of the distance, where there is one, of
the result and of the record number for the next tick; in an engine that does not drive it changes nothing. -/
def Obligations.LocatorsTakeEffect : Prop :=
  (∀ (s : State) (y : Fin 48) (b : Block), s.blk = some b → exec (.faultLocatorLatch y) s = .next
    (if (at! b.fls y.val).en = true ∧ (at! s.drc.fls y.val).pend = none ∧ (at! s.drc.fls y.val).la.ltc ≠ some s.logic.ltc ∧
        (at! s.drc.fls y.val).doneAt ≠ some s.logic.ltc ∧ s.tsu.id.k % (9600 / b.fnom) = 0
      then { s with drc := { s.drc with fls := s.drc.fls.set y.val { (at! s.drc.fls y.val : FlState) with
        lb := (at! s.drc.fls y.val).la, la := flRead b s.sig y.val (at! b.fls y.val) s.logic.ltc } } } else s)) ∧
  (∀ (s : State) (y : Fin 48) (b : Block) (pd : FlPend), s.blk = some b → (at! s.drc.fls y.val).pend = some pd →
    let r := flLocate b s.sig y.val (at! b.fls y.val) pd.nf (Config.flLoop s.logic.ltc y.val)
      { (at! s.drc.fls y.val : FlState) with pend := some { pd with cut := pd.cut || flCut b s.sig y.val } }
    (pd.nf ≤ s.logic.ltc + 1 → exec (.faultLocation y) s = .next { s with
      drc := { s.drc with
        fls := s.drc.fls.set y.val { (at! s.drc.fls y.val : FlState) with pend := none, doneAt := some pd.nf }
        recs := s.drc.recs.map (fun q => if q.state = 1 then { q with fls := q.fls ++ r.2.2.filter (fun x => q.entry.bays.getLsbD x.bay) } else q) }
      sig := s.sig.writes s.tsu.id r.2.1
      free := s.free + 1 }) ∧
    (s.logic.ltc + 1 < pd.nf → exec (.faultLocation y) s = .next s)) ∧
  (∀ (s : State) (y : Fin 48) (b : Block), s.blk = some b → (at! s.drc.fls y.val).pend = none → exec (.faultLocation y) s = .next s) ∧
  (∀ (s : State) (y : Fin 48) (n : Nat) (b : Block) (q : DrcRec), s.blk = some b → s.drc.rec_ n = some q → s.drives = true →
    (wfFits b y.val (at! b.fls y.val) q = false → exec (.wavefrontLocation y n) s = .next s) ∧
    (wfFits b y.val (at! b.fls y.val) q = true → ∃ t, exec (.wavefrontLocation y n) s = .next t ∧ t = { s with svc := t.svc, out := t.out } ∧
      let res := wfLocate b y.val (at! b.fls y.val) q
      t.svc.acts = s.svc.acts ++
        ((if res.1 = 1 then [(8, vReal res.2)] else []) ++ [(9, vEnum res.1), (10, vNat n)]).map (fun (w : Nat × BitVec 64) =>
          { act := .pointWrite (flBase y.val + w.1) w.2, ntick := s.logic.ltc + 1 }))) ∧
  ∀ (s : State) (y : Fin 48) (n : Nat), s.drives = false → exec (.wavefrontLocation y n) s = .next s

/-- A cyclic task that is due and not busy takes its staged image and starts a cycle with empty working state; one that is
busy has its release skipped, with cause 0x10, the alarm for 1 s and a record of kind 0x0010, or its cycle abandoned
after MAXREL periods and released afresh, with cause 0x11 and a record of kind 0x0011. The event task is released when
its trigger fired, and keeps one release pending while it is busy. The error task takes the queued causes into its
image. TASK_COMPLETE of a cycle that waits for phase E writes the points of its output list and keeps its private
state. -/
def Obligations.LogicTasksTakeEffect : Prop :=
  (∀ (s : State) (t : Fin 10) (b : Block), s.blk = some b →
    let e := at! b.tasks t.val
    let x := at! s.logic.tasks t.val
    let due := dueAt e s.logic.ltc = true
    let late := e.maxrel ≠ 0 ∧ x.relLtc + e.maxrel * e.period ≤ s.logic.ltc
    exec (.taskRelease t) s = .next { s with
      logic := if due ∧ x.busy = false then { s.logic with tasks := s.logic.tasks.modify t.val (fun x =>
          { x with st := 2, image := x.staging, relLtc := s.logic.ltc, pend := false
                   work := { outs := x.outs, timers := x.timers, edges := x.edges, counters := x.counters, vars := x.vars } }) } else s.logic
      evr := { s.evr with tickEv := s.evr.tickEv ++ [] } } ∧
    (due → x.busy = true → ¬late → ∃ r, exec (.releaseSkipped t) s = .next { s with
      logic := { s.logic with
        tasks := s.logic.tasks.modify t.val (fun x => { x with skip := true, skipped := x.skipped + 1 }), overrun := 9600
        causes := s.logic.causes ++ [{ code := 0x10, task := t.val, subj := 0 }] }
      evr := { s.evr with tickEv := s.evr.tickEv ++ [r] } } ∧ r.kind = 0x10 ∧ r.subject = t.val) ∧
    (due → x.busy = true → late → ∃ lg r, exec (.cycleAbandoned t) s = .next { s with
      logic := lg, evr := { s.evr with tickEv := s.evr.tickEv ++ [r] } } ∧ r.kind = 0x11 ∧ r.subject = t.val ∧ r.value = x.relLtc ∧
      lg = { s.logic with tasks := lg.tasks, work := lg.work, cur := lg.cur, causes := s.logic.causes ++ [{ code := 0x11, task := t.val, subj := 0 }] } ∧
      lg.tasks = s.logic.tasks.modify t.val (fun x => releaseTask s.logic.ltc { x with st := 1, aband := true, abandN := x.abandN + 1, work := {} }) ∧
      ∀ c ∈ lg.cur, c ≠ some t.val) ∧
    (¬due ∨ x.busy = false → exec (.releaseSkipped t) s = .next { s with evr := { s.evr with tickEv := s.evr.tickEv ++ [] } } ∧
      exec (.cycleAbandoned t) s = .next { s with evr := { s.evr with tickEv := s.evr.tickEv ++ [] } }) ∧
    (x.st = 4 → exec (.taskComplete t) s = .next { s with
      logic := { s.logic with tasks := s.logic.tasks.modify t.val (fun x => { x with
        st := 1, skip := false, aband := false, cycles := x.cycles + 1, doneLtc := s.logic.ltc, maxChg := Nat.max x.maxChg x.work.charge
        maxDur := Nat.max x.maxDur (s.logic.ltc - x.relLtc + 1), timers := x.work.timers, edges := x.work.edges
        counters := x.work.counters, vars := x.work.vars, outs := x.work.outs, work := {} }) }
      sig := s.sig.writes s.tsu.id ((x.work.outs.filter (fun o => e.outs.contains o.1)).map (fun o =>
        { idx := o.1, value := o.2.1, qual := o.2.2 })) }) ∧
    (x.st ≠ 4 → exec (.taskComplete t) s = .next s)) ∧
  (∀ (s : State) (b : Block) (e : TaskEntry), s.blk = some b → b.tasks.zipIdx.filter (fun e => e.1.kind == 2) = [(e, 8)] →
    let x := at! s.logic.tasks 8
    ∃ t, exec .eventTaskRelease s = .next t ∧ t = { s with logic := { s.logic with tasks := t.logic.tasks }, evr := t.evr } ∧
      t.evr = { s.evr with tickEv := s.evr.tickEv ++ [] } ∧
      (x.busy = false → x.pend = true ∨ eventFires x = true → t.logic.tasks = s.logic.tasks.modify 8 (fun x =>
        releaseTask s.logic.ltc { x with skipped := if x.pend = true ∧ eventFires (at! s.logic.tasks 8) = true then x.skipped + 1 else x.skipped })) ∧
      (x.busy = true → eventFires x = true → t.logic.tasks = s.logic.tasks.modify 8 (fun x =>
        if x.pend = true then { x with skipped := x.skipped + 1 } else { x with pend := true })) ∧
      (eventFires x = false → x.busy = true ∨ x.pend = false → t.logic.tasks = s.logic.tasks)) ∧
  ∀ (s : State) (b : Block), s.blk = some b → (at! b.tasks 9).kind = 3 → s.logic.errQ ≠ [] →
    exec .errorTaskRelease s = .next { s with
      logic := if (at! s.logic.tasks 9).busy = true then { s.logic with tasks := s.logic.tasks.modify 9 (fun x => { x with pend := true }) }
        else { s.logic with errQ := [], tasks := s.logic.tasks.modify 9 (fun x =>
          releaseTask s.logic.ltc { x with staging := errImage s.logic.errQ x.staging }) }
      evr := { s.evr with tickEv := s.evr.tickEv ++ [] } }

/-- On the running cycle of a bit-logic unit: LD, AND, OR and XOR combine ACC with the operand, which is the point's bit,
inverted under MOD bit 0 and false under MOD bit 1 where it is bad; ST writes ACC (inverted under MOD bit 0) to the
working copy with validity good; SET and RST write only where ACC is true; LDK takes a constant; ANDB and ORB push ACC
with their operation, of at most 16 entries, and load the operand; CLB combines the pushed value with ACC. Each
charges one cycle and moves to the next word, and changes nothing but its unit's working state. -/
def Obligations.BitLogicTakesEffect : Prop :=
  (∀ (s : State) (u : Fin 2) (v : CycleEnv) (m : BitVec 4) (i : BitVec 20), s.cycle u.val = some v → (at! s.logic.work (2 + u.val)).done = false →
    let run (f : Work → Work) : Host.Outcome State Fault Refusal :=
      .next (s.work (2 + u.val) (fun w => { f w with pc := w.pc + 1, charge := w.charge + 1 }))
    exec (.bluNop u m i) s = run id ∧
    exec (.bluLd u m i) s = run (fun w => { w with acc := bluOperand v w m i.toNat }) ∧
    exec (.bluSt u m i) s = run (fun w => cycWrite w i.toNat (vBool (w.acc != m.getLsbD 0)) 0) ∧
    exec (.bluAnd u m i) s = run (fun w => { w with acc := w.acc && bluOperand v w m i.toNat }) ∧
    exec (.bluOr u m i) s = run (fun w => { w with acc := w.acc || bluOperand v w m i.toNat }) ∧
    exec (.bluXor u m i) s = run (fun w => { w with acc := w.acc != bluOperand v w m i.toNat }) ∧
    exec (.bluSet u m i) s = run (fun w => if w.acc then cycWrite w i.toNat 1 0 else w) ∧
    exec (.bluRst u m i) s = run (fun w => if w.acc then cycWrite w i.toNat 0 0 else w) ∧
    exec (.bluLdk u m i) s = run (fun w => { w with acc := decide (i = 1) }) ∧
    exec (.bluAndb u m i) s = run (fun w => { w with stack := ((w.acc, false) :: w.stack).take 16, acc := bluOperand v w m i.toNat }) ∧
    exec (.bluOrb u m i) s = run (fun w => { w with stack := ((w.acc, true) :: w.stack).take 16, acc := bluOperand v w m i.toNat }) ∧
    exec (.bluClb u m i) s = run (fun w => match w.stack with
      | (x, true) :: t => { w with stack := t, acc := x || w.acc }
      | (x, false) :: t => { w with stack := t, acc := x && w.acc }
      | [] => w)) ∧
  (∀ (w : Work) (v : CycleEnv) (i j : Nat) (x : BitVec 64) (q : BitVec 16),
    cycRead v (cycWrite w i x q) i = (x, q, v.typ i) ∧ (j ≠ i → cycRead v (cycWrite w i x q) j = cycRead v w j)) ∧
  ∀ (w : Work) (v : CycleEnv) (m : BitVec 4) (i : Nat), (cycRead v w i).2.2 ≠ 2 →
    bluOperand v w m i = if m.getLsbD 1 = true ∧ qBad (cycRead v w i).2.1 = true then false else ((cycRead v w i).1.getLsbD 0 != m.getLsbD 0)

/-- On the running cycle of a bit-logic unit: LDV, LDQ and LDS load whether the point is good, usable, or forced or from
an estimate; TON, TOF and TP evaluate their timer at the release's LTC with ACC as input and load its Q; REDGE and
FEDGE load the edge of ACC and remember it; CTU counts a rising ACC up to its limit and loads whether PV is reached;
CRS clears the count where ACC is true; JC and JNC skip forward where ACC is true or false, uncharged. END takes the
cycle off its unit, to commit in phase E. -/
def Obligations.BitLogicBlocksTakeEffect : Prop :=
  (∀ (s : State) (u : Fin 2) (v : CycleEnv) (m : BitVec 4) (i : BitVec 20), s.cycle u.val = some v → (at! s.logic.work (2 + u.val)).done = false →
    let run (f : Work → Work) : Host.Outcome State Fault Refusal :=
      .next (s.work (2 + u.val) (fun w => { f w with pc := (f w).pc + 1, charge := w.charge + 1 }))
    let n := i.toNat
    exec (.bluLdv u m i) s = run (fun w => { w with acc := qGood (cycRead v w n).2.1 }) ∧
    exec (.bluLdq u m i) s = run (fun w => { w with acc := qOk (cycRead v w n).2.1 }) ∧
    exec (.bluLds u m i) s = run (fun w => { w with acc := (cycRead v w n).2.1.getLsbD 10 || (cycRead v w n).2.1.getLsbD 7 }) ∧
    exec (.bluTon u m i) s = run (fun w => let r := tonEval (at! v.prog.timers n).preset v.L w.acc (at! w.timers n)
      { w with timers := setAt w.timers n r.2, acc := r.1 }) ∧
    exec (.bluTof u m i) s = run (fun w => let r := tofEval (at! v.prog.timers n).preset v.L w.acc (at! w.timers n)
      { w with timers := setAt w.timers n r.2, acc := r.1 }) ∧
    exec (.bluTp u m i) s = run (fun w => let r := tpEval (at! v.prog.timers n).preset v.L w.acc (at! w.timers n)
      { w with timers := setAt w.timers n r.2, acc := r.1 }) ∧
    exec (.bluRedge u m i) s = run (fun w => { w with edges := setAt w.edges n (redgeEval w.acc (at! w.edges n)).2
                                                      acc := (redgeEval w.acc (at! w.edges n)).1 }) ∧
    exec (.bluFedge u m i) s = run (fun w => { w with edges := setAt w.edges n (fedgeEval w.acc (at! w.edges n)).2
                                                      acc := (fedgeEval w.acc (at! w.edges n)).1 }) ∧
    exec (.bluCtu u m i) s = run (fun w => let r := ctuEval (at! v.prog.counters n).preset w.acc (at! w.counters n)
      { w with counters := setAt w.counters n r.2, acc := r.1 }) ∧
    exec (.bluCrs u m i) s = run (fun w => if w.acc then { w with counters := w.counters.modify n (fun c => { c with cv := 0 }) } else w) ∧
    exec (.bluJc u m i) s = run (fun w => if w.acc then { w with pc := w.pc + n } else w) ∧
    exec (.bluJnc u m i) s = run (fun w => if w.acc then w else { w with pc := w.pc + n })) ∧
  (∀ (s : State) (u : Fin 2) (m : BitVec 4) (i : BitVec 20) (b : Block) (t : Nat), s.blk = some b → at! s.logic.cur (2 + u.val) = some t →
    2 + u.val < s.logic.work.length → let w := at! s.logic.work (2 + u.val)
    exec (.bluEnd u m i) s = .next { s with logic := { s.logic with
      tasks := s.logic.tasks.modify t (fun x => { x with st := 4, work := { w with pc := w.pc + 1, charge := w.charge + 1, done := true } })
      cur := setAt s.logic.cur (2 + u.val) none, work := setAt s.logic.work (2 + u.val) {} } }) ∧
  (∀ (input : Bool) (it : ItemState), (redgeEval input it).1 = (input && !it.m) ∧ (redgeEval input it).2.m = input ∧
    (fedgeEval input it).1 = (!input && it.m) ∧ (fedgeEval input it).2.m = input) ∧
  ∀ (pv : Nat) (input : Bool) (it : ItemState), (ctuEval pv input it).2.cv = (if input && !it.prevIn then Nat.min (it.cv + 1) (2 ^ 32 - 1) else it.cv) ∧
    (ctuEval pv input it).1 = decide (pv ≤ (ctuEval pv input it).2.cv) ∧ (ctuEval pv input it).2.prevIn = input

/-- With a single action waiting: one named for a later tick than the coming one stays and nothing changes; one that is
due leaves the queue, is held for its answer in phase F, raises a record of kind 0x0002, and acts: a force release, or a
set of a point that may still be forced, on the signal space (another set does nothing more), a group, mode, simulation or point write at its point with the coming tick's identity, a
control as a request at its slot, a trigger at its plan. Nothing else changes. -/
def Obligations.QueuedActionsTakeEffect : Prop :=
  ∀ (s : State) (x : Action), s.svc.acts = [x] →
    (s.logic.ltc + 1 < x.ntick → exec .commandActionApply s = .next s) ∧
    (x.ntick ≤ s.logic.ltc + 1 →
      let id := gridId (nextGrid s.tsu) s.tsu.gen
      let s0 : State := { s with
        svc := { s.svc with acts := [] }, done := s.done ++ [x]
        evr := { s.evr with actEv := s.evr.actEv ++ [{ kind := 0x02, rflags := 1, subject := x.opcode, arg := BitVec.ofNat 128 (x.keyId % 2 ^ 32 + 2 ^ 32 * (x.session % 2 ^ 32) + 2 ^ 64 * x.ntick) }] } }
      (∀ p, x.act = .forceRelease p → exec .commandActionApply s = .next { s0 with sig := forceReleaseAll p s.sig }) ∧
      (∀ p q v, x.act = .forceSet p q v →
        (forceable s.block p = true →
          exec .commandActionApply s = .next { s0 with sig := forceSet id (s.logic.ltc + 1) p q v x.session s.sig }) ∧
        (forceable s.block p = false → exec .commandActionApply s = .next s0)) ∧
      (∀ g, x.act = .groupSwitch g → exec .commandActionApply s = .next { s0 with sig := s.sig.writes id [wE 0x63402 g] }) ∧
      (∀ n m, x.act = .modeSet n m → exec .commandActionApply s = .next { s0 with sig := s.sig.writes id [wE (modePt n) m] }) ∧
      (∀ on, x.act = .simSet on → exec .commandActionApply s = .next { s0 with sig := s.sig.writes id [wB 0x63403 on] }) ∧
      (∀ p v, x.act = .pointWrite p v → exec .commandActionApply s = .next { s0 with
        sig := s.sig.write id { idx := p, value := fitValue (s.sig.rd p).typ v }, fio := fioControl p v s.fio }) ∧
      (∀ k v by_ t d, x.act = .ctlOperate k v by_ t d → exec .commandActionApply s = .next { s0 with slots := s.slots.modify k (fun y =>
        { y with reqs := y.reqs ++ [{ kind := 1, value := v, by_ := by_, test := t, reply := x.reply, direct := d }] }) }) ∧
      (∀ k v by_ t, x.act = .ctlSelect k v by_ t → exec .commandActionApply s = .next { s0 with slots := s.slots.modify k (fun y =>
        { y with reqs := y.reqs ++ [{ kind := 0, value := v, by_ := by_, test := t, reply := x.reply }] }) }) ∧
      (∀ k by_, x.act = .ctlCancel k by_ → exec .commandActionApply s = .next { s0 with slots := s.slots.modify k (fun y =>
        { y with reqs := y.reqs ++ [{ kind := 2, by_ := by_ }] }) }) ∧
      (∀ k n, x.act = .slotReset k n → exec .commandActionApply s = .next { s0 with slots := s.slots.modify k (fun y =>
        { y with reqs := y.reqs ++ [{ kind := 3, value := n }] }) }) ∧
      ∀ p, x.act = .drcTrigger p → exec .commandActionApply s = .next { s0 with
        drc := { s.drc with plans := s.drc.plans.modify p (fun y => { y with manual := true }) } })

/-- A selector that has changed to 1 to 8 switches the group, another new value is counted, an unchanged one does nothing.
HOOD_SWAP_APPLY of a Hood armed for the coming tick swaps it: the running configuration holds its tasks, programs and
points, the chain gains it, its mark is due within 9,600 ticks, it is no longer armed; one armed for later stays.
BLOCK_ACTIVATION_APPLY of a Block prepared for the coming tick makes it current and running, the former current
previous. The mark and the directory are then written, once. A clear that is due leaves only its record, which takes
the next sequence number, at position 0; the erase ends; the recovery clears the path's failure. -/
def Obligations.ConfigurationTakesEffect : Prop :=
  (∀ (s : State) (p : Nat) (old : Int), s.block.selector = some p → s.logic.selLast = some old →
    let n := selValue s.sig p
    (n = old → exec .selectorGroupSwitch s = .next s) ∧
    (n ≠ old → 1 ≤ n → n ≤ 8 → exec .selectorGroupSwitch s =
      .next { s with
        logic := { s.logic with selLast := some n }
        sig := s.sig.writes (gridId (nextGrid s.tsu) s.tsu.gen) [wE 0x63402 n] }) ∧
    (n ≠ old → n < 1 ∨ 8 < n → exec .selectorGroupSwitch s =
      .next { s with logic := { s.logic with selLast := some n, selIgn := s.logic.selIgn + 1 } })) ∧
  (∀ (s : State) (m : Nat) (h : Hood) (b : Block), s.hood.armed = some m → s.hood.held = some h → s.blk = some b →
    (s.logic.ltc + 1 < m → exec .hoodSwapApply s = .next s) ∧
    (m ≤ s.logic.ltc + 1 → ∃ t, exec .hoodSwapApply s = .next t ∧ t.blk = some (hoodBlock b h) ∧ t.hood.chain = s.hood.chain ++ [h] ∧
      t.hood.armed = none ∧ t.hood.held = none ∧ t.hood.lastS = s.logic.ltc + 1 ∧ t.hood.marks = s.hood.marks ++ [s.logic.ltc + 1 + 9600] ∧
      t.sig = (newMap (hoodBlock b h)).remap (fun _ => true) s.sig ∧ t.logic.ltc = s.logic.ltc ∧
      (∃ r ∈ t.evr.tickEv, r.kind = 0x12 ∧ r.arg = h.hoodId) ∧
      t.store = s.store.keep t.hood.chain t.hood.marked ∧
      t = { s with blk := t.blk, logic := t.logic, sig := t.sig, hood := t.hood, store := t.store, evr := { s.evr with tickEv := t.evr.tickEv } })) ∧
  (∀ (x : Store) (l : List Hood) (n : Nat), (x.keep l n).cur = x.cur ∧ (x.curAt.isSome = true → ((x.keep l n).slot x.curAt).chain = l ∧ ((x.keep l n).slot x.curAt).marked = n)) ∧
  (∀ s : State, exec .hoodAppliedMark s = .next (if s.hood.marks.isEmpty = true
    then s else { s with hood := { s.hood with marked := s.hood.chain.length, marks := [] }, store := s.store.keep s.hood.chain s.hood.chain.length })) ∧
  (∀ (s : State) (a : Activation), s.store.act = some a →
    (∀ n, a.at_ = some n → n ≤ s.logic.ltc + 1 → ∃ t, exec .blockActivationApply s = .next t ∧ t.blk = some a.blk ∧ t.store.cur = (if a.prev = true then s.store.prev else some a.blk) ∧
      t.store.prev = s.store.cur ∧ t.store.act = none ∧ t.store.dirDue = some (s.logic.ltc + 1 + 9600) ∧ t.life.blockOk = true ∧
      t.hood = { s.hood with held := none, loaded := false, armed := none, cand := none, chain := [], marked := 0, marks := []
                             relForces := ((newMap a.blk).lostForces s.sig).length } ∧ t.hpi.ram = s.hpi.ram ∧ t.fio.outs = s.fio.outs ∧ t.hat = s.hat ∧ t.pending = s.pending ∧ t.sca = s.sca) ∧
    (a.at_ = none ∨ (∃ n, a.at_ = some n ∧ s.logic.ltc + 1 < n) → exec .blockActivationApply s = .next s)) ∧
  (∀ s : State, exec .blockDirectoryWrite s = .next (if s.store.dirDue.isSome = true
    then { s with store := s.store.writeNow } else s)) ∧
  (∀ x : Store, (x.bad = true → x.writeNow = x) ∧ (x.bad = false → (x.conv = true → x.curAt ≠ none ∨ x.prevAt ≠ none) → x.writeNow.dirDue = none ∧ x.writeNow.cur = x.cur ∧ x.writeNow.prev = x.prev ∧
    x.writeNow.afterReset.cur = x.cur ∧ x.writeNow.afterReset.prev = x.prev ∧ x.writeNow.slots = x.slots)) ∧
  (∀ (s : State) (key tag at_ : Nat) (fp : BitVec 128), s.evr.clearReq = some (key, fp, at_, tag) →
    (s.logic.ltc + 1 < at_ → exec .evrClearApply s = .next s) ∧
    (at_ ≤ s.logic.ltc + 1 → ∃ t r pos, exec .evrClearApply s = .next t ∧ t.evr.mem = [(pos, r)] ∧ (0 ∉ s.evr.bad → pos = 0) ∧ r.kind = 0x52 ∧ r.seq = s.evr.lastSeq + 1 ∧
      r.subject = key ∧ r.arg = fp ∧ r.prevTag = s.evr.lastTag ∧ t.evr.lastSeq = s.evr.lastSeq + 1 ∧ t.evr.queue = [] ∧ t.evr.wpos = pos + 1 ∧
      t.evr.readBack = [(pos, r)] ∧ t.evr.erasing = true ∧ t.evr.clearReq = none ∧ t.evr.tomb = s.evr.tomb ∧ t.evr.bad = s.evr.bad ∧
      t = { s with evr := t.evr, svc := t.svc, hpi := t.hpi, pair := { s.pair with feltSeq := t.pair.feltSeq }, cp := t.cp, free := t.free, out := t.out })) ∧
  (∀ s : State, exec .evrEraseComplete s = .next { s with evr := { s.evr with erasing := false } }) ∧
  ∀ s : State, ∃ t, exec .evrRecovery s = .next t ∧ t = { s with evr := t.evr } ∧ t.evr.pathBad = false ∧ t.evr.pathFail = 0 ∧
    t.evr.mem = s.evr.mem ∧ t.evr.lastSeq = s.evr.lastSeq

/-- An input that has no run to accept takes a change of its raw state: its run starts at the microsecond boundary at or
after the instant, and never before the run that it ends; a change taken back before that boundary leaves the run before it. A run of an enabled input that has held for its filter time is accepted with its start as stamp and
waits to be presented; one that has not held, or whose level is the accepted one, changes nothing. A rising edge of a
counting channel adds one modulo 2^32, of a frequency channel it is stamped, not before the edge that it follows. A phase too short for it sets overflow and
leaves a count that the spec does not state (log entry 6). An instant before the tick start, or before one that came earlier, counts as
that one (R372). No other input, channel or output changes. -/
def Obligations.FieldInputsTakeEffect : Prop :=
  (∀ (s : State) (i : Fin 128) (raw : Bool) (ns : Nat), let e := at! s.block.field.dis i.val
    let at_ := Nat.max ns (Nat.max s.tsu.ns s.tsu.seen)
    exec (.diRawChange i raw ns) s = .next { s with tsu := { s.tsu with seen := at_ }, fio := { s.fio with dis := s.fio.dis.modify i.val (fun d0 =>
      let t := Nat.max ((at_ + 999) / 1000 * 1000) d0.since
      let d := diAccept e t d0
      if d.raw = raw then d
      else if d.back.isSome = true ∧ d.since = t then (let r := d.back.getD {}; { d with
        seen := r.seen, raw := raw, since := r.since, start := r.start, back := none, counted := r.counted, lastCnt := r.lastCnt })
      else { d with
        seen := true, raw := raw, since := t, start := stampOf t s.tsu.gen
        back := some { seen := d.seen, since := d.since, start := d.start, counted := d.counted, lastCnt := d.lastCnt }
        counted := if d.seen = true ∧ (∀ x, d.lastCnt = some x → x + e.filt * 100000 ≤ t) then d.counted ++ [t] else d.counted
        lastCnt := if d.seen = true ∧ (∀ x, d.lastCnt = some x → x + e.filt * 100000 ≤ t) then some t else d.lastCnt }) } }) ∧
  (∀ (s : State) (i : Fin 128) (ns : Nat), let e := at! s.block.field.dis i.val
    exec (.diFilterAccept i ns) s = .next { s with fio := { s.fio with dis := s.fio.dis.modify i.val (fun d =>
      if e.en = true ∧ d.seen = true ∧ d.acc ≠ some (d.raw != e.inv) ∧ d.since + e.filt * 100000 ≤ ns then { d with
        acc := some (d.raw != e.inv), accAt := d.start
        waits := if d.osc then d.waits else d.waits ++
          [{ val := d.raw != e.inv, start := d.start, acc := d.since + e.filt * 100000 }] } else d) } }) ∧
  ∀ (s : State) (c : Fin 16) (rising short : Bool) (ns : Nat), let e := at! s.block.field.fasts c.val
    let at_ := Nat.max ns (Nat.max s.tsu.ns s.tsu.seen)
    exec (.fastChannelEdge c rising ns short) s = .next { s with tsu := { s.tsu with seen := at_ }, fio := { s.fio with fasts := s.fio.fasts.modify c.val (fun f => { f with
      count := if e.cnt = true then (if short = true then Config.fastCount c.val f.count at_ else if rising = true then f.count + 1 else f.count)
        else f.count
      edges := if rising = true ∧ e.frq = true then Nat.max at_ (f.edges.headD 0) :: f.edges else f.edges
      short := f.short || short, ovf := f.ovf || short }) } }

/-- A thermal shutdown turns an on output off: with RETRY and fewer than 5 retries made it is due again 96 ticks later, else latched
off. Where it is due by the coming tick, still commanded, not latched, with output enable set in an engine that commits and no keeper
holding its group, the retry turns the switch on and counts. The count resets after 9,600 ticks on. A condition that has held in 3 ticks changes a group's
supply state as the table of R341 has it. A keeper holds while output enable is set, and once HOLDT has passed its group's switches
turn off. Output enable rises, to the last committed image, with the own latch set and the partner's loop off, and clears without
them, every switch off. Each leaves every other output and group as it was. -/
def Obligations.OutputEventsTakeEffect : Prop :=
  (∀ (s : State) (o : Fin 96) (x : OutState), s.fio.outs[o.val]? = some x →
    let only (t : State) (y : OutState) : Prop := t = { s with fio := { s.fio with outs := t.fio.outs } } ∧
      t.fio.outs[o.val]? = some y ∧ ∀ k, k ≠ o.val → t.fio.outs[k]? = s.fio.outs[k]?
    let retry := (at! s.block.field.dos o.val).retry
    let due := s.fio.en = true ∧ s.commits = true ∧ (at! s.fio.grps (o.val / 16)).holding = false ∧ x.tsd = true ∧ x.cmd = true ∧ x.latch = false ∧
      x.retryAt ≤ s.tsu.statTick + 1
    (x.sw = true → retry = true → x.retries < 5 → ∃ t, exec (.outputThermalShutdown o) s = .next t ∧
      only t { x with sw := false, tsd := true, retryAt := s.tsu.statTick + 96, onFor := 0 }) ∧
    (x.sw = true → retry = false ∨ 5 ≤ x.retries → ∃ t, exec (.outputThermalShutdown o) s = .next t ∧
      only t { x with sw := false, latch := true, tsd := false, onFor := 0 }) ∧
    (x.sw = false → ∃ t, exec (.outputThermalShutdown o) s = .next t ∧ only t x) ∧
    (due → ∃ t, exec (.outputRetry o) s = .next t ∧ only t { x with sw := true, tsd := false, retries := x.retries + 1, onFor := 0 }) ∧
    (¬ due → ∃ t, exec (.outputRetry o) s = .next t ∧ only t x) ∧
    (9600 ≤ x.onFor → ∃ t, exec (.outputRetryCountReset o) s = .next t ∧ only t { x with retries := 0 }) ∧
    (x.onFor < 9600 → ∃ t, exec (.outputRetryCountReset o) s = .next t ∧ only t x)) ∧
  (∀ (s : State) (g : Fin 6) (x : OutGroup), s.fio.grps[g.val]? = some x →
    let only (t : State) (y : OutGroup) : Prop := t = { s with fio := { s.fio with grps := t.fio.grps, outs := t.fio.outs } } ∧
      t.fio.grps[g.val]? = some y ∧ ∀ k, k ≠ g.val → t.fio.grps[k]? = s.fio.grps[k]?
    let held (i : Nat) : Prop := 3 ≤ at! x.conds i
    (∀ n, (held 1 → n = 2) → (¬ held 1 → held 2 → n = 3) →
      (¬ held 1 → ¬ held 2 → (x.sup = 2 → held 4 → n = 1) ∧ (x.sup = 2 → ¬ held 4 → n = 2) ∧ (x.sup = 1 → held 3 → n = 0) ∧
        (x.sup = 1 → ¬ held 3 → n = 1) ∧ (x.sup = 0 ∨ x.sup = 3 → held 0 → n = 1) ∧ (x.sup = 0 → ¬ held 0 → n = 0) ∧
        (x.sup = 3 → ¬ held 0 → held 5 → n = 0) ∧ (x.sup = 3 → ¬ held 0 → ¬ held 5 → n = 3)) → x.sup ≤ 3 →
      ∃ t, exec (.fieldSupplyStateChange g) s = .next t ∧ only t { x with sup := n } ∧ t.fio.outs = s.fio.outs) ∧
    (s.fio.en = true → ∃ t, exec (.holdKeeperHold g) s = .next t ∧ only t { x with missed := x.missed + 1, holding := !x.expired } ∧
      t.fio.outs = s.fio.outs) ∧
    (s.fio.en = false → exec (.holdKeeperHold g) s = .next s) ∧
    (s.fio.en = false ∨ x.holding = false ∨ x.missed < ticksOfMs (at! s.block.field.holdt g.val) → exec (.holdExpiry g) s = .next s) ∧
    (s.fio.en = true → x.holding = true → ticksOfMs (at! s.block.field.holdt g.val) ≤ x.missed → ∃ t, exec (.holdExpiry g) s = .next t ∧
      only t { x with holding := false, expired := true } ∧ ∀ (k : Nat) (o : OutState), s.fio.outs[k]? = some o →
        t.fio.outs[k]? = some (if k / 16 = g.val then { o with sw := false, onFor := 0 } else o))) ∧
  ∀ s : State,
    (s.hat.latch = true → s.hat.ploop = false → s.fio.en = false → ∃ t, exec .outputEnableRise s = .next t ∧
      t = { s with fio := { s.fio with en := true, outs := t.fio.outs } } ∧ ∀ (k : Nat) (o : OutState), s.fio.outs[k]? = some o →
        t.fio.outs[k]? = some { o with sw := o.cmd && !o.latch && !o.tsd }) ∧
    (s.hat.latch = false ∨ s.hat.ploop = true ∨ s.fio.en = true → exec .outputEnableRise s = .next s) ∧
    (s.hat.latch = false ∨ s.hat.ploop = true → s.fio.en = true → ∃ t, exec .outputEnableClear s = .next t ∧
      t = { s with fio := { s.fio with en := false, outs := t.fio.outs, grps := t.fio.grps } } ∧
      (∀ (k : Nat) (o : OutState), s.fio.outs[k]? = some o → t.fio.outs[k]? = some { o with sw := false, onFor := 0 }) ∧
      ∀ (k : Nat) (g : OutGroup), s.fio.grps[k]? = some g → t.fio.grps[k]? = some { g with holding := false }) ∧
    (s.hat.latch = true → s.hat.ploop = false → exec .outputEnableClear s = .next s) ∧
    (s.fio.en = false → exec .outputEnableClear s = .next s)

/-- A pending grant sets a clear latch of a fit engine whose partner's loop is off, and blocks on an energised loop; a
standby that takes the latch is active; output enable then rises by its own row. A fall-back that has waited in role 1 comes with
the row that leads out of it (fallDue, which FirmwareConfirmsOrFallsBack spells out). An engine that is unhealthy, in role 5 or already
latched takes no grant, and one in role 6 ignores it. A pending revoke clears the latch and turns the outputs off; it
leads a fit active engine to role 5 where it completes a planned handover, and changes no role without a plan, which
is DEDUCED from the table of R43 (log entry 89). A lone engine sets its latch without a grant. In a race unit B gives way
and, which is DEDUCED from R46 (log entry 115), has the role it had before, while unit A keeps its latch without output enable;
24 ticks without a commit clear the latch. Three frames missed lose the witness, three ticks without the own loop
raise its alarm, and writing 1 clears RACE_LOST, GRANT_BLOCKED and WATCHDOG. -/
def Obligations.HatEventsTakeEffect : Prop :=
  (∀ s : State, s.hat.act = 1 → s.fit = true → s.life.role ≠ 5 → s.life.role ≠ 6 → s.hat.latch = false → ∃ t : State, exec (.hatGrant false) s = .next t.fallDue ∧
    t = { s with hat := t.hat, life := t.life, pair := t.pair, fio := t.fio, evr := t.evr, hpi := t.hpi, free := t.free, out := t.out } ∧
    t.hat = { s.hat with act := 0, latch := true, fresh := true, blockAlarm := false, grants := s.hat.grants + 1, noCommit := 0
                         ploop := false, granted := true, was := some s.life.role } ∧
    t.fio = s.fio ∧ (s.life.role = 2 ∨ s.life.role = 3 → t.life.role = 1)) ∧
  (∀ s : State, s.hat.act = 1 → s.fit = true → s.life.role ≠ 5 → s.life.role ≠ 6 → s.hat.latch = false → ∃ t : State, exec (.hatGrant true) s = .next t.fallDue ∧
    t = { s with hat := t.hat, life := t.life, pair := t.pair, fio := t.fio, evr := t.evr, hpi := t.hpi, free := t.free, out := t.out } ∧
    t.hat = { s.hat with act := 0, ploop := true, granted := true, blocked := true, blocks := s.hat.blocks + 1 } ∧ t.fio.en = false ∧
    (s.life.role ≠ 1 ∨ s.pair.hoTick = false → t.life = s.life ∧ t.pair = { s.pair with feltSeq := t.pair.feltSeq } ∧ t.evr = s.evr)) ∧
  (∀ (s : State) (loop : Bool), s.hat.act = 1 → s.fit = false ∨ s.life.role = 5 ∨ s.life.role = 6 ∨ s.hat.latch = true → ∃ t : State,
    exec (.hatGrant loop) s = .next t.fallDue ∧ t.hat = { s.hat with act := 0 } ∧ t.fio.en = (s.fio.en && s.hat.enable) ∧
    t = { s with hat := t.hat, life := t.life, pair := t.pair, fio := t.fio, evr := t.evr, hpi := t.hpi, free := t.free, out := t.out } ∧
    (s.hat.latch = false → s.life.role ≠ 1 ∨ s.fit = false → t.life = s.life ∧ t.pair = { s.pair with feltSeq := t.pair.feltSeq } ∧ t.evr = s.evr)) ∧
  (∀ (s : State) (loop : Bool), s.hat.act ≠ 1 → s.hat.latch = false → s.pair.hoTick = false →
    ∃ t : State, exec (.hatGrant loop) s = .next t.fallDue ∧ t = { s with fio := t.fio } ∧ t.fio.en = false) ∧
  (∀ s : State, s.hat.act = 2 → ∃ t : State, exec .hatRevoke s = .next t.fallDue ∧
    t.hat = { s.hat with act := 0, latch := false, revoked := s.hat.revoked || s.hat.latch, granted := false, taken := true } ∧
    t = { s with hat := t.hat, life := t.life, pair := t.pair, fio := t.fio, evr := t.evr, hpi := t.hpi, free := t.free, out := t.out } ∧
    t.fio.en = false ∧ (s.life.role = 1 → s.fit = true → s.hoDone = true → t.life.role = 5 ∧ t.pair.ho = none) ∧
    (s.hoDone = false → s.pair.hoTick = false → t.life = s.life ∧ t.pair = { s.pair with feltSeq := t.pair.feltSeq } ∧ t.evr = s.evr)) ∧
  (∀ s : State, s.hat.act ≠ 2 → s.hat.latch = false → s.pair.hoTick = false →
    ∃ t : State, exec .hatRevoke s = .next t.fallDue ∧ t = { s with fio := t.fio } ∧ t.fio.en = false) ∧
  (∀ (s : State) (loop : Bool), s.life.role = 6 → s.fit = true → s.hat.latch = false → ∃ t : State, exec (.loneLatchSet loop) s = .next t.fallDue ∧
    t.hat.latch = !loop ∧ t.life = s.life ∧
    t = { s with hat := t.hat, fio := t.fio } ∧ (loop = false → t.fio = s.fio ∧ t.hat = { s.hat with
      latch := true, fresh := true, blockAlarm := false, noCommit := 0, ploop := false }) ∧
    (loop = true → t.fio.en = false ∧ t.hat = { s.hat with ploop := true, blocked := true, blockAlarm := true, blocks := s.hat.blocks + 1 })) ∧
  (∀ (s : State) (loop : Bool), s.life.role ≠ 6 ∨ s.fit = false ∨ s.hat.latch = true → ∃ t : State, exec (.loneLatchSet loop) s = .next t.fallDue ∧ t.hat = s.hat ∧
    t = { s with life := t.life, pair := t.pair, fio := t.fio, evr := t.evr } ∧ t.fio.en = (s.fio.en && s.hat.enable)) ∧
  (∀ s : State, s.hat.latch = true → s.hat.fresh = true → ∃ t, exec .hatRace s = .next t ∧ t.fio.en = false ∧
    (s.unitB = false → t = { s with hat := { s.hat with ploop := true }, fio := t.fio }) ∧
    (s.unitB = true → t = { s with hat := t.hat, life := t.life, fio := t.fio, evr := t.evr } ∧
      t.hat = { s.hat with latch := false, fresh := false, ploop := true, revoked := false, raceLost := true, was := none } ∧
      t.life.role = s.hat.was.getD s.life.role)) ∧
  (∀ s : State, s.hat.latch = false ∨ s.hat.fresh = false → ∃ t, exec .hatRace s = .next t ∧ t = { s with fio := t.fio } ∧
    t.fio.en = (s.fio.en && s.hat.enable)) ∧
  (∀ s : State, ∃ t, exec .commitWatchdog s = .next t ∧ t = { s with hat := t.hat, fio := t.fio } ∧ t.fio.en = (s.fio.en && t.hat.enable) ∧ t.hat =
    if s.hat.latch = true ∧ 24 ≤ s.hat.noCommit then { s.hat with latch := false, revoked := false, wdog := true } else s.hat) ∧
  (∀ s : State, exec .witnessLost s = .next (if 3 ≤ s.hat.witMiss then { s with hat := { s.hat with witLost := true } } else s)) ∧
  (∀ s : State, exec .hatLoopFault s = .next (if s.hat.latch = true ∧ s.hat.ownLoop = false ∧ 2 ≤ s.hat.loopBad
    then { s with hat := { s.hat with loopBad := Nat.max s.hat.loopBad 3 } } else s)) ∧
  ∀ (s : State) (v : BitVec 32), exec (.hatStatusClear v) s = .next (if s.hpi.magic = true then { s with hat := { s.hat with
    raceLost := s.hat.raceLost && !v.getLsbD 7, blocked := s.hat.blocked && !v.getLsbD 8, wdog := s.hat.wdog && !v.getLsbD 9 } } else s)

/-- Of a running engine that is no witness, a valid frame in its slot resets the misses, is kept as the last one and leaves the action for this
unit, none in role 6; a frame that is not valid is counted up to 65,535 and changes neither the latch nor the pending
action. An engine in role 4 decides by R388 on the frames it accepts, numbers its frame and sends it, and an engine
in another role does not decide. With a prediction not 3 ticks old it accepts of the valid frames of unit A exactly those that start
within 5 µs of it, and with one accepted, of those of unit B exactly those within 5 µs of 30 µs after its start; its own frame then
starts 70 µs after unit A's. A partner's frame that is valid and in its slot is kept, and unit B sends its own
30 µs after unit A's start; any other is ignored. -/
def Obligations.WitnessFramesTakeEffect : Prop :=
  (∀ (s : State) (l : List Byte) (slot : Bool), s.life.booted = true → s.life.role ≠ 4 → ∃ t, exec (.witnessFrameReceive l slot) s = .next t ∧
    t = { s with hat := t.hat, pair := { s.pair with hoA := t.pair.hoA, startAlarm := t.pair.startAlarm } } ∧ t.hat.latch = s.hat.latch ∧
    (witValid l slot s.unitB s.pair.reported = true →
      let a := fieldLe l (if s.unitB then 13 else 12) 1
      t.hat = { s.hat with witMiss := 0, witSeen := true, witLost := false, lastWit := l, act := if s.life.role = 6 then 0 else if a = 1 ∨ a = 2 then a else 0 }) ∧
    (witValid l slot s.unitB s.pair.reported = false → t.pair.hoA = false ∧ t.hat = { s.hat with witBad := Nat.min (s.hat.witBad + 1) 65535 })) ∧
  (∀ (s : State) (l : List Byte) (slot : Bool), s.life.booted = false ∨ s.life.role = 4 → exec (.witnessFrameReceive l slot) s = .next s) ∧
  (∀ (s : State) (xa xb : Option (List Byte × Nat)), s.life.role = 4 →
    let a := (s.wit.accepts xa xb).1
    let b := (s.wit.accepts xa xb).2
    let r := witDecide (a.map (·.1)) (b.map (·.1)) s.wit
    let n := (s.wit.seq + 1) % 65536
    exec (.witnessDecision xa xb) s = .next { s with
      wit := { r.1.note a with seq := n }
      out := s.out ++ [.witnessFrame (s.wit.sendAt a b (gridNs (TickId.grid s.tsu.id))) (witFrameBytes n (a.map (·.1)) (b.map (·.1)) r.2.1 r.2.2)] }) ∧
  (∀ (s : State) (xa xb : Option (List Byte × Nat)), s.life.role ≠ 4 → exec (.witnessDecision xa xb) s = .next s) ∧
  (∀ (w : Witness) (xa xb : Option (List Byte × Nat)) (g at_ own : Nat), w.aAt = some (g, at_) → w.aAgo < 3 →
    let p := at_ + (gridNs (g + (w.aAgo + 1)) - gridNs g)
    (∀ (l : List Byte) (t : Nat) (f : EngFrame), xa = some (l, t) → EngFrame.ofBytes l = some f → f.unitB = false →
      ((w.accepts xa xb).1 = some (f, t) ↔ t ≤ p + 5000 ∧ p ≤ t + 5000) ∧
      (t ≤ p + 5000 → p ≤ t + 5000 → w.sendAt (w.accepts xa xb).1 (w.accepts xa xb).2 own = t + 70000 ∧
        ∀ (m : List Byte) (u : Nat) (e : EngFrame), xb = some (m, u) → EngFrame.ofBytes m = some e → e.unitB = true →
          ((w.accepts xa xb).2 = some (e, u) ↔ u ≤ t + 30000 + 5000 ∧ t + 30000 ≤ u + 5000))) ∧
    (xa = none → (w.accepts xa xb).1 = none)) ∧
  (∀ (s : State) (l : List Byte) (f : EngFrame) (ns : Nat), s.life.booted = true → EngFrame.ofBytes l = some f → f.unitB ≠ s.unitB →
    s.unitB = true ∨ (ns ≤ gridNs (TickId.grid s.tsu.id) + 30000 + 5000 ∧ gridNs (TickId.grid s.tsu.id) + 30000 ≤ ns + 5000) → ∃ t, exec (.partnerEngineFrameReceive l ns) s = .next t ∧
    t = { s with pair := t.pair, out := t.out } ∧ t.pair.pframe = some f ∧ t.pair.pframeT = some 0 ∧ t.pair.psick = !f.healthy ∧
    t.pair.prole = s.pair.prole ∧
    (s.unitB = true → s.life.role ≠ 4 → (∀ a, s.pair.w1Last = some a → a + 52083 < ns + 30000) →
      (ns + 30000 < gridNs (nextGrid s.tsu) → t.pair.seq = (s.pair.seq + 1) % 65536 ∧ t.pair.w1Last = some (ns + 30000) ∧
        ∃ g, t.out = s.out ++ [.engineFrame (ns + 30000) g] ∧ g.tk = s.pair.frame.tk ∧ g.tsec = s.pair.frame.tsec ∧
          g.healthy = (s.fit && s.pair.frame.healthy) ∧ g.hatReq = (s.fit && s.pair.frame.hatReq)) ∧
      (gridNs (nextGrid s.tsu) ≤ ns + 30000 → t.pair.w1Plan = some (ns + 30000) ∧ t.out = s.out)) ∧
    (s.unitB = false ∨ s.life.role = 4 → t.out = s.out)) ∧
  ∀ (s : State) (l : List Byte) (ns : Nat), s.life.booted = false ∨ EngFrame.ofBytes l = none ∨
    (∃ f, EngFrame.ofBytes l = some f ∧ (f.unitB = s.unitB ∨ (s.unitB = false ∧
      (gridNs (TickId.grid s.tsu.id) + 35000 < ns ∨ ns + 5000 < gridNs (TickId.grid s.tsu.id) + 30000)))) →
    exec (.partnerEngineFrameReceive l ns) s = .next s

/-- A frame of the Felt link is taken when its lane is up, its CRC is right and no copy of it has come; the partner is then heard, with the
role and health that the frame may tell. A standby in role 2 or 5 then
keeps an item for its tick, and queues an operator action at once without an answer, a signed one only where its signature verifies under
an own key with its privilege; CLOSE is kept with its count. A copy with a wrong
CRC counts as a frame error of its lane, a second good copy and one on a lane that is down do nothing, whatever the frame carries. A
tick of a standby whose mirror data have not come is bridged, counted, ages the state by one, and a second one in a row makes it
stale, without the copy in progress. An engine in role 5 with a partner of its variant, an applied epoch and 96 matches enters role 2. A full window of
comparisons is evaluated in roles 2 and 5 alone: a channel without an invalid mirrored sample that has differed by more than PL_TOL and
0.2 % of the full scale, or has had an own invalid sample, in every window for PL_TIME disagrees; what PL_TOL is held against in its
rounding, and how an own invalid sample counts, are DESIGN CHOICE (log entry 118). An epoch starts at LTCs that are multiples of 768. -/
def Obligations.MirrorTakesEffect : Prop :=
  (∀ (s : State) (h : FeltHdr), s.feltTakes h = true ↔ (if h.lane = 0 then s.pair.laneA else s.pair.laneB) = true ∧ h.crcOk = true ∧ h.seq ∉ s.pair.feltGot) ∧
  (∀ (p : Pair) (h : FeltHdr), p.hear h = { p with heard := true :: p.heard.drop 1, feltGot := (h.seq :: p.feltGot).take 64, prole := (h.status.map (·.1)).getD p.prole, psick := (h.status.map (fun x => !x.2)).getD p.psick, pevrBad := h.recBad.getD p.pevrBad }) ∧
  (∀ (s : State) (h : FeltHdr) (n : Nat) (i : MirrorItem), s.feltTakes h = true → s.life.role = 2 ∨ s.life.role = 5 → (∀ a, i ≠ .action a) →
    exec (.mirrorItemReceive h n i) s = .next { s with pair := { s.pair.hear h with items := s.pair.items ++ [(n, i)] } }) ∧
  (∀ (s : State) (h : FeltHdr) (n : Nat) (a : Action), s.feltTakes h = true → s.trusts a = false →
    exec (.mirrorItemReceive h n (.action a)) s = .next { s with pair := s.pair.hear h }) ∧
  (∀ (s : State) (a : Action), (a.priv = none → s.trusts a = true) ∧ ∀ p, a.priv = some p →
    (s.trusts a = true ↔ ∃ k ∈ s.sca.keys, k.priv.getLsbD p = true ∧ ecdsaOk k.key a.hash a.sig = true)) ∧
  (∀ (s : State) (h : FeltHdr) (n : Nat) (a : Action), s.feltTakes h = true → s.trusts a = true → s.life.role = 2 ∨ s.life.role = 5 → ∃ t,
    exec (.mirrorItemReceive h n (.action a)) s = .next t ∧ t.svc = { s.svc with acts := s.svc.acts ++ [{ a with reply := .none }] } ∧
    t = { s with svc := t.svc, pair := t.pair, hood := t.hood, tsu := t.tsu, store := t.store } ∧
    t.pair = s.pair.hear h) ∧
  (∀ (s : State) (h : FeltHdr) (id : TickId) (l n : Nat), s.feltTakes h = true → exec (.closeFrameReceive h id l n) s = .next { s with pair := { s.pair.hear h with
    close := if s.life.role = 2 ∨ s.life.role = 5 then some (id, l, n) else s.pair.close } }) ∧
  (∀ (s : State) (h : FeltHdr), s.feltTakes h = false →
    let t : State := if h.crcOk = false ∧ (if h.lane = 0 then s.pair.laneA else s.pair.laneB) = true
      then { s with pair := { s.pair with laneErr := s.pair.laneErr.modify h.lane.val (· + 1) } } else s
    (∀ n i, exec (.mirrorItemReceive h n i) s = .next t) ∧ (∀ id l n, exec (.closeFrameReceive h id l n) s = .next t) ∧
    (∀ l d, exec (.digestCompare h l d) s = .next t) ∧ (∀ e c dl items, exec (.chunkReceive h e c dl items) s = .next t) ∧
    (∀ e d, exec (.epochClosingDigest h e d) s = .next t) ∧ (∀ r, exec (.partnerRecordReceive h r) s = .next t) ∧
    (∀ id o, exec (.forwardedPinReceive h id o) s = .next t) ∧ ∀ x, exec (.forwardedCommandReceive h x) s = .next t) ∧
  (∀ s : State, s.life.role = 2 ∨ s.life.role = 5 → s.closeAhead = false → s.pair.bridgeNow = false → ∃ t, exec .tickBridge s = .next t ∧
    t = { s with pair := t.pair, life := t.life, evr := t.evr } ∧
    (let p : Pair := { s.pair with bridged := s.pair.bridged + 1, bridgeRun := s.pair.bridgeRun + 1, bridT := 9600, bridgeNow := true
                                   staleT := Nat.min (s.pair.staleT + 1) 65535 }
     t.pair = if 1 ≤ s.pair.bridgeRun then goesStale p else p) ∧
    t.life.role = if 1 ≤ s.pair.bridgeRun then 3 else s.life.role) ∧
  (∀ s : State, s.closeAhead = true ∨ (s.life.role ≠ 2 ∧ s.life.role ≠ 5) → exec .tickBridge s = .next s) ∧
  (∀ s : State, (s.life.role = 5 → s.pair.ppart = idPart s.life.variant → s.pair.applied = true → 96 ≤ s.pair.since → ∃ t, exec .standbyInStep s = .next t ∧ t.life.role = 2 ∧
      t.pair = { s.pair with synced := true, inStep := true, seedNext := false, resync := 0, copy := if s.pair.copy = 2 then 1 else s.pair.copy } ∧ t = { s with life := t.life, evr := t.evr, pair := t.pair }) ∧
    (s.life.role ≠ 5 ∨ s.pair.ppart ≠ idPart s.life.variant ∨ s.pair.applied = false ∨ s.pair.since < 96 → exec .standbyInStep s = .next s)) ∧
  (∀ s : State, (s.life.role ≠ 2 ∧ s.life.role ≠ 5) ∨ s.pair.plausW < 960 → exec .plausibilityWindow s = .next s) ∧
  (∀ s : State, s.life.role = 2 ∨ s.life.role = 5 → 960 ≤ s.pair.plausW → ∃ t, exec .plausibilityWindow s = .next t ∧
    t = { s with pair := t.pair } ∧ t.pair.plausW = 0 ∧ t.pair.plausDi = s.pair.plausDi ∧
    ∀ (k : Nat) (c : PlausChan), s.pair.plausC[k]? = some c →
      let r (x : Nat) : Nat := Nat.sqrt (x * 2 ^ 32 / c.n)
      let d := r c.own - r c.mir + (r c.mir - r c.own)
      let off := c.gone = true ∨ s.block.pair.plTol * r c.mir + 2 * 2 ^ 39 < 1000 * d
      (c.bad = true ∨ c.n = 0 → t.pair.plaus[k]? = some 2 ∧ t.pair.plausC[k]? = some {}) ∧
      (c.bad = false → c.n ≠ 0 → ¬ off → t.pair.plaus[k]? = some 0 ∧ t.pair.plausC[k]? = some {}) ∧
      (c.bad = false → c.n ≠ 0 → off → t.pair.plausC[k]? = some { runs := c.runs + 1 } ∧
        t.pair.plaus[k]? = some (if s.block.pair.plTime ≤ c.runs + 1 then 1 else 0))) ∧
  (∀ s : State, s.logic.ltc % 768 = 0 → s.pair.epoch ≠ s.logic.ltc / 768 → s.pair.linkUp = true → s.life.role = 2 ∨ s.life.role = 5 → ∃ t,
    exec .epochStart s = .next t ∧ t = { s with pair := t.pair } ∧ t.pair.epoch = s.logic.ltc / 768 ∧ t.pair.got = [] ∧ t.pair.diffs = [] ∧
    t.pair.copy = (if s.pair.synced = true ∧ s.pair.seedNext = false then 1 else 2)) ∧
  ∀ s : State, s.logic.ltc % 768 ≠ 0 ∨ s.pair.epoch = s.logic.ltc / 768 → exec .epochStart s = .next s

/-- Of a partner of another variant a digest, a chunk and a closing digest are heard and have no other effect. Of one of the own
variant, a digest of the own last tick counts a match, the 96th in a row setting INSTEP, or a mismatch, which clears INSTEP and
the run of matches; one of another tick changes no count. SYNCED stays set over a match, and a match sets it, which is DEDUCED (log
entry 117), only in role 2 as the 96th after an applied epoch. The base of a chunk of the copy's epoch waits for its delta, and a delta
without it discards the copy as a whole. With its delta a chunk is complete: a verifying engine notes it and records the lines that
differ, writing nothing; a seeding one of the same firmware notes it and keeps it for the end of the next phase A, where it is written
but for the lines written there, the first such chunk clearing SYNCED and what was applied before. The closing digest of a complete
copy whose chunks it digests counts an applied epoch, from which digests count anew and which corrects the recorded lines, and any other
discards the copy. -/
def Obligations.CopyTakesEffect : Prop :=
  (∀ (s : State) (h : FeltHdr) (l : Nat) (d : BitVec 128) (e c : Nat) (dl : Bool) (items : List CopyItem), s.feltTakes h = true → s.pair.ppart ≠ idPart s.life.variant →
    let t : State := { s with pair := s.pair.hear h }
    exec (.digestCompare h l d) s = .next t ∧ exec (.chunkReceive h e c dl items) s = .next t ∧ exec (.epochClosingDigest h e d) s = .next t) ∧
  (∀ (s : State) (h : FeltHdr) (l : Nat) (d v : BitVec 128), s.feltTakes h = true → s.pair.ppart = idPart s.life.variant → s.pair.own = some (l, v) → ∃ t,
    exec (.digestCompare h l d) s = .next t ∧
    t = { s with pair := t.pair, upd := { s.upd with matches_ := t.upd.matches_ } } ∧
    (d = v → t.pair.matched = s.pair.matched + 1 ∧ t.pair.run = s.pair.run + 1 ∧ t.pair.since = s.pair.since + 1 ∧ t.pair.mismatched = s.pair.mismatched ∧
      t.pair.inStep = (s.pair.inStep || decide (95 ≤ s.pair.run)) ∧
      t.pair.synced = (s.pair.synced || (decide (95 ≤ s.pair.since) && decide (s.life.role = 2) && s.pair.applied))) ∧
    (d ≠ v → t.pair.mismatched = s.pair.mismatched + 1 ∧ t.pair.run = 0 ∧ t.pair.since = 0 ∧ t.pair.inStep = false ∧ t.pair.matched = s.pair.matched ∧
      t.pair.mismT = 9600 ∧ t.upd.matches_ = 0 ∧ t.pair.synced = s.pair.synced)) ∧
  (∀ (s : State) (h : FeltHdr) (l n : Nat) (d v : BitVec 128), s.feltTakes h = true → s.pair.own = some (n, v) → n ≠ l → ∃ t,
    exec (.digestCompare h l d) s = .next t ∧ t = { s with pair := s.pair.hear h }) ∧
  (∀ (s : State) (h : FeltHdr) (e c : Nat) (items : List CopyItem), s.feltTakes h = true → chunkCounts e c s.pair = true →
    s.pair.ppart = idPart s.life.variant →
    exec (.chunkReceive h e c false items) s = .next { s with pair := { s.pair.hear h with base := some (c, items) } } ∧
    ((∀ b, s.pair.base ≠ some (c, b)) → ∃ t, exec (.chunkReceive h e c true items) s = .next t ∧ t = { s with pair := t.pair } ∧ t.pair.copy = 0 ∧
      t.pair.got = [] ∧ t.pair.diffs = [] ∧ t.pair.seeds = [] ∧ t.pair.discarded = s.pair.discarded + 1) ∧
    ∀ b, s.pair.base = some (c, b) → s.pair.got.contains c = false →
      (s.pair.copy = 1 → exec (.chunkReceive h e c true items) s = .next { s with pair := { s.pair.hear h with
        got := s.pair.got ++ [c], parts := s.pair.parts ++ [overlay b items], base := none
        diffs := s.pair.diffs ++ (if s.pair.mixed then [] else
          (overlay b items).filter (fun x => s.copyGet x != x && !(match x with | .point i _ => lateLocal i | _ => false))) } }) ∧
      (s.pair.copy = 2 → s.pair.mixed = false → exec (.chunkReceive h e c true items) s = .next { s with pair := { s.pair.hear h with
        got := s.pair.got ++ [c], parts := s.pair.parts ++ [overlay b items], base := none, seeds := s.pair.seeds ++ overlay b items } })) ∧
  (∀ (b d : List CopyItem) (x : CopyItem), x ∈ overlay b d → x ∈ d ∨ (x ∈ b ∧ ∀ y ∈ d, y.key ≠ x.key)) ∧
  (∀ old s : State, s.pair.seeds ≠ [] → (old.seedWrite s).pair = { s.pair with seeds := [], seedNext := false, synced := false
                                                                               applied := s.pair.applied && !s.pair.synced } ∧
    (∀ i p, s.pair.seeds = [.point i p] → lateLocal i = false → (∀ y ∈ old.written s, y.key ≠ (0, i)) →
      (old.seedWrite s).sig = { s.sig with pts := wrPt s.sig.pts i p }) ∧
    ∀ i p, s.pair.seeds = [.point i p] → (lateLocal i = true ∨ ∃ y ∈ old.written s, y.key = (0, i)) → (old.seedWrite s).sig = s.sig) ∧
  ∀ (s : State) (h : FeltHdr) (e : Nat) (d : BitVec 128), s.feltTakes h = true → s.pair.ppart = idPart s.life.variant → chunkCounts e 0 s.pair = true →
    (d ≠ closingDigest e s.pair.parts ∨ s.pair.got.length ≠ 768 → ∃ t, exec (.epochClosingDigest h e d) s = .next t ∧ t = { s with pair := t.pair } ∧
      t.pair.discarded = s.pair.discarded + 1 ∧ t.pair.copy = 0 ∧ t.pair.applied = s.pair.applied) ∧
    (d = closingDigest e s.pair.parts → s.pair.got.length = 768 → ∃ t, exec (.epochClosingDigest h e d) s = .next t ∧ t.pair.epochs = s.pair.epochs + 1 ∧
      t.pair.applied = true ∧ t.pair.since = 0 ∧ t.pair.run = s.pair.run ∧ t.pair.copy = 0 ∧ t.pair.got = [] ∧ t.pair.diffs = [] ∧
      t.pair.corrected = s.pair.corrected + s.pair.diffs.length ∧ t.hat = s.hat ∧ t.fio = s.fio)

/-- The link's loss takes both lanes and everything received for a tick; one lane's loss leaves the link up on the other.
Its return on the lanes whose cages serve them notes what the partner reports: engines of another variant do not pair (error 0x0405),
a stale standby of the same configuration goes to role 5 and seeds, an active engine sends its Block and its applied Hoods to a
partner that runs another configuration. A joining engine takes a Block and Hoods that its own check passes and reports 0x0406 of
others. A partner's record is staged as the partner's
own. A forwarded Block is prepared, a forwarded Hood kept until its load is complete here too, and a forwarded command queued, only
where the signature and the own check pass, and of a Block and a Hood the check's result is sent back. -/
def Obligations.LinkEventsTakeEffect : Prop :=
  (∀ s : State, s.pair.linkUp = true → ∃ p, exec .feltLinkDown s = .next { s with pair := p } ∧ p.linkUp = false ∧ p.linkWas = true ∧
    p.prole = 0 ∧ p.close = none ∧ p.items = [] ∧ p.copy = 0) ∧
  (∀ s : State, s.pair.linkUp = false → exec .feltLinkDown s = .next s) ∧
  (∀ s : State, (s.pair.laneB = true → exec (.feltLinkLaneDown 0) s = .next { s with pair := { s.pair with laneA := false } }) ∧
    (s.pair.laneA = true → exec (.feltLinkLaneDown 1) s = .next { s with pair := { s.pair with laneB := false } }) ∧
    (s.pair.laneA = true → s.pair.laneB = false → exec (.feltLinkLaneDown 0) s = exec .feltLinkDown s) ∧
    (s.pair.laneA = false → s.pair.laneB = true → exec (.feltLinkLaneDown 1) s = exec .feltLinkDown s) ∧
    (s.laneFit 0 = true → exec (.feltLinkLaneRestored 0) s = .next { s with pair := { s.pair with laneA := true } }) ∧
    (s.laneFit 1 = true → exec (.feltLinkLaneRestored 1) s = .next { s with pair := { s.pair with laneB := true } }) ∧
    (∀ l : Fin 2, s.laneFit l.val = false → exec (.feltLinkLaneRestored l) s = .next s) ∧
    ∀ l, s.laneFit l = sfpFelt (at! s.pbi.cages (4 + l))) ∧
  (∀ (s : State) (part fw : BitVec 32) (role : Nat) (id hid : BitVec 128), s.laneFit 0 = false → s.laneFit 1 = false →
    exec (.feltLinkRestored part role fw id hid) s = .next s) ∧
  (∀ (s : State) (part fw : BitVec 32) (role : Nat) (id hid : BitVec 128), s.laneFit 0 = true ∨ s.laneFit 1 = true → ∃ t, exec (.feltLinkRestored part role fw id hid) s = .next t ∧
    t = { s with pair := t.pair, life := t.life, evr := t.evr, out := t.out } ∧ t.pair.laneA = s.laneFit 0 ∧ t.pair.laneB = s.laneFit 1 ∧ t.pair.prole = role ∧ t.pair.ppart = part ∧ t.pair.pfw = fw ∧ t.pair.pblock = id ∧ t.pair.phood = hid ∧
    t.pair.mixed = (s.life.fwVer != fw) ∧ t.hat = s.hat ∧ t.fio = s.fio ∧
    (part ≠ idPart s.life.variant → t.pair.err = 0x0405 ∧ t.life = s.life ∧ t.out = s.out) ∧
    (part = idPart s.life.variant → t.pair.err = 0 ∧ (s.life.role = 3 → id = s.block.blockId → hid = lastHood s.hood.chain →
        t.life.role = 5 ∧ t.pair.seedNext = true ∧ t.pair.applied = false) ∧
      (s.life.role = 3 → id ≠ s.block.blockId ∨ hid ≠ lastHood s.hood.chain → t.life = s.life) ∧
      (s.life.role = 1 → id ≠ s.block.blockId ∨ hid ≠ lastHood s.hood.chain →
        t = ({ s with pair := { t.pair with feltSeq := s.pair.feltSeq } } : State).sendFelt [.config (s.store.cur.getD s.block) s.hood.chain]))) ∧
  (∀ (s : State) (b : Block) (hs : List Hood), s.life.role = 0 ∨ s.life.role = 3 → s.pair.linkUp = true → s.pair.prole = 1 →
    bootCheck s.checkEnv ((s.takes b).getD b) hs ≠ 0 → exec (.partnerBlockTake b hs) s =
      .next (({ s with pair := { s.pair with err := 0x0406 } } : State).sendFelt [.checkResult 0x0A02 0x0406])) ∧
  (∀ (s : State) (b : Block), (b.converted = false ∨ s.checkEnv.blockSigned b = true → s.takes b = some b) ∧
    (b.converted = true → s.checkEnv.blockSigned b = false → ∀ c, s.takes b = some c ↔
      s.store.cur = some c ∧ c.converted = true ∧ c.blockId = b.blockId)) ∧
  (∀ (s : State) (b0 : Block) (hs : List Hood), let b := (s.takes b0).getD b0
    s.life.role = 3 → s.pair.linkUp = true → s.pair.prole = 1 → bootCheck s.checkEnv b hs = 0 → ∃ t,
    exec (.partnerBlockTake b0 hs) s = .next t ∧ t.life.role = 5 ∧ t.pair.seedNext = true ∧ t.blk = some (hs.foldl hoodBlock b) ∧ t.store.cur = some b ∧
    t.hood.chain = hs) ∧
  (∀ (s : State) (b0 : Block) (hs : List Hood), let b := (s.takes b0).getD b0
    s.life.role = 0 → s.pair.linkUp = true → s.pair.prole = 1 →
    (bootCheck s.checkEnv b hs = 0 → ∃ t, exec (.partnerBlockTake b0 hs) s = .next t ∧ t.blk = some (hs.foldl hoodBlock b) ∧
      t.store.cur = some b ∧ t.store.prev = s.store.cur ∧ t.hood.chain = hs ∧ t.life.blockOk = true ∧ t.pair = { s.pair with err := 0, pblock := b.blockId, phood := lastHood hs } ∧
      t.hat = s.hat ∧ t.sca = s.sca ∧ t.svc = s.svc ∧ t.hpi.ram = s.hpi.ram ∧ t.pending = s.pending)) ∧
  (∀ (s : State) (b : Block) (hs : List Hood), (s.life.role ≠ 0 ∧ s.life.role ≠ 3) ∨ s.pair.linkUp = false ∨ s.pair.prole ≠ 1 → exec (.partnerBlockTake b hs) s = .next s) ∧
  (∀ (s : State) (h : FeltHdr) (r : EvRec), s.feltTakes h = true → exec (.partnerRecordReceive h r) s = .next { s with
    pair := s.pair.hear h
    evr := { s.evr with fromPartner := s.evr.fromPartner + 1, localEv := s.evr.localEv ++
      [{ r with rflags := r.rflags ||| 2, origSeq := r.seq, seq := 0, prevTag := 0, tag := 0 }] } }) ∧
  ∀ (s : State) (h : FeltHdr), s.feltTakes h = true →
    let u : State := { s with pair := s.pair.hear h }
    (∀ b, let c := if blockCheck u.checkEnv b ≠ 0 then blockCheck u.checkEnv b else if s.store.bad = true then 0x0206 else 0
      exec (.forwardedCommandReceive h (.block b)) s = .next (({ u with
        store := if c = 0 then { s.store with act := some { blk := b } } else s.store } : State).sendFelt [.checkResult 0x0304 c])) ∧
    (∀ x, let c := u.checkHood x
      exec (.forwardedCommandReceive h (.hood x)) s = .next (({ u with
        hood := { s.hood with cand := if c = 0 then some x else none } } : State).sendFelt [.checkResult 0x0403 c])) ∧
    (∀ a, s.trusts a = false → exec (.forwardedCommandReceive h (.action a)) s = .next u) ∧
    ∀ a, s.trusts a = true → ∃ t, exec (.forwardedCommandReceive h (.action a)) s = .next t ∧ t.svc = { s.svc with acts := s.svc.acts ++ [{ a with reply := .none }] } ∧
      t = { u with svc := t.svc, hood := t.hood, tsu := t.tsu, store := t.store }

/-- Where the coming tick is H: with both actions in the witness frame of H - 1 and the revoke pending, HANDOVER_APPLY
clears the plan and the latch, turns the outputs off and leads a fit active engine to role 5, where a fall-back that has waited comes
(fallDue). Without them
HANDOVER_LAPSE clears the plan with a record of kind 0x0031 that names H, and the latch stays. The other of the two
rows, and both before H, change nothing. A forwarded Pin of the present tick is latched 1,536 cycles after its offset where
the tick still lasts so long, and else on the first edge of the next tick, deferred. -/
def Obligations.HandoverTakesEffect : Prop :=
  (∀ (s : State) (h : Planned), s.pair.ho = some h → h.at_ ≤ s.logic.ltc + 1 →
    (s.pair.hoA = true → s.hat.act = 2 → exec .handoverLapse s = .next s ∧ ∃ t : State, exec .handoverApply s = .next t.fallDue ∧ t.pair.ho = none ∧
      t.hat = { s.hat with act := 0, latch := false, revoked := s.hat.revoked || s.hat.latch, granted := false, taken := true } ∧ t.fio.en = false ∧
      (s.life.role = 1 → s.fit = true → t.life.role = 5) ∧
      t = { s with hat := t.hat, life := t.life, pair := t.pair, fio := t.fio, evr := t.evr, hpi := t.hpi, free := t.free, out := t.out }) ∧
    (s.pair.hoA = false ∨ s.hat.act ≠ 2 → exec .handoverApply s = .next s ∧ exec .handoverLapse s = .next { s with
      pair := { s.pair with ho := none, hoA := false }
      evr := { s.evr with localEv := s.evr.localEv ++ [{ kind := 0x31, value := h.at_, old := 0x0403 }] } })) ∧
  (∀ s : State, s.pair.ho = none ∨ (∃ h, s.pair.ho = some h ∧ s.logic.ltc + 1 < h.at_) →
    exec .handoverApply s = .next s ∧ exec .handoverLapse s = .next s) ∧
  ∀ (s : State) (h : FeltHdr) (id : TickId) (o : Nat), s.feltTakes h = true → id.grid = s.tsu.id.grid →
    let u : State := { s with pair := s.pair.hear h }
    exec (.forwardedPinReceive h id o) s = .next (if o + 1536 < cyclesTo s.tsu (gridNs (nextGrid s.tsu)) then u.pin 0x08 (o + 1536) false
      else { u with hpi := { s.hpi with pinNext := s.hpi.pinNext ++ [(0, true)] } })

/-- Before ID_MAGIC is readable no access has an effect. Then a doorbell bit that is written while clear sets and clears
its DONE bit, other bits stay; ones written to MBX_DONE and MBX_EVT clear their bits; reading HPI_ERR or PIN_LOST
returns the counts and clears them; an access to an owned mailbox or an unmapped address is counted, up to 65,535, and
a read of it returns 0. SNAP_CTRL releases the banks named. A Pin of an enabled source joins a Pin on the same
edge; else it takes the first bank that is not full, with its cycle and source, and is counted as lost once an edge where both are full; FIRE
does so after the write. A write of MBX_IRQ_EN takes its 20 bits, and outside a mailbox a write with an inactive byte enable has no effect. -/
def Obligations.HostRegistersTakeEffect : Prop :=
  (∀ (s : State) (v : BitVec 32) (i : Fin 16) (w : Bool) (n : Nat), s.hpi.magic = false →
    exec (.mbxDoorbellWrite v) s = .next s ∧ exec (.mbxDoneClear v) s = .next s ∧ exec (.mbxEvtClear v) s = .next s ∧
    exec .hpiErrRead s = .next s ∧ exec (.ownedMailboxAccess i w) s = .next s ∧ exec (.unmappedAccess w) s = .next s ∧
    exec .pinLostRead s = .next s ∧ exec (.snapCtrlRelease v) s = .next s ∧ exec (.pinCtrlFire v n) s = .next s ∧ exec (.pinInEdge n) s = .next s) ∧
  ∀ s : State, s.hpi.magic = true →
    (∀ v : BitVec 32, ∃ t, exec (.mbxDoorbellWrite v) s = .next t ∧ t = { s with hpi := { s.hpi with doorbell := t.hpi.doorbell, done := t.hpi.done } } ∧
      ∀ i < 16, t.hpi.doorbell.getLsbD i = (s.hpi.doorbell.getLsbD i || v.getLsbD i) ∧
        t.hpi.done.getLsbD i = (s.hpi.done.getLsbD i && !(v.getLsbD i && !s.hpi.doorbell.getLsbD i))) ∧
    (∀ v : BitVec 32, ∃ t, exec (.mbxDoneClear v) s = .next t ∧ t = { s with hpi := { s.hpi with done := t.hpi.done } } ∧
      ∀ i < 16, t.hpi.done.getLsbD i = (s.hpi.done.getLsbD i && !v.getLsbD i)) ∧
    (∀ v : BitVec 32, ∃ t, exec (.mbxEvtClear v) s = .next t ∧ t = { s with hpi := { s.hpi with evt := t.hpi.evt } } ∧
      ∀ i < 4, t.hpi.evt.getLsbD i = (s.hpi.evt.getLsbD i && !v.getLsbD i)) ∧
    exec .hpiErrRead s = .next { s with hpi := { s.hpi with
      data := BitVec.ofNat 64 (s.hpi.errOwned + 65536 * s.hpi.errUnmap), errOwned := 0, errUnmap := 0 } } ∧
    exec .pinLostRead s = .next { s with hpi := { s.hpi with data := BitVec.ofNat 64 s.hpi.pinLost, pinLost := 0 } } ∧
    (∀ (i : Fin 16) (w : Bool), exec (.ownedMailboxAccess i w) s = .next (if s.hpi.doorbell.getLsbD i.val = true then { s with hpi := { s.hpi with
      errOwned := Nat.min (s.hpi.errOwned + 1) 65535, data := if w = true then s.hpi.data else 0 } } else s)) ∧
    (∀ w : Bool, exec (.unmappedAccess w) s = .next { s with hpi := { s.hpi with
      errUnmap := Nat.min (s.hpi.errUnmap + 1) 65535, data := if w = true then s.hpi.data else 0 } }) ∧
    (∀ v : BitVec 32, ∃ t, exec (.snapCtrlRelease v) s = .next t ∧ t = { s with hpi := { s.hpi with banks := t.hpi.banks } } ∧
      ∀ i, t.hpi.banks[i]? = (s.hpi.banks[i]?).map (fun b => if i < 2 ∧ v.getLsbD i = true then { b with full := false } else b)) ∧
    (∀ (v : BitVec 32) (n : Nat), exec (.pinCtrlFire v n) s = .next (let u : State := { s with hpi := { s.hpi with pinCtrl := v.setWidth 8 } }
      if v.getLsbD 8 = true then u.pin 0x01 n false else u)) ∧
    (∀ n : Nat,
      (s.hpi.pinCtrl.getLsbD 1 = false → exec (.pinInEdge n) s = .next s) ∧
      (s.hpi.pinCtrl.getLsbD 1 = true → s.edgeTaken n 0 = none → (∀ b ∈ s.hpi.banks, b.full = true) →
        exec (.pinInEdge n) s = .next { s with hpi := { s.hpi with pinLost := Nat.min (s.hpi.pinLost + 1) 0xFFFFFFFF
                                                                   edges := s.hpi.edges ++ [((s.tsu.id.grid, n), none)] } }) ∧
      (s.hpi.pinCtrl.getLsbD 1 = true → s.edgeTaken n 0 = some none → exec (.pinInEdge n) s = .next s) ∧
      (∀ i, s.hpi.pinCtrl.getLsbD 1 = true → s.edgeTaken n 0 = some (some i) → ∃ t, exec (.pinInEdge n) s = .next t ∧
        t = { s with hpi := { s.hpi with banks := t.hpi.banks } } ∧ ∀ j, t.hpi.banks[j]? = (s.hpi.banks[j]?).map (fun b =>
          if j = i ∧ b.full = true then { b with hdr := { b.hdr with src := b.hdr.src ||| 2 } } else b)) ∧
      ∀ i, s.hpi.pinCtrl.getLsbD 1 = true → s.edgeTaken n 0 = none → s.hpi.banks.findIdx? (fun b => !b.full) = some i → ∃ t b, exec (.pinInEdge n) s = .next t ∧
        t = { s with hpi := { s.hpi with banks := s.hpi.banks.set i b, pinSeq := s.hpi.pinSeq + 1, pulseEnd := t.hpi.pulseEnd, edges := s.hpi.edges ++ [((s.tsu.id.grid, n), some i)] }
                     pair := { s.pair with feltSeq := t.pair.feltSeq }, free := s.free + 1, out := t.out } ∧
        b.full = true ∧ b.filling = true ∧ b.hdr.cycle = n ∧ b.hdr.src = 2 ∧ b.hdr.ident = s.tsu.id ∧ b.hdr.pinSeq = s.hpi.pinSeq + 1) ∧
    (∀ v : BitVec 64, exec (.registerWrite false 0x2008 v 0xF) s = .next { s with hpi := { s.hpi with irqEn := v.setWidth 20 } }) ∧
    ∀ (a : BitVec 24) (v : BitVec 64) (be : BitVec 4), be ≠ 0xF → hostRegion (a.toNat / 4 * 4) ≠ 0 → hostRegion (a.toNat / 4 * 4) ≠ 4 →
      exec (.registerWrite false a v be) s = .next s

/-- Admitted by R438: SESSION_OPEN with an enrolled key and a free place adds a session with a nonzero number and answers
it with the engine's nonce; SESSION_AUTH gives it its key's privileges, or is refused with 0x0102; SESSION_CLOSE ends
it; SESSION_INFO tells key, privileges, last TAG and idle seconds. A session idle for 900 s closes. KEY_ENROL opens a
job, which the button ends with the next KEY_ID and 60 s without it end with 0x0102; KEY_REVOKE removes a key and
closes its sessions; KEY_LIST lists the keys. -/
def Obligations.SessionsAndKeysTakeEffect : Prop :=
  (∀ (s : State) (r : Req) (k : Nat) (h : BitVec 256), let c := cmdSessionOpen k h
    let u := s.touch c r
    s.admits c r = true → u.sca.keys.any (fun x => x.id == k) = true → u.sessionsFull r.carrier = false →
    ∃ (id : BitVec 32) (en : BitVec 256), id ≠ 0 ∧ exec (.sessionOpen r k h) s = .next (({ u with free := s.free + 1, svc := { u.svc with
      sessions := u.svc.sessions ++ [{ id := id, keyId := k, carrier := r.carrier, enonce := en, hnonce := h, idle := s.tsu.statTick }] } } : State).answered
        c r (leBytes id.toNat 4 ++ leBytes en.toNat 32))) ∧
  (∀ (s : State) (r : Req) (x : Session) (sig : BitVec 768), let c := cmdSessionAuth sig
    let u := s.touch c r
    let p := ((s.sca.keys.find? (fun k => k.id == x.keyId)).map (·.priv)).getD 0
    let msg := leBytes s.sca.serial.toNat 8 ++ leBytes x.id.toNat 4 ++ leBytes x.enonce.toNat 32 ++ leBytes x.hnonce.toNat 32
    u.session r = some x → s.admits c r = true →
    (s.keySigned x.keyId (sha384 msg) sig = true →
      exec (.sessionAuth r sig) s = .next ((u.modSession x (fun y => { y with authed := true, priv := p })).answered c r (leBytes p.toNat 4))) ∧
    (s.keySigned x.keyId (sha384 msg) sig = false → exec (.sessionAuth r sig) s = .next (u.refuse c r 0x0102 true))) ∧
  (∀ (s : State) (r : Req) (x : Session), let u := s.touch cmdSessionClose r
    u.session r = some x → s.admits cmdSessionClose r = true → exec (.sessionClose r) s =
      .next ((u.closeSessions (fun y => y.id == x.id && y.carrier.same x.carrier)).answered cmdSessionClose r [])) ∧
  (∀ (s : State) (r : Req) (x : Session), s.session r = some x → s.admits cmdSessionInfo r = true → exec (.sessionInfo r) s =
    .next ((s.touch cmdSessionInfo r).answered cmdSessionInfo r (leBytes x.keyId 4 ++ leBytes x.priv.toNat 4 ++ leBytes (x.lastTag.getD 0) 4 ++
      leBytes ((s.tsu.statTick - x.idle) / 9600) 4))) ∧
  (∀ (s : State) (n : Nat), exec (.sessionTimeout n) s = .next { s with svc := { s.svc with sessions := s.svc.sessions.filter (fun x =>
    !(x.id.toNat == n && decide (x.idle + 8640000 ≤ s.tsu.statTick))) } }) ∧
  (∀ (s : State) (r : Req) (key : BitVec 776) (p : BitVec 9), let c := cmdKeyEnrol key p
    let u := s.touch c r
    s.admits c r = true → s.sca.keys.length < 32 → s.sca.button = false → s.jobFree 0x0110 = true →
    exec (.keyEnrol r key p) s = .next (({ u with svc := { u.svc with nextJob := s.svc.nextJob + 1, jobs := s.svc.jobs ++
      [{ opcode := 0x0110, key := key, priv := p, no := s.svc.nextJob, state := 1, begun := s.tsu.statTick }] } } : State).answered
        c r (leBytes s.svc.nextJob 4) (status := 1))) ∧
  (∀ (s : State) (j : Job), s.jobOf 0x0110 = some j →
    (∃ t result, exec .keyEnrolButton s = .next t ∧ t = { s with sca := t.sca, svc := t.svc, hpi := t.hpi, free := t.free } ∧
      t.sca = { s.sca with button := true, nextKey := s.sca.nextKey + 1, keys := s.sca.keys ++ [{ id := s.sca.nextKey, key := j.key, priv := j.priv }] } ∧
      t.svc = { s.svc with jobs := s.svc.jobs.map (fun i => if i.no = j.no ∧ i.state = 1
        then { i with state := 2, final := 0, result := result, endedAt := s.tsu.statTick } else i) }) ∧
    (s.tsu.statTick < j.begun + 576000 → exec .keyEnrolTimeout s = .next s) ∧
    (j.begun + 576000 ≤ s.tsu.statTick → ∃ result, exec .keyEnrolTimeout s = .next { s.endJob j.no 3 0x0102 result with free := s.free + 1 })) ∧
  (∀ s : State, s.jobOf 0x0110 = none → exec .keyEnrolTimeout s = .next s ∧
    exec .keyEnrolButton s = .next { s with sca := { s.sca with button := true } }) ∧
  ∀ (s : State) (r : Req),
    (∀ k, let c := cmdKeyRevoke k
      let u := s.touch c r
      s.admits c r = true → s.sca.keys.any (fun x => x.id == k) = true →
      exec (.keyRevoke r k) s = .next (({ u with sca := { s.sca with keys := s.sca.keys.filter (fun x => x.id != k) }, svc := { u.svc with
        sessions := u.svc.sessions.filter (fun x => !(x.keyId == k)) } } : State).answered c r [])) ∧
    (s.admits cmdKeyList r = true → exec (.keyList r) s = .next ((s.touch cmdKeyList r).answered cmdKeyList r ((s.sca.keys.take 32).flatMap keyEntry)))

/-- For every query of R443 that R438 admits: the answer has status 0 and the payload that its row names (identity, status
window, points, records in order from the number asked, counters, file bytes, bank bytes, echoed data), and beside the
response, and the session's idle time, nothing changes. SELFTEST and JOB_STATUS also use up the free values that they
answer (log entry 6). -/
def Obligations.QueriesAreAnswered : Prop :=
  ∀ (s : State) (r : Req), let u (c : CmdSpec) := s.touch c r
    let ans (c : CmdSpec) (p : List Byte) : Host.Outcome State Fault Refusal := .next ((u c).answered c r p)
    let o (c : CmdSpec) : Prop := s.admits c r = true
    (o cmdGetIdentity → exec (.getIdentity r) s = ans cmdGetIdentity (s.identBytes ++
      beBytes (if s.sca.ident then Config.identKey s.sca.identN else (0 : BitVec 776)).toNat 97)) ∧
    (o cmdGetStatus → exec (.getStatus r) s = ans cmdGetStatus (windowHead s.hpi.win)) ∧
    (o cmdGetHealth → exec (.getHealth r) s = ans cmdGetHealth
      ((List.range 128).flatMap (fun k => leBytes (s.seen (0xF0000 + k)).value.toNat 8))) ∧
    (o cmdSelftest → ∃ w : BitVec 32, exec (.selftest r) s = .next (({ u cmdSelftest with free := s.free + 1 } : State).answered cmdSelftest r
      (leBytes w.toNat 4 ++ leBytes s.hpi.win.health.toNat 4))) ∧
    (o cmdCounters → exec (.counters r) s = ans cmdCounters (leBytes (s.hpi.errOwned + 65536 * s.hpi.errUnmap) 4 ++
      leBytes (u cmdCounters).svc.sessions.length 4 ++ leBytes s.svc.sigFails 4 ++ leBytes s.svc.refused 4)) ∧
    (∀ d : List Byte, o (cmdEcho d) → exec (.echo r d) s = ans (cmdEcho d) d) ∧
    (o cmdTimeGet → exec (.timeGet r) s = ans cmdTimeGet (leBytes (s.tsu.ns / 1000000000) 8 ++ leBytes (s.tsu.ns % 1000000000) 4 ++
      leBytes s.tsu.gen.toNat 2 ++ leBytes s.tsu.st 2 ++ leBytes ((estNow s.tsu).getD (2 ^ 64 - 1)) 8 ++
      leBytes (BitVec.ofInt 64 (s.tsu.pend.getD 0)).toNat 8)) ∧
    (o cmdPairInfo → exec (.pairInfo r) s = ans cmdPairInfo (leBytes s.pairStatusWord 4 ++ leBytes s.hatStatusWord 4 ++
      leBytes s.pair.ppart.toNat 4 ++ leBytes s.pair.pfw.toNat 4 ++ leBytes s.pair.pblock.toNat 16)) ∧
    (o cmdBlockInfo → exec (.blockInfo r) s = ans cmdBlockInfo (leBytes ((s.store.cur.map Block.blockId).getD 0).toNat 16 ++
      leBytes ((s.store.prev.map Block.blockId).getD 0).toNat 16 ++ leBytes ((s.store.xfer.map Xfer.idv).getD 0).toNat 16 ++
      leBytes (stagedState s.store.xfer s.store.checked + 4 * boolNat s.store.prev.isSome + 8 * boolNat s.store.conv) 4)) ∧
    (o cmdUpdInfo → exec (.updInfo r) s = ans cmdUpdInfo (leBytes s.upd.stage 4 ++ leBytes ((s.upd.pkg.map Package.toVer).getD 0).toNat 4 ++
      leBytes s.life.fwVer.toNat 4 ++ leBytes s.upd.altVer.toNat 4 ++ leBytes (confCode s.upd) 4 ++ leBytes s.windowLeft 4 ++
      leBytes s.upd.matches_ 4 ++ leBytes s.upd.lastFail 4 ++ leBytes s.sca.secLvl 4)) ∧
    (o cmdHoodInfo → exec (.hoodInfo r) s = ans cmdHoodInfo
      ((List.range 10).flatMap (fun k => leBytes (s.seen (0xF02C0 + k)).value.toNat 8))) ∧
    (∀ l : List Nat, o (cmdPointRead l) →
      exec (.pointRead r l) s = ans (cmdPointRead l) (leBytes l.length 4 ++ l.flatMap (fun i => pointBytes (s.seen i)))) ∧
    (∀ f n : Nat, o (cmdRangeRead f n) →
      exec (.rangeRead r f n) s = ans (cmdRangeRead f n) (leBytes n 4 ++ (List.range n).flatMap (fun i => pointBytes (s.seen (f + i))))) ∧
    (∀ f : Nat, o (cmdForceList f) → exec (.forceList r f) s = ans (cmdForceList f)
      (leBytes ((s.sig.forces.drop f).take 126).length 4 ++ ((s.sig.forces.drop f).take 126).flatMap forceBytes)) ∧
    (o cmdEvrInfo → exec (.evrInfo r) s = ans cmdEvrInfo (evrInfoBytes s.evr)) ∧
    (∀ q n : Nat, o (cmdEvrRead q n) → exec (.evrRead r q n) s = ans (cmdEvrRead q n)
      ((((sortBy (·.seq) (s.evr.mem.map (·.2))).filter (fun x => decide (q ≤ x.seq))).take n).flatMap recAll)) ∧
    (∀ k : Nat, o (cmdTombRead k) → exec (.tombRead r k) s = ans (cmdTombRead k)
      (match at! s.evr.tomb k with | some (x, _) => recAll x | none => List.replicate 256 0#8)) ∧
    (∀ q : Nat, o (cmdDrcList q) → exec (.drcList r q) s = ans (cmdDrcList q)
      (((s.drc.recs.filter (fun x => decide (q ≤ x.recno))).take 63).flatMap drcHeader)) ∧
    (∀ (j f b : Nat) (x : DrcRec × ComOpts), o (cmdDrcFile j f b) → s.exported j = some x →
      exec (.drcFile r j f b) s = ans (cmdDrcFile j f b) (((Config.comtrade (s.comtrade x.1 x.2) f).drop b).take 4032)) ∧
    (∀ k b n : Nat, o (cmdSnapRead k b n) → exec (.snapRead r k b n) s =
      ans (cmdSnapRead k b n) (((bankBytes (at! s.hpi.banks k)).drop b).take n)) ∧
    ∀ (n : Nat) (j : Job), o (cmdJobStatus n) → s.svc.jobs.find? (fun j => j.no == n) = some j → ∃ (pr : BitVec 16) (fi : Nat) (re : BitVec 64),
      (j.state ≠ 1 → fi = j.final ∧ re = j.result) ∧ (j.armed = true → re = j.result) ∧
      exec (.jobStatus r n) s = .next (({ u (cmdJobStatus n) with free := s.free + 2 } : State).answered (cmdJobStatus n) r
        (leBytes j.state 1 ++ leBytes 0 1 ++ leBytes pr.toNat 2 ++ leBytes fi 2 ++ leBytes 0 2 ++ leBytes re.toNat 8))

/-- A force, a group, mode, simulation or point write, a control, a slot reset, a trigger, and the cancel of an armed
Hood, admitted by R438 with a valid NTICK and no code of its own against it, is queued with its operands for the named
tick, and its mailbox stays the engine's until the answer. TIME_STEP arms the clock's step and HOOD_SWAP the Hood at
once for their tick. HANDOVER plans H and answers it; UTC_OFS_SET sets the offset; ENGINE_RESET and TO_WAITING make
the engine leave with their cause; PIN_FIRE fires, SNAP_RELEASE frees a bank, EVR_CLEAR waits for the next tick,
DRC_DELETE removes an idle record. -/
def Obligations.OperatorCommandsTakeEffect : Prop :=
  ∀ (s : State) (r : Req), let u (c : CmdSpec) := s.touch c r
    let q (c : CmdSpec) (n : Nat) (a : Act) : Host.Outcome State Fault Refusal := .next (s.queued c r n a)
    let o (c : CmdSpec) : Prop := s.admits c r = true
    let tk (n : Nat) : Nat := if n = 0 then s.logic.ltc + 1 else n
    let ok (n : Nat) : Prop := n = 0 ∨ s.logic.ltc < n ∧ n ≤ s.logic.ltc + 576000
    (∀ n p qv v, let c := cmdForceSet n p qv v
      o c → ok n → (u c).forceCode (tk n) p qv v = 0 → exec (.forceSet r n p qv v) s = q c (tk n) (.forceSet p qv v)) ∧
    (∀ n p, let c := cmdForceRelease n p
      o c → (u c).releaseCode p = 0 → ok n → exec (.forceRelease r n p) s = q c (tk n) (.forceRelease p)) ∧
    (∀ n g, let c := cmdGroupSwitch n g
      o c → s.block.selector = none → ok n → exec (.groupSwitch r n g) s = q c (tk n) (.groupSwitch g)) ∧
    (∀ n t m, let c := cmdModeSet n t m
      o c → s.absentBay t = false → ok n → exec (.modeSet r n t m) s = q c (tk n) (.modeSet t m)) ∧
    (∀ n b, let c := cmdSimSet n (boolNat b)
      o c → ok n → exec (.simSet r n (boolNat b)) s = q c (tk n) (.simSet b)) ∧
    (∀ n p v, let c := cmdPointWrite (s.valueCoded p v) n p v
      o c → s.pointOpen p = true → ok n → exec (.pointWrite r n p v) s = q c (tk n) (.pointWrite p v)) ∧
    (∀ n k v w, let c := cmdCtlOperate n k v w
      o c → s.slotThere k = true → ok n → exec (.ctlOperate r n k v w) s = q c (tk n) (.ctlOperate k v w none)) ∧
    (∀ k v w, let c := cmdCtlSelect k v w
      o c → s.slotThere k = true → exec (.ctlSelect r k v w) s = q c (tk 0) (.ctlSelect k v w none)) ∧
    (∀ k w, let c := cmdCtlCancel k w
      o c → s.slotThere k = true → exec (.ctlCancel r k w) s = q c (tk 0) (.ctlCancel k w)) ∧
    (∀ n k i, let c := cmdSlotReset n k i
      o c → s.slotThere k = true → ok n → exec (.slotReset r n k i) s = q c (tk n) (.slotReset k i)) ∧
    (∀ n p, let c := cmdDrcTrigger n p
      o c → (at! s.block.plans p).use = true → ok n → exec (.drcTrigger r n p) s = q c (tk n) (.drcTrigger p)) ∧
    (∀ n m, let c := cmdHoodCancel n
      o c → s.hood.armed = some m → tk n < m → s.partnerBusy = false → ok n → exec (.hoodCancel r n) s = q c (tk n) .hoodCancel) ∧
    (∀ n h, let c := cmdHoodSwap n
      let m := if n = 0 then s.logic.ltc + 48 else n
      o c → s.hood.held = some h → s.hood.loaded = true → s.hood.armed = none → s.partnerBusy = false → s.swapCode h m = 0 →
      ∃ t, exec (.hoodSwap r n) s = .next t ∧ t = { s.queued c r m .hoodSwap with hood := { s.hood with armed := some m, swapped := false } }) ∧
    (∀ n sec nsec, let c := cmdTimeStep n 1 sec nsec
      let m := if n = 0 then s.logic.ltc + 2 else n
      let w : Int := sec * 1000000000 + nsec
      o c → stepCode s.block.time.jump s.logic.ltc m 1 w s.tsu = 0 →
      ∃ t, exec (.timeStep r n 1 sec nsec) s = .next t ∧ t = { s.queued c r m (.timeStep (w.tdiv 1000000000) (w.tmod 1000000000)) with
        tsu := { s.tsu with arm := true, stepAt := s.tsu.statTick + (m - s.logic.ltc), stepSec := w.tdiv 1000000000, stepNsec := w.tmod 1000000000 } }) ∧
    (∀ n, let c := cmdUtcOfsSet n
      o c → n ≤ 255 → exec (.utcOfsSet r n) s = .next (({ u c with
        tsu := { s.tsu with utcOfs := some n }, sca := { s.sca with utc := some n } } : State).answered c r [])) ∧
    (∀ n w, let c := cmdHandover n
      let h := if n = 0 then s.logic.ltc + 48 else n
      o c → s.life.role = 1 → s.handoverCode h w = 0 → ∃ id, exec (.handover r n w) s = .next (({ u c with pair := { s.pair with
        ho := some { at_ := h, id := id }, hoA := false } } : State).answered c r [] (ntick := h))) ∧
    (let c := cmdEngineReset; o c → exec (.engineReset r) s = .next (({ u c with
      life := { s.life with leaving := true, resetCause := 0x10001, sickTicks := some (if s.life.role = 1 then s.life.sickTicks.getD 0 else 20) }
      hat := { s.hat with taken := s.life.sickTicks.isSome && s.hat.taken } } : State).answered c r [])) ∧
    (let c := cmdToWaiting; o c → exec (.toWaiting r) s = .next (({ u c with
      life := { s.life with leaving := true, resetCause := 0x10002, sickTicks := some (if s.life.role = 1 then s.life.sickTicks.getD 0 else 20) }
      hat := { s.hat with taken := s.life.sickTicks.isSome && s.hat.taken } } : State).answered c r [])) ∧
    (∀ n, o cmdPinFire → exec (.pinFire r n) s = .next (((u cmdPinFire).pin 0x01 n false).answered cmdPinFire r [])) ∧
    (∀ k, let c := cmdSnapRelease k
      o c → exec (.snapRelease r k) s = .next (({ u c with hpi := { (u c).hpi with
        banks := s.hpi.banks.modify k (fun b => { b with full := false }) } } : State).answered c r [])) ∧
    (let c := cmdEvrClear; o c → s.evr.state ≠ 2 → s.evr.clearReq = none → ∃ key fp, exec (.evrClear r) s = .next (({ u c with
        evr := { s.evr with clearReq := some (key, fp, s.logic.ltc + 1, r.tag) }
        svc := { (u c).svc with waits := s.svc.waits ++ [(r.carrier, 0x0703, r.tag, r.session)] } } : State).held c r)) ∧
    ∀ n x, let c := cmdDrcDelete n
      o c → s.drc.rec_ n = some x → x.state ≠ 1 → x.exporting = false → exec (.drcDelete r n) s = .next (({ u c with
        drc := { s.drc with recs := s.drc.recs.filter (fun y => y.recno != n) } } : State).answered c r [])

/-- Admitted by R438 and with no code of its own against it: a BEGIN opens its transfer for the session with LENGTH; a
chunk of it, inside LENGTH, adds its bytes and its time; a check, activation, load, export or stage opens a job with
the next number, answered with status 1. A cancel ends a running job that is not armed; a check ends with the first
failing code of the staged Block, a Hood's with its own, its partner's or none, in which case it is loaded; an update
package that passes is staged. TRANSFER_DISCARD discards a transfer that has been idle for 600 s. -/
def Obligations.TransfersAndJobsTakeEffect : Prop :=
  (∀ (s : State) (r : Req), let u (c : CmdSpec) := s.touch c r
    let o (c : CmdSpec) : Prop := s.admits c r = true
    let job (c : CmdSpec) (v : State) (j : Job) : Host.Outcome State Fault Refusal := .next (({ v with svc := { v.svc with
      nextJob := s.svc.nextJob + 1, jobs := s.svc.jobs ++ [{ j with opcode := c.op, no := s.svc.nextJob, state := 1, begun := s.tsu.statTick }] } } : State).answered
        c r (leBytes s.svc.nextJob 4) (status := 1))
    let fwd (x : Forwarded) : List FeltFrame := if s.life.role = 1 then [.forward x] else []
    (∀ n id, let c := cmdBlockBegin n id
      o c → foreign r.session s.store.xfer = false → exec (.blockBegin r n id) s =
      .next (({ u c with store := { s.store with checked := false, xfer := some { session := BitVec.ofNat 32 r.session, length := n, idv := id, lastT := s.tsu.statTick } } } : State).answered c r [])) ∧
    (∀ n id, let c := cmdHoodBegin n id
      o c → n ≤ 16 * 2 ^ 20 → foreign r.session s.store.hoodX = false → exec (.hoodBegin r n id) s =
      .next (({ u c with store := { s.store with hoodX := some { session := BitVec.ofNat 32 r.session, length := n, idv := id, lastT := s.tsu.statTick } } } : State).answered c r [])) ∧
    (∀ n, let c := cmdUpdBegin n
      o c → n ≤ 32 * 2 ^ 20 → foreign r.session s.upd.xfer = false → s.upd.stage = 0 → exec (.updBegin r n) s =
      .next (({ u c with upd := { s.upd with stage := 1, pkg := none, xfer := some { session := BitVec.ofNat 32 r.session, length := n, lastT := s.tsu.statTick } } } : State).answered c r [])) ∧
    (∀ a d x, let c := cmdBlockChunk (decide (a + d.length ≤ x.length)) a d
      o c → s.store.xfer = some x → x.session.toNat = r.session →
      exec (.blockChunk r a d) s = .next (({ u c with store := { s.store with checked := false, xfer := some { x with
        got := x.got ++ [(a, d)], lastT := s.tsu.statTick } } } : State).answered c r [])) ∧
    (∀ a d x, let c := cmdHoodChunk (decide (a + d.length ≤ x.length)) a d
      o c → s.store.hoodX = some x → x.session.toNat = r.session →
      exec (.hoodChunk r a d) s = .next (({ u c with store := { s.store with hoodX := some { x with
        got := x.got ++ [(a, d)], lastT := s.tsu.statTick } } } : State).answered c r [])) ∧
    (∀ a d x, let c := cmdUpdChunk (decide (a + d.length ≤ x.length)) a d
      o c → s.upd.xfer = some x → x.session.toNat = r.session →
      exec (.updChunk r a d) s = .next (({ u c with upd := { s.upd with xfer := some { x with
        got := x.got ++ [(a, d)], lastT := s.tsu.statTick } } } : State).answered c r [])) ∧
    (let c := cmdBlockCheck; o c → s.jobFree 0x0303 = true → exec (.blockCheck r) s = job c (u c) {}) ∧
    (∀ k n b, let c := cmdBlockActivate k n
      o c → s.activateBarred = false → ntickOk s.logic.ltc n = true → s.jobFree 0x0304 = true → s.slotBlock k = some b →
      exec (.blockActivate r k n) s = job c (({ u c with store := { s.store with
        partnerOk := none, act := some { blk := b, prev := k == 1, job := s.svc.nextJob, ntick := n } } } : State).sendFelt (fwd (.block b))) {}) ∧
    (let c := cmdHoodLoad; o c → s.partnerBusy = false → s.hood.armed = none → s.jobFree 0x0403 = true →
      exec (.hoodLoad r) s = job c ((u c).sendFelt (fwd (.hood s.hoodReceived))) {}) ∧
    (∀ n k x, let c := cmdDrcExport (ComOpts.ofNat k).isSome n k
      o c → s.drc.rec_ n = some x → x.state ≠ 1 → s.jobFree 0x0803 = true →
      exec (.drcExport r n k) s = job c { u c with drc := { s.drc with
        recs := s.drc.recs.map (fun y => if y.recno = n then { y with exporting := true } else y) } } { recno := n, opts := k }) ∧
    (∀ m out, let c := cmdUpdStage m out
      o c → (m = 1 → s.bootBarred = false) → s.jobFree 0x0B03 = true → s.stageCode m out = 0 →
      exec (.updStage r m out) s = job c (u c) { opts := m }) ∧
    (let c := cmdUpdDiscard; o c → exec (.updDiscard r) s = .next (({ u c with upd := { s.upd with stage := 0, xfer := none, pkg := none, cut := false } } : State).answered c r [])) ∧
    (let c := cmdHoodUnload; o c → s.hood.loaded = true → s.hood.armed = none → exec (.hoodUnload r) s =
      .next (({ u c with hood := { s.hood with held := none, loaded := false } } : State).answered c r [])) ∧
    ∀ n j, let a := jobAuth (((s.svc.jobs.find? (fun j => j.no == n)).map (·.opcode)).getD 0)
      let c := cmdJobCancel a n
      o c → s.running.find? (fun j => j.no == n) = some j → j.armed = false → ∃ fin res, exec (.jobCancel r n) s =
        .next (({ ((u c).dropJob j).endJob j.no 4 fin res with free := s.free + 1 } : State).answered c r [])) ∧
  (∀ (s : State) (j : Job), s.jobOf 0x0303 = some j → let code := match s.store.xfer with
      | some x => if x.complete = true then blockCheck s.checkEnv x.blockOf else 0x0204
      | none => 0x0204
    ∃ res, exec .blockCheckComplete s = .next { ({ s with store := { s.store with checked := code == 0 } } : State).endJob j.no
      (if code = 0 then 2 else 3) code res with free := s.free + 1 }) ∧
  (∀ s : State, s.jobOf 0x0303 = none → exec .blockCheckComplete s = .next s) ∧
  (∀ (s : State) (p : Nat) (j : Job), s.jobOf 0x0403 = some j → let h := s.hoodReceived
    ∃ res, (s.checkHood h ≠ 0 → exec (.hoodLoadComplete p) s = .next { s.endJob j.no 3 (s.checkHood h) res with free := s.free + 1 }) ∧
      (s.checkHood h = 0 → s.pair.linkUp = true → p ≠ 0 → exec (.hoodLoadComplete p) s = .next { s.endJob j.no 3 p res with free := s.free + 1 }) ∧
      (s.checkHood h = 0 → s.pair.linkUp = false ∨ p = 0 → s.hood.armed = none → exec (.hoodLoadComplete p) s = .next
        { ({ s with hood := { s.hood with held := some h, loaded := true }, store := { s.store with hoodX := none } } : State).endJob j.no 2 0 res with
          free := s.free + 1 })) ∧
  (∀ (s : State) (p : Nat), s.jobOf 0x0403 = none → s.hood.cand = none → exec (.hoodLoadComplete p) s = .next s) ∧
  (∀ (s : State) (p : Nat) (h : Hood), s.jobOf 0x0403 = none → s.hood.cand = some h → exec (.hoodLoadComplete p) s = .next { s with
    hood := if p = 0 ∧ s.hood.armed = none then { s.hood with held := some h, loaded := true, cand := none } else { s.hood with cand := none } }) ∧
  (∀ (s : State) (n fin res : Nat), s.running.find? (fun j => j.no == n) = none → exec (.jobEnd n fin res) s = .next s) ∧
  (∀ (s : State) (n fin res : Nat) (j : Job) (p : Package), s.running.find? (fun j => j.no == n) = some j → j.opcode = 0x0B03 → j.opts = 0 →
    s.package = some p → let code := packageCode s.life.fwVer s.upd.hash s.sca.fwKey s.sca.secLvl p
    ∃ v, (code ≠ 0 → exec (.jobEnd n fin res) s = .next { s.endJob j.no 3 code v with free := s.free + 1 }) ∧
      (code = 0 → exec (.jobEnd n fin res) s = .next { ({ s with upd := { s.upd with stage := 2, pkg := some p, xfer := none } } : State).endJob j.no 2 0 v with
        free := s.free + 1 })) ∧
  ∀ s : State,
    exec (.transferDiscard 0) s = .next (if xferIdle s.tsu.statTick s.store.xfer = true
      then { s with store := { s.store with xfer := none, checked := false } } else s) ∧
    exec (.transferDiscard 1) s = .next (if xferIdle s.tsu.statTick s.store.hoodX = true then { s with store := { s.store with hoodX := none } } else s) ∧
    exec (.transferDiscard 2) s = .next (if xferIdle s.tsu.statTick s.upd.xfer = true then { s with upd := { s.upd with xfer := none, stage := 0 } } else s)

/-- A protocol that the Block does not enable serves nothing. A control, write, group switch or mode change against which
the protocol's map, the role and the command's own rules find nothing is queued for the next tick, to be answered to
its connection; another is refused to it, and changes nothing else. The same holds of a control that comes as an MMS
service, an IEC 104 ASDU with the Block's common address on a started connection, a DNP3 operate, a Modbus coil, which needs no
selection, and an IEC 103 command on a port that runs it. A read of mapped points answers their present records, except in role 0, to a
Modbus client in registers. -/
def Obligations.StationRequestsTakeEffect : Prop :=
  (∀ (s : State) (p : Fin 6) (a : StationAct) (w : BitVec 128) (t : Option Bool),
    (s.serves p.val = false → exec (.stationProtocolControl p a w t) s = .next s) ∧
    (s.serves p.val = true → s.stCode p.val a = 0 → exec (.stationProtocolControl p a w t) s = .next (s.pushAct
      { act := a.toAct w t, ntick := s.logic.ltc + 1, opcode := a.opcode, reply := .station p.val 0 })) ∧
    (s.serves p.val = true → s.stCode p.val a ≠ 0 → exec (.stationProtocolControl p a w t) s =
      .next (s.say (stRefusal p.val 0 s.drives a (s.stCode p.val a))))) ∧
  (∀ (s : State) (a : Nat) (k v : Nat) (op test : Bool) (w : BitVec 128), s.serves 0 = true → s.assocOpen a = true →
    let x : StationAct := if op then .operate k v else .select k v
    s.stCode 0 x = 0 → exec (.mmsRequest a (.control k v op test w)) s = .next ((s.heardTls a).pushAct
      { act := x.toAct w (some test), ntick := s.logic.ltc + 1, opcode := x.opcode, reply := .station 0 a })) ∧
  (∀ (s : State) (a : Nat) (q : MmsReq), s.serves 0 = false ∨ s.assocOpen a = false → exec (.mmsRequest a q) s = .next s) ∧
  (∀ (s : State) (i : Fin 4) (k v : Nat), s.serves 1 = true → (at! s.cp.conns i.val).started = true → let u := s.heard104 i.val
    let ca := u.block.proto.ca104
    u.stCode 1 (.operate k v) = 0 → exec (.iec104Request i (.control 45 k v false 0 ca)) s = .next (u.pushAct
      { act := .ctlOperate k v (stOrigin 1 i.val ca) none, ntick := s.logic.ltc + 1, opcode := 0x0C11, reply := .station 1 i.val })) ∧
  (∀ (s : State) (i : Fin 4) (pair : Bool), s.serves 1 = true → pair = false ∨ s.cp.holdsPair = true →
    exec (.iec104Request i (.connect pair)) s = .next { s with
      cp := { s.cp with conns := s.cp.conns.modify i.val (fun _ => { open_ := true, pair := pair, lastT := s.tsu.statTick }) } }) ∧
  (∀ (s : State) (i : Fin 4), s.serves 1 = true → ∃ t, exec (.iec104Request i .startDt) s = .next t ∧ t = { s with cp := t.cp, out := t.out } ∧
    (i.val < s.cp.conns.length → (at! t.cp.conns i.val).open_ = true ∧ (at! t.cp.conns i.val).started = true) ∧
    ∀ j, j ≠ i.val → s.block.proto.group104[j]? = s.block.proto.group104[i.val]? → (at! t.cp.conns j).started = false) ∧
  (∀ (s : State) (i : Fin 4) (q : Iec104Req), s.serves 1 = false → exec (.iec104Request i q) s = .next s) ∧
  (∀ (s : State) (i : Fin 4) (k m : Nat) (ack : Bool), s.serves 2 = true → s.stCode 2 (.operate k 2) = 0 →
    exec (.dnp3Request i (.directOperate k .close m ack)) s = .next (s.pushAct
      { act := .ctlOperate k 2 (stOrigin 2 i.val m) none, ntick := s.logic.ltc + 1, opcode := 0x0C11, reply := if ack then .station 2 i.val else .none })) ∧
  (∀ (s : State) (i : Fin 4) (k m : Nat), s.serves 2 = true → exec (.dnp3Request i (.operate k .other m)) s = .next (s.say (outcome 2 i.val 3 false))) ∧
  (∀ (s : State) (i : Fin 4) (q : Dnp3Req), s.serves 2 = false → exec (.dnp3Request i q) s = .next s) ∧
  (∀ (s : State) (i : Fin 8) (k v : Nat), s.serves 3 = true → s.stCode 3 (.coil k v) = 0 → exec (.modbusRequest (.tcp i) (.writeCoils [(k, v)])) s =
    .next (s.pushAct { act := .ctlOperate k v (stOrigin 3 i.val 0) none true, ntick := s.logic.ltc + 1, opcode := 0x0C11, reply := .station 3 i.val })) ∧
  (∀ (s : State) (i : Fin 8) (l : List Nat), s.serves 3 = true → s.life.role ≠ 0 → (∀ p ∈ l, p ∈ s.mapped 3) →
    exec (.modbusRequest (.tcp i) (.read 3 l)) s = .next (s.say
      { proto := 3, conn := i.val, pts := s.points l, data := (s.points l).flatMap (fun p => modbusBytes p.2) })) ∧
  (∀ (s : State) (p : Fin 2) (a : Nat) (q : ModbusReq), (s.serialPort p.val).kind ≠ 1 ∨ (s.serialPort p.val).addr ≠ a →
    exec (.modbusRequest (.rtu p a) q) s = .next s) ∧
  (∀ (s : State) (i : ModbusPeer) (q : ModbusReq), s.serves 3 = false → exec (.modbusRequest i q) s = .next s) ∧
  (∀ (s : State) (i : Fin 2) (k v : Nat), s.serves 4 = true → (s.serialPort i.val).kind = 2 → s.stCode 4 (.operate k v) = 0 →
    exec (.iec103Request i (.command k v)) s =
    .next (s.pushAct { act := .ctlOperate k v (stOrigin 4 i.val 0) none, ntick := s.logic.ltc + 1, opcode := 0x0C11, reply := .station 4 i.val })) ∧
  (∀ (s : State) (i : Fin 2), s.serves 4 = true → (s.serialPort i.val).kind = 2 → s.life.role ≠ 0 →
    exec (.iec103Request i .interrogation) s = .next (s.say { proto := 4, conn := i.val, pts := s.points (s.mapped 4) })) ∧
  ∀ (s : State) (i : Fin 2) (q : Iec103Req), s.serves 4 = false ∨ (s.serialPort i.val).kind ≠ 2 → exec (.iec103Request i q) s = .next s

/-- A C37.118 stream is turned on only by the wearer of the Hat and off by any, and a header or configuration is sent except in role 0. A
live publication that is due and unchanged counts sqNum and doubles its interval up to TMAX. PRP supervision goes out
of a running engine, 2 s after the last. The change queue gives up its oldest entries. An integrity period that has passed sends what is
buffered and the dataset to an open client. A t1 expiry with a frame unacknowledged closes the connection, t2 acknowledges, t3 tests, each
once its time has passed. A handshake of an engine that has its identity key with a
trusted, unrevoked certificate opens an association, a due key update renews it, its close ends its sessions; a
verified list replaces the revocations. An encapsulated request with an unknown opcode is refused with 0x0100, one
beyond four in flight with 0x0104. -/
def Obligations.StationServicesTakeEffect : Prop :=
  (∀ (s : State) (n : Fin 8) (p : SyncStream), s.serves 5 = true → s.block.proto.syncs[n.val]? = some p →
    (∀ pair, exec (.c37Command n (.dataOn pair)) s = .next (if s.hat.latch = true ∧ (pair = false ∨ s.cp.holdsPair = true) then { s with
      phe := { s.phe with syncs := s.phe.syncs.modify n.val (fun x => { x with on := true, viaPair := pair }) } } else s)) ∧
    exec (.c37Command n .dataOff) s = .next { s with
      phe := { s.phe with syncs := s.phe.syncs.modify n.val (fun x => { x with on := false, viaPair := false, ready := [] }) } } ∧
    (∀ q k, (q, k) ∈ [(C37Cmd.sendHdr, 0), (C37Cmd.sendCfg1, 1), (C37Cmd.sendCfg2, 2), (C37Cmd.sendCfg3, 3)] →
      exec (.c37Command n q) s = .next (if s.life.role = 0 then s else { s with out := s.out ++ [.c37Config n.val k (c37Cfg s.block n.val k)] })) ∧ exec (.c37Command n .extended) s = .next s) ∧
  (∀ (s : State) (n : Fin 8) (q : C37Cmd), s.serves 5 = false → exec (.c37Command n q) s = .next s) ∧
  (∀ (s : State) (n : Fin 128) (p : GoosePub), s.block.proto.goosePubs[n.val]? = some p → let x := at! s.cp.pubs n.val
    let y : PubState := { x with sqNum := (x.sqNum + 1) % 4294967296, ival := Nat.min (2 * x.ival) p.tmax, due := Nat.min (2 * x.ival) p.tmax }
    (s.protects = true → x.live = true → x.vals = pubVals s.sig p → x.due ≤ 1 → ∃ t, exec (.gooseRetransmit n) s = .next t ∧
      t = { s with cp := { s.cp with pubs := t.cp.pubs }, out := t.out } ∧ (n.val < s.cp.pubs.length → at! t.cp.pubs n.val = y) ∧
      (∀ k, k ≠ n.val → at! t.cp.pubs k = at! s.cp.pubs k) ∧ t.out = if s.hat.latch = true ∧ s.fit = true then s.out ++ [pubFrame n.val p y] else s.out) ∧
    (x.live = false ∨ x.vals ≠ pubVals s.sig p ∨ 1 < x.due → exec (.gooseRetransmit n) s = .next s)) ∧
  (∀ s : State, exec .prpSupervisionSend s = .next (if s.life.booted = true ∧ (∀ t, s.cp.prpT = some t → t + 19200 ≤ s.tsu.statTick)
    then { s with cp := { s.cp with prpT := some s.tsu.statTick }, out := s.out ++ [.prpSupervision] } else s)) ∧
  (∀ (s : State) (n : Nat), s.hpi.magic = true → ∃ t, exec (.changeQueueDrain n) s = .next t ∧ t = { s with cp := t.cp, out := t.out } ∧
    t.cp.queue = s.cp.queue.drop n ∧ t.cp.gi103 = false ∧ ∀ i, (at! s.cp.rcbs i).on = true → (at! t.cp.rcbs i).image = false) ∧
  (∀ (s : State) (n : Nat), s.hpi.magic = false → exec (.changeQueueDrain n) s = .next s) ∧
  (∀ (s : State) (i : Fin 256), let r := at! s.cp.rcbs i.val
    (s.intgPeriod r = 0 ∨ s.tsu.statTick < r.intT + s.intgPeriod r → exec (.reportIntegrityPeriod i) s = .next s) ∧
    (0 < s.intgPeriod r → r.intT + s.intgPeriod r ≤ s.tsu.statTick → r.on = true → s.assocOpen r.assoc = true → i.val < s.cp.rcbs.length →
      ∃ t, exec (.reportIntegrityPeriod i) s = .next t ∧ t = { s with cp := t.cp, out := t.out } ∧
        at! t.cp.rcbs i.val = { r with seq := r.seq + r.buffer.length + 1, ovfl := false, buffer := [], intT := s.tsu.statTick } ∧
        (∀ j, j ≠ i.val → at! t.cp.rcbs j = at! s.cp.rcbs j) ∧ ∃ l x, t.out = s.out ++ l ++ [.station x] ∧ l.length = r.buffer.length ∧
          x.conn = r.assoc ∧ x.kind = 1 ∧ x.code = r.seq + r.buffer.length ∧ x.pts = s.points r.dataset)) ∧
  (∀ (s : State) (i : Fin 4), let c := at! s.cp.conns i.val
    (c.open_ = false → ∀ k, exec (.iec104TimerExpiry i k) s = .next s) ∧
    (c.open_ = true →
      exec (.iec104TimerExpiry i 0) s = .next (if (c.test = true ∨ 0 < c.unacked) ∧ c.sentT + s.block.proto.t1 ≤ s.tsu.statTick
        then { s with cp := { s.cp with conns := s.cp.conns.modify i.val (fun _ => {}) } } else s) ∧
      exec (.iec104TimerExpiry i 1) s = .next (if 0 < c.toAck ∧ c.rxT + s.block.proto.t2 ≤ s.tsu.statTick then
        (s.modConn i.val (fun c => { c with toAck := 0 })).say { proto := 1, conn := i.val, kind := 5, code := 1 } else s) ∧
      exec (.iec104TimerExpiry i 2) s = .next (if c.test = false ∧ c.lastT + s.block.proto.t3 ≤ s.tsu.statTick then
        (s.modConn i.val (fun x => { x with test := true, sentT := if c.unacked = 0 then s.tsu.statTick else x.sentT })).say
          { proto := 1, conn := i.val, kind := 5, code := 2 } else s))) ∧
  (∀ (s : State) (a suite g n : Nat) (p : TlsPeer), s.hpi.magic = true → s.blk.isSome = true → s.sca.ident = true → s.block.proto.anchors ≠ [] →
    suite = 0x1301 ∨ suite = 0x1302 → g = 23 ∨ g = 24 → n ∉ s.cp.crl → (∀ x ∈ s.cp.assocs, x.id ≠ a) → p.service = 1 →
    (p.pair = true → s.cp.holdsPair = true ∧ p.front = false) → exec (.tlsHandshake a suite g true n p false) s = .next { s with cp := { s.cp with
      assocs := s.cp.assocs ++ [{ id := a, service := 1, suite := suite, group := g, keyT := s.tsu.statTick, edition := editionOf s.block.proto p
                                  front := p.front, pair := p.pair }] } }) ∧
  (∀ (s : State) (a suite g n : Nat) (p : TlsPeer) (cert again : Bool),
    cert = false ∨ again = true ∨ n ∈ s.cp.crl ∨ s.sca.ident = false ∨ (p.front = true ∧ p.service ≠ 1) ∨ (p.pair = true ∧ s.cp.holdsPair = false) →
    exec (.tlsHandshake a suite g cert n p again) s = .next s) ∧
  (∀ (s : State) (a : Nat), exec (.tlsKeyUpdate a) s = .next (if s.cp.assocs.any (fun x => x.id == a && keyDue s.tsu.statTick x) = true then { s with
      cp := { s.cp with assocs := s.cp.assocs.map (fun x => if x.id = a then { x with keyT := s.tsu.statTick, recs := 0 } else x) }
      out := s.out ++ [.tls a 1] } else s) ∧
    ∃ t, exec (.tlsAssociationClose a) s = .next t ∧ t = { s with cp := { s.cp with assocs := t.cp.assocs, rcbs := t.cp.rcbs }, svc := t.svc } ∧
      t.cp.assocs = s.cp.assocs.filter (fun x => x.id != a) ∧
      t.svc = { s.svc with sessions := s.svc.sessions.filter (fun x => !(x.carrier == .net a)) }) ∧
  (∀ (s : State) (l : List Nat) (ok : Bool), exec (.crlLoad l ok) s = .next (if ok = true then { s with cp := { s.cp with crl := l } } else s)) ∧
  (∀ (s : State) (a op tag n : Nat) (x : Assoc), s.cp.assocs.find? (fun y => y.id == a && y.service == 1) = some x →
    let u : State := { s with cp := { s.cp with assocs := s.cp.assocs.map (fun y => if y.id = a then { y with recs := y.recs + 1, pending := y.pending + 1 } else y) } }
    let r : Req := { carrier := .net a, tag := tag, session := n }
    (op ∉ cmdTable → exec (.encapsulatedCommand a op tag n) s = .next (u.refuse { op := op } r 0x0100 false)) ∧
    (4 ≤ x.pending → op ∈ cmdTable → exec (.encapsulatedCommand a op tag n) s = .next (u.refuse { op := op } r 0x0104 false)) ∧
    (x.pending < 4 → op ∈ cmdTable → exec (.encapsulatedCommand a op tag n) s = .next u)) ∧
  ∀ (s : State) (a op tag n : Nat), s.cp.assocs.find? (fun y => y.id == a && y.service == 1) = none →
    exec (.encapsulatedCommand a op tag n) s = .next s
end

