-- ==== Sys2Proof/Laws/Memory.lean ====
section
/-! SUPPORT. The two memories, mailbox RAM (R418) and signal space (R30): every operation keeps the canonical form, a read
after a write gives what was written, and every other place reads as before. -/

namespace Sys2Proof

/-! ### Mailbox RAM -/

/-- A lower bound that is not stricter admits the same list. -/
theorem ramWfFrom_mono {x y : Nat} (h : x ≤ y) : ∀ {l : List (Nat × Byte)}, ramWfFrom (some y) l = true → ramWfFrom (some x) l = true
  | [], _ => rfl
  | (a, b) :: r, hw => by
    simp only [ramWfFrom, Bool.and_eq_true, decide_eq_true_eq] at hw ⊢
    exact ⟨⟨by omega, hw.1.2⟩, hw.2⟩

/-- Writing a byte other than 0 keeps the form above a bound. -/
theorem lset_wfFrom {a : Nat} {b : Byte} (hb : b ≠ 0) : ∀ {l : List (Nat × Byte)} {lo : Option Nat},
    ramWfFrom lo l = true → (∀ x, lo = some x → x < a) → ramWfFrom lo (lset l a b) = true
  | [], lo, _, hlo => by cases lo <;> simp_all [lset, ramWfFrom]
  | (j, w) :: t, lo, hw, hlo => by
    simp only [ramWfFrom, Bool.and_eq_true] at hw
    simp only [lset]
    split
    · next e =>
      subst e
      simp only [ramWfFrom, Bool.and_eq_true]
      exact ⟨⟨hw.1.1, by simpa using hb⟩, hw.2⟩
    · split
      · next hlt =>
        simp only [ramWfFrom, Bool.and_eq_true, decide_eq_true_eq]
        exact ⟨⟨by cases lo <;> simp_all, by simpa using hb⟩, ⟨hlt, hw.1.2⟩, hw.2⟩
      · next hne hge =>
        simp only [ramWfFrom, Bool.and_eq_true]
        exact ⟨hw.1, lset_wfFrom hb hw.2 (fun x hx => by cases hx; omega)⟩

/-- Removing a key keeps the form above a bound. -/
theorem ldel_wfFrom (a : Nat) : ∀ {l : List (Nat × Byte)} {lo : Option Nat}, ramWfFrom lo l = true → ramWfFrom lo (ldel l a) = true
  | [], _, _ => rfl
  | (j, w) :: t, lo, hw => by
    simp only [ramWfFrom, Bool.and_eq_true] at hw
    have ih := ldel_wfFrom a hw.2
    unfold ldel at ih ⊢
    rw [List.filter_cons]
    split
    · simp only [ramWfFrom, Bool.and_eq_true]; exact ⟨hw.1, ih⟩
    · cases lo with
      | none =>
        revert ih; cases t.filter (fun e => e.1 != a) with
        | nil => intro _; rfl
        | cons e r => simp only [ramWfFrom, Bool.and_eq_true]; exact fun h => ⟨⟨trivial, h.1.2⟩, h.2⟩
      | some x => exact ramWfFrom_mono (by simp at hw; omega) ih

/-- Writing a byte keeps the canonical form. -/
theorem ramPut_wf {l : List (Nat × Byte)} (h : ramWf l = true) (a : Nat) (b : Byte) : ramWf (ramPut l a b) = true := by
  unfold ramPut
  split
  · exact ldel_wfFrom a h
  · next hb => exact lset_wfFrom hb h nofun

/-- Writing bytes keeps the canonical form. -/
theorem ramPutAll_wf : ∀ (bs : List Byte) {l : List (Nat × Byte)} (a : Nat), ramWf l = true → ramWf (ramPutAll l a bs) = true
  | [], _, _, h => h
  | b :: bs, _, a, h => ramPutAll_wf bs (a + 1) (ramPut_wf h a b)

/-- Writing the enabled bytes of a word keeps the canonical form (R419). -/
theorem writeWord_wf {l : List (Nat × Byte)} (h : ramWf l = true) (a : Nat) (v : BitVec 32) (be : BitVec 4) :
    ramWf (writeWord l a v be) = true := by
  unfold writeWord
  generalize List.range 4 = ks
  induction ks generalizing l with
  | nil => exact h
  | cons k ks ih =>
    rw [List.foldl_cons]
    exact ih (by
      split
      · exact ramPut_wf h _ _
      · exact h)

/-- The first entry answers for its key, the rest for every other. -/
theorem lkup_cons {α : Type} (j d : Nat) (w : α) (t : List (Nat × α)) : lkup ((j, w) :: t) d = if d = j then some w else lkup t d := by
  by_cases h : j = d
  · subst h; simp [lkup]
  · simp [lkup, h, Ne.symm h]

/-- What a set key and every other key read. -/
theorem lkup_lset {α : Type} (a d : Nat) (b : α) : ∀ l : List (Nat × α), lkup (lset l a b) d = if d = a then some b else lkup l d
  | [] => by rw [lset, lkup_cons]
  | (j, w) :: t => by
    rw [lset]
    split
    · next e => subst e; simp only [lkup_cons]; split <;> rfl
    · split
      · rw [lkup_cons]
      · next hne _ =>
        rw [lkup_cons, lkup_lset a d b t, lkup_cons]
        split
        · rw [if_neg (by omega)]
        · rfl

/-- What a removed key and every other key read. -/
theorem lkup_ldel {α : Type} (a d : Nat) : ∀ l : List (Nat × α), lkup (ldel l a) d = if d = a then none else lkup l d
  | [] => by simp [ldel, lkup]
  | (j, w) :: t => by
    have ih := lkup_ldel a d t
    unfold ldel at ih ⊢
    rw [List.filter_cons, lkup_cons]
    split
    · next h =>
      rw [lkup_cons, ih]
      split
      · rw [if_neg (by simp at h; omega)]
      · rfl
    · next h => rw [ih]; split <;> simp_all

/-- A byte reads what was written to it, and every other byte as before. -/
theorem ramGet_ramPut (l : List (Nat × Byte)) (a d : Nat) (b : Byte) : ramGet (ramPut l a b) d = if d = a then b else ramGet l d := by
  unfold ramPut ramGet
  split
  · next hb => rw [lkup_ldel]; split <;> simp [hb]
  · rw [lkup_lset]; split <;> rfl

/-- Below a run of written bytes nothing changes. -/
theorem ramGet_ramPutAll_below : ∀ (bs : List Byte) (l : List (Nat × Byte)) (a d : Nat), d < a → ramGet (ramPutAll l a bs) d = ramGet l d
  | [], _, _, _, _ => rfl
  | b :: bs, l, a, d, h => by
    rw [ramPutAll, ramGet_ramPutAll_below bs _ _ _ (by omega), ramGet_ramPut, if_neg (by omega)]

/-! ### The signal space -/

/-- A write keeps the form above a bound. -/
theorem wrPt_wfFrom {i : Nat} {p : Point} : ∀ {l : List (Nat × Point)} {lo : Nat}, ptsWfFrom lo l = true → lo ≤ i → ptsWfFrom lo (wrPt l i p) = true
  | [], lo, _, h => by unfold wrPt; split <;> simp_all [ptsWfFrom]
  | (j, q) :: t, lo, hw, h => by
    simp only [ptsWfFrom, Bool.and_eq_true, decide_eq_true_eq] at hw
    unfold wrPt
    split
    · next e =>
      subst e
      split
      · exact ptsWf_mono (by omega) hw.2
      · next hp =>
        simp only [ptsWfFrom, Bool.and_eq_true, decide_eq_true_eq]
        exact ⟨⟨h, hp⟩, hw.2⟩
    · split
      · next hlt =>
        split
        · simp only [ptsWfFrom, Bool.and_eq_true, decide_eq_true_eq]
          exact hw
        · next hp =>
          simp only [ptsWfFrom, Bool.and_eq_true, decide_eq_true_eq]
          exact ⟨⟨h, hp⟩, ⟨by omega, hw.1.2⟩, hw.2⟩
      · simp only [ptsWfFrom, Bool.and_eq_true, decide_eq_true_eq]
        exact ⟨hw.1, wrPt_wfFrom hw.2 (by omega)⟩
where
  ptsWf_mono {x y : Nat} (h : x ≤ y) : ∀ {l : List (Nat × Point)}, ptsWfFrom y l = true → ptsWfFrom x l = true
    | [], _ => rfl
    | (a, b) :: r, hw => by
      simp only [ptsWfFrom, Bool.and_eq_true, decide_eq_true_eq] at hw ⊢
      exact ⟨⟨by omega, hw.1.2⟩, hw.2⟩

/-- Writing a record keeps the canonical form of the space. -/
theorem wrPt_wf {l : List (Nat × Point)} (h : ptsWf l = true) (i : Nat) (p : Point) : ptsWf (wrPt l i p) = true :=
  wrPt_wfFrom h (Nat.zero_le i)

/-- Below its bound a list in canonical form lists nothing. -/
theorem rdPt_below {i lo : Nat} (h : i < lo) : ∀ {l : List (Nat × Point)}, ptsWfFrom lo l = true → rdPt l i = {}
  | [], _ => rfl
  | (j, q) :: t, hw => by
    simp only [ptsWfFrom, Bool.and_eq_true, decide_eq_true_eq] at hw
    rw [rdPt, if_neg (by omega), if_pos (by omega)]

/-- A point reads the record written to it, and every other point as before. -/
theorem rdPt_wrPt {i k : Nat} {p : Point} : ∀ {l : List (Nat × Point)} {lo : Nat}, ptsWfFrom lo l = true →
    rdPt (wrPt l i p) k = if k = i then p else rdPt l k
  | [], _, _ => by unfold wrPt; split <;> by_cases h : k = i <;> simp_all [rdPt]
  | (j, q) :: t, lo, hw => by
    simp only [ptsWfFrom, Bool.and_eq_true, decide_eq_true_eq] at hw
    have below : ∀ n, n ≤ j → rdPt t n = {} := fun n hn => rdPt_below (by omega) hw.2
    unfold wrPt
    split
    · next e =>
      subst e
      split
      · next hp =>
        subst hp
        by_cases hk : k ≤ i
        · rw [below k hk]; by_cases h : k = i <;> simp [rdPt, h]; omega
        · rw [if_neg (by omega), rdPt, if_neg (by omega), if_neg (by omega)]
      · by_cases h : k = i <;> simp [rdPt, h]
    · next hne =>
      split
      · next hlt =>
        split
        · next hp =>
          subst hp
          by_cases h : k = i
          · subst h; rw [if_pos rfl, rdPt, if_neg hne, if_pos hlt]
          · rw [if_neg h]
        · by_cases h : k = i
          · simp [rdPt, h]
          · rw [if_neg h, rdPt, if_neg h]
            split
            · rw [rdPt, if_neg (by omega), if_pos (by omega)]
            · rfl
      · next hge =>
        have ih := rdPt_wrPt (i := i) (k := k) (p := p) hw.2
        by_cases h1 : k = j
        · subst h1; simp [rdPt, Ne.symm hne]
        · by_cases h2 : k < j
          · rw [rdPt, if_neg h1, if_pos h2, if_neg (by omega), rdPt, if_neg h1, if_pos h2]
          · rw [rdPt, if_neg h1, if_neg h2, ih]
            split
            · rfl
            · rw [rdPt, if_neg h1, if_neg h2]

/-- Storing a record keeps the canonical form. -/
theorem Sig.store_wf {g : Sig} (h : ptsWf g.pts = true) (i : Nat) (p : Point) : ptsWf (g.store i p).pts = true := wrPt_wf h _ _

/-- A writer's output keeps the canonical form (R36, R319). -/
theorem Sig.write_wf {g : Sig} (h : ptsWf g.pts = true) (id : TickId) (w : PtWrite) : ptsWf (g.write id w).pts = true := by
  unfold Sig.write
  simp only
  split
  · exact h
  · split
    · exact h
    · exact Sig.store_wf h _ _

/-- Many writes keep the canonical form. -/
theorem Sig.writes_wf (id : TickId) : ∀ (ws : List PtWrite) {g : Sig}, ptsWf g.pts = true → ptsWf (g.writes id ws).pts = true
  | [], _, h => h
  | w :: ws, _, h => Sig.writes_wf id ws (Sig.write_wf h id w)

end Sys2Proof
end

