-- ==== Sys2Proof/Laws/State.lean ====
section
/-! SUPPORT. The fields that the named updates of the state leave as they are: one lemma for each field and each update, so
that no later proof unfolds a record update. -/

namespace Sys2Proof.Machine

/-! An engine-local event touches the event recorder only. -/

@[simp] theorem State.localEvent_pending (r : EvRec) (s : State) : (s.localEvent r).pending = s.pending := rfl
@[simp] theorem State.localEvent_sig (r : EvRec) (s : State) : (s.localEvent r).sig = s.sig := rfl
@[simp] theorem State.localEvent_life (r : EvRec) (s : State) : (s.localEvent r).life = s.life := rfl
@[simp] theorem State.localEvent_tsu (r : EvRec) (s : State) : (s.localEvent r).tsu = s.tsu := rfl
@[simp] theorem State.localEvent_afe (r : EvRec) (s : State) : (s.localEvent r).afe = s.afe := rfl
@[simp] theorem State.localEvent_pbi (r : EvRec) (s : State) : (s.localEvent r).pbi = s.pbi := rfl
@[simp] theorem State.localEvent_phe (r : EvRec) (s : State) : (s.localEvent r).phe = s.phe := rfl
@[simp] theorem State.localEvent_elems (r : EvRec) (s : State) : (s.localEvent r).elems = s.elems := rfl
@[simp] theorem State.localEvent_flus (r : EvRec) (s : State) : (s.localEvent r).flus = s.flus := rfl
@[simp] theorem State.localEvent_slots (r : EvRec) (s : State) : (s.localEvent r).slots = s.slots := rfl
@[simp] theorem State.localEvent_schemes (r : EvRec) (s : State) : (s.localEvent r).schemes = s.schemes := rfl
@[simp] theorem State.localEvent_logic (r : EvRec) (s : State) : (s.localEvent r).logic = s.logic := rfl
@[simp] theorem State.localEvent_hood (r : EvRec) (s : State) : (s.localEvent r).hood = s.hood := rfl
@[simp] theorem State.localEvent_fio (r : EvRec) (s : State) : (s.localEvent r).fio = s.fio := rfl
@[simp] theorem State.localEvent_drc (r : EvRec) (s : State) : (s.localEvent r).drc = s.drc := rfl
@[simp] theorem State.localEvent_hat (r : EvRec) (s : State) : (s.localEvent r).hat = s.hat := rfl
@[simp] theorem State.localEvent_wit (r : EvRec) (s : State) : (s.localEvent r).wit = s.wit := rfl
@[simp] theorem State.localEvent_pair (r : EvRec) (s : State) : (s.localEvent r).pair = s.pair := rfl
@[simp] theorem State.localEvent_hpi (r : EvRec) (s : State) : (s.localEvent r).hpi = s.hpi := rfl
@[simp] theorem State.localEvent_svc (r : EvRec) (s : State) : (s.localEvent r).svc = s.svc := rfl
@[simp] theorem State.localEvent_cp (r : EvRec) (s : State) : (s.localEvent r).cp = s.cp := rfl
@[simp] theorem State.localEvent_store (r : EvRec) (s : State) : (s.localEvent r).store = s.store := rfl
@[simp] theorem State.localEvent_upd (r : EvRec) (s : State) : (s.localEvent r).upd = s.upd := rfl
@[simp] theorem State.localEvent_sca (r : EvRec) (s : State) : (s.localEvent r).sca = s.sca := rfl
@[simp] theorem State.localEvent_psu (r : EvRec) (s : State) : (s.localEvent r).psu = s.psu := rfl
@[simp] theorem State.localEvent_blk (r : EvRec) (s : State) : (s.localEvent r).blk = s.blk := rfl
@[simp] theorem State.localEvent_view (r : EvRec) (s : State) : (s.localEvent r).view = s.view := rfl
@[simp] theorem State.localEvent_free (r : EvRec) (s : State) : (s.localEvent r).free = s.free := rfl
@[simp] theorem State.localEvent_done (r : EvRec) (s : State) : (s.localEvent r).done = s.done := rfl
@[simp] theorem State.localEvent_out (r : EvRec) (s : State) : (s.localEvent r).out = s.out := rfl

/-! Tick-driven events touch the event recorder only. -/

@[simp] theorem State.tickEvents_pending (l : List EvRec) (s : State) : (s.tickEvents l).pending = s.pending := rfl
@[simp] theorem State.tickEvents_sig (l : List EvRec) (s : State) : (s.tickEvents l).sig = s.sig := rfl
@[simp] theorem State.tickEvents_life (l : List EvRec) (s : State) : (s.tickEvents l).life = s.life := rfl
@[simp] theorem State.tickEvents_tsu (l : List EvRec) (s : State) : (s.tickEvents l).tsu = s.tsu := rfl
@[simp] theorem State.tickEvents_afe (l : List EvRec) (s : State) : (s.tickEvents l).afe = s.afe := rfl
@[simp] theorem State.tickEvents_pbi (l : List EvRec) (s : State) : (s.tickEvents l).pbi = s.pbi := rfl
@[simp] theorem State.tickEvents_phe (l : List EvRec) (s : State) : (s.tickEvents l).phe = s.phe := rfl
@[simp] theorem State.tickEvents_elems (l : List EvRec) (s : State) : (s.tickEvents l).elems = s.elems := rfl
@[simp] theorem State.tickEvents_flus (l : List EvRec) (s : State) : (s.tickEvents l).flus = s.flus := rfl
@[simp] theorem State.tickEvents_slots (l : List EvRec) (s : State) : (s.tickEvents l).slots = s.slots := rfl
@[simp] theorem State.tickEvents_schemes (l : List EvRec) (s : State) : (s.tickEvents l).schemes = s.schemes := rfl
@[simp] theorem State.tickEvents_logic (l : List EvRec) (s : State) : (s.tickEvents l).logic = s.logic := rfl
@[simp] theorem State.tickEvents_hood (l : List EvRec) (s : State) : (s.tickEvents l).hood = s.hood := rfl
@[simp] theorem State.tickEvents_fio (l : List EvRec) (s : State) : (s.tickEvents l).fio = s.fio := rfl
@[simp] theorem State.tickEvents_drc (l : List EvRec) (s : State) : (s.tickEvents l).drc = s.drc := rfl
@[simp] theorem State.tickEvents_hat (l : List EvRec) (s : State) : (s.tickEvents l).hat = s.hat := rfl
@[simp] theorem State.tickEvents_wit (l : List EvRec) (s : State) : (s.tickEvents l).wit = s.wit := rfl
@[simp] theorem State.tickEvents_pair (l : List EvRec) (s : State) : (s.tickEvents l).pair = s.pair := rfl
@[simp] theorem State.tickEvents_hpi (l : List EvRec) (s : State) : (s.tickEvents l).hpi = s.hpi := rfl
@[simp] theorem State.tickEvents_svc (l : List EvRec) (s : State) : (s.tickEvents l).svc = s.svc := rfl
@[simp] theorem State.tickEvents_cp (l : List EvRec) (s : State) : (s.tickEvents l).cp = s.cp := rfl
@[simp] theorem State.tickEvents_store (l : List EvRec) (s : State) : (s.tickEvents l).store = s.store := rfl
@[simp] theorem State.tickEvents_upd (l : List EvRec) (s : State) : (s.tickEvents l).upd = s.upd := rfl
@[simp] theorem State.tickEvents_sca (l : List EvRec) (s : State) : (s.tickEvents l).sca = s.sca := rfl
@[simp] theorem State.tickEvents_psu (l : List EvRec) (s : State) : (s.tickEvents l).psu = s.psu := rfl
@[simp] theorem State.tickEvents_blk (l : List EvRec) (s : State) : (s.tickEvents l).blk = s.blk := rfl
@[simp] theorem State.tickEvents_view (l : List EvRec) (s : State) : (s.tickEvents l).view = s.view := rfl
@[simp] theorem State.tickEvents_free (l : List EvRec) (s : State) : (s.tickEvents l).free = s.free := rfl
@[simp] theorem State.tickEvents_done (l : List EvRec) (s : State) : (s.tickEvents l).done = s.done := rfl
@[simp] theorem State.tickEvents_out (l : List EvRec) (s : State) : (s.tickEvents l).out = s.out := rfl

/-! Sending touches the outputs only. -/

@[simp] theorem State.emit_pending (x : List Emit) (s : State) : (s.emit x).pending = s.pending := rfl
@[simp] theorem State.emit_sig (x : List Emit) (s : State) : (s.emit x).sig = s.sig := rfl
@[simp] theorem State.emit_life (x : List Emit) (s : State) : (s.emit x).life = s.life := rfl
@[simp] theorem State.emit_tsu (x : List Emit) (s : State) : (s.emit x).tsu = s.tsu := rfl
@[simp] theorem State.emit_afe (x : List Emit) (s : State) : (s.emit x).afe = s.afe := rfl
@[simp] theorem State.emit_pbi (x : List Emit) (s : State) : (s.emit x).pbi = s.pbi := rfl
@[simp] theorem State.emit_phe (x : List Emit) (s : State) : (s.emit x).phe = s.phe := rfl
@[simp] theorem State.emit_elems (x : List Emit) (s : State) : (s.emit x).elems = s.elems := rfl
@[simp] theorem State.emit_flus (x : List Emit) (s : State) : (s.emit x).flus = s.flus := rfl
@[simp] theorem State.emit_slots (x : List Emit) (s : State) : (s.emit x).slots = s.slots := rfl
@[simp] theorem State.emit_schemes (x : List Emit) (s : State) : (s.emit x).schemes = s.schemes := rfl
@[simp] theorem State.emit_logic (x : List Emit) (s : State) : (s.emit x).logic = s.logic := rfl
@[simp] theorem State.emit_hood (x : List Emit) (s : State) : (s.emit x).hood = s.hood := rfl
@[simp] theorem State.emit_fio (x : List Emit) (s : State) : (s.emit x).fio = s.fio := rfl
@[simp] theorem State.emit_drc (x : List Emit) (s : State) : (s.emit x).drc = s.drc := rfl
@[simp] theorem State.emit_evr (x : List Emit) (s : State) : (s.emit x).evr = s.evr := rfl
@[simp] theorem State.emit_hat (x : List Emit) (s : State) : (s.emit x).hat = s.hat := rfl
@[simp] theorem State.emit_wit (x : List Emit) (s : State) : (s.emit x).wit = s.wit := rfl
@[simp] theorem State.emit_pair (x : List Emit) (s : State) : (s.emit x).pair = s.pair := rfl
@[simp] theorem State.emit_hpi (x : List Emit) (s : State) : (s.emit x).hpi = s.hpi := rfl
@[simp] theorem State.emit_svc (x : List Emit) (s : State) : (s.emit x).svc = s.svc := rfl
@[simp] theorem State.emit_cp (x : List Emit) (s : State) : (s.emit x).cp = s.cp := rfl
@[simp] theorem State.emit_store (x : List Emit) (s : State) : (s.emit x).store = s.store := rfl
@[simp] theorem State.emit_upd (x : List Emit) (s : State) : (s.emit x).upd = s.upd := rfl
@[simp] theorem State.emit_sca (x : List Emit) (s : State) : (s.emit x).sca = s.sca := rfl
@[simp] theorem State.emit_psu (x : List Emit) (s : State) : (s.emit x).psu = s.psu := rfl
@[simp] theorem State.emit_blk (x : List Emit) (s : State) : (s.emit x).blk = s.blk := rfl
@[simp] theorem State.emit_view (x : List Emit) (s : State) : (s.emit x).view = s.view := rfl
@[simp] theorem State.emit_free (x : List Emit) (s : State) : (s.emit x).free = s.free := rfl
@[simp] theorem State.emit_done (x : List Emit) (s : State) : (s.emit x).done = s.done := rfl

/-! Using a free value up touches the counter only. -/

@[simp] theorem State.used_pending (s : State) : (s.used).pending = s.pending := rfl
@[simp] theorem State.used_sig (s : State) : (s.used).sig = s.sig := rfl
@[simp] theorem State.used_life (s : State) : (s.used).life = s.life := rfl
@[simp] theorem State.used_tsu (s : State) : (s.used).tsu = s.tsu := rfl
@[simp] theorem State.used_afe (s : State) : (s.used).afe = s.afe := rfl
@[simp] theorem State.used_pbi (s : State) : (s.used).pbi = s.pbi := rfl
@[simp] theorem State.used_phe (s : State) : (s.used).phe = s.phe := rfl
@[simp] theorem State.used_elems (s : State) : (s.used).elems = s.elems := rfl
@[simp] theorem State.used_flus (s : State) : (s.used).flus = s.flus := rfl
@[simp] theorem State.used_slots (s : State) : (s.used).slots = s.slots := rfl
@[simp] theorem State.used_schemes (s : State) : (s.used).schemes = s.schemes := rfl
@[simp] theorem State.used_logic (s : State) : (s.used).logic = s.logic := rfl
@[simp] theorem State.used_hood (s : State) : (s.used).hood = s.hood := rfl
@[simp] theorem State.used_fio (s : State) : (s.used).fio = s.fio := rfl
@[simp] theorem State.used_drc (s : State) : (s.used).drc = s.drc := rfl
@[simp] theorem State.used_evr (s : State) : (s.used).evr = s.evr := rfl
@[simp] theorem State.used_hat (s : State) : (s.used).hat = s.hat := rfl
@[simp] theorem State.used_wit (s : State) : (s.used).wit = s.wit := rfl
@[simp] theorem State.used_pair (s : State) : (s.used).pair = s.pair := rfl
@[simp] theorem State.used_hpi (s : State) : (s.used).hpi = s.hpi := rfl
@[simp] theorem State.used_svc (s : State) : (s.used).svc = s.svc := rfl
@[simp] theorem State.used_cp (s : State) : (s.used).cp = s.cp := rfl
@[simp] theorem State.used_store (s : State) : (s.used).store = s.store := rfl
@[simp] theorem State.used_upd (s : State) : (s.used).upd = s.upd := rfl
@[simp] theorem State.used_sca (s : State) : (s.used).sca = s.sca := rfl
@[simp] theorem State.used_psu (s : State) : (s.used).psu = s.psu := rfl
@[simp] theorem State.used_blk (s : State) : (s.used).blk = s.blk := rfl
@[simp] theorem State.used_view (s : State) : (s.used).view = s.view := rfl
@[simp] theorem State.used_done (s : State) : (s.used).done = s.done := rfl
@[simp] theorem State.used_out (s : State) : (s.used).out = s.out := rfl

/-! Writing points touches the signal space only (R28). -/

@[simp] theorem State.write_pending (ws : List PtWrite) (s : State) : (s.write ws).pending = s.pending := rfl
@[simp] theorem State.write_life (ws : List PtWrite) (s : State) : (s.write ws).life = s.life := rfl
@[simp] theorem State.write_tsu (ws : List PtWrite) (s : State) : (s.write ws).tsu = s.tsu := rfl
@[simp] theorem State.write_afe (ws : List PtWrite) (s : State) : (s.write ws).afe = s.afe := rfl
@[simp] theorem State.write_pbi (ws : List PtWrite) (s : State) : (s.write ws).pbi = s.pbi := rfl
@[simp] theorem State.write_phe (ws : List PtWrite) (s : State) : (s.write ws).phe = s.phe := rfl
@[simp] theorem State.write_elems (ws : List PtWrite) (s : State) : (s.write ws).elems = s.elems := rfl
@[simp] theorem State.write_flus (ws : List PtWrite) (s : State) : (s.write ws).flus = s.flus := rfl
@[simp] theorem State.write_slots (ws : List PtWrite) (s : State) : (s.write ws).slots = s.slots := rfl
@[simp] theorem State.write_schemes (ws : List PtWrite) (s : State) : (s.write ws).schemes = s.schemes := rfl
@[simp] theorem State.write_logic (ws : List PtWrite) (s : State) : (s.write ws).logic = s.logic := rfl
@[simp] theorem State.write_hood (ws : List PtWrite) (s : State) : (s.write ws).hood = s.hood := rfl
@[simp] theorem State.write_fio (ws : List PtWrite) (s : State) : (s.write ws).fio = s.fio := rfl
@[simp] theorem State.write_drc (ws : List PtWrite) (s : State) : (s.write ws).drc = s.drc := rfl
@[simp] theorem State.write_evr (ws : List PtWrite) (s : State) : (s.write ws).evr = s.evr := rfl
@[simp] theorem State.write_hat (ws : List PtWrite) (s : State) : (s.write ws).hat = s.hat := rfl
@[simp] theorem State.write_wit (ws : List PtWrite) (s : State) : (s.write ws).wit = s.wit := rfl
@[simp] theorem State.write_pair (ws : List PtWrite) (s : State) : (s.write ws).pair = s.pair := rfl
@[simp] theorem State.write_hpi (ws : List PtWrite) (s : State) : (s.write ws).hpi = s.hpi := rfl
@[simp] theorem State.write_svc (ws : List PtWrite) (s : State) : (s.write ws).svc = s.svc := rfl
@[simp] theorem State.write_cp (ws : List PtWrite) (s : State) : (s.write ws).cp = s.cp := rfl
@[simp] theorem State.write_store (ws : List PtWrite) (s : State) : (s.write ws).store = s.store := rfl
@[simp] theorem State.write_upd (ws : List PtWrite) (s : State) : (s.write ws).upd = s.upd := rfl
@[simp] theorem State.write_sca (ws : List PtWrite) (s : State) : (s.write ws).sca = s.sca := rfl
@[simp] theorem State.write_psu (ws : List PtWrite) (s : State) : (s.write ws).psu = s.psu := rfl
@[simp] theorem State.write_blk (ws : List PtWrite) (s : State) : (s.write ws).blk = s.blk := rfl
@[simp] theorem State.write_view (ws : List PtWrite) (s : State) : (s.write ws).view = s.view := rfl
@[simp] theorem State.write_free (ws : List PtWrite) (s : State) : (s.write ws).free = s.free := rfl
@[simp] theorem State.write_done (ws : List PtWrite) (s : State) : (s.write ws).done = s.done := rfl
@[simp] theorem State.write_out (ws : List PtWrite) (s : State) : (s.write ws).out = s.out := rfl

/-! Closing sessions touches the command service only (R435). -/

@[simp] theorem State.closeSessions_pending (f : Session → Bool) (s : State) : (s.closeSessions f).pending = s.pending := rfl
@[simp] theorem State.closeSessions_sig (f : Session → Bool) (s : State) : (s.closeSessions f).sig = s.sig := rfl
@[simp] theorem State.closeSessions_life (f : Session → Bool) (s : State) : (s.closeSessions f).life = s.life := rfl
@[simp] theorem State.closeSessions_tsu (f : Session → Bool) (s : State) : (s.closeSessions f).tsu = s.tsu := rfl
@[simp] theorem State.closeSessions_afe (f : Session → Bool) (s : State) : (s.closeSessions f).afe = s.afe := rfl
@[simp] theorem State.closeSessions_pbi (f : Session → Bool) (s : State) : (s.closeSessions f).pbi = s.pbi := rfl
@[simp] theorem State.closeSessions_phe (f : Session → Bool) (s : State) : (s.closeSessions f).phe = s.phe := rfl
@[simp] theorem State.closeSessions_elems (f : Session → Bool) (s : State) : (s.closeSessions f).elems = s.elems := rfl
@[simp] theorem State.closeSessions_flus (f : Session → Bool) (s : State) : (s.closeSessions f).flus = s.flus := rfl
@[simp] theorem State.closeSessions_slots (f : Session → Bool) (s : State) : (s.closeSessions f).slots = s.slots := rfl
@[simp] theorem State.closeSessions_schemes (f : Session → Bool) (s : State) : (s.closeSessions f).schemes = s.schemes := rfl
@[simp] theorem State.closeSessions_logic (f : Session → Bool) (s : State) : (s.closeSessions f).logic = s.logic := rfl
@[simp] theorem State.closeSessions_hood (f : Session → Bool) (s : State) : (s.closeSessions f).hood = s.hood := rfl
@[simp] theorem State.closeSessions_fio (f : Session → Bool) (s : State) : (s.closeSessions f).fio = s.fio := rfl
@[simp] theorem State.closeSessions_drc (f : Session → Bool) (s : State) : (s.closeSessions f).drc = s.drc := rfl
@[simp] theorem State.closeSessions_evr (f : Session → Bool) (s : State) : (s.closeSessions f).evr = s.evr := rfl
@[simp] theorem State.closeSessions_hat (f : Session → Bool) (s : State) : (s.closeSessions f).hat = s.hat := rfl
@[simp] theorem State.closeSessions_wit (f : Session → Bool) (s : State) : (s.closeSessions f).wit = s.wit := rfl
@[simp] theorem State.closeSessions_pair (f : Session → Bool) (s : State) : (s.closeSessions f).pair = s.pair := rfl
@[simp] theorem State.closeSessions_hpi (f : Session → Bool) (s : State) : (s.closeSessions f).hpi = s.hpi := rfl
@[simp] theorem State.closeSessions_cp (f : Session → Bool) (s : State) : (s.closeSessions f).cp = s.cp := rfl
@[simp] theorem State.closeSessions_store (f : Session → Bool) (s : State) : (s.closeSessions f).store = s.store := rfl
@[simp] theorem State.closeSessions_upd (f : Session → Bool) (s : State) : (s.closeSessions f).upd = s.upd := rfl
@[simp] theorem State.closeSessions_sca (f : Session → Bool) (s : State) : (s.closeSessions f).sca = s.sca := rfl
@[simp] theorem State.closeSessions_psu (f : Session → Bool) (s : State) : (s.closeSessions f).psu = s.psu := rfl
@[simp] theorem State.closeSessions_blk (f : Session → Bool) (s : State) : (s.closeSessions f).blk = s.blk := rfl
@[simp] theorem State.closeSessions_view (f : Session → Bool) (s : State) : (s.closeSessions f).view = s.view := rfl
@[simp] theorem State.closeSessions_free (f : Session → Bool) (s : State) : (s.closeSessions f).free = s.free := rfl
@[simp] theorem State.closeSessions_done (f : Session → Bool) (s : State) : (s.closeSessions f).done = s.done := rfl
@[simp] theorem State.closeSessions_out (f : Session → Bool) (s : State) : (s.closeSessions f).out = s.out := rfl

/-! Changing a session touches the command service only (R435). -/

@[simp] theorem State.modSession_pending (x : Session) (f : Session → Session) (s : State) : (s.modSession x f).pending = s.pending := rfl
@[simp] theorem State.modSession_sig (x : Session) (f : Session → Session) (s : State) : (s.modSession x f).sig = s.sig := rfl
@[simp] theorem State.modSession_life (x : Session) (f : Session → Session) (s : State) : (s.modSession x f).life = s.life := rfl
@[simp] theorem State.modSession_tsu (x : Session) (f : Session → Session) (s : State) : (s.modSession x f).tsu = s.tsu := rfl
@[simp] theorem State.modSession_afe (x : Session) (f : Session → Session) (s : State) : (s.modSession x f).afe = s.afe := rfl
@[simp] theorem State.modSession_pbi (x : Session) (f : Session → Session) (s : State) : (s.modSession x f).pbi = s.pbi := rfl
@[simp] theorem State.modSession_phe (x : Session) (f : Session → Session) (s : State) : (s.modSession x f).phe = s.phe := rfl
@[simp] theorem State.modSession_elems (x : Session) (f : Session → Session) (s : State) : (s.modSession x f).elems = s.elems := rfl
@[simp] theorem State.modSession_flus (x : Session) (f : Session → Session) (s : State) : (s.modSession x f).flus = s.flus := rfl
@[simp] theorem State.modSession_slots (x : Session) (f : Session → Session) (s : State) : (s.modSession x f).slots = s.slots := rfl
@[simp] theorem State.modSession_schemes (x : Session) (f : Session → Session) (s : State) : (s.modSession x f).schemes = s.schemes := rfl
@[simp] theorem State.modSession_logic (x : Session) (f : Session → Session) (s : State) : (s.modSession x f).logic = s.logic := rfl
@[simp] theorem State.modSession_hood (x : Session) (f : Session → Session) (s : State) : (s.modSession x f).hood = s.hood := rfl
@[simp] theorem State.modSession_fio (x : Session) (f : Session → Session) (s : State) : (s.modSession x f).fio = s.fio := rfl
@[simp] theorem State.modSession_drc (x : Session) (f : Session → Session) (s : State) : (s.modSession x f).drc = s.drc := rfl
@[simp] theorem State.modSession_evr (x : Session) (f : Session → Session) (s : State) : (s.modSession x f).evr = s.evr := rfl
@[simp] theorem State.modSession_hat (x : Session) (f : Session → Session) (s : State) : (s.modSession x f).hat = s.hat := rfl
@[simp] theorem State.modSession_wit (x : Session) (f : Session → Session) (s : State) : (s.modSession x f).wit = s.wit := rfl
@[simp] theorem State.modSession_pair (x : Session) (f : Session → Session) (s : State) : (s.modSession x f).pair = s.pair := rfl
@[simp] theorem State.modSession_hpi (x : Session) (f : Session → Session) (s : State) : (s.modSession x f).hpi = s.hpi := rfl
@[simp] theorem State.modSession_cp (x : Session) (f : Session → Session) (s : State) : (s.modSession x f).cp = s.cp := rfl
@[simp] theorem State.modSession_store (x : Session) (f : Session → Session) (s : State) : (s.modSession x f).store = s.store := rfl
@[simp] theorem State.modSession_upd (x : Session) (f : Session → Session) (s : State) : (s.modSession x f).upd = s.upd := rfl
@[simp] theorem State.modSession_sca (x : Session) (f : Session → Session) (s : State) : (s.modSession x f).sca = s.sca := rfl
@[simp] theorem State.modSession_psu (x : Session) (f : Session → Session) (s : State) : (s.modSession x f).psu = s.psu := rfl
@[simp] theorem State.modSession_blk (x : Session) (f : Session → Session) (s : State) : (s.modSession x f).blk = s.blk := rfl
@[simp] theorem State.modSession_view (x : Session) (f : Session → Session) (s : State) : (s.modSession x f).view = s.view := rfl
@[simp] theorem State.modSession_free (x : Session) (f : Session → Session) (s : State) : (s.modSession x f).free = s.free := rfl
@[simp] theorem State.modSession_done (x : Session) (f : Session → Session) (s : State) : (s.modSession x f).done = s.done := rfl
@[simp] theorem State.modSession_out (x : Session) (f : Session → Session) (s : State) : (s.modSession x f).out = s.out := rfl

/-! Hearing a request touches its session and, on the host port, its mailbox only (R432, R435). -/

@[simp] theorem State.touch_pending (c : CmdSpec) (r : Req) (s : State) : (s.touch c r).pending = s.pending := rfl
@[simp] theorem State.touch_sig (c : CmdSpec) (r : Req) (s : State) : (s.touch c r).sig = s.sig := rfl
@[simp] theorem State.touch_life (c : CmdSpec) (r : Req) (s : State) : (s.touch c r).life = s.life := rfl
@[simp] theorem State.touch_tsu (c : CmdSpec) (r : Req) (s : State) : (s.touch c r).tsu = s.tsu := rfl
@[simp] theorem State.touch_afe (c : CmdSpec) (r : Req) (s : State) : (s.touch c r).afe = s.afe := rfl
@[simp] theorem State.touch_pbi (c : CmdSpec) (r : Req) (s : State) : (s.touch c r).pbi = s.pbi := rfl
@[simp] theorem State.touch_phe (c : CmdSpec) (r : Req) (s : State) : (s.touch c r).phe = s.phe := rfl
@[simp] theorem State.touch_elems (c : CmdSpec) (r : Req) (s : State) : (s.touch c r).elems = s.elems := rfl
@[simp] theorem State.touch_flus (c : CmdSpec) (r : Req) (s : State) : (s.touch c r).flus = s.flus := rfl
@[simp] theorem State.touch_slots (c : CmdSpec) (r : Req) (s : State) : (s.touch c r).slots = s.slots := rfl
@[simp] theorem State.touch_schemes (c : CmdSpec) (r : Req) (s : State) : (s.touch c r).schemes = s.schemes := rfl
@[simp] theorem State.touch_logic (c : CmdSpec) (r : Req) (s : State) : (s.touch c r).logic = s.logic := rfl
@[simp] theorem State.touch_hood (c : CmdSpec) (r : Req) (s : State) : (s.touch c r).hood = s.hood := rfl
@[simp] theorem State.touch_fio (c : CmdSpec) (r : Req) (s : State) : (s.touch c r).fio = s.fio := rfl
@[simp] theorem State.touch_drc (c : CmdSpec) (r : Req) (s : State) : (s.touch c r).drc = s.drc := rfl
@[simp] theorem State.touch_evr (c : CmdSpec) (r : Req) (s : State) : (s.touch c r).evr = s.evr := rfl
@[simp] theorem State.touch_hat (c : CmdSpec) (r : Req) (s : State) : (s.touch c r).hat = s.hat := rfl
@[simp] theorem State.touch_wit (c : CmdSpec) (r : Req) (s : State) : (s.touch c r).wit = s.wit := rfl
@[simp] theorem State.touch_pair (c : CmdSpec) (r : Req) (s : State) : (s.touch c r).pair = s.pair := rfl
theorem State.touch_hpi (c : CmdSpec) (r : Req) (s : State) : (s.touch c r).hpi = { s.hpi with ram := (s.touch c r).hpi.ram } := by
  cases h : r.carrier <;> simp [State.touch, h]
@[simp] theorem State.touch_magic (c : CmdSpec) (r : Req) (s : State) : (s.touch c r).hpi.magic = s.hpi.magic := by rw [State.touch_hpi]
@[simp] theorem State.touch_cp (c : CmdSpec) (r : Req) (s : State) : (s.touch c r).cp = s.cp := rfl
@[simp] theorem State.touch_store (c : CmdSpec) (r : Req) (s : State) : (s.touch c r).store = s.store := rfl
@[simp] theorem State.touch_upd (c : CmdSpec) (r : Req) (s : State) : (s.touch c r).upd = s.upd := rfl
@[simp] theorem State.touch_sca (c : CmdSpec) (r : Req) (s : State) : (s.touch c r).sca = s.sca := rfl
@[simp] theorem State.touch_psu (c : CmdSpec) (r : Req) (s : State) : (s.touch c r).psu = s.psu := rfl
@[simp] theorem State.touch_blk (c : CmdSpec) (r : Req) (s : State) : (s.touch c r).blk = s.blk := rfl
@[simp] theorem State.touch_view (c : CmdSpec) (r : Req) (s : State) : (s.touch c r).view = s.view := rfl
@[simp] theorem State.touch_free (c : CmdSpec) (r : Req) (s : State) : (s.touch c r).free = s.free := rfl
@[simp] theorem State.touch_done (c : CmdSpec) (r : Req) (s : State) : (s.touch c r).done = s.done := rfl
@[simp] theorem State.touch_out (c : CmdSpec) (r : Req) (s : State) : (s.touch c r).out = s.out := rfl

/-! Leaving touches the life states only (R43). -/

@[simp] theorem State.leave_pending (cause : Nat) (s : State) : (s.leave cause).pending = s.pending := rfl
@[simp] theorem State.leave_sig (cause : Nat) (s : State) : (s.leave cause).sig = s.sig := rfl
@[simp] theorem State.leave_tsu (cause : Nat) (s : State) : (s.leave cause).tsu = s.tsu := rfl
@[simp] theorem State.leave_afe (cause : Nat) (s : State) : (s.leave cause).afe = s.afe := rfl
@[simp] theorem State.leave_pbi (cause : Nat) (s : State) : (s.leave cause).pbi = s.pbi := rfl
@[simp] theorem State.leave_phe (cause : Nat) (s : State) : (s.leave cause).phe = s.phe := rfl
@[simp] theorem State.leave_elems (cause : Nat) (s : State) : (s.leave cause).elems = s.elems := rfl
@[simp] theorem State.leave_flus (cause : Nat) (s : State) : (s.leave cause).flus = s.flus := rfl
@[simp] theorem State.leave_slots (cause : Nat) (s : State) : (s.leave cause).slots = s.slots := rfl
@[simp] theorem State.leave_schemes (cause : Nat) (s : State) : (s.leave cause).schemes = s.schemes := rfl
@[simp] theorem State.leave_logic (cause : Nat) (s : State) : (s.leave cause).logic = s.logic := rfl
@[simp] theorem State.leave_hood (cause : Nat) (s : State) : (s.leave cause).hood = s.hood := rfl
@[simp] theorem State.leave_fio (cause : Nat) (s : State) : (s.leave cause).fio = s.fio := rfl
@[simp] theorem State.leave_drc (cause : Nat) (s : State) : (s.leave cause).drc = s.drc := rfl
@[simp] theorem State.leave_evr (cause : Nat) (s : State) : (s.leave cause).evr = s.evr := rfl
@[simp] theorem State.leave_wit (cause : Nat) (s : State) : (s.leave cause).wit = s.wit := rfl
@[simp] theorem State.leave_pair (cause : Nat) (s : State) : (s.leave cause).pair = s.pair := rfl
@[simp] theorem State.leave_hpi (cause : Nat) (s : State) : (s.leave cause).hpi = s.hpi := rfl
@[simp] theorem State.leave_svc (cause : Nat) (s : State) : (s.leave cause).svc = s.svc := rfl
@[simp] theorem State.leave_cp (cause : Nat) (s : State) : (s.leave cause).cp = s.cp := rfl
@[simp] theorem State.leave_store (cause : Nat) (s : State) : (s.leave cause).store = s.store := rfl
@[simp] theorem State.leave_upd (cause : Nat) (s : State) : (s.leave cause).upd = s.upd := rfl
@[simp] theorem State.leave_sca (cause : Nat) (s : State) : (s.leave cause).sca = s.sca := rfl
@[simp] theorem State.leave_psu (cause : Nat) (s : State) : (s.leave cause).psu = s.psu := rfl
@[simp] theorem State.leave_blk (cause : Nat) (s : State) : (s.leave cause).blk = s.blk := rfl
@[simp] theorem State.leave_view (cause : Nat) (s : State) : (s.leave cause).view = s.view := rfl
@[simp] theorem State.leave_free (cause : Nat) (s : State) : (s.leave cause).free = s.free := rfl
@[simp] theorem State.leave_done (cause : Nat) (s : State) : (s.leave cause).done = s.done := rfl
@[simp] theorem State.leave_out (cause : Nat) (s : State) : (s.leave cause).out = s.out := rfl

/-! Frames for the Felt link touch the outputs and the count of frames (R390). -/

@[simp] theorem State.sendFelt_pending (l : List FeltFrame) (s : State) : (s.sendFelt l).pending = s.pending := rfl
@[simp] theorem State.sendFelt_sig (l : List FeltFrame) (s : State) : (s.sendFelt l).sig = s.sig := rfl
@[simp] theorem State.sendFelt_life (l : List FeltFrame) (s : State) : (s.sendFelt l).life = s.life := rfl
@[simp] theorem State.sendFelt_tsu (l : List FeltFrame) (s : State) : (s.sendFelt l).tsu = s.tsu := rfl
@[simp] theorem State.sendFelt_afe (l : List FeltFrame) (s : State) : (s.sendFelt l).afe = s.afe := rfl
@[simp] theorem State.sendFelt_pbi (l : List FeltFrame) (s : State) : (s.sendFelt l).pbi = s.pbi := rfl
@[simp] theorem State.sendFelt_phe (l : List FeltFrame) (s : State) : (s.sendFelt l).phe = s.phe := rfl
@[simp] theorem State.sendFelt_elems (l : List FeltFrame) (s : State) : (s.sendFelt l).elems = s.elems := rfl
@[simp] theorem State.sendFelt_flus (l : List FeltFrame) (s : State) : (s.sendFelt l).flus = s.flus := rfl
@[simp] theorem State.sendFelt_slots (l : List FeltFrame) (s : State) : (s.sendFelt l).slots = s.slots := rfl
@[simp] theorem State.sendFelt_schemes (l : List FeltFrame) (s : State) : (s.sendFelt l).schemes = s.schemes := rfl
@[simp] theorem State.sendFelt_logic (l : List FeltFrame) (s : State) : (s.sendFelt l).logic = s.logic := rfl
@[simp] theorem State.sendFelt_hood (l : List FeltFrame) (s : State) : (s.sendFelt l).hood = s.hood := rfl
@[simp] theorem State.sendFelt_fio (l : List FeltFrame) (s : State) : (s.sendFelt l).fio = s.fio := rfl
@[simp] theorem State.sendFelt_drc (l : List FeltFrame) (s : State) : (s.sendFelt l).drc = s.drc := rfl
@[simp] theorem State.sendFelt_evr (l : List FeltFrame) (s : State) : (s.sendFelt l).evr = s.evr := rfl
@[simp] theorem State.sendFelt_hat (l : List FeltFrame) (s : State) : (s.sendFelt l).hat = s.hat := rfl
@[simp] theorem State.sendFelt_wit (l : List FeltFrame) (s : State) : (s.sendFelt l).wit = s.wit := rfl
@[simp] theorem State.sendFelt_hpi (l : List FeltFrame) (s : State) : (s.sendFelt l).hpi = s.hpi := rfl
@[simp] theorem State.sendFelt_cp (l : List FeltFrame) (s : State) : (s.sendFelt l).cp = s.cp := rfl
@[simp] theorem State.sendFelt_store (l : List FeltFrame) (s : State) : (s.sendFelt l).store = s.store := rfl
@[simp] theorem State.sendFelt_upd (l : List FeltFrame) (s : State) : (s.sendFelt l).upd = s.upd := rfl
@[simp] theorem State.sendFelt_sca (l : List FeltFrame) (s : State) : (s.sendFelt l).sca = s.sca := rfl
@[simp] theorem State.sendFelt_psu (l : List FeltFrame) (s : State) : (s.sendFelt l).psu = s.psu := rfl
@[simp] theorem State.sendFelt_blk (l : List FeltFrame) (s : State) : (s.sendFelt l).blk = s.blk := rfl
@[simp] theorem State.sendFelt_view (l : List FeltFrame) (s : State) : (s.sendFelt l).view = s.view := rfl
@[simp] theorem State.sendFelt_free (l : List FeltFrame) (s : State) : (s.sendFelt l).free = s.free := rfl
@[simp] theorem State.sendFelt_done (l : List FeltFrame) (s : State) : (s.sendFelt l).done = s.done := rfl
@[simp] theorem State.sendFelt_svc (l : List FeltFrame) (s : State) : (s.sendFelt l).svc = s.svc := rfl
theorem State.sendFelt_pair (l : List FeltFrame) (s : State) :
    (s.sendFelt l).pair = { s.pair with feltSeq := (s.sendFelt l).pair.feltSeq } := rfl

/-! Queuing an action touches the queue and, for the mirror, the outputs and the count of frames (R27, R390, R440). -/

@[simp] theorem State.pushAct_pending (x : Action) (s : State) : (s.pushAct x).pending = s.pending := rfl
@[simp] theorem State.pushAct_sig (x : Action) (s : State) : (s.pushAct x).sig = s.sig := rfl
@[simp] theorem State.pushAct_life (x : Action) (s : State) : (s.pushAct x).life = s.life := rfl
@[simp] theorem State.pushAct_tsu (x : Action) (s : State) : (s.pushAct x).tsu = s.tsu := rfl
@[simp] theorem State.pushAct_afe (x : Action) (s : State) : (s.pushAct x).afe = s.afe := rfl
@[simp] theorem State.pushAct_pbi (x : Action) (s : State) : (s.pushAct x).pbi = s.pbi := rfl
@[simp] theorem State.pushAct_phe (x : Action) (s : State) : (s.pushAct x).phe = s.phe := rfl
@[simp] theorem State.pushAct_elems (x : Action) (s : State) : (s.pushAct x).elems = s.elems := rfl
@[simp] theorem State.pushAct_flus (x : Action) (s : State) : (s.pushAct x).flus = s.flus := rfl
@[simp] theorem State.pushAct_slots (x : Action) (s : State) : (s.pushAct x).slots = s.slots := rfl
@[simp] theorem State.pushAct_schemes (x : Action) (s : State) : (s.pushAct x).schemes = s.schemes := rfl
@[simp] theorem State.pushAct_logic (x : Action) (s : State) : (s.pushAct x).logic = s.logic := rfl
@[simp] theorem State.pushAct_hood (x : Action) (s : State) : (s.pushAct x).hood = s.hood := rfl
@[simp] theorem State.pushAct_fio (x : Action) (s : State) : (s.pushAct x).fio = s.fio := rfl
@[simp] theorem State.pushAct_drc (x : Action) (s : State) : (s.pushAct x).drc = s.drc := rfl
@[simp] theorem State.pushAct_evr (x : Action) (s : State) : (s.pushAct x).evr = s.evr := rfl
@[simp] theorem State.pushAct_hat (x : Action) (s : State) : (s.pushAct x).hat = s.hat := rfl
@[simp] theorem State.pushAct_wit (x : Action) (s : State) : (s.pushAct x).wit = s.wit := rfl
theorem State.pushAct_pair (x : Action) (s : State) :
    (s.pushAct x).pair = { s.pair with feltSeq := (s.pushAct x).pair.feltSeq } := rfl
@[simp] theorem State.pushAct_hpi (x : Action) (s : State) : (s.pushAct x).hpi = s.hpi := rfl
@[simp] theorem State.pushAct_cp (x : Action) (s : State) : (s.pushAct x).cp = s.cp := rfl
@[simp] theorem State.pushAct_store (x : Action) (s : State) : (s.pushAct x).store = s.store := rfl
@[simp] theorem State.pushAct_upd (x : Action) (s : State) : (s.pushAct x).upd = s.upd := rfl
@[simp] theorem State.pushAct_sca (x : Action) (s : State) : (s.pushAct x).sca = s.sca := rfl
@[simp] theorem State.pushAct_psu (x : Action) (s : State) : (s.pushAct x).psu = s.psu := rfl
@[simp] theorem State.pushAct_blk (x : Action) (s : State) : (s.pushAct x).blk = s.blk := rfl
@[simp] theorem State.pushAct_view (x : Action) (s : State) : (s.pushAct x).view = s.view := rfl
@[simp] theorem State.pushAct_free (x : Action) (s : State) : (s.pushAct x).free = s.free := rfl
@[simp] theorem State.pushAct_done (x : Action) (s : State) : (s.pushAct x).done = s.done := rfl

/-! Taking a role touches the life states and the event recorder (R43, R475). -/

@[simp] theorem State.setRole_pending (n : Nat) (s : State) : (s.setRole n).pending = s.pending := by unfold State.setRole; split <;> rfl
@[simp] theorem State.setRole_sig (n : Nat) (s : State) : (s.setRole n).sig = s.sig := by unfold State.setRole; split <;> rfl
@[simp] theorem State.setRole_tsu (n : Nat) (s : State) : (s.setRole n).tsu = s.tsu := by unfold State.setRole; split <;> rfl
@[simp] theorem State.setRole_afe (n : Nat) (s : State) : (s.setRole n).afe = s.afe := by unfold State.setRole; split <;> rfl
@[simp] theorem State.setRole_pbi (n : Nat) (s : State) : (s.setRole n).pbi = s.pbi := by unfold State.setRole; split <;> rfl
@[simp] theorem State.setRole_phe (n : Nat) (s : State) : (s.setRole n).phe = s.phe := by unfold State.setRole; split <;> rfl
@[simp] theorem State.setRole_elems (n : Nat) (s : State) : (s.setRole n).elems = s.elems := by unfold State.setRole; split <;> rfl
@[simp] theorem State.setRole_flus (n : Nat) (s : State) : (s.setRole n).flus = s.flus := by unfold State.setRole; split <;> rfl
@[simp] theorem State.setRole_slots (n : Nat) (s : State) : (s.setRole n).slots = s.slots := by unfold State.setRole; split <;> rfl
@[simp] theorem State.setRole_schemes (n : Nat) (s : State) : (s.setRole n).schemes = s.schemes := by unfold State.setRole; split <;> rfl
@[simp] theorem State.setRole_logic (n : Nat) (s : State) : (s.setRole n).logic = s.logic := by unfold State.setRole; split <;> rfl
@[simp] theorem State.setRole_hood (n : Nat) (s : State) : (s.setRole n).hood = s.hood := by unfold State.setRole; split <;> rfl
@[simp] theorem State.setRole_fio (n : Nat) (s : State) : (s.setRole n).fio = s.fio := by unfold State.setRole; split <;> rfl
@[simp] theorem State.setRole_drc (n : Nat) (s : State) : (s.setRole n).drc = s.drc := by unfold State.setRole; split <;> rfl
@[simp] theorem State.setRole_hat (n : Nat) (s : State) : (s.setRole n).hat = s.hat := by unfold State.setRole; split <;> rfl
@[simp] theorem State.setRole_wit (n : Nat) (s : State) : (s.setRole n).wit = s.wit := by unfold State.setRole; split <;> rfl
@[simp] theorem State.setRole_pair (n : Nat) (s : State) : (s.setRole n).pair = s.pair := by unfold State.setRole; split <;> rfl
@[simp] theorem State.setRole_hpi (n : Nat) (s : State) : (s.setRole n).hpi = s.hpi := by unfold State.setRole; split <;> rfl
@[simp] theorem State.setRole_svc (n : Nat) (s : State) : (s.setRole n).svc = s.svc := by unfold State.setRole; split <;> rfl
@[simp] theorem State.setRole_cp (n : Nat) (s : State) : (s.setRole n).cp = s.cp := by unfold State.setRole; split <;> rfl
@[simp] theorem State.setRole_store (n : Nat) (s : State) : (s.setRole n).store = s.store := by unfold State.setRole; split <;> rfl
@[simp] theorem State.setRole_upd (n : Nat) (s : State) : (s.setRole n).upd = s.upd := by unfold State.setRole; split <;> rfl
@[simp] theorem State.setRole_sca (n : Nat) (s : State) : (s.setRole n).sca = s.sca := by unfold State.setRole; split <;> rfl
@[simp] theorem State.setRole_psu (n : Nat) (s : State) : (s.setRole n).psu = s.psu := by unfold State.setRole; split <;> rfl
@[simp] theorem State.setRole_blk (n : Nat) (s : State) : (s.setRole n).blk = s.blk := by unfold State.setRole; split <;> rfl
@[simp] theorem State.setRole_view (n : Nat) (s : State) : (s.setRole n).view = s.view := by unfold State.setRole; split <;> rfl
@[simp] theorem State.setRole_free (n : Nat) (s : State) : (s.setRole n).free = s.free := by unfold State.setRole; split <;> rfl
@[simp] theorem State.setRole_done (n : Nat) (s : State) : (s.setRole n).done = s.done := by unfold State.setRole; split <;> rfl
@[simp] theorem State.setRole_out (n : Nat) (s : State) : (s.setRole n).out = s.out := by unfold State.setRole; split <;> rfl

/-! Keeping a mailbox touches the host port only (R430). -/

@[simp] theorem State.own_pending (c : Carrier) (s : State) : (s.own c).pending = s.pending := by cases c <;> rfl
@[simp] theorem State.own_sig (c : Carrier) (s : State) : (s.own c).sig = s.sig := by cases c <;> rfl
@[simp] theorem State.own_life (c : Carrier) (s : State) : (s.own c).life = s.life := by cases c <;> rfl
@[simp] theorem State.own_tsu (c : Carrier) (s : State) : (s.own c).tsu = s.tsu := by cases c <;> rfl
@[simp] theorem State.own_afe (c : Carrier) (s : State) : (s.own c).afe = s.afe := by cases c <;> rfl
@[simp] theorem State.own_pbi (c : Carrier) (s : State) : (s.own c).pbi = s.pbi := by cases c <;> rfl
@[simp] theorem State.own_phe (c : Carrier) (s : State) : (s.own c).phe = s.phe := by cases c <;> rfl
@[simp] theorem State.own_elems (c : Carrier) (s : State) : (s.own c).elems = s.elems := by cases c <;> rfl
@[simp] theorem State.own_flus (c : Carrier) (s : State) : (s.own c).flus = s.flus := by cases c <;> rfl
@[simp] theorem State.own_slots (c : Carrier) (s : State) : (s.own c).slots = s.slots := by cases c <;> rfl
@[simp] theorem State.own_schemes (c : Carrier) (s : State) : (s.own c).schemes = s.schemes := by cases c <;> rfl
@[simp] theorem State.own_logic (c : Carrier) (s : State) : (s.own c).logic = s.logic := by cases c <;> rfl
@[simp] theorem State.own_hood (c : Carrier) (s : State) : (s.own c).hood = s.hood := by cases c <;> rfl
@[simp] theorem State.own_fio (c : Carrier) (s : State) : (s.own c).fio = s.fio := by cases c <;> rfl
@[simp] theorem State.own_drc (c : Carrier) (s : State) : (s.own c).drc = s.drc := by cases c <;> rfl
@[simp] theorem State.own_evr (c : Carrier) (s : State) : (s.own c).evr = s.evr := by cases c <;> rfl
@[simp] theorem State.own_hat (c : Carrier) (s : State) : (s.own c).hat = s.hat := by cases c <;> rfl
@[simp] theorem State.own_wit (c : Carrier) (s : State) : (s.own c).wit = s.wit := by cases c <;> rfl
@[simp] theorem State.own_pair (c : Carrier) (s : State) : (s.own c).pair = s.pair := by cases c <;> rfl
@[simp] theorem State.own_svc (c : Carrier) (s : State) : (s.own c).svc = s.svc := by cases c <;> rfl
@[simp] theorem State.own_cp (c : Carrier) (s : State) : (s.own c).cp = s.cp := by cases c <;> rfl
@[simp] theorem State.own_store (c : Carrier) (s : State) : (s.own c).store = s.store := by cases c <;> rfl
@[simp] theorem State.own_upd (c : Carrier) (s : State) : (s.own c).upd = s.upd := by cases c <;> rfl
@[simp] theorem State.own_sca (c : Carrier) (s : State) : (s.own c).sca = s.sca := by cases c <;> rfl
@[simp] theorem State.own_psu (c : Carrier) (s : State) : (s.own c).psu = s.psu := by cases c <;> rfl
@[simp] theorem State.own_blk (c : Carrier) (s : State) : (s.own c).blk = s.blk := by cases c <;> rfl
@[simp] theorem State.own_view (c : Carrier) (s : State) : (s.own c).view = s.view := by cases c <;> rfl
@[simp] theorem State.own_free (c : Carrier) (s : State) : (s.own c).free = s.free := by cases c <;> rfl
@[simp] theorem State.own_done (c : Carrier) (s : State) : (s.own c).done = s.done := by cases c <;> rfl
@[simp] theorem State.own_out (c : Carrier) (s : State) : (s.own c).out = s.out := by cases c <;> rfl

/-! Accepting a TAG touches the command service only (R437). -/

@[simp] theorem State.markTag_pending (c : CmdSpec) (r : Req) (s : State) : (s.markTag c r).pending = s.pending := by unfold State.markTag; split <;> rfl
@[simp] theorem State.markTag_sig (c : CmdSpec) (r : Req) (s : State) : (s.markTag c r).sig = s.sig := by unfold State.markTag; split <;> rfl
@[simp] theorem State.markTag_life (c : CmdSpec) (r : Req) (s : State) : (s.markTag c r).life = s.life := by unfold State.markTag; split <;> rfl
@[simp] theorem State.markTag_tsu (c : CmdSpec) (r : Req) (s : State) : (s.markTag c r).tsu = s.tsu := by unfold State.markTag; split <;> rfl
@[simp] theorem State.markTag_afe (c : CmdSpec) (r : Req) (s : State) : (s.markTag c r).afe = s.afe := by unfold State.markTag; split <;> rfl
@[simp] theorem State.markTag_pbi (c : CmdSpec) (r : Req) (s : State) : (s.markTag c r).pbi = s.pbi := by unfold State.markTag; split <;> rfl
@[simp] theorem State.markTag_phe (c : CmdSpec) (r : Req) (s : State) : (s.markTag c r).phe = s.phe := by unfold State.markTag; split <;> rfl
@[simp] theorem State.markTag_elems (c : CmdSpec) (r : Req) (s : State) : (s.markTag c r).elems = s.elems := by unfold State.markTag; split <;> rfl
@[simp] theorem State.markTag_flus (c : CmdSpec) (r : Req) (s : State) : (s.markTag c r).flus = s.flus := by unfold State.markTag; split <;> rfl
@[simp] theorem State.markTag_slots (c : CmdSpec) (r : Req) (s : State) : (s.markTag c r).slots = s.slots := by unfold State.markTag; split <;> rfl
@[simp] theorem State.markTag_schemes (c : CmdSpec) (r : Req) (s : State) : (s.markTag c r).schemes = s.schemes := by unfold State.markTag; split <;> rfl
@[simp] theorem State.markTag_logic (c : CmdSpec) (r : Req) (s : State) : (s.markTag c r).logic = s.logic := by unfold State.markTag; split <;> rfl
@[simp] theorem State.markTag_hood (c : CmdSpec) (r : Req) (s : State) : (s.markTag c r).hood = s.hood := by unfold State.markTag; split <;> rfl
@[simp] theorem State.markTag_fio (c : CmdSpec) (r : Req) (s : State) : (s.markTag c r).fio = s.fio := by unfold State.markTag; split <;> rfl
@[simp] theorem State.markTag_drc (c : CmdSpec) (r : Req) (s : State) : (s.markTag c r).drc = s.drc := by unfold State.markTag; split <;> rfl
@[simp] theorem State.markTag_evr (c : CmdSpec) (r : Req) (s : State) : (s.markTag c r).evr = s.evr := by unfold State.markTag; split <;> rfl
@[simp] theorem State.markTag_hat (c : CmdSpec) (r : Req) (s : State) : (s.markTag c r).hat = s.hat := by unfold State.markTag; split <;> rfl
@[simp] theorem State.markTag_wit (c : CmdSpec) (r : Req) (s : State) : (s.markTag c r).wit = s.wit := by unfold State.markTag; split <;> rfl
@[simp] theorem State.markTag_pair (c : CmdSpec) (r : Req) (s : State) : (s.markTag c r).pair = s.pair := by unfold State.markTag; split <;> rfl
@[simp] theorem State.markTag_hpi (c : CmdSpec) (r : Req) (s : State) : (s.markTag c r).hpi = s.hpi := by unfold State.markTag; split <;> rfl
@[simp] theorem State.markTag_cp (c : CmdSpec) (r : Req) (s : State) : (s.markTag c r).cp = s.cp := by unfold State.markTag; split <;> rfl
@[simp] theorem State.markTag_store (c : CmdSpec) (r : Req) (s : State) : (s.markTag c r).store = s.store := by unfold State.markTag; split <;> rfl
@[simp] theorem State.markTag_upd (c : CmdSpec) (r : Req) (s : State) : (s.markTag c r).upd = s.upd := by unfold State.markTag; split <;> rfl
@[simp] theorem State.markTag_sca (c : CmdSpec) (r : Req) (s : State) : (s.markTag c r).sca = s.sca := by unfold State.markTag; split <;> rfl
@[simp] theorem State.markTag_psu (c : CmdSpec) (r : Req) (s : State) : (s.markTag c r).psu = s.psu := by unfold State.markTag; split <;> rfl
@[simp] theorem State.markTag_blk (c : CmdSpec) (r : Req) (s : State) : (s.markTag c r).blk = s.blk := by unfold State.markTag; split <;> rfl
@[simp] theorem State.markTag_view (c : CmdSpec) (r : Req) (s : State) : (s.markTag c r).view = s.view := by unfold State.markTag; split <;> rfl
@[simp] theorem State.markTag_free (c : CmdSpec) (r : Req) (s : State) : (s.markTag c r).free = s.free := by unfold State.markTag; split <;> rfl
@[simp] theorem State.markTag_done (c : CmdSpec) (r : Req) (s : State) : (s.markTag c r).done = s.done := by unfold State.markTag; split <;> rfl
@[simp] theorem State.markTag_out (c : CmdSpec) (r : Req) (s : State) : (s.markTag c r).out = s.out := by unfold State.markTag; split <;> rfl

/-! A response touches the host port, the associations and the outputs only (R430, R433). -/

@[simp] theorem State.respond_pending (d : Reply) (x : Resp) (s : State) : (s.respond d x).pending = s.pending := by cases d <;> rfl
@[simp] theorem State.respond_sig (d : Reply) (x : Resp) (s : State) : (s.respond d x).sig = s.sig := by cases d <;> rfl
@[simp] theorem State.respond_life (d : Reply) (x : Resp) (s : State) : (s.respond d x).life = s.life := by cases d <;> rfl
@[simp] theorem State.respond_tsu (d : Reply) (x : Resp) (s : State) : (s.respond d x).tsu = s.tsu := by cases d <;> rfl
@[simp] theorem State.respond_afe (d : Reply) (x : Resp) (s : State) : (s.respond d x).afe = s.afe := by cases d <;> rfl
@[simp] theorem State.respond_pbi (d : Reply) (x : Resp) (s : State) : (s.respond d x).pbi = s.pbi := by cases d <;> rfl
@[simp] theorem State.respond_phe (d : Reply) (x : Resp) (s : State) : (s.respond d x).phe = s.phe := by cases d <;> rfl
@[simp] theorem State.respond_elems (d : Reply) (x : Resp) (s : State) : (s.respond d x).elems = s.elems := by cases d <;> rfl
@[simp] theorem State.respond_flus (d : Reply) (x : Resp) (s : State) : (s.respond d x).flus = s.flus := by cases d <;> rfl
@[simp] theorem State.respond_slots (d : Reply) (x : Resp) (s : State) : (s.respond d x).slots = s.slots := by cases d <;> rfl
@[simp] theorem State.respond_schemes (d : Reply) (x : Resp) (s : State) : (s.respond d x).schemes = s.schemes := by cases d <;> rfl
@[simp] theorem State.respond_logic (d : Reply) (x : Resp) (s : State) : (s.respond d x).logic = s.logic := by cases d <;> rfl
@[simp] theorem State.respond_hood (d : Reply) (x : Resp) (s : State) : (s.respond d x).hood = s.hood := by cases d <;> rfl
@[simp] theorem State.respond_fio (d : Reply) (x : Resp) (s : State) : (s.respond d x).fio = s.fio := by cases d <;> rfl
@[simp] theorem State.respond_drc (d : Reply) (x : Resp) (s : State) : (s.respond d x).drc = s.drc := by cases d <;> rfl
@[simp] theorem State.respond_evr (d : Reply) (x : Resp) (s : State) : (s.respond d x).evr = s.evr := by cases d <;> rfl
@[simp] theorem State.respond_hat (d : Reply) (x : Resp) (s : State) : (s.respond d x).hat = s.hat := by cases d <;> rfl
@[simp] theorem State.respond_wit (d : Reply) (x : Resp) (s : State) : (s.respond d x).wit = s.wit := by cases d <;> rfl
@[simp] theorem State.respond_pair (d : Reply) (x : Resp) (s : State) : (s.respond d x).pair = s.pair := by cases d <;> rfl
@[simp] theorem State.respond_svc (d : Reply) (x : Resp) (s : State) : (s.respond d x).svc = s.svc := by cases d <;> rfl
@[simp] theorem State.respond_store (d : Reply) (x : Resp) (s : State) : (s.respond d x).store = s.store := by cases d <;> rfl
@[simp] theorem State.respond_upd (d : Reply) (x : Resp) (s : State) : (s.respond d x).upd = s.upd := by cases d <;> rfl
@[simp] theorem State.respond_sca (d : Reply) (x : Resp) (s : State) : (s.respond d x).sca = s.sca := by cases d <;> rfl
@[simp] theorem State.respond_psu (d : Reply) (x : Resp) (s : State) : (s.respond d x).psu = s.psu := by cases d <;> rfl
@[simp] theorem State.respond_blk (d : Reply) (x : Resp) (s : State) : (s.respond d x).blk = s.blk := by cases d <;> rfl
@[simp] theorem State.respond_view (d : Reply) (x : Resp) (s : State) : (s.respond d x).view = s.view := by cases d <;> rfl
@[simp] theorem State.respond_free (d : Reply) (x : Resp) (s : State) : (s.respond d x).free = s.free := by cases d <;> rfl
@[simp] theorem State.respond_done (d : Reply) (x : Resp) (s : State) : (s.respond d x).done = s.done := by cases d <;> rfl

/-! Output enable touches the field outputs only; a grant taken back, the Hat, the role with its record, the partner's role and
the field outputs (R46); becoming unhealthy touches the same (R44). -/

@[simp] theorem State.enableStep_pending (s : State) : s.enableStep.pending = s.pending := rfl
@[simp] theorem State.enableStep_sig (s : State) : s.enableStep.sig = s.sig := rfl
@[simp] theorem State.enableStep_life (s : State) : s.enableStep.life = s.life := rfl
@[simp] theorem State.enableStep_tsu (s : State) : s.enableStep.tsu = s.tsu := rfl
@[simp] theorem State.enableStep_afe (s : State) : s.enableStep.afe = s.afe := rfl
@[simp] theorem State.enableStep_pbi (s : State) : s.enableStep.pbi = s.pbi := rfl
@[simp] theorem State.enableStep_phe (s : State) : s.enableStep.phe = s.phe := rfl
@[simp] theorem State.enableStep_elems (s : State) : s.enableStep.elems = s.elems := rfl
@[simp] theorem State.enableStep_flus (s : State) : s.enableStep.flus = s.flus := rfl
@[simp] theorem State.enableStep_slots (s : State) : s.enableStep.slots = s.slots := rfl
@[simp] theorem State.enableStep_schemes (s : State) : s.enableStep.schemes = s.schemes := rfl
@[simp] theorem State.enableStep_logic (s : State) : s.enableStep.logic = s.logic := rfl
@[simp] theorem State.enableStep_hood (s : State) : s.enableStep.hood = s.hood := rfl
@[simp] theorem State.enableStep_drc (s : State) : s.enableStep.drc = s.drc := rfl
@[simp] theorem State.enableStep_evr (s : State) : s.enableStep.evr = s.evr := rfl
@[simp] theorem State.enableStep_hat (s : State) : s.enableStep.hat = s.hat := rfl
@[simp] theorem State.enableStep_wit (s : State) : s.enableStep.wit = s.wit := rfl
@[simp] theorem State.enableStep_pair (s : State) : s.enableStep.pair = s.pair := rfl
@[simp] theorem State.enableStep_hpi (s : State) : s.enableStep.hpi = s.hpi := rfl
@[simp] theorem State.enableStep_svc (s : State) : s.enableStep.svc = s.svc := rfl
@[simp] theorem State.enableStep_cp (s : State) : s.enableStep.cp = s.cp := rfl
@[simp] theorem State.enableStep_store (s : State) : s.enableStep.store = s.store := rfl
@[simp] theorem State.enableStep_upd (s : State) : s.enableStep.upd = s.upd := rfl
@[simp] theorem State.enableStep_sca (s : State) : s.enableStep.sca = s.sca := rfl
@[simp] theorem State.enableStep_psu (s : State) : s.enableStep.psu = s.psu := rfl
@[simp] theorem State.enableStep_blk (s : State) : s.enableStep.blk = s.blk := rfl
@[simp] theorem State.enableStep_view (s : State) : s.enableStep.view = s.view := rfl
@[simp] theorem State.enableStep_free (s : State) : s.enableStep.free = s.free := rfl
@[simp] theorem State.enableStep_done (s : State) : s.enableStep.done = s.done := rfl
@[simp] theorem State.enableStep_out (s : State) : s.enableStep.out = s.out := rfl

@[simp] theorem State.undoGrant_pending (s : State) : s.undoGrant.pending = s.pending := by unfold State.undoGrant; split <;> rfl
@[simp] theorem State.undoGrant_sig (s : State) : s.undoGrant.sig = s.sig := by unfold State.undoGrant; split <;> rfl
@[simp] theorem State.undoGrant_tsu (s : State) : s.undoGrant.tsu = s.tsu := by unfold State.undoGrant; split <;> rfl
@[simp] theorem State.undoGrant_afe (s : State) : s.undoGrant.afe = s.afe := by unfold State.undoGrant; split <;> rfl
@[simp] theorem State.undoGrant_pbi (s : State) : s.undoGrant.pbi = s.pbi := by unfold State.undoGrant; split <;> rfl
@[simp] theorem State.undoGrant_phe (s : State) : s.undoGrant.phe = s.phe := by unfold State.undoGrant; split <;> rfl
@[simp] theorem State.undoGrant_elems (s : State) : s.undoGrant.elems = s.elems := by unfold State.undoGrant; split <;> rfl
@[simp] theorem State.undoGrant_flus (s : State) : s.undoGrant.flus = s.flus := by unfold State.undoGrant; split <;> rfl
@[simp] theorem State.undoGrant_slots (s : State) : s.undoGrant.slots = s.slots := by unfold State.undoGrant; split <;> rfl
@[simp] theorem State.undoGrant_schemes (s : State) : s.undoGrant.schemes = s.schemes := by unfold State.undoGrant; split <;> rfl
@[simp] theorem State.undoGrant_logic (s : State) : s.undoGrant.logic = s.logic := by unfold State.undoGrant; split <;> rfl
@[simp] theorem State.undoGrant_hood (s : State) : s.undoGrant.hood = s.hood := by unfold State.undoGrant; split <;> rfl
@[simp] theorem State.undoGrant_drc (s : State) : s.undoGrant.drc = s.drc := by unfold State.undoGrant; split <;> rfl
@[simp] theorem State.undoGrant_wit (s : State) : s.undoGrant.wit = s.wit := by unfold State.undoGrant; split <;> rfl
@[simp] theorem State.undoGrant_hpi (s : State) : s.undoGrant.hpi = s.hpi := by unfold State.undoGrant; split <;> rfl
@[simp] theorem State.undoGrant_svc (s : State) : s.undoGrant.svc = s.svc := by unfold State.undoGrant; split <;> rfl
@[simp] theorem State.undoGrant_cp (s : State) : s.undoGrant.cp = s.cp := by unfold State.undoGrant; split <;> rfl
@[simp] theorem State.undoGrant_store (s : State) : s.undoGrant.store = s.store := by unfold State.undoGrant; split <;> rfl
@[simp] theorem State.undoGrant_upd (s : State) : s.undoGrant.upd = s.upd := by unfold State.undoGrant; split <;> rfl
@[simp] theorem State.undoGrant_sca (s : State) : s.undoGrant.sca = s.sca := by unfold State.undoGrant; split <;> rfl
@[simp] theorem State.undoGrant_psu (s : State) : s.undoGrant.psu = s.psu := by unfold State.undoGrant; split <;> rfl
@[simp] theorem State.undoGrant_blk (s : State) : s.undoGrant.blk = s.blk := by unfold State.undoGrant; split <;> rfl
@[simp] theorem State.undoGrant_view (s : State) : s.undoGrant.view = s.view := by unfold State.undoGrant; split <;> rfl
@[simp] theorem State.undoGrant_free (s : State) : s.undoGrant.free = s.free := by unfold State.undoGrant; split <;> rfl
@[simp] theorem State.undoGrant_done (s : State) : s.undoGrant.done = s.done := by unfold State.undoGrant; split <;> rfl
@[simp] theorem State.undoGrant_out (s : State) : s.undoGrant.out = s.out := by unfold State.undoGrant; split <;> rfl

@[simp] theorem State.unhealthy_pending (cause : Nat) (s : State) : (s.unhealthy cause).pending = s.pending := by unfold State.unhealthy; split <;> simp
@[simp] theorem State.unhealthy_sig (cause : Nat) (s : State) : (s.unhealthy cause).sig = s.sig := by unfold State.unhealthy; split <;> simp
@[simp] theorem State.unhealthy_tsu (cause : Nat) (s : State) : (s.unhealthy cause).tsu = s.tsu := by unfold State.unhealthy; split <;> simp
@[simp] theorem State.unhealthy_afe (cause : Nat) (s : State) : (s.unhealthy cause).afe = s.afe := by unfold State.unhealthy; split <;> simp
@[simp] theorem State.unhealthy_pbi (cause : Nat) (s : State) : (s.unhealthy cause).pbi = s.pbi := by unfold State.unhealthy; split <;> simp
@[simp] theorem State.unhealthy_phe (cause : Nat) (s : State) : (s.unhealthy cause).phe = s.phe := by unfold State.unhealthy; split <;> simp
@[simp] theorem State.unhealthy_elems (cause : Nat) (s : State) : (s.unhealthy cause).elems = s.elems := by unfold State.unhealthy; split <;> simp
@[simp] theorem State.unhealthy_flus (cause : Nat) (s : State) : (s.unhealthy cause).flus = s.flus := by unfold State.unhealthy; split <;> simp
@[simp] theorem State.unhealthy_slots (cause : Nat) (s : State) : (s.unhealthy cause).slots = s.slots := by unfold State.unhealthy; split <;> simp
@[simp] theorem State.unhealthy_schemes (cause : Nat) (s : State) : (s.unhealthy cause).schemes = s.schemes := by unfold State.unhealthy; split <;> simp
@[simp] theorem State.unhealthy_logic (cause : Nat) (s : State) : (s.unhealthy cause).logic = s.logic := by unfold State.unhealthy; split <;> simp
@[simp] theorem State.unhealthy_hood (cause : Nat) (s : State) : (s.unhealthy cause).hood = s.hood := by unfold State.unhealthy; split <;> simp
@[simp] theorem State.unhealthy_drc (cause : Nat) (s : State) : (s.unhealthy cause).drc = s.drc := by unfold State.unhealthy; split <;> simp
@[simp] theorem State.unhealthy_wit (cause : Nat) (s : State) : (s.unhealthy cause).wit = s.wit := by unfold State.unhealthy; split <;> simp
@[simp] theorem State.unhealthy_hpi (cause : Nat) (s : State) : (s.unhealthy cause).hpi = s.hpi := by unfold State.unhealthy; split <;> simp
@[simp] theorem State.unhealthy_svc (cause : Nat) (s : State) : (s.unhealthy cause).svc = s.svc := by unfold State.unhealthy; split <;> simp
@[simp] theorem State.unhealthy_cp (cause : Nat) (s : State) : (s.unhealthy cause).cp = s.cp := by unfold State.unhealthy; split <;> simp
@[simp] theorem State.unhealthy_store (cause : Nat) (s : State) : (s.unhealthy cause).store = s.store := by unfold State.unhealthy; split <;> simp
@[simp] theorem State.unhealthy_upd (cause : Nat) (s : State) : (s.unhealthy cause).upd = s.upd := by unfold State.unhealthy; split <;> simp
@[simp] theorem State.unhealthy_sca (cause : Nat) (s : State) : (s.unhealthy cause).sca = s.sca := by unfold State.unhealthy; split <;> simp
@[simp] theorem State.unhealthy_psu (cause : Nat) (s : State) : (s.unhealthy cause).psu = s.psu := by unfold State.unhealthy; split <;> simp
@[simp] theorem State.unhealthy_blk (cause : Nat) (s : State) : (s.unhealthy cause).blk = s.blk := by unfold State.unhealthy; split <;> simp
@[simp] theorem State.unhealthy_view (cause : Nat) (s : State) : (s.unhealthy cause).view = s.view := by unfold State.unhealthy; split <;> simp
@[simp] theorem State.unhealthy_free (cause : Nat) (s : State) : (s.unhealthy cause).free = s.free := by unfold State.unhealthy; split <;> simp
@[simp] theorem State.unhealthy_done (cause : Nat) (s : State) : (s.unhealthy cause).done = s.done := by unfold State.unhealthy; split <;> simp
@[simp] theorem State.unhealthy_out (cause : Nat) (s : State) : (s.unhealthy cause).out = s.out := by unfold State.unhealthy; split <;> simp

/-! A refusal touches the response, the counts and the free values only (R323, R433). -/

@[simp] theorem State.refuse_pending (c : CmdSpec) (r : Req) (st : Nat) (b : Bool) (s : State) : (s.refuse c r st b).pending = s.pending := by simp [State.refuse]
@[simp] theorem State.refuse_sig (c : CmdSpec) (r : Req) (st : Nat) (b : Bool) (s : State) : (s.refuse c r st b).sig = s.sig := by simp [State.refuse]
@[simp] theorem State.refuse_life (c : CmdSpec) (r : Req) (st : Nat) (b : Bool) (s : State) : (s.refuse c r st b).life = s.life := by simp [State.refuse]
@[simp] theorem State.refuse_tsu (c : CmdSpec) (r : Req) (st : Nat) (b : Bool) (s : State) : (s.refuse c r st b).tsu = s.tsu := by simp [State.refuse]
@[simp] theorem State.refuse_afe (c : CmdSpec) (r : Req) (st : Nat) (b : Bool) (s : State) : (s.refuse c r st b).afe = s.afe := by simp [State.refuse]
@[simp] theorem State.refuse_pbi (c : CmdSpec) (r : Req) (st : Nat) (b : Bool) (s : State) : (s.refuse c r st b).pbi = s.pbi := by simp [State.refuse]
@[simp] theorem State.refuse_phe (c : CmdSpec) (r : Req) (st : Nat) (b : Bool) (s : State) : (s.refuse c r st b).phe = s.phe := by simp [State.refuse]
@[simp] theorem State.refuse_elems (c : CmdSpec) (r : Req) (st : Nat) (b : Bool) (s : State) : (s.refuse c r st b).elems = s.elems := by simp [State.refuse]
@[simp] theorem State.refuse_flus (c : CmdSpec) (r : Req) (st : Nat) (b : Bool) (s : State) : (s.refuse c r st b).flus = s.flus := by simp [State.refuse]
@[simp] theorem State.refuse_slots (c : CmdSpec) (r : Req) (st : Nat) (b : Bool) (s : State) : (s.refuse c r st b).slots = s.slots := by simp [State.refuse]
@[simp] theorem State.refuse_schemes (c : CmdSpec) (r : Req) (st : Nat) (b : Bool) (s : State) : (s.refuse c r st b).schemes = s.schemes := by simp [State.refuse]
@[simp] theorem State.refuse_logic (c : CmdSpec) (r : Req) (st : Nat) (b : Bool) (s : State) : (s.refuse c r st b).logic = s.logic := by simp [State.refuse]
@[simp] theorem State.refuse_fio (c : CmdSpec) (r : Req) (st : Nat) (b : Bool) (s : State) : (s.refuse c r st b).fio = s.fio := by simp [State.refuse]
@[simp] theorem State.refuse_drc (c : CmdSpec) (r : Req) (st : Nat) (b : Bool) (s : State) : (s.refuse c r st b).drc = s.drc := by simp [State.refuse]
@[simp] theorem State.refuse_evr (c : CmdSpec) (r : Req) (st : Nat) (b : Bool) (s : State) : (s.refuse c r st b).evr = s.evr := by simp [State.refuse]
@[simp] theorem State.refuse_hat (c : CmdSpec) (r : Req) (st : Nat) (b : Bool) (s : State) : (s.refuse c r st b).hat = s.hat := by simp [State.refuse]
@[simp] theorem State.refuse_wit (c : CmdSpec) (r : Req) (st : Nat) (b : Bool) (s : State) : (s.refuse c r st b).wit = s.wit := by simp [State.refuse]
@[simp] theorem State.refuse_pair (c : CmdSpec) (r : Req) (st : Nat) (b : Bool) (s : State) : (s.refuse c r st b).pair = s.pair := by simp [State.refuse]
@[simp] theorem State.refuse_store (c : CmdSpec) (r : Req) (st : Nat) (b : Bool) (s : State) : (s.refuse c r st b).store = s.store := by simp [State.refuse]
@[simp] theorem State.refuse_upd (c : CmdSpec) (r : Req) (st : Nat) (b : Bool) (s : State) : (s.refuse c r st b).upd = s.upd := by simp [State.refuse]
@[simp] theorem State.refuse_sca (c : CmdSpec) (r : Req) (st : Nat) (b : Bool) (s : State) : (s.refuse c r st b).sca = s.sca := by simp [State.refuse]
@[simp] theorem State.refuse_psu (c : CmdSpec) (r : Req) (st : Nat) (b : Bool) (s : State) : (s.refuse c r st b).psu = s.psu := by simp [State.refuse]
@[simp] theorem State.refuse_blk (c : CmdSpec) (r : Req) (st : Nat) (b : Bool) (s : State) : (s.refuse c r st b).blk = s.blk := by simp [State.refuse]
@[simp] theorem State.refuse_view (c : CmdSpec) (r : Req) (st : Nat) (b : Bool) (s : State) : (s.refuse c r st b).view = s.view := by simp [State.refuse]
@[simp] theorem State.refuse_done (c : CmdSpec) (r : Req) (st : Nat) (b : Bool) (s : State) : (s.refuse c r st b).done = s.done := by simp [State.refuse]

end Sys2Proof.Machine
end

