-- ==== Sys2Proof/Laws/Ops.lean ====
section
/-! SUPPORT. What the shared operations can do, said once for each: a later proof cites these and does not unfold them. -/

namespace Sys2Proof

/-! The Block store (R493, R498). -/

/-- A slot that is written reads as written (R493). -/
@[simp] theorem Store.slot_put (k : Fin 4) (y : StoreSlot) (x : Store) : (x.put (some k) y).slot (some k) = y := by
  obtain ⟨k, hk⟩ := k
  exact Vector.getElem_set_self hk
/-- A write of one slot leaves the others. -/
theorem Store.slot_put_ne {j k : Fin 4} (h : k ≠ j) (y : StoreSlot) (x : Store) : (x.put (some k) y).slot (some j) = x.slot (some j) := by
  obtain ⟨j, hj⟩ := j
  obtain ⟨k, hk⟩ := k
  exact Vector.getElem_set_ne hk hj (by simpa using h)
/-- A new Block never takes the slot of the current one. -/
theorem Store.freeSlot_ne (x : Store) : x.curAt ≠ some x.freeSlot := by
  unfold Store.freeSlot
  generalize ho : (List.finRange 4).filter (fun k => x.curAt != some k) = o
  have hm : ∀ k ∈ o, x.curAt ≠ some k := by subst ho; simp
  have hne : o ≠ [] := by
    subst ho
    rcases x.curAt with _ | k
    · decide
    · revert k; decide
  dsimp only
  generalize hl : o.filter _ ++ o.filter _ ++ o = l
  have hlm : ∀ k ∈ l, k ∈ o := by
    subst hl
    simp only [List.mem_append, List.mem_filter]
    rintro k ((h | h) | h)
    exacts [h.1, h.1, h]
  rcases l with _ | ⟨a, l⟩
  · simp_all
  · exact hm a (hlm a (by simp))

/-- A Block taken is current. -/
@[simp] theorem Store.take_cur (b : Block) (c : List Hood) (x : Store) : (x.take b c).cur = some b := by
  simp only [Store.cur, Store.take]
  exact congrArg StoreSlot.blk (x.slot_put x.freeSlot _)

/-- The Block it replaces is previous (R498). -/
@[simp] theorem Store.take_prev (b : Block) (c : List Hood) (x : Store) : (x.take b c).prev = x.cur := by
  simp only [Store.cur, Store.prev, Store.take]
  cases h : x.curAt with
  | none => rfl
  | some j =>
    have : x.freeSlot ≠ j := fun e => x.freeSlot_ne (by rw [h, e])
    exact congrArg StoreSlot.blk (x.slot_put_ne this _)

/-- An exchange makes the previous Block current (R498). -/
@[simp] theorem Store.exchange_cur (x : Store) : x.exchange.cur = x.prev := by
  simp only [Store.cur, Store.prev, Store.exchange]
  cases h : x.prevAt with
  | none => rfl
  | some j => exact (congrArg StoreSlot.blk (x.slot_put j { x.slot (some j) with chain := [], marked := 0 })).trans rfl

/-- An exchange makes the current Block previous (R498). -/
@[simp] theorem Store.exchange_prev (x : Store) : x.exchange.prev = x.cur := by
  simp only [Store.cur, Store.prev, Store.exchange]
  cases hp : x.prevAt with
  | none => rfl
  | some j =>
    cases hc : x.curAt with
    | none => rfl
    | some i =>
      by_cases h : j = i
      · subst h; exact (congrArg StoreSlot.blk (x.slot_put j { x.slot (some j) with chain := [], marked := 0 })).trans rfl
      · exact congrArg StoreSlot.blk (x.slot_put_ne h _)

end Sys2Proof

namespace Sys2Proof.Machine

/-- Everything that a mailbox command can do (R438): nothing, where the request does not reach the MP; a refusal with
the first failing check's status, or with the command's own; or the command's effect, answered later or at once. -/
theorem State.command_cases (c : CmdSpec) (r : Req) (go : State → Except Nat Ans) (s : State) :
    (s.reached r.carrier = false ∧ s.command c r go = s) ∨
    (s.reached r.carrier = true ∧
      (((s.touch c r).verdict c r ≠ 0 ∧ s.command c r go =
          (s.touch c r).refuse c r ((s.touch c r).verdict c r) ((s.touch c r).sigFailed c r)) ∨
       ((s.touch c r).verdict c r = 0 ∧
        ((∃ e, go (s.touch c r) = .error e ∧ s.command c r go =
            (s.touch c r).refuse c r e (c.op == 0x0102 && e == 0x0102 && ((s.touch c r).session r).isSome)) ∨
         ∃ a, go (s.touch c r) = .ok a ∧
          ((a.later = true ∧ s.command c r go = (a.s.markTag c r).own r.carrier) ∨
           (a.later = false ∧ s.command c r go = (a.s.markTag c r).respond r.carrier.reply
              { status := a.status, opcode := c.op, tag := r.tag, session := r.session, ntick := a.ntick, payload := a.payload })))))) := by
  unfold State.command
  by_cases hm : s.reached r.carrier = true
  · refine .inr ⟨hm, ?_⟩
    simp only [hm, Bool.not_true, if_false, Bool.false_eq_true]
    by_cases hv : (s.touch c r).verdict c r = 0
    · refine .inr ⟨hv, ?_⟩
      simp only [hv]
      cases hg : go (s.touch c r) with
      | error e => exact .inl ⟨e, rfl, rfl⟩
      | ok a => cases hl : a.later <;> exact .inr ⟨a, rfl, by simp [hl]⟩
    · refine .inl ⟨hv, ?_⟩
      split
      · next h => exact absurd h hv
      · rfl
  · exact .inl ⟨by simpa using hm, by simp [hm]⟩

/-- The status of the first failing check is one of three, or 0 where all pass (R438). -/
theorem State.verdict_cases (c : CmdSpec) (r : Req) (s : State) :
    s.verdict c r = 0 ∨ s.verdict c r = 0x0101 ∨ s.verdict c r = 0x0102 ∨ s.verdict c r = 0x0103 := by
  unfold State.verdict
  split
  · simp
  · split
    · simp
    · split <;> simp

/-- Taking a role: nothing where it is held already, else the role and its record (R43, R475). -/
theorem State.setRole_cases (n : Nat) (s : State) :
    (n = s.life.role ∧ s.setRole n = s) ∨
    (n ≠ s.life.role ∧ s.setRole n = { s with life := { s.life with role := n }
                                              evr := { s.evr with localEv := s.evr.localEv ++ [roleEvent s.life.role n] } }) := by
  unfold State.setRole
  split
  · next h => exact .inl ⟨h, rfl⟩
  · next h => exact .inr ⟨h, rfl⟩

/-- A role taken is the role held. -/
@[simp] theorem State.setRole_role (n : Nat) (s : State) : (s.setRole n).life.role = n := by
  obtain ⟨h, e⟩ | ⟨-, e⟩ := s.setRole_cases n <;> rw [e]
  exact h.symm

/-- Leaving Waiting takes one of the roles that R43 gives, or none. -/
theorem State.takeRole_cases (s : State) :
    s.takeRole = s ∨ s.takeRole = s.setRole 4 ∨ s.takeRole = s.setRole 6 ∨ s.takeRole = s.setRole 1 ∨ s.takeRole = s.setRole 5 := by
  unfold State.takeRole
  split
  · simp
  · split
    · simp
    · simp
    · split
      · simp
      · split <;> simp

/-- A reset that is due is the reset of R44, else nothing happens. -/
theorem State.resetIfDue_cases (s : State) :
    (s.resetDue = false ∧ s.resetIfDue = s) ∨
    (s.resetDue = true ∧ s.resetIfDue = s.resetHealth) := by
  unfold State.resetIfDue
  cases s.resetDue <;> simp

/-- A grant of the present tick is taken back where the tick has seen one, else nothing happens (R46). -/
theorem State.undoGrant_cases (s : State) :
    (s.hat.was = none ∧ s.undoGrant = s) ∨
    (∃ r, s.hat.was = some r ∧ s.undoGrant.life.role = r ∧ s.undoGrant.hat.latch = false ∧ s.undoGrant.fio.en = false) := by
  unfold State.undoGrant
  cases h : s.hat.was with
  | none => simp
  | some r => exact .inr ⟨r, rfl, rfl, rfl, by simp [State.enableStep, Hat.enable, setEnable]; split <;> simp_all [enableClear]⟩

/-- A cause makes an engine unhealthy once; later ones change nothing (R44). -/
theorem State.unhealthy_of_sick {s : State} (h : s.life.healthy = false) (cause : Nat) : s.unhealthy cause = s := by
  simp [State.unhealthy, h]

/-- What any reset leaves: Waiting, the clock stopped, the port closed, the latch and the outputs off (R43, R44). -/
theorem State.resetEngine_off (cause : Nat) (s : State) :
    (s.resetEngine cause).life.role = 0 ∧ (s.resetEngine cause).life.booted = false ∧ (s.resetEngine cause).tsu.run = false ∧
    (s.resetEngine cause).hpi.magic = false ∧ (s.resetEngine cause).hat.latch = false ∧ (s.resetEngine cause).fio.en = false ∧
    (s.resetEngine cause).blk = none ∧ (s.resetEngine cause).pending = s.pending ∧ (s.resetEngine cause).free = s.free :=
  ⟨rfl, rfl, rfl, rfl, rfl, rfl, rfl, rfl, rfl⟩

/-- Everything that a Felt frame can do (R390): the first good copy has its effect on a state in which the partner is heard; a copy with a
wrong CRC counts an error of its lane; any other changes nothing. -/
theorem State.felt_cases (h : FeltHdr) (f : State → State) (s : State) :
    (s.feltTakes h = true ∧ s.felt h f = f (s.hear h)) ∨
    (s.feltTakes h = false ∧ h.crcOk = false ∧ h.laneUp s.pair = true ∧
      s.felt h f = { s with pair := { s.pair with laneErr := s.pair.laneErr.modify h.lane.val (· + 1) } }) ∨
    (s.feltTakes h = false ∧ (h.crcOk = true ∨ h.laneUp s.pair = false) ∧ s.felt h f = s) := by
  cases ht : s.feltTakes h <;> cases hl : h.laneUp s.pair <;> cases hc : h.crcOk <;> simp_all [State.felt]

/-- A write of TSU_INC in its range takes the value from its edge on; any other is ignored and noted (R350). -/
theorem writeInc_cases (v : BitVec 64) (n : Nat) (t : Tsu) :
    (incNom - incHalf ≤ v.toNat % 2 ^ 40 ∧ v.toNat % 2 ^ 40 ≤ incNom + incHalf ∧ writeInc v n t = setInc n (v.toNat % 2 ^ 40) t) ∨
    (¬ (incNom - incHalf ≤ v.toNat % 2 ^ 40 ∧ v.toNat % 2 ^ 40 ≤ incNom + incHalf) ∧ writeInc v n t = { t with incRej := true }) := by
  by_cases h : incNom - incHalf ≤ v.toNat % 2 ^ 40 ∧ v.toNat % 2 ^ 40 ≤ incNom + incHalf
  · exact .inl ⟨h.1, h.2, if_pos h⟩
  · exact .inr ⟨h, if_neg h⟩

/-- A change of TSU_INC moves the tick's start and nothing else. -/
theorem setInc_frame (n x : Nat) (t : Tsu) :
    setInc n x t = { t with clk := (setInc n x t).clk, inc := x, incAt := (setInc n x t).incAt } := rfl

/-- A Pin touches the host port, the counts of what leaves, and, where it is forwarded, the Felt link's (R446 to R449). -/
theorem State.pinBack_frame (src : BitVec 6) (cycle : Nat) (deferred : Bool) (back : Nat) (s : State) :
    ∃ (h : Hpi) (n f : Nat) (o : List Emit), s.pinBack src cycle deferred back =
      { s with hpi := h, pair := { s.pair with feltSeq := n }, free := f, out := o } := by
  unfold State.pinBack
  dsimp only
  split
  · exact ⟨_, _, _, _, rfl⟩
  · split
    · exact ⟨_, _, _, _, rfl⟩
    · exact ⟨_, _, _, _, rfl⟩
    · split
      · exact ⟨_, _, _, _, rfl⟩
      · exact ⟨_, _, _, _, rfl⟩

/-- The Pin of a pending action of the witness, where there is one, touches no more than a Pin. -/
theorem State.witPin_frame (a : Nat) (s : State) :
    ∃ (h : Hpi) (n f : Nat) (o : List Emit), s.witPin a = { s with hpi := h, pair := { s.pair with feltSeq := n }, free := f, out := o } := by
  unfold State.witPin
  split
  · exact s.pinBack_frame _ _ _ _
  · exact ⟨_, _, _, _, rfl⟩

/-- A fall-back that has waited in role 1 takes place, or nothing does (R508). -/
theorem State.fallDue_cases (s : State) :
    (s.upd.fallPend = true ∧ s.upd.confirmed = false ∧ s.life.role ≠ 1 ∧ s.psu.failed = false ∧ s.fallDue = s.fallBack) ∨
    ((s.upd.fallPend = false ∨ s.upd.confirmed = true ∨ s.life.role = 1 ∨ s.psu.failed = true) ∧ s.fallDue = s) := by
  unfold State.fallDue
  cases s.upd.fallPend <;> cases s.upd.confirmed <;> cases s.psu.failed <;> by_cases h : s.life.role = 1 <;> simp [h]

end Sys2Proof.Machine
end

