-- ==== Sys2Proof/Tests/Slice0.lean ====
section
/-! SUPPORT. Tests: the smoke test of WellFormed, single steps with results taken from the spec, and for each statement with
hypotheses a witness that meets them. -/

namespace Sys2Proof.Tests

open Sys2Proof.Machine

-- One test after the other: checked at once, they would hold a thread with a stack of its own each.
set_option Elab.async false

/-! ### WellFormed -/

/-- A field that does not fit its carrier (R432, R443, R84, R425, R450) makes a command ill-formed. -/
theorem test_wf_refuses_0 : ([
    .powerUp 0 18446744073709551616 true true 3000 {},
    .tick { supply := [24000] },
    .engineUnhealthy 0,
    .engineUnhealthy 9,
    .cassetteReadComplete 0 (List.replicate 255 0),
    .cassetteReadComplete 0 (List.replicate 257 0),
    .cassetteReread 0 (List.replicate 255 0),
    .cassetteReread 0 (List.replicate 257 0),
    .frameReceive { bytes := 65536 },
    .wavefrontLocation 0 4294967296,
    .drcStorageError (.write 4294967296),
    .initialAlignment 5 0] : List Instr).all (fun c => !c.wf) = true := by decide +kernel

/-- A field that does not fit its carrier (R432, R443, R84, R425, R450) makes a command ill-formed. -/
theorem test_wf_refuses_1 : ([
    .witnessFrameReceive (List.replicate 2048 0) true,
    .mirrorItemReceive {} 18446744073709551616 (.supply 0 0),
    .closeFrameReceive {} default 18446744073709551616 0,
    .digestCompare {} 18446744073709551616 0,
    .pinInEdge 51220,
    .pinCtrlFire 0 51220,
    .sessionOpen { session := 4294967296 } 0 0,
    .sessionOpen { length := 4294967296 } 0 0,
    .sessionOpen {} 4294967296 0,
    .sessionAuth { session := 4294967296 } 0,
    .sessionClose { tag := 4294967296 },
    .sessionInfo { session := 4294967296 },
    .keyEnrol { tag := 4294967296 } 0 0,
    .keyRevoke { session := 4294967296 } 0,
    .keyRevoke {} 4294967296] : List Instr).all (fun c => !c.wf) = true := by decide +kernel

/-- A field that does not fit its carrier (R432, R443, R84, R425, R450) makes a command ill-formed. -/
theorem test_wf_refuses_2 : ([
    .keyList { session := 4294967296 },
    .getIdentity { tag := 4294967296 },
    .getStatus { session := 4294967296 },
    .getHealth { tag := 4294967296 },
    .jobStatus { session := 4294967296 } 0,
    .jobStatus {} 4294967296,
    .jobCancel { session := 4294967296 } 0,
    .jobCancel {} 4294967296,
    .jobEnd 0 65536 0,
    .jobEnd 0 0 18446744073709551616,
    .blockChunk { tag := 4294967296 } 0 [],
    .blockChunk {} 4294967296 [],
    .blockBegin { session := 4294967296 } 0 0,
    .blockBegin {} 4294967296 0] : List Instr).all (fun c => !c.wf) = true := by decide +kernel

/-- A field that does not fit its carrier (R432, R443, R84, R425, R450) makes a command ill-formed. -/
theorem test_wf_refuses_3 : ([
    .blockCheck { tag := 4294967296 },
    .blockActivate { session := 4294967296 } 0 0,
    .blockActivate {} 4294967296 0,
    .blockActivate {} 0 18446744073709551616,
    .blockInfo { tag := 4294967296 },
    .hoodChunk { tag := 4294967296 } 0 [],
    .hoodChunk {} 4294967296 [],
    .hoodBegin { session := 4294967296 } 0 0,
    .hoodBegin {} 4294967296 0,
    .hoodLoad { tag := 4294967296 },
    .hoodSwap { session := 4294967296 } 0,
    .hoodSwap {} 18446744073709551616] : List Instr).all (fun c => !c.wf) = true := by decide +kernel

/-- A field that does not fit its carrier (R432, R443, R84, R425, R450) makes a command ill-formed. -/
theorem test_wf_refuses_4 : ([
    .hoodCancel { session := 4294967296 } 0,
    .hoodCancel {} 18446744073709551616,
    .hoodUnload { session := 4294967296 },
    .hoodInfo { tag := 4294967296 },
    .forceSet { session := 4294967296 } 0 0 0 0,
    .forceSet {} 18446744073709551616 0 0 0,
    .forceSet {} 0 4294967296 0 0,
    .forceRelease { tag := 4294967296 } 0 0,
    .forceRelease {} 18446744073709551616 0,
    .forceRelease {} 0 4294967296,
    .forceList { session := 4294967296 } 0,
    .forceList {} 4294967296,
    .groupSwitch { session := 4294967296 } 0 0,
    .groupSwitch {} 18446744073709551616 0] : List Instr).all (fun c => !c.wf) = true := by decide +kernel

/-- A field that does not fit its carrier (R432, R443, R84, R425, R450) makes a command ill-formed. -/
theorem test_wf_refuses_5 : ([
    .groupSwitch {} 0 4294967296,
    .modeSet { tag := 4294967296 } 0 0 0,
    .modeSet {} 18446744073709551616 0 0,
    .modeSet {} 0 4294967296 0,
    .modeSet {} 0 0 4294967296,
    .simSet { tag := 4294967296 } 0 0,
    .simSet {} 18446744073709551616 0,
    .simSet {} 0 4294967296,
    .evrInfo { session := 4294967296 },
    .evrRead { tag := 4294967296 } 0 0,
    .evrRead {} 18446744073709551616 0,
    .evrRead {} 0 4294967296,
    .evrClear { session := 4294967296 },
    .tombRead { tag := 4294967296 } 0] : List Instr).all (fun c => !c.wf) = true := by decide +kernel

/-- A field that does not fit its carrier (R432, R443, R84, R425, R450) makes a command ill-formed. -/
theorem test_wf_refuses_6 : ([
    .tombRead {} 4294967296,
    .drcList { tag := 4294967296 } 0,
    .drcList {} 4294967296,
    .drcTrigger { tag := 4294967296 } 0 0,
    .drcTrigger {} 18446744073709551616 0,
    .drcTrigger {} 0 4294967296,
    .drcExport { session := 4294967296 } 0 0,
    .drcExport {} 4294967296 0,
    .drcExport {} 0 4294967296,
    .drcFile { tag := 4294967296 } 0 0 0,
    .drcFile {} 4294967296 0 0,
    .drcFile {} 0 4294967296 0,
    .drcFile {} 0 0 4294967296,
    .drcDelete { tag := 4294967296 } 0] : List Instr).all (fun c => !c.wf) = true := by decide +kernel

/-- A field that does not fit its carrier (R432, R443, R84, R425, R450) makes a command ill-formed. -/
theorem test_wf_refuses_7 : ([
    .drcDelete {} 4294967296,
    .timeGet { tag := 4294967296 },
    .timeStep { session := 4294967296 } 0 0 0 0,
    .timeStep {} 18446744073709551616 0 0 0,
    .timeStep {} 0 4294967296 0 0,
    .utcOfsSet { tag := 4294967296 } 0,
    .utcOfsSet {} 4294967296,
    .pairInfo { tag := 4294967296 },
    .handover { session := 4294967296 } 0 true,
    .handover {} 18446744073709551616 true,
    .toWaiting { session := 4294967296 },
    .updChunk { tag := 4294967296 } 0 [],
    .updChunk {} 4294967296 [],
    .updBegin { tag := 4294967296 } 0,
    .updBegin {} 4294967296] : List Instr).all (fun c => !c.wf) = true := by decide +kernel

/-- A field that does not fit its carrier (R432, R443, R84, R425, R450) makes a command ill-formed. -/
theorem test_wf_refuses_8 : ([
    .updStage { session := 4294967296 } 0 true,
    .updStage {} 4294967296 true,
    .updInfo { session := 4294967296 },
    .updDiscard { tag := 4294967296 },
    .pointRead { session := 4294967296 } [],
    .pointRead {} (List.replicate 1016 0),
    .pointRead {} [0, 4294967296],
    .rangeRead { tag := 4294967296 } 0 0,
    .rangeRead {} 4294967296 0,
    .rangeRead {} 0 4294967296,
    .pointWrite { session := 4294967296 } 0 0 0,
    .pointWrite {} 18446744073709551616 0 0] : List Instr).all (fun c => !c.wf) = true := by decide +kernel

/-- A field that does not fit its carrier (R432, R443, R84, R425, R450) makes a command ill-formed. -/
theorem test_wf_refuses_9 : ([
    .pointWrite {} 0 4294967296 0,
    .ctlSelect { tag := 4294967296 } 0 0 0,
    .ctlSelect {} 4294967296 0 0,
    .ctlSelect {} 0 4294967296 0,
    .ctlOperate { session := 4294967296 } 0 0 0 0,
    .ctlOperate {} 18446744073709551616 0 0 0,
    .ctlOperate {} 0 4294967296 0 0,
    .ctlOperate {} 0 0 4294967296 0,
    .ctlCancel { session := 4294967296 } 0 0,
    .ctlCancel {} 4294967296 0,
    .slotReset { session := 4294967296 } 0 0 0,
    .slotReset {} 18446744073709551616 0 0,
    .slotReset {} 0 4294967296 0,
    .slotReset {} 0 0 4294967296] : List Instr).all (fun c => !c.wf) = true := by decide +kernel

/-- A field that does not fit its carrier (R432, R443, R84, R425, R450) makes a command ill-formed. -/
theorem test_wf_refuses_10 : ([
    .pinFire { session := 4294967296 } 0,
    .pinFire {} 51220,
    .snapRead { session := 4294967296 } 0 0 0,
    .snapRead {} 4294967296 0 0,
    .snapRead {} 0 4294967296 0,
    .snapRead {} 0 0 4294967296,
    .snapRelease { session := 4294967296 } 0,
    .snapRelease {} 4294967296,
    .selftest { session := 4294967296 },
    .counters { tag := 4294967296 },
    .engineReset { session := 4294967296 },
    .echo { tag := 4294967296 } [],
    .echo {} (List.replicate 4065 0),
    .encapsulatedCommand 0 65536 0 0] : List Instr).all (fun c => !c.wf) = true := by decide +kernel

/-- A field that does not fit its carrier (R432, R443, R84, R425, R450) makes a command ill-formed. -/
theorem test_wf_refuses_11 : ([
    .encapsulatedCommand 0 0 4294967296 0,
    .encapsulatedCommand 0 0 0 4294967296] : List Instr).all (fun c => !c.wf) = true := by decide +kernel

/-! ### States for the witnesses -/

/-- A Block with one of each thing that a statement needs. -/
def block1 : Block := {
  fpol := 1
  elems := [{}]
  slots := [{ use := 1 }]
  sheds := [{}]
  busBlocks := [{}]
  plans := [{ use := true }]
  fls := [{ en := true }]
  tasks := [{ kind := 1, period := 1, maxrel := 1 }, {}, {}, {}, {}, {}, {}, {}, { kind := 2 }, { kind := 3 }]
  map := [{ point := 5, typ := 1, writer := .cmd, forceable := true }]
  proto := { perms := List.replicate 6 { enabled := true, controls := true, groups := true, modes := true, writes := true }
             maps := List.replicate 5 [{ target := .point 5 }, { addr := 1, target := .control 0 }], anchors := [[1]], syncs := [{}], goosePubs := [{}] } }

/-- The public key of the private key 1: the base point. -/
def baseKey : BitVec 776 := BitVec.ofNat 776 (4 * 2 ^ 768 + basePt.x * 2 ^ 384 + basePt.y)

/-- A running engine that stands alone, with a key and an authenticated session on mailbox 0. -/
def live : State := {
  hpi := { magic := true }
  life := { booted := true, healthy := true, role := 6, blockOk := true }
  tsu := { run := true }
  svc := { sessions := [{ id := 1, keyId := 1, authed := true, priv := 0x1FF }] }
  sca := { ident := true, identN := 1, keys := [{ id := 1, priv := 0x1FF, key := baseKey }], nextKey := 2 }
  blk := some block1 }

/-- A request of its session that carries a command without a trailer. -/
def ask (c : CmdSpec) : Req := { session := 1, tag := 7, length := c.payload.length }

/-- The signature of a hash with the private key 1 and the nonce 1: r is the x coordinate of the base point, s the sum of it and the hash. -/
def signHash (hash : List Byte) : BitVec 768 := BitVec.ofNat 768 (basePt.x * 2 ^ 384 + (beNat hash + basePt.x) % n384)

/-- A signed request, of an engine without serial number and a session without nonce. -/
def sign (c : CmdSpec) : Req :=
  let r : Req := { session := 1, tag := 7, flags := 1, length := c.payload.length }
  { r with sig := signHash (sha384 (List.replicate 40 0 ++ reqBytes c r)) }

/-- The engine as one of a pair whose link is up, in a role. -/
def paired (role : Nat) : State := { live with life := { live.life with role := role }, pair := { laneA := true, laneB := true } }

/-! ### Witnesses: for each statement with hypotheses, states and operands that meet them -/

theorem wit_stepRunsFront : State.reset.pending = [] := by decide

theorem wit_memoryStaysCanonical : ({ live with pending := [.echo (ask (cmdEcho [1])) [1#8]] } : State).Inv ∧
    ∃ t, step { live with pending := [.echo (ask (cmdEcho [1])) [1#8]] } = .next t :=
  ⟨⟨(by decide : ramWf live.hpi.ram = true), (by decide : ptsWf live.sig.pts = true)⟩, _, rfl⟩

theorem wit_mailboxOwnedOrAnswered : ({ live with pending := [.mbxDoorbellWrite 1] } : State).MailboxInv ∧
    ∃ t, step { live with pending := [.mbxDoorbellWrite 1] } = .next t := ⟨(by decide : live.hpi.doorbell &&& live.hpi.done = 0), _, rfl⟩

theorem wit_roleStaysLegal : ({ live with pending := [.standbyInStep] } : State).RoleInv ∧
    ∃ t, step { live with pending := [.standbyInStep] } = .next t := ⟨⟨(by decide : live.life.role ≤ 6), nofun⟩, _, rfl⟩

theorem wit_outputsFollowLatch : ({ live with pending := [.loneLatchSet false] } : State).OutputInv ∧
    ∃ t, step { live with pending := [.loneLatchSet false] } = .next t := ⟨⟨by decide, by decide⟩, _, rfl⟩

theorem wit_sequenceNeverFalls : ∃ t, step { live with pending := [.evrClearApply] } = .next t := ⟨_, rfl⟩

theorem wit_unitIdReadOnce : (∀ strap sec ok self mv x, Instr.leapSecond ≠ .powerUp strap sec ok self mv x) ∧ State.reset.upd.stage ≠ 3 ∧
    ∃ t, exec .leapSecond live = .next t := ⟨by simp, by decide, _, rfl⟩

theorem wit_requestsWaitForTheTick : (Instr.echo (ask (cmdEcho [])) []).request.isSome = true ∧ (∃ t, exec (.echo (ask (cmdEcho [])) []) live = .next t) ∧
    (Instr.dnp3Request 0 .writeTime).station = true ∧ ∃ t, exec (.dnp3Request 0 .writeTime) live = .next t :=
  ⟨rfl, ⟨_, rfl⟩, rfl, _, rfl⟩

theorem wit_replayIsRefused : cmdEngineReset.priv = some 4 ∧ cmdEngineReset.signed = true ∧ cmdEngineReset.formBad (sign cmdEngineReset) = none ∧
    live.reached (sign cmdEngineReset).carrier = true ∧
    live.session (sign cmdEngineReset) = some { id := 1, keyId := 1, authed := true, priv := 0x1FF } ∧
    live.sigGood cmdEngineReset { sign cmdEngineReset with sig := 0 } = false ∧
    ({ live with svc := { sessions := [{ id := 1, lastTag := some 7 }] } } : State).session (sign cmdEngineReset) = some { id := 1, lastTag := some 7 } ∧
    (sign cmdEngineReset).tag ≤ 7 ∧ (cmdEcho [1]).formBad (ask cmdKeyList) = some 8 ∧ roleOk 0 (cmdDrcDelete 2) = false := by decide +kernel

theorem wit_firstFailingCheckAnswers : live.admits (cmdEcho [1]) (ask (cmdEcho [1])) = true ∧ State.reset.hpi.magic = false ∧
    live.reached (.host 0) = true ∧ live.reached (.net 1) = false ∧
    ({ live with cp := { assocs := [{ id := 1, service := 1, pending := 1 }] } } : State).reached (.net 1) = true ∧
    (cmdEcho [1]).formBad (ask cmdKeyList) = some 8 ∧ cmdGetHealth.formBad (ask cmdGetHealth) = none ∧ cmdGetHealth.formBad {} = none ∧
    (live.touch cmdGetHealth {}).authed cmdGetHealth {} = false ∧ (live.touch cmdGetHealth (ask cmdGetHealth)).authed cmdGetHealth (ask cmdGetHealth) = true ∧
    roleOk 0 cmdGetHealth = true ∧ roleOk 0 (cmdPointRead []) = false := by decide +kernel

theorem wit_mailboxWordReadsBack : live.hpi.magic = true ∧ live.hpi.doorbell.getLsbD (mbxOf (0x10000 / 4 * 4)) = false ∧
    live.hpi.doorbell.getLsbD (mbxOf (0x1FFFC / 4 * 4)) = false ∧
    ({ live with hpi := { live.hpi with doorbell := 1 } } : State).hpi.doorbell.getLsbD (mbxOf (0x10FFC / 4 * 4)) = true := by decide

/-- A space with an allocated point 5, and one with a force on it. -/
def sig1 : Sig := { pts := [(5, { typ := 1 })] }

theorem wit_pointReadsWhatWasWritten : ptsWf sig1.pts = true ∧ (sig1.rd 5).typ ≠ 0 ∧ (sig1.rd 5).forced = false ∧ (sig1.rd 4).typ = 0 ∧
    localRegion 4 = false ∧ localRegion 0xF0000 = true ∧ ((forceSet {} 0 5 0 1 1 sig1).rd 5).forced = true ∧
    ptsWf (forceSet {} 0 5 0 1 1 sig1).pts = true ∧ ((forceSet {} 0 5 0 1 1 sig1).rd 5).typ ≠ 0 := by decide

theorem wit_forceHidesAndReleases : ptsWf sig1.pts = true ∧ sig1.force 5 = none ∧ (sig1.rd 5).typ ≠ 0 ∧ (sig1.rd 5).typ ≠ 8 ∧ 5 ≠ 0xFFFFFFFF := by
  decide

theorem wit_witnessGrantsOne : ∀ f, some ({} : EngFrame) = some f → eligible f = false ∧ eligiblePlanned f = false := by
  rintro f ⟨⟩; decide

theorem wit_unhealthyEngineResetsInTime : ({ live with life := { live.life with sickTicks := some 19 } } : State).tsu.run = true ∧
    ({ live with life := { live.life with sickTicks := some 19 } } : State).life.sickTicks = some 19 ∧ live.psu.failed = false := by decide

theorem wit_tickRuns : State.reset.tsu.run = false ∧ live.tsu.run = true ∧ live.life.sickTicks = none ∧ live.psu.failed = false ∧
    live.pair.close = none ∧ live.tsu.arm = false ∧ live.upd.confirmed = true := by decide

/-- An update package without content for the decryption key 1, and the image that an update boot makes of it, with Cedun's signature. -/
def package1 : Package := { epk := baseKey, nonce := List.replicate 12 0, gtag := [25, 37, 83, 36, 90, 226, 35, 35, 13, 148, 140, 149, 251, 167, 175, 194] }

/-- See `package1`. -/
def boot1 : BootTry := { image := some ([], [], signHash []) }

/-- An engine that waits for its boot with this package. -/
def bootPending : State := { upd := { stage := 3, pkg := some package1 } }

theorem wit_packageOpens : bootPending.sca.fwKey.bind package1.plain = some [] := by decide +kernel

theorem wit_imageVerifies : ecdsaOk bootPending.sca.cedunFw [] (signHash []) = true := by decide +kernel

theorem wit_updateBootSwitchesImage : (bootPending.upd.pkg = some package1 ∧ bootPending.life.booted = false ∧ bootPending.upd.stage = 3 ∧ boot1.cut = false) ∧
    bootPending.loaderFail boot1 package1 = 0 ∧ bootPending.imageFail boot1 package1 = 0 ∧ bootPending.imageFail { boot1 with selfOk := false } package1 = 5 ∧
    (bootPending.sca.fwKey.bind ({ package1 with epk := 0 } : Package).plain = none ∧ ({ boot1 with image := none } : BootTry).image = none) ∧
    bootPending.upd.cut = false ∧ ({ bootPending with upd := { bootPending.upd with cut := true } } : State).upd.cut = true ∧ State.reset.upd.pkg = none := by
  refine ⟨⟨by decide +kernel, rfl, rfl, rfl⟩, ?_, rfl, rfl, ⟨by decide +kernel, rfl⟩, rfl, rfl, rfl⟩
  simp [State.loaderFail, wit_packageOpens, boot1, wit_imageVerifies]

/-- A standby whose latch a grant of this tick has set. -/
def justGranted : State := { paired 1 with hat := { latch := true, granted := true, fresh := true, grants := 1, was := some 2 }, fio := { en := true } }

theorem wit_healthCausesTakeEffect :
    (justGranted.life.healthy = true ∧ justGranted.hat.was = some 2) ∧ (live.life.healthy = true ∧ live.hat.was = none) ∧
    State.reset.life.healthy = false ∧ live.resetDue = false ∧
    ({ live with life := { live.life with healthy := false, sickTicks := some 20 } } : State).resetDue = true := by decide

theorem wit_supplyEventsTakeEffect : (live.life.booted = true ∧ live.psu.failed = false) ∧
    ({ live with evr := { live.evr with failTicks := some 160 } } : State).evr.failTicks = some 160 ∧
    ({ live with evr := { live.evr with failTicks := some 161 } } : State).evr.failTicks = some 161 ∧
    ({ live with drc := { failTicks := some 96 } } : State).drc.failTicks = some 96 ∧
    ({ live with drc := { failTicks := some 95 } } : State).drc.failTicks = some 95 := by decide

/-- An engine in the window after an update, with what R507 asks for. -/
def updated : State := { live with upd := { confirmed := false, matches_ := 1000 }, life := { live.life with role := 1 } }

theorem wit_firmwareConfirmsOrFallsBack : updated.confirmDue = true ∧ live.confirmDue = false ∧ live.windowEnded = false ∧
    ({ updated with tsu := { statTick := 34560000 } } : State).windowEnded = true ∧
    ({ updated with tsu := { statTick := 34560000 } } : State).life.role = 1 ∧
    ({ updated with tsu := { statTick := 34560000 }, life := live.life } : State).windowEnded = true ∧ live.life.role ≠ 1 := by decide

theorem wit_clockRegistersTakeEffect : 0x4115AAAAB ≤ (0x4115AAAAB#64).toNat ∧ (0x411FAAAAB#64).toNat ≤ 0x411FAAAAB ∧
    (0x4115AAAAA#64).toNat < 0x4115AAAAB ∧ 0x411FAAAAB < (0x411FAAAAC#64).toNat ∧ (0x411FAAAAC#64).toNat < 2 ^ 40 ∧
    live.tsu.clkAt 5 < 2 ^ 94 ∧ State.reset.life.role = 0 ∧ live.life.role ≠ 0 ∧ live.life.role ≠ 5 ∧ (1 : BitVec 64).setWidth 16 ≠ live.tsu.gen := by
  decide +kernel

theorem wit_clockStepsTakeEffect : stepDue ({ live with tsu := { run := true, arm := true } } : State).tsu = true ∧ stepDue live.tsu = false ∧
    ({ live with tsu := { run := true, st := 2 } } : State).tsu.st = 2 ∧ live.tsu.st ≠ 2 := by decide

/-- An engine that followed IRIG-B and has no source any more. -/
def unsourced : State := { live with tsu := { run := true, src := 3, st := 2 } }

theorem wit_timeSourcesTakeEffect : ((paired 2).tsu.run = true ∧ (paired 2).life.role = 2) ∧ ((paired 5).tsu.run = true ∧ (paired 5).life.role = 5) ∧
    (unsourced.tsu.run = true ∧ unsourced.life.role ≠ 2 ∧ unsourced.life.role ≠ 5 ∧ (qualStep unsourced.block.time unsourced.tsu).st ≠ 4 ∧
      (qualStep unsourced.block.time unsourced.tsu).src ≠ 0 ∧ pickSource unsourced.block.time (qualStep unsourced.block.time unsourced.tsu) = 0) := by
  decide

theorem wit_lanesTakeEffect : live.tsu.run = true ∧ State.reset.tsu.run = false ∧
    ({ live with tsu := { run := true, id := { k := 1 } } } : State).tsu.id.k ≠ 0 ∧
    (live.tsu.id.k = 0 ∧ allRefFailed { live.afe with lanes := live.afe.lanes.modify 0 laneCalibrate } = false) ∧
    (let s : State := { live with afe := { lanes := { mask := 0x10, refState := 3 } :: List.replicate 15 {} } }
     s.tsu.id.k = 0 ∧ allRefFailed { s.afe with lanes := s.afe.lanes.modify 1 laneCalibrate } = true) := by decide +kernel

/-- An engine with one control block in this state. -/
def silent (g : Gcb) : State := { live with pbi := { gcbs := [(0, g)] }, tsu := { run := true, id := { sec := 1 }, clk := 2 ^ 62 } }

theorem wit_processBusTakesEffect : State.reset.life.booted = false ∧ live.life.booted = true ∧ live.portUp 0 = true ∧
    ({ live with pbi := { cages := .absent :: List.replicate 5 .sx } } : State).portUp 0 = false ∧
    (pbiReceive live.filterBlock live.simOn {} live.pbi).2 = none ∧ live.blk = some block1 ∧
    (4 : Fin 5) ≠ 0 ∧ (live.forwards { dupKey := some 7 } = false) ∧
    (let s : State := { live with blk := some { block1 with proto := { hsr := true } } }; s.forwards { dupKey := some 7 } = true) ∧
    (let g : Gcb := { ends := some 0, waits := [{ bad := true }] }
     let s := silent g
     s.blk = some block1 ∧ lkup s.pbi.gcbs 0 = some g ∧ 0 ≤ deadlineOf (nextGrid s.tsu) ∧ g.got = false ∧
      (∀ w ∈ g.waits, w.done < deadlineOf (nextGrid s.tsu) → w.bad = true) ∧ g.dropped = false) ∧
    (let g : Gcb := { got := true }
     lkup (silent g).pbi.gcbs 0 = some g ∧ (g.dropped = true ∨ g.got = true)) ∧
    (let g : Gcb := { ends := some 0, waits := [{}] }
     lkup (silent g).pbi.gcbs 0 = some g ∧ ∃ w ∈ g.waits, w.done < deadlineOf (nextGrid (silent g).tsu) ∧ w.bad = false) := by decide +kernel

theorem wit_phasorRowsTakeEffect :
    let s : State := { live with phe := { syncs := { ready := [{}] } :: List.replicate 7 {} }, hat := { latch := true } }
    s.blk = some block1 ∧ (at! s.phe.syncs 0).ready = [{}] ∧ s.block.proto.syncs[0]? = some default ∧ s.fit = true := by decide +kernel

theorem wit_modulesSetPorts : (0 : Fin 6).val < 4 ∧ (3 : Fin 6).val < 4 ∧ 4 ≤ (4 : Fin 6).val ∧ 4 ≤ (5 : Fin 6).val ∧ Sfp.absent ≠ .sfpp ∧
    Sfp.absent ≠ .dac ∧ ({ live with pair := { laneA := true } } : State).pair.linkUp = true := by decide

theorem wit_elementDecisionsTakeEffect : ∃ v n, live.elemAt 0 = some (v, n) := ⟨_, _, rfl⟩

theorem wit_elementWindowsTakeEffect :
    ∃ v n, ({ live with blk := some { block1 with elems := [{ etype := 0x0124 }] } } : State).elemAt 0 = some (v, n) := ⟨_, _, rfl⟩

/-- A slot whose trip does not open the breaker in time, in a mode, with its backup slots. -/
def failing (mode : Nat) (bft : List Nat) : State := { live with
  blk := some { slots := [{ use := 1, bft := bft, recs := [List.replicate 15 0 ++ [1]] }, { use := 1 }] }
  sig := { pts := [(modePt 0, { typ := 5, value := BitVec.ofNat 64 mode, qual := 0 })] }
  slots := { state := 2, tclass := 1 } :: List.replicate 63 {} }

theorem wit_breakerSlotEventsTakeEffect : (∃ x, live.slotIn 0 = some x) ∧
    (∀ m ∈ [1, 3], ∃ x, (failing m [1]).slotIn 0 = some x ∧ x.mode = m ∧ x.e.bft = [1] ∧ x.mode ≠ 5 ∧ x.mode ≠ 2 ∧ x.mode ≠ 4 ∧
      (bfStep x (x.bfInit (at! (failing m [1]).slots 0)) (at! (failing m [1]).slots 0)).bfTrip = true ∧
      ∃ z, ((failing m [1]).slotSet 0 x { (at! (failing m [1]).slots 0).setAl 5 true with bfTrip := true, bfHold := 0, bfNew := true } []).slotIn 1 = some z) ∧
    (∀ m ∈ [2, 4], ∃ x, (failing m [1]).slotIn 0 = some x ∧ x.mode = m ∧
      (bfStep x (x.bfInit (at! (failing m [1]).slots 0)) (at! (failing m [1]).slots 0)).bfTrip = true) ∧
    (∃ x, (failing 1 []).slotIn 0 = some x ∧ x.e.bft = [] ∧
      (bfStep x (x.bfInit (at! (failing 1 []).slots 0)) (at! (failing 1 []).slots 0)).bfTrip = true) ∧
    ∃ x, (failing 5 [1]).slotIn 0 = some x ∧ x.mode = 5 := by
  refine ⟨⟨_, rfl⟩, ?_, ?_, ⟨_, rfl, by decide +kernel, by decide +kernel⟩, _, rfl, by decide +kernel⟩
  · intro m h
    rcases List.mem_pair.mp h with rfl | rfl
    all_goals refine ⟨_, rfl, by decide +kernel, rfl, by decide +kernel, by decide +kernel, by decide +kernel, by decide +kernel, _, rfl⟩
  · intro m h
    rcases List.mem_pair.mp h with rfl | rfl
    all_goals exact ⟨_, rfl, by decide +kernel, by decide +kernel⟩

/-- A slot in position Off whose control is pending, with a maximum time in ticks. -/
def pendingCtl (value max_ : Nat) : State := { live with
  blk := some { slots := [{ use := 1, posSrc := 1, posA := 5, recs := [[0, 0, BitVec.ofNat 32 max_, BitVec.ofNat 32 max_]] }] }
  sig := { pts := [(5, { typ := 1, qual := 0 })] }
  slots := { ctls := [{ value := value, tmr := 1 }] } :: List.replicate 63 {} }

/-- A stage whose frequency is back, with slot 0 waiting in a state. -/
def restoring (st : Nat) : State := { live with
  blk := some { block1 with sheds := [{ slots := 1, rflags := 1, trest := 0 }] }
  slots := { shed := true, state := st } :: List.replicate 63 {} }

theorem wit_controlsAndSchemesTakeEffect : (∃ x, live.slotIn 0 = some x ∧ (at! live.slots 0).ctls = []) ∧
    (∃ x, (pendingCtl 1 1).slotIn 0 = some x ∧ x.ttmax ≤ 1) ∧
    (∃ x, (pendingCtl 1 2).slotIn 0 = some x ∧ ¬x.ttmax ≤ 1 ∧ x.isOff = true) ∧
    (∃ x, (pendingCtl 2 2).slotIn 0 = some x ∧ ¬x.tclmax ≤ 1 ∧ ¬x.isOn = true) ∧
    (let r := shedStep live.sig default false live.slots (at! live.schemes.shed 0)
     live.blk = some block1 ∧ block1.sheds[0]? = some default ∧ ¬(r.1.on = true ∧ r.1.since = 0)) ∧
    (let s := restoring 6
     let r := shedStep s.sig (at! s.block.sheds 0) false s.slots (at! s.schemes.shed 0)
     (r.1.on = true ∧ r.1.since = 0) ∧ r.2.2.1 = none) ∧
    (let s := restoring 0
     let r := shedStep s.sig (at! s.block.sheds 0) false s.slots (at! s.schemes.shed 0)
     (r.1.on = true ∧ r.1.since = 0) ∧ r.2.2.1 = some (0, false) ∧ ∃ x, s.slotIn 0 = some x) :=
  ⟨⟨_, rfl, rfl⟩, ⟨_, rfl, by decide +kernel⟩, ⟨_, rfl, by decide +kernel, by decide +kernel⟩, ⟨_, rfl, by decide +kernel, by decide +kernel⟩,
    by decide +kernel, by decide +kernel, by decide +kernel, by decide +kernel, _, rfl⟩

/-- A disturbance recorder with record 1 of plan 0 running, and record 2 complete. -/
def drc1 : Drc := { recs := [{ recno := 1, endLtc := 10 }, { recno := 2, state := 2, snips := [{}] }], plans := [{ run := some 1 }] }

/-- An engine with these records, at an LTC, with an export running. -/
def recording (ltc : Nat) : State := { live with drc := drc1, logic := { ltc := ltc }, svc := { live.svc with jobs := [{ no := 1, opcode := 0x0803 }] } }

theorem wit_recordersTakeEffect : (recording 10).drc.running 0 = some { recno := 1, endLtc := 10 } ∧ (10 : Nat) ≤ (recording 10).logic.ltc ∧
    (recording 9).drc.running 0 = some { recno := 1, endLtc := 10 } ∧ (recording 9).logic.ltc < 10 ∧
    (recording 9).running.find? (fun j => j.no == 1 && j.opcode == 0x0803) = some { no := 1, opcode := 0x0803 } ∧
    (∀ j ∈ (recording 9).svc.jobs, j.no = 2 → j.state = 1 → j.opcode ≠ 0x0803) := by decide +kernel

/-- An engine whose locator 0 has a location pending for an LTC, and a record of its bay with or without a lane. -/
def locating (n : Nat) (lane : Bool) : State := { live with
  blk := some { block1 with groups := [{ chan := List.replicate 16 0, sets := [{}, {}, {}, {}] }] }
  drc := { recs := [{ recno := 2, state := 2, entry := { bays := 1, lanes := if lane then 1 else 0 } }]
           fls := { pend := some { nf := n } } :: List.replicate 47 {} } }

theorem wit_locatorsTakeEffect : live.blk = some block1 ∧ (at! live.drc.fls 0).pend = none ∧
    ((locating 1 true).blk.isSome = true ∧ (at! (locating 1 true).drc.fls 0).pend = some { nf := 1 } ∧ 1 ≤ (locating 1 true).logic.ltc + 1) ∧
    ((at! (locating 2 true).drc.fls 0).pend = some { nf := 2 } ∧ (locating 2 true).logic.ltc + 1 < 2) ∧
    (∀ l ∈ [true, false], (locating 1 l).drives = true ∧ ((locating 1 l).drc.rec_ 2).map
      (wfFits (locating 1 l).block 0 (at! (locating 1 l).block.fls 0)) = some l) ∧ (paired 2).drives = false := by decide +kernel

/-- Task 0 busy since tick 0. -/
def busy (ltc : Nat) : State := { live with logic := { ltc := ltc, tasks := { st := 3 } :: List.replicate 9 {} } }

/-- Task 0 with an output to commit, an event task with a trigger and an error queued. -/
def committing : State := { live with logic := { errQ := [1], tasks := { st := 4 } :: List.replicate 7 {} ++
  [{ curTrg := [(5, true, false)], prevTrg := [(5, false, false)] }, {}] } }

theorem wit_logicTasksTakeEffect : live.blk = some block1 ∧ dueAt (at! live.block.tasks 0) live.logic.ltc = true ∧ (at! live.logic.tasks 0).busy = false ∧
    (dueAt (at! (busy 0).block.tasks 0) (busy 0).logic.ltc = true ∧ (at! (busy 0).logic.tasks 0).busy = true ∧
      ¬((at! (busy 0).block.tasks 0).maxrel ≠ 0 ∧ (at! (busy 0).logic.tasks 0).relLtc + (at! (busy 0).block.tasks 0).maxrel * 1 ≤ (busy 0).logic.ltc)) ∧
    (dueAt (at! (busy 1).block.tasks 0) (busy 1).logic.ltc = true ∧ (at! (busy 1).logic.tasks 0).busy = true ∧
      (at! (busy 1).block.tasks 0).maxrel ≠ 0 ∧
      (at! (busy 1).logic.tasks 0).relLtc + (at! (busy 1).block.tasks 0).maxrel * (at! (busy 1).block.tasks 0).period ≤ (busy 1).logic.ltc) ∧
    (at! committing.logic.tasks 0).st = 4 ∧ block1.tasks.zipIdx.filter (fun e => e.1.kind == 2) = [({ kind := 2 }, 8)] ∧
    (committing.blk = some block1 ∧ (at! committing.logic.tasks 8).busy = false ∧ eventFires (at! committing.logic.tasks 8) = true) ∧
    (let s : State := { committing with logic := { committing.logic with tasks := committing.logic.tasks.modify 8 (fun x => { x with st := 3 }) } }
     (at! s.logic.tasks 8).busy = true ∧ eventFires (at! s.logic.tasks 8) = true) ∧
    (eventFires (at! live.logic.tasks 8) = false ∧ (at! live.logic.tasks 8).pend = false) ∧
    ((at! block1.tasks 9).kind = 3 ∧ committing.logic.errQ ≠ []) := by decide +kernel

/-- Task 0 on bit-logic unit 0. -/
def onUnit : State := { live with logic := { cur := [none, none, some 0, none] } }

theorem wit_bitLogicTakesEffect : (∃ v, onUnit.cycle 0 = some v) ∧ (at! onUnit.logic.work 2).done = false ∧
    (cycRead { img := [], L := 0, prog := {}, typ := fun _ => 1 } {} 5).2.2 ≠ 2 := ⟨⟨_, rfl⟩, rfl, by decide⟩

theorem wit_bitLogicBlocksTakeEffect : (∃ v, onUnit.cycle 0 = some v) ∧ (at! onUnit.logic.work 2).done = false ∧ onUnit.blk = some block1 ∧
    at! onUnit.logic.cur 2 = some 0 ∧ 2 < onUnit.logic.work.length := ⟨⟨_, rfl⟩, rfl, rfl, rfl, by decide⟩

theorem wit_queuedActionsTakeEffect : ({ live with svc := { acts := [{ ntick := 1 }] } } : State).svc.acts = [{ ntick := 1 }] ∧ 1 ≤ live.logic.ltc + 1 ∧
    live.logic.ltc + 1 < 2 ∧ forceable live.block 5 = true ∧ forceable live.block 0xF0000 = false := by decide +kernel

/-- A selector at point 5, a Hood armed for the coming tick, a Block prepared for it, and a clear that waits for it. -/
def armedFor (n : Nat) : State := { live with
  blk := some { block1 with selector := some 5 }
  logic := { selLast := some 1 }
  sig := { pts := [(5, { typ := 4, value := 2, qual := 0 })] }
  hood := { held := some default, loaded := true, armed := some n }
  store := { act := some { at_ := some n } }
  evr := { live.evr with clearReq := some (1, 0, n, 7) } }

/-- The same for the coming tick. -/
def armed : State := armedFor 1

theorem wit_configurationTakesEffect : selValue { armed with logic := { selLast := some 2 } }.sig 5 = 2 ∧ armed.block.selector = some 5 ∧ armed.logic.selLast = some 1 ∧ selValue armed.sig 5 = 2 ∧
    selValue live.sig 5 = 0 ∧ armed.hood.armed = some 1 ∧ armed.hood.held = some default ∧ armed.blk.isSome = true ∧ 1 ≤ armed.logic.ltc + 1 ∧
    armed.store.act = some { at_ := some 1 } ∧ armed.evr.clearReq = some (1, 0, 1, 7) ∧ (0 ∉ armed.evr.bad) ∧
    ((armedFor 2).hood.armed = some 2 ∧ (armedFor 2).hood.held = some default ∧ (armedFor 2).blk.isSome = true ∧ (armedFor 2).store.act = some { at_ := some 2 } ∧
      (armedFor 2).evr.clearReq = some (1, 0, 2, 7) ∧ (armedFor 2).logic.ltc + 1 < 2) ∧
    ({ armed with store := { act := some {} } } : State).store.act = some {} ∧
    armed.store.bad = false ∧ armed.store.conv = false ∧ ({ armed.store with bad := true } : Store).bad = true ∧ ({ curAt := some 1 } : Store).curAt.isSome = true := by
  decide +kernel

/-- An engine that wears the Hat, as R335 has its outputs. -/
def worn : State := { live with hat := { latch := true }, fio := { en := true } }

/-- An engine that wears the Hat with group 0 holding since some ticks. -/
def holding (n : Nat) : State := { worn with fio := { worn.fio with grps := { holding := true, missed := n } :: List.replicate 5 {} } }

/-- An engine that wears the Hat with output 0 in this state, its entry with or without RETRY. -/
def driving (retry : Bool) (x : OutState) : State := { worn with
  fio := { worn.fio with outs := x :: List.replicate 95 {} }, blk := some { block1 with field := { block1.field with dos := [{ retry := retry }] } } }

theorem wit_outputSwitching :
    (∀ n ∈ [0, 4], let s := driving true { sw := true, retries := n }
      ∃ x, s.fio.outs[(0 : Fin 96).val]? = some x ∧ x.sw = true ∧ (at! s.block.field.dos 0).retry = true ∧ x.retries < 5) ∧
    (let s := driving true { sw := true, retries := 5 }
     ∃ x, s.fio.outs[(0 : Fin 96).val]? = some x ∧ x.sw = true ∧ 5 ≤ x.retries) ∧
    (let s := driving false { sw := true }
     ∃ x, s.fio.outs[(0 : Fin 96).val]? = some x ∧ x.sw = true ∧ (at! s.block.field.dos 0).retry = false) ∧
    (let s := driving true { tsd := true, cmd := true, retryAt := 1 }
     ∃ x, s.fio.outs[(0 : Fin 96).val]? = some x ∧ s.fio.en = true ∧ (at! s.fio.grps 0).holding = false ∧ x.tsd = true ∧ x.cmd = true ∧
      x.latch = false ∧ x.retryAt ≤ s.tsu.statTick + 1 ∧ x.sw = false) ∧
    (let s := driving true { tsd := true, cmd := true, retryAt := 2 }
     ∃ x, s.fio.outs[(0 : Fin 96).val]? = some x ∧ ¬x.retryAt ≤ s.tsu.statTick + 1) ∧
    (∃ x, (driving true { onFor := 9600 }).fio.outs[(0 : Fin 96).val]? = some x ∧ 9600 ≤ x.onFor) ∧
    (∃ x, (driving true { onFor := 9599 }).fio.outs[(0 : Fin 96).val]? = some x ∧ x.onFor < 9600) := by
  refine ⟨fun n h => ?_, ⟨_, rfl, by decide⟩, ⟨_, rfl, by decide⟩, ⟨_, rfl, by decide⟩, ⟨_, rfl, by decide⟩, ⟨_, rfl, by decide⟩, _, rfl, by decide⟩
  rcases List.mem_pair.mp h with rfl | rfl
  all_goals exact ⟨_, rfl, by decide⟩

theorem wit_outputEventsTakeEffect : live.fio.en = false ∧
    ((holding 9600).fio.en = true ∧ (at! (holding 9600).fio.grps 0).holding = true ∧
      ticksOfMs (at! (holding 9600).block.field.holdt 0) ≤ (at! (holding 9600).fio.grps 0).missed) ∧
    at! ({ conds := [0, 3, 0, 0, 0, 0] } : OutGroup).conds 1 = 3 ∧
    (at! ({ conds := [0, 2, 3, 0, 0, 0] } : OutGroup).conds 1 < 3 ∧ at! ({ conds := [0, 2, 3, 0, 0, 0] } : OutGroup).conds 2 = 3) ∧
    ((∀ i, at! ({} : OutGroup).conds i < 3) ∧ ({} : OutGroup).sup ≤ 3) ∧
    (({ worn with fio := {} } : State).hat.enable = true ∧ ({ worn with fio := {} } : State).fio.en = false) ∧ worn.hat.enable = true ∧
    live.hat.enable = false ∧ (({ worn with hat := {} } : State).hat.enable = false ∧ ({ worn with hat := {} } : State).fio.en = true) := by
  refine ⟨by decide, by decide +kernel, by decide, by decide, ⟨fun i => ?_, by decide⟩, by decide, by decide, by decide, by decide⟩
  match i with
  | 0 | 1 | 2 | 3 | 4 | 5 => decide
  | _ + 6 => exact (by decide : (0 : Nat) < 3)

/-- An engine of a pair in a role, with an action of the witness pending and a latch. -/
def actioned (role act : Nat) (latch : Bool) : State := { paired role with hat := { act := act, latch := latch } }

/-- A handover planned for the coming tick, with or without both actions in the witness frame. -/
def planned (a : Bool) : State := { paired 1 with pair := { laneA := true, ho := some { at_ := 1 }, hoA := a }, hat := { act := 2, latch := true } }

theorem wit_hatEventsTakeEffect :
    (∀ r ∈ [0, 2, 3], (actioned r 1 false).hat.act = 1 ∧ (actioned r 1 false).fit = true ∧ (actioned r 1 false).life.role ≠ 5 ∧
      (actioned r 1 false).life.role ≠ 6 ∧ (actioned r 1 false).hat.latch = false ∧ (actioned r 1 false).pair.hoTick = false) ∧
    ((actioned 5 1 false).hat.act = 1 ∧ (actioned 5 1 false).life.role = 5) ∧ ((actioned 6 1 false).hat.act = 1 ∧ (actioned 6 1 false).life.role = 6) ∧
    ((actioned 1 1 true).hat.act = 1 ∧ (actioned 1 1 true).hat.latch = true) ∧
    (({ actioned 2 1 false with life := {} } : State).hat.act = 1 ∧ ({ actioned 2 1 false with life := {} } : State).fit = false) ∧
    ((actioned 2 0 false).hat.act ≠ 1 ∧ (actioned 2 0 false).hat.act ≠ 2 ∧ (actioned 2 0 false).hat.latch = false ∧
      (actioned 2 0 false).pair.hoTick = false) ∧
    ((planned true).hat.act = 2 ∧ (planned true).life.role = 1 ∧ (planned true).fit = true ∧ (planned true).hoDone = true) ∧
    ((actioned 1 2 true).hat.act = 2 ∧ (actioned 1 2 true).hoDone = false ∧ (actioned 1 2 true).pair.hoTick = false) ∧
    (live.life.role = 6 ∧ live.fit = true ∧ live.hat.latch = false) ∧ (paired 2).life.role ≠ 6 ∧ worn.hat.latch = true ∧
    State.reset.fit = false ∧ (justGranted.hat.latch = true ∧ justGranted.hat.fresh = true ∧ justGranted.unitB = false) ∧
    (let s : State := { justGranted with life := { justGranted.life with unit := 1 } }
     s.hat.latch = true ∧ s.hat.fresh = true ∧ s.unitB = true) := by decide

theorem wit_witnessFramesTakeEffect : live.life.booted = true ∧ live.life.role ≠ 4 ∧ witValid [] true false {} = false ∧
    State.reset.life.booted = false ∧ (paired 4).life.role = 4 ∧ ({ unitB := true } : EngFrame).unitB ≠ live.unitB ∧ live.unitB = false ∧
    ({ live with life := { live.life with unit := 1 } } : State).unitB = true := by decide

/-- A witness that accepted unit A's frame of grid number 1, `n` ticks ago. -/
def foretold (n : Nat) : Witness := { aAt := some (1, 1000000), aAgo := n }

theorem wit_engineFrames :
    EngFrame.ofBytes (engFrameBytes {}) = some {} ∧ EngFrame.ofBytes (engFrameBytes { unitB := true }) = some { unitB := true } ∧
    EngFrame.ofBytes [] = none ∧ (({} : EngFrame).unitB = false) ∧ (({ live with life := { live.life with unit := 1 } } : State).unitB = true) ∧
    (let o := gridNs (TickId.grid live.tsu.id)
     (o + 35000 ≤ o + 30000 + 5000 ∧ o + 30000 ≤ o + 35000 + 5000) ∧ o + 35000 < o + 35001 ∧ (o + 24999) + 5000 < o + 30000) ∧
    (foretold 2).aAt = some (1, 1000000) ∧ (foretold 2).aAgo < 3 ∧
    (let p := 1000000 + (gridNs (1 + ((foretold 2).aAgo + 1)) - gridNs 1)
     p + 5000 ≤ p + 5000 ∧ p ≤ p + 5000 + 5000) := by decide +kernel

theorem wit_engineFrameStarts : live.pair.w1Last = none ∧
    (∃ s : State, s.tsu.clk = 10 ^ 6 * fracOne ∧ 30000 < gridNs (nextGrid s.tsu)) ∧
    gridNs (nextGrid live.tsu) ≤ gridNs (nextGrid live.tsu) + 30000 :=
  ⟨rfl, ⟨{ live with tsu := { live.tsu with clk := 10 ^ 6 * fracOne } }, rfl, by decide +kernel⟩, Nat.le_add_right _ _⟩

theorem wit_witnessFrameValid : witValid (witFrameBytes 0 (some {}) none 1 0) true false {} = true := by decide +kernel

/-- A standby in role 5 with an applied epoch and 96 matches, at an LTC where an epoch starts. -/
def inStepSoon : State := { paired 5 with pair := { laneA := true, ppart := idPart 0, applied := true, since := 96, epoch := 1 } }

/-- Frames on lane A: one to be taken, one with a wrong CRC, a second copy; comparisons of a channel of a full window. -/
theorem wit_feltFrames : (∀ r ∈ [1, 2, 5], (paired r).feltTakes {} = true) ∧ (paired 2).feltTakes { crcOk := false } = false ∧
    ({ paired 2 with pair := { (paired 2).pair with feltGot := [0] } } : State).feltTakes {} = false ∧ live.feltTakes {} = false ∧
    (let s : State := { paired 2 with pair := { (paired 2).pair with plausW := 960, plausC := [{ n := 1, bad := true }, { n := 1 }, { n := 1, own := 2 ^ 60 }, { n := 1, gone := true }] } }
     (∀ c, s.pair.plausC[3]? = some c → c.bad = false ∧ c.n ≠ 0 ∧ c.gone = true) ∧ s.life.role = 2 ∧ 960 ≤ s.pair.plausW ∧ (∀ c, s.pair.plausC[0]? = some c → c.bad = true) ∧ (∀ c, s.pair.plausC[1]? = some c → c.bad = false ∧ c.n ≠ 0 ∧ c.gone = false) ∧
      (let r (x : Nat) : Nat := Nat.sqrt (x * 2 ^ 32 / 1)
       s.block.pair.plTol * r 0 + 2 * 2 ^ 39 < 1000 * (r (2 ^ 60) - r 0 + (r 0 - r (2 ^ 60))) ∧ ¬ s.block.pair.plTol * r 0 + 2 * 2 ^ 39 < 1000 * (r 0 - r 0 + (r 0 - r 0)))) ∧
    (paired 2).pair.plausW < 960 ∧ ({ paired 2 with pair := { laneA := true, close := some ({}, 1, 0) } } : State).closeAhead = true := by
  refine ⟨by decide, by decide, by decide, by decide, ⟨?_, by decide, by decide, ?_, ?_, ?_⟩, by decide, by decide⟩
  · rintro c ⟨⟩; decide
  · rintro c ⟨⟩; rfl
  · rintro c ⟨⟩; decide
  · simp only [Nat.zero_mul, Nat.zero_div]; decide +kernel

theorem wit_mirrorTakesEffect :
    (∀ r ∈ [2, 5], (paired r).pair.linkUp = true ∧ (paired r).life.role = r ∧ (paired r).closeAhead = false ∧ (paired r).pair.bridgeNow = false) ∧
    (∀ a, MirrorItem.supply 0 0 ≠ .action a) ∧ live.pair.linkUp = false ∧ (live.life.role ≠ 2 ∧ live.life.role ≠ 5) ∧
    (inStepSoon.life.role = 5 ∧ inStepSoon.pair.ppart = idPart inStepSoon.life.variant ∧ inStepSoon.pair.applied = true ∧ 96 ≤ inStepSoon.pair.since) ∧
    (paired 5).pair.ppart ≠ idPart (paired 5).life.variant ∧
    (inStepSoon.logic.ltc % 768 = 0 ∧ inStepSoon.pair.epoch ≠ inStepSoon.logic.ltc / 768 ∧ inStepSoon.pair.linkUp = true) ∧
    ({ inStepSoon with logic := { ltc := 1 } } : State).logic.ltc % 768 ≠ 0 ∧ live.pair.epoch = live.logic.ltc / 768 :=
  ⟨by decide, by simp, by decide, by decide, by decide, by decide, by decide, by decide, by decide⟩

/-- A standby of the active engine's variant, with its own digest of tick 1, in a copy with some chunks noted. -/
def copying (copy : Nat) (got : List Nat) : State := { paired 5 with
  pair := { laneA := true, ppart := idPart 0, own := some (1, 0), copy := copy, got := got } }

theorem wit_copyTakesEffect : ((paired 2).pair.linkUp = true ∧ (paired 2).pair.ppart ≠ idPart (paired 2).life.variant) ∧
    ((copying 1 []).pair.linkUp = true ∧ (copying 1 []).pair.ppart = idPart (copying 1 []).life.variant ∧ (copying 1 []).pair.own = some (1, 0) ∧
      chunkCounts 0 0 (copying 1 []).pair = true ∧ chunkCounts 0 767 (copying 1 []).pair = true ∧ (copying 1 []).pair.copy = 1) ∧
    ((copying 2 []).pair.linkUp = true ∧ (copying 2 []).pair.ppart = idPart (copying 2 []).life.variant ∧ chunkCounts 0 767 (copying 2 []).pair = true ∧
      (copying 2 []).pair.copy = 2 ∧ (copying 2 []).pair.mixed = false ∧ (copying 2 []).pair.got.length ≠ 768) ∧
    ((copying 2 (List.range 768)).pair.got.length = 768 ∧ chunkCounts 0 0 (copying 2 (List.range 768)).pair = true) ∧ live.pair.linkUp = false := by
  refine ⟨by decide, by decide, by decide, ⟨by simp [copying], by simp [copying, chunkCounts]⟩, by decide⟩

/-- A seeding engine with a completed chunk at hand, and the same with the point as it stood otherwise. -/
def seeding : State := { copying 2 [] with
  elems := [], flus := [], slots := [], phe := { hist := [], pres := [], groups := [] }, cp := { pubs := [] }, drc := {}, pair := { (copying 2 []).pair with seeds := [.point 7 {}], base := some (0, []) } }

theorem wit_seedWrite : seeding.pair.seeds ≠ [] ∧ seeding.pair.seeds = [.point 7 {}] ∧ lateLocal 7 = false ∧ lateLocal 0xF0000 = true ∧
    seeding.pair.base = some (0, []) ∧ (∀ b, (copying 1 []).pair.base ≠ some (0, b)) ∧ seeding.pair.got.contains 0 = false := by
  refine ⟨by decide, by decide, by decide, by decide, by decide, nofun, by decide⟩

theorem wit_seedNotWritten : ∀ y ∈ seeding.written seeding, y.key ≠ (0, 7) := by
  intro y h
  have a : ∀ y ∈ seeding.dynItems, y.key ≠ (0, 7) := by decide +kernel
  exact a y (List.mem_of_mem_filter h)

/-- The least Block of unit A's part that the check passes: its map lists the points that every engine writes (R28). -/
def leastBlock : Block := { ident := { part := idPart 0 }, map := fixedPts (idPart 0).toNat, sig := signHash [] }

/-- An engine in role 0 that an active partner would have join. -/
def joining : State := { paired 0 with pair := { laneA := true, laneB := true, prole := 1 } }

theorem wit_linkEventsTakeEffect : (paired 2).pair.linkUp = true ∧ live.pair.linkUp = false ∧ (paired 2).pair.laneA = true ∧
    (paired 2).pair.laneB = true ∧ ((planned true).pair.laneA = true ∧ (planned true).pair.laneB = false) ∧
    (({ live with pair := { laneB := true } } : State).pair.laneA = false ∧ ({ live with pair := { laneB := true } } : State).pair.laneB = true) ∧
    live.laneFit 0 = true ∧ live.laneFit 1 = true ∧
    (let s : State := { live with pbi := { live.pbi with cages := [.sx, .sx, .sx, .sx, .absent, .sx] } }; s.laneFit 0 = false ∧ s.laneFit 1 = false) ∧
    idPart live.life.variant ≠ 0 ∧ (paired 3).life.role = 3 ∧ ((paired 1).life.role = 1 ∧ (1 : BitVec 128) ≠ (paired 1).block.blockId) ∧
    (joining.life.role = 0 ∧ joining.pair.linkUp = true ∧ joining.pair.prole = 1 ∧
      joining.takes { formOk := false } = some { formOk := false } ∧ bootCheck joining.checkEnv { formOk := false } [] ≠ 0 ∧
      joining.takes leastBlock = some leastBlock ∧ bootCheck joining.checkEnv leastBlock [] = 0) ∧
    (let s : State := { joining with sca := { joining.sca with ident := false } };
      s.takes { converted := true } = none ∧ s.checkEnv.blockSigned { converted := true } = false) ∧
    (let s : State := { joining with life := { joining.life with role := 3 } }; s.life.role = 3 ∧ bootCheck s.checkEnv leastBlock [] = 0) ∧
    (paired 2).life.role ≠ 0 ∧ (paired 2).life.role ≠ 3 ∧ (paired 2).pair.prole ≠ 1 ∧
    blockCheck (paired 2).checkEnv leastBlock = 0 ∧ (paired 2).store.bad = false ∧ live.trusts {} = true ∧
    live.trusts { priv := some 3, sig := signHash [] } = true ∧ live.trusts { priv := some 3 } = false := by decide +kernel

theorem wit_handoverTakesEffect :
    ((planned true).pair.ho = some { at_ := 1 } ∧ 1 ≤ (planned true).logic.ltc + 1 ∧ (planned true).pair.hoA = true ∧
      (planned true).hat.act = 2 ∧ (planned true).life.role = 1 ∧ (planned true).fit = true) ∧
    ((planned false).pair.ho = some { at_ := 1 } ∧ (planned false).pair.hoA = false) ∧ live.pair.ho = none ∧
    (({ planned true with pair := { ho := some { at_ := 2 } } } : State).pair.ho = some { at_ := 2 } ∧ (planned true).logic.ltc + 1 < 2) ∧
    (planned true).pair.linkUp = true ∧ live.pair.linkUp = false := by decide

/-- A host port with PIN_IN enabled and these banks. -/
def pinning (a b : Bank) : State := { live with hpi := { magic := true, pinCtrl := 2, banks := [a, b] } }

theorem wit_hostRegistersTakeEffect : State.reset.hpi.magic = false ∧ live.hpi.magic = true ∧ live.hpi.pinCtrl.getLsbD 1 = false ∧
    (let s := pinning {} {}
     s.hpi.magic = true ∧ s.hpi.pinCtrl.getLsbD 1 = true ∧ s.edgeTaken 7 0 = none ∧ s.hpi.banks.findIdx? (fun b => !b.full) = some 0) ∧
    (let s := pinning { full := true } { full := true }
     s.hpi.pinCtrl.getLsbD 1 = true ∧ s.edgeTaken 7 0 = none ∧ ∀ b ∈ s.hpi.banks, b.full = true) ∧
    (let s : State := { live with hpi := { magic := true, pinCtrl := 2, edges := [((live.tsu.id.grid, 7), some 0), ((live.tsu.id.grid, 8), none)] } }
     s.hpi.pinCtrl.getLsbD 1 = true ∧ s.edgeTaken 7 0 = some (some 0) ∧ s.edgeTaken 8 0 = some none) ∧
    (0 : BitVec 4) ≠ 0xF ∧ hostRegion 0x2008 ≠ 0 ∧ hostRegion 0x2008 ≠ 4 := by decide

/-- A session that is open and not yet authenticated, with the button job running. -/
def enrolling : State := { live with svc := { sessions := [{ id := 1, keyId := 1 }], jobs := [{ no := 1, opcode := 0x0110 }] } }

/-- Its proof of the key: a signature over ID_SERIAL, SESSION, ENONCE and the host nonce. -/
def proofOfKey : BitVec 768 := signHash (sha384 (List.replicate 8 0 ++ [1, 0, 0, 0] ++ List.replicate 64 0))

theorem wit_sessionsAndKeysTakeEffect :
    (let c := cmdSessionOpen 1 0; live.admits c (ask c) = true ∧ (live.touch c (ask c)).sca.keys.any (fun x => x.id == 1) = true ∧
      (live.touch c (ask c)).sessionsFull (ask c).carrier = false) ∧
    (let c := cmdSessionAuth proofOfKey; (enrolling.touch c (ask c)).session (ask c) = some { id := 1, keyId := 1 } ∧ enrolling.admits c (ask c) = true ∧
      enrolling.keySigned 1 (sha384 (leBytes 0 8 ++ leBytes 1 4 ++ leBytes 0 32 ++ leBytes 0 32)) proofOfKey = true) ∧
    (let c := cmdSessionAuth 0; enrolling.admits c (ask c) = true ∧ enrolling.keySigned 1 (sha384 []) 0 = false) ∧
    (enrolling.touch cmdSessionClose (ask cmdSessionClose)).session (ask cmdSessionClose) = some { id := 1, keyId := 1 } ∧
    enrolling.admits cmdSessionClose (ask cmdSessionClose) = true ∧ enrolling.admits cmdSessionInfo (ask cmdSessionInfo) = true ∧
    enrolling.session (ask cmdSessionInfo) = some { id := 1, keyId := 1 } ∧
    live.admits (cmdKeyEnrol 0 0) (ask (cmdKeyEnrol 0 0)) = true ∧ live.sca.keys.length < 32 ∧
    live.sca.button = false ∧ live.jobFree 0x0110 = true ∧ enrolling.jobOf 0x0110 = some { no := 1, opcode := 0x0110 } ∧
    enrolling.tsu.statTick < 0 + 576000 ∧ (let s : State := { enrolling with tsu := { statTick := 576000 } }
      s.jobOf 0x0110 = some { no := 1, opcode := 0x0110 } ∧ 0 + 576000 ≤ s.tsu.statTick) ∧
    live.jobOf 0x0110 = none ∧ live.admits (cmdKeyRevoke 1) (sign (cmdKeyRevoke 1)) = true ∧ live.admits cmdKeyList (ask cmdKeyList) = true := by
  decide +kernel

/-- The queries of R443 that the statement names. -/
theorem wit_queriesAreAnswered :
    [cmdGetIdentity, cmdGetStatus, cmdGetHealth, cmdSelftest, cmdCounters, cmdEcho [1], cmdTimeGet, cmdPairInfo, cmdBlockInfo, cmdUpdInfo, cmdHoodInfo,
      cmdPointRead [0xFFFFF], cmdRangeRead 0xFFFFF 1, cmdForceList 0, cmdEvrInfo, cmdEvrRead 0 15, cmdTombRead 31, cmdDrcList 0,
      cmdSnapRead 1 12352 4032].all (fun c => live.admits c (ask c)) = true ∧
    (let s : State := { live with svc := { live.svc with jobs := [{ no := 1, opcode := 0x0803, state := 2, recno := 2 }] }, drc := drc1 };
      s.admits (cmdDrcFile 1 0 0) (ask (cmdDrcFile 1 0 0)) = true ∧ (s.exported 1).isSome = true ∧ s.admits (cmdJobStatus 1) (ask (cmdJobStatus 1)) = true ∧
      s.svc.jobs.find? (fun j => j.no == 1) = some { no := 1, opcode := 0x0803, state := 2, recno := 2 }) := by decide +kernel

/-- The signed operator commands of the statement that `live` takes. -/
theorem wit_operatorCommandsAdmitted :
    [cmdGroupSwitch 0 8, cmdModeSet 0 0 1, cmdSimSet 0 1, cmdPointWrite (live.valueCoded 5 1) 0 5 1, cmdCtlOperate 0 0 1 0, cmdCtlSelect 0 2 0,
      cmdCtlCancel 0 0, cmdSlotReset 0 0 1, cmdDrcTrigger 0 0, cmdForceSet 0 5 0 1, cmdForceRelease 0 5].all (fun c => live.admits c (sign c)) = true := by
  decide +kernel

theorem wit_operatorCommandsTakeEffect :
    [cmdTimeStep 2 1 0 1, cmdUtcOfsSet 255, cmdEngineReset, cmdToWaiting, cmdEvrClear].all (fun c => live.admits c (sign c)) = true ∧
    live.admits cmdPinFire (ask cmdPinFire) = true ∧ live.admits (cmdSnapRelease 1) (ask (cmdSnapRelease 1)) = true ∧
    live.forceCode 1 5 0 1 = 0 ∧ live.releaseCode 5 = 0 ∧ live.pointOpen 5 = true ∧ live.slotThere 0 = true ∧ live.absentBay 0 = false ∧
    live.block.selector = none ∧ (at! live.block.plans 0).use = true ∧ live.partnerBusy = false ∧ (0 : Nat) < 576000 ∧
    stepCode live.block.time.jump live.logic.ltc 2 1 1 live.tsu = 0 ∧ live.evr.state ≠ 2 ∧ live.evr.clearReq = none ∧
    (let s : State := { live with drc := drc1 };
      s.admits (cmdDrcDelete 2) (sign (cmdDrcDelete 2)) = true ∧ (s.drc.rec_ 2).map (·.state) = some 2 ∧
      (s.drc.rec_ 2).map (·.exporting) = some false) := by decide +kernel

/-- A Hood that is loaded, and one that is armed; a handover that nothing bars. -/
theorem wit_hoodAndHandover :
    (let s : State := { live with hood := { held := some {}, loaded := true } };
      s.admits (cmdHoodSwap 48) (sign (cmdHoodSwap 48)) = true ∧ s.hood.held = some {} ∧ s.hood.loaded = true ∧
      s.hood.armed = none ∧ s.partnerBusy = false ∧ s.swapCode {} 48 = 0) ∧
    (let s := armedFor 2;
      s.admits (cmdHoodCancel 0) (sign (cmdHoodCancel 0)) = true ∧ s.hood.armed = some 2 ∧ s.logic.ltc + 1 < 2 ∧
      s.partnerBusy = false) ∧
    (let s : State := { paired 1 with pair := { laneA := true, prole := 2, inStep := true, ppart := idPart 0, pframe := some { inStep := true } }, hat := { witRun := 3 } };
      s.admits (cmdHandover 48) (sign (cmdHandover 48)) = true ∧ s.life.role = 1 ∧
      s.handoverCode 48 true = 0) := by decide +kernel

/-- A transfer of the session that is complete. -/
def sent : Xfer := { session := 1 }

/-- An engine with three of them. -/
def sending : State := { live with store := { xfer := some sent, hoodX := some sent }, upd := { live.upd with xfer := some sent, stage := 1 } }

theorem wit_transfersAndJobsTakeEffect :
    [cmdBlockBegin 67108864 0, cmdBlockCheck, cmdHoodBegin 0 0].all (fun c => live.admits c (ask c)) = true ∧
    [cmdUpdBegin 0, cmdUpdDiscard, cmdHoodLoad].all (fun c => live.admits c (sign c)) = true ∧
    (foreign 1 live.store.xfer = false ∧ foreign 1 live.store.hoodX = false ∧ foreign 1 live.upd.xfer = false ∧ live.upd.stage = 0) ∧
    (let s := sending;
      [cmdBlockChunk true 0 [], cmdHoodChunk true 0 [], cmdUpdChunk true 0 []].all (fun c => s.admits c (ask c)) = true ∧
      s.store.xfer = some sent ∧ s.store.hoodX = some sent ∧ s.upd.xfer = some sent ∧ 0 + ([] : List Byte).length ≤ sent.length ∧
      sent.session.toNat = 1) ∧
    live.jobFree 0x0303 = true ∧ live.activateBarred = false ∧ ntickOk 0 0 = true ∧
    (let s : State := { live with store := { prevAt := some 1, slots := Vector.replicate 4 { blk := some {} } } };
      s.admits (cmdBlockActivate 1 0) (sign (cmdBlockActivate 1 0)) = true ∧ s.activateBarred = false ∧
      ntickOk s.logic.ltc 0 = true ∧ s.jobFree 0x0304 = true ∧ (s.slotBlock 1).isSome = true) ∧
    live.partnerBusy = false ∧ live.hood.armed = none ∧ live.jobFree 0x0403 = true ∧
    (let s : State := { live with upd := { pkg := some default } };
      s.admits (cmdUpdStage 0 false) (sign (cmdUpdStage 0 false)) = true ∧ s.bootBarred = false ∧ s.jobFree 0x0B03 = true ∧ s.stageCode 0 false = 0) ∧
    (let s : State := { live with hood := { loaded := true } };
      s.admits cmdHoodUnload (ask cmdHoodUnload) = true ∧ s.hood.loaded = true ∧ s.hood.armed = none) ∧
    (let s : State := { live with drc := drc1 };
      s.admits (cmdDrcExport (ComOpts.ofNat 0).isSome 2 0) (ask (cmdDrcExport true 2 0)) = true ∧ (s.drc.rec_ 2).map (·.state) = some 2 ∧ s.jobFree 0x0803 = true) ∧
    (let s : State := { live with svc := { live.svc with jobs := [{ no := 1, opcode := 0x0303 }] } };
      s.admits (cmdJobCancel (jobAuth 0x0303) 1) (ask (cmdJobCancel (jobAuth 0x0303) 1)) = true ∧ s.jobOf 0x0303 = some { no := 1, opcode := 0x0303 } ∧
      s.running.find? (fun j => j.no == 1) = some { no := 1, opcode := 0x0303 }) ∧
    (let s : State := { live with svc := { live.svc with jobs := [{ no := 1, opcode := 0x0403 }] } };
      s.jobOf 0x0403 = some { no := 1, opcode := 0x0403 } ∧ s.hood.armed = none) ∧
    (let s : State := { live with svc := { live.svc with jobs := [{ no := 1, opcode := 0x0B03 }] }, upd := { pkg := some default } };
      s.running.find? (fun j => j.no == 1) = some { no := 1, opcode := 0x0B03 } ∧ s.package = some default) ∧
    live.jobOf 0x0303 = none ∧ live.jobOf 0x0403 = none ∧ live.running.find? (fun j => j.no == 1) = none := by decide +kernel

theorem wit_stationRequestsTakeEffect : State.reset.serves 0 = false ∧ (List.range 6).all (fun p => live.serves p) = true ∧
    ([0, 1, 2, 3, 4].all (fun p => live.stCode p (.operate 0 2) == 0)) = true ∧ live.stCode 0 (.operate 1 2) ≠ 0 ∧
    (let s : State := { live with cp := { assocs := [{ id := 1 }] } };
      s.serves 0 = true ∧ s.assocOpen 1 = true ∧ s.stCode 0 (.operate 0 2) = 0 ∧ s.stCode 0 (.select 0 1) = 0) ∧ live.assocOpen 1 = false ∧
    (let s : State := { live with cp := { conns := [{ open_ := true, started := true }] } };
      s.serves 1 = true ∧ (at! s.cp.conns 0).started = true ∧ (s.heard104 0).stCode 1 (.operate 0 2) = 0) ∧
    live.stCode 3 (.coil 0 2) = 0 ∧ (live.serialPort 0).kind = 2 ∧ ({} : Conn104).pair = false ∧ (1 : Nat) < live.cp.conns.length ∧
    live.block.proto.group104[1]? = live.block.proto.group104[0]? ∧
    live.life.role ≠ 0 ∧ 5 ∈ live.mapped 3 := by decide +kernel

theorem wit_stationServicesTakeEffect : live.serves 5 = true ∧ State.reset.serves 5 = false ∧ live.block.proto.syncs[0]? = some default ∧
    live.block.proto.goosePubs[0]? = some default ∧ (at! live.cp.pubs 0).live = false ∧
    (let s : State := { live with cp := { pubs := [{ live := true }] } };
      s.protects = true ∧ (at! s.cp.pubs 0).live = true ∧ (at! s.cp.pubs 0).vals = pubVals s.sig default ∧ (at! s.cp.pubs 0).due ≤ 1) ∧
    (let s : State := { live with cp := { conns := [{ open_ := true }] } };
      (at! s.cp.conns 0).open_ = true ∧ (at! live.cp.conns 0).open_ = false) ∧
    live.hpi.magic = true ∧ State.reset.hpi.magic = false ∧
    (let s : State := { live with tsu := { statTick := 1000 }, cp := { assocs := [{ id := 1 }], rcbs := [{ on := true, assoc := 1, opts := { period := 960 } }] } };
      0 < s.intgPeriod (at! s.cp.rcbs 0) ∧ (at! s.cp.rcbs 0).intT + s.intgPeriod (at! s.cp.rcbs 0) ≤ s.tsu.statTick ∧ s.assocOpen 1 = true) ∧
    live.intgPeriod {} = 0 ∧ live.sca.ident = true ∧ live.cp.holdsPair = false ∧
    live.blk.isSome = true ∧ live.block.proto.anchors ≠ [] ∧ 1 ∉ live.cp.crl ∧ (∀ x ∈ live.cp.assocs, x.id ≠ 1) ∧
    (([0, 4].all (fun n => let s : State := { live with cp := { assocs := [{ id := 1, service := 1, pending := n }] } }
      s.cp.assocs.find? (fun y => y.id == 1 && y.service == 1) == some { id := 1, service := 1, pending := n })) = true) ∧
    0x0201 ∈ cmdTable ∧ 0x0FFF ∉ cmdTable ∧ live.cp.assocs.find? (fun y => y.id == 1 && y.service == 1) = none := by decide

theorem wit_powerUpStarts : live.life.booted = true ∧ live.sca.tamper = false ∧ (live.store.slot live.store.bootAt).blk = none ∧ State.reset.sca.identN = 0 ∧
    live.upd.stage ≠ 3 := by decide +kernel

theorem wit_sealedAreaIsZeroised : (live.life.healthy = true ∧ live.hat.was = none) ∧ State.reset.life.healthy = false ∧ live.life.booted = true ∧
    10000 ≤ 10000 ∧ (9999 : Nat) < 10000 := by decide

/-- One state of a slot for each line of R235, in the inputs of a slot in use. -/
theorem wit_trippingEndsByClass : (live.slotIn 0).isSome = true ∧
    (let y (c f : Nat) (m : Bool) : SlotState := { state := 2, tclass := c, from_ := f, manual := m }
     (y 5 1 false).tclass = 5 ∧ ((y 2 1 false).tclass ≠ 5 ∧ (y 2 1 false).tclass = 2) ∧ ((y 1 5 true).from_ = 5 ∧ (y 1 5 true).manual = true) ∧
     ((y 1 1 false).from_ ≠ 4 ∧ ¬((y 1 1 false).from_ = 5 ∧ (y 1 1 false).manual = true)) ∧ ((y 3 1 false).tclass = 3 ∧ (y 3 1 false).from_ ≠ 4) ∧
     (y 1 1 false).state ≠ 7 ∧ ({ y 1 1 false with state := 7 } : SlotState).state = 7) := by decide +kernel

/-! ### Single steps and worked examples of the spec -/

/-- The worked example after R51: tick 4,801 starts at 500,104,166 ns, tick 4,802 at 500,208,333 ns. -/
theorem test_tick_start : gridNs 4801 = 500104166 ∧ gridNs 4802 = 500208333 := by decide

/-- The worked example after R21: 50 ms gives exactly 480 ticks. -/
theorem test_ticks_of_ms : ticksOfMs 50 = 480 := by decide

/-- Sums of binary32: 1 + 2 = 3, a denormal operand reads as zero (R65); 1 / 3 and √2 are correctly rounded. -/
theorem test_float : F.add 0x3F800000 0x40000000 = 0x40400000 ∧ F.add 1 1 = 0 ∧ F.div 0x3F800000 0x40400000 = 0x3EAAAAAB ∧
    F.sqrt 0x40000000 = 0x3FB504F3 := by decide +kernel

/-- The published check value of CRC-32C over the digits 1 to 9. -/
theorem test_crc32c : crc32c [0x31, 0x32, 0x33, 0x34, 0x35, 0x36, 0x37, 0x38, 0x39] = 0xE3069283 := by decide +kernel

/-- The published digest of the text abc, its first and last four bytes. -/
theorem test_sha256 : ((sha256 [0x61, 0x62, 0x63]).take 4, (sha256 [0x61, 0x62, 0x63]).drop 28) =
    ([0xBA, 0x78, 0x16, 0xBF], [0xF2, 0x00, 0x15, 0xAD]) := by decide +kernel

/-- The first worked example of 07: CURVE 1, TMS 0.100 and m 5 reach full scale in the 4,109th tick. -/
theorem test_curve_operate_time : let i := curveInc [] { curve := 1, tms := F.ofRat 1 10, mmax := F.ofNat 20, pua := F.one } (F.ofNat 5)
    4108 * i < fluFS ∧ fluFS ≤ 4109 * i := by decide +kernel

/-- The second one: CURVE 6, TMS 2 and m 3 need 56,491.2 ticks. -/
theorem test_curve_ieee : let i := curveInc [] { curve := 6, tms := F.ofNat 2, mmax := F.ofNat 20, pua := F.one } (F.ofNat 3)
    56491 * i < fluFS ∧ fluFS ≤ 56492 * i := by decide +kernel

/-- A lane entry, byte by byte from the table of R74: mask, cassette type, polarity, WF_KEEP, a reserved byte that is not 0, RATIO of
slot 2 at offset 16. -/
theorem test_laneLayout :
    let l := LaneEntry.ofBytes ([0x1F, 0x02, 0x04, 0x01, 0, 0, 0, 9] ++ List.replicate 8 0 ++ [0, 0, 0xF0, 0x42] ++ List.replicate 12 0)
    (l.mask, l.cassType, l.polarity, l.lflags, l.ratio.getD 2 0, l.rsvZero) = (0x1F, 2, 4, 1, 0x42F00000, false) := by decide +kernel

/-- The cassette layout of R84: MAGIC, TYPE, FORMAT, DELAY of input 1 at offset 58, 190 reserved bytes. -/
theorem test_cassetteLayout :
    let c := Cassette.ofBytes ([0x42, 0x58, 0x43, 0x31, 0x02, 0x41, 1, 0] ++ List.replicate 50 0 ++ [0x10, 0x27] ++ List.replicate 196 0)
    (c.magicOk, c.typ, c.issue, c.format, c.delay.getD 1 0, c.rsv.length) = (true, 2, 0x41, 1, 10000, 190) := by decide +kernel

/-- The worked example after R87: K of a CT 5 A cassette with 600/5 is 0.0050576 A per LSB. -/
theorem test_scale : F.lt (F.ofRat 505755 100000000) (scaleK 0x05 (F.ofNat 120)) = true ∧
    F.lt (scaleK 0x05 (F.ofNat 120)) (F.ofRat 505765 100000000) = true := by decide +kernel

/-- The words of the worked example of 10: a double point that is on, off where MOD bit 2 asks for it, and false where it is
invalid. -/
theorem test_blu_operand :
    let v (x : BitVec 64) (q : BitVec 16) : CycleEnv := { img := [{ point := 5, value := x, qual := q, typ := 2 }], L := 0, prog := {}, typ := fun _ => 2 }
    bluOperand (v 2 0) {} 2 5 = true ∧ bluOperand (v 1 0) {} 2 5 = false ∧ bluOperand (v 1 0) {} 6 5 = true ∧ bluOperand (v 2 1) {} 2 5 = false := by decide

/-- The worked example of 15: session 0x5A3C_19E2 with last TAG 40 in an engine at LTC 20,000. -/
def host15 : State := { live with
  logic := { ltc := 20000 }
  svc := { sessions := [{ id := 0x5A3C19E2, keyId := 1, carrier := .host 2, authed := true, priv := 2, lastTag := some 40 }] } }

/-- Its request, with TAG 41 and LENGTH 12. -/
def group3 : Req :=
  let r : Req := { carrier := .host 2, session := 0x5A3C19E2, tag := 41, flags := 1, length := 12 }
  { r with sig := signHash (sha384 (List.replicate 40 0 ++ reqBytes (cmdGroupSwitch 0 3) r)) }

/-- With NTICK 0 it is queued for the tick after the one it is accepted in (the example's MP accepts it 19 ticks later), a
second copy is refused, and the payload and the trailer stand at 0x01_2020 and 0x01_202C. -/
theorem test_group_switch : ∃ t, exec (.groupSwitch group3 0 3) host15 = .next t ∧ t.svc.acts.map (fun a => (a.act, a.ntick)) = [(.groupSwitch 3, 20001)] ∧
    t.hpi.doorbell = 4 ∧ t.verdict (cmdGroupSwitch 0 3) group3 = 0x0102 ∧ ramGet t.hpi.ram 0x12028 = 3 ∧ ramGet t.hpi.ram 0x1202C = 0xAA :=
  ⟨_, rfl, by decide +kernel, by decide +kernel, by decide +kernel, by decide +kernel, by decide +kernel⟩

/-- The worked example after R463: the second frame counts sqNum 1 and the next interval is 20 ticks. -/
theorem test_goose_interval : ∃ t, exec (.gooseRetransmit 0) { live with cp := { pubs := [{ stNum := 1, ival := 10, due := 1, live := true }] } } = .next t ∧
    t.cp.pubs = [{ stNum := 1, sqNum := 1, ival := 20, due := 20, live := true }] := ⟨_, rfl, by decide⟩

/-- Steps 6 and 10 of the worked example of 08: Dead-time after the first trip, Lockout from Reclaim after the last shot. -/
theorem test_trip_end : let x : SlotIn := { rc := [1, 960, 9600, 0, 0x3F800000] }
    (tripEnd x { state := 2, tclass := 1, from_ := 1, trip := true }).state = 4 ∧
    (tripEnd x { state := 2, tclass := 1, from_ := 5, shot := 1, trip := true }).state = 6 := by decide +kernel

/-- R350: the largest TSU_INC is taken, one above it is ignored and sets INC_REJ. -/
theorem test_tsu_inc : (∃ t, exec (.tsuIncWrite 0x411FAAAAB 0) live = .next t ∧ t.tsu.inc = 0x411FAAAAB ∧ t.tsu.incRej = false) ∧
    ∃ t, exec (.tsuIncWrite 0x411FAAAAC 0) live = .next t ∧ t.tsu.inc = 0x411AAAAAB ∧ t.tsu.incRej = true :=
  ⟨⟨_, rfl, by decide, by decide⟩, _, rfl, by decide, by decide⟩

/-- R430: the host's 1 in MBX_DOORBELL sets the bit and clears DONE; HPI_ERR reads both counts and clears them. -/
theorem test_doorbell : (∃ t, exec (.mbxDoorbellWrite 4) { live with hpi := { magic := true, done := 6 } } = .next t ∧ t.hpi.doorbell = 4 ∧ t.hpi.done = 2) ∧
    ∃ t, exec .hpiErrRead { live with hpi := { magic := true, errOwned := 1, errUnmap := 2 } } = .next t ∧ t.hpi.data = 0x20001 ∧ t.hpi.errOwned = 0 :=
  ⟨⟨_, rfl, by decide, by decide⟩, _, rfl, by decide, by decide⟩

/-- R433, R443: ECHO answers STATUS 0, its OPCODE, its TAG, LENGTH and the data. -/
theorem test_echo : ∃ t, exec (.echo (ask (cmdEcho [0xAB])) [0xAB]) live = .next t ∧
    (List.range 12).map (fun k => ramGet t.hpi.ram (0x10000 + k)) = [0, 0, 0x04, 0x0E, 7, 0, 0, 0, 1, 0, 0, 0] ∧ ramGet t.hpi.ram 0x10020 = 0xAB ∧
    t.hpi.done = 1 := ⟨_, rfl, by decide +kernel, by decide +kernel, by decide +kernel⟩

/-- R337: a thermal shutdown of an output with RETRY is retried 96 ticks later. -/
theorem test_thermal_shutdown : ∃ t, exec (.outputThermalShutdown 0) { worn with
    blk := some { block1 with field := { dos := [{ retry := true }] } }, tsu := { statTick := 100 }, fio := { en := true, outs := [{ cmd := true, sw := true }] } }
      = .next t ∧ t.fio.outs = [{ cmd := true, tsd := true, retryAt := 196 }] := ⟨_, rfl, by decide⟩

/-- R388, R389: without frames the witness grants nothing. -/
theorem test_witness_silent : (witDecide none none {}).2 = (0, 0) := by decide

/-- R512: the cell is low below 2.6 V. -/
theorem test_cell : (∃ t, exec (.cellCheck 2599) live = .next t ∧ t.life.cellLow = true) ∧ ∃ t, exec (.cellCheck 2600) live = .next t ∧ t.life.cellLow = false :=
  ⟨⟨_, rfl, by decide⟩, _, rfl, by decide⟩

/-- R530: at reset HEALTHY reads 0, so ALARM is on; RUN flashes fast in role 4 and HAT follows OUT_EN at once. -/
theorem test_panel : State.reset.panel = { run := .off, hat := .off, alarm := .on } ∧
    ({ live with life := { role := 4 }, fio := { en := true }, hpi := { win := { health := 1, alarm1 := 4 } } } : State).panel =
      { run := .hz4, hat := .on, alarm := .hz1 } := by decide

end Sys2Proof.Tests
end

section
/-! SUPPORT. O44: what the write of a local point by a queued action makes of a value that does not fit its TYPE. -/

namespace Sys2Proof.Machine

/-- A waiting write of 2^32 to 0xF0190, the first TYPE 6 point of the engine-local region. -/
def localWrite : Action := { act := .pointWrite 0xF0190 0x100000000 }

/-- A state with that write alone in the queue, due for the coming tick. -/
def localWriteWaits : State :=
  { sig := { pts := [(0xF0190, { typ := 6 })] }, svc := { acts := [localWrite] } }

/-- The model fits a local point's value to the write's own TYPE, here 0, and so keeps every bit of it (`PtWrite.typOf`). -/
theorem localWriteWaits_keeps_bit32 :
    ∃ t, exec .commandActionApply localWriteWaits = .next t ∧ (t.sig.rd 0xF0190).value = 0x100000000 :=
  ⟨_, rfl, by decide +kernel⟩

/-- Refutes O44, by its clause on point writes, at an engine-local point: O44 fits the value to the TYPE that the point has,
and the model to the write's own TYPE 0, so 0xF0190 (TYPE 6) holds 2^32 after the step, where O44 has 0. POINT_WRITE
queues such a write only where the Block's map gives the point to the command path (`State.pointOpen`, R28); the statement
is over every queue, and a mirrored action is not checked for it (`State.partnerAct`). -/
theorem not_queuedActionsTakeEffect : ¬ Obligations.QueuedActionsTakeEffect := by
  unfold Obligations.QueuedActionsTakeEffect
  intro h
  obtain ⟨-, hdue⟩ := h localWriteWaits localWrite rfl
  obtain ⟨-, -, -, -, -, hwrite, -⟩ := hdue (by decide)
  obtain ⟨t, hexec, hmodel⟩ := localWriteWaits_keeps_bit32
  have hnext := hexec.symm.trans (hwrite 0xF0190 0x100000000 rfl)
  injection hnext with ht
  have hstated : (t.sig.rd 0xF0190).value = 0 := by
    rw [ht]
    decide +kernel
  exact absurd (hmodel.symm.trans hstated) (by decide)

end Sys2Proof.Machine
end

section
/-! SUPPORT. O18: the witness decision of R388 cut into what the witness hears and how it then acts, and its outcomes one by
one (R389). -/

namespace Sys2Proof.Machine

/-- What the witness takes from the frames of its tick: the last latch of each unit and its silence (R388). -/
def witHear (fa fb : Option EngFrame) (w : Witness) : Witness := { w with
  latA := match fa with | some f => f.latch | none => w.latA
  latB := match fb with | some f => f.latch | none => w.latB
  silA := if fa.isSome then 0 else w.silA + 1
  silB := if fb.isSome then 0 else w.silB + 1 }

/-- The Hat passes from the unit with frame `fw`, silent for `silW` ticks, to the one with frame `fs`: after a failure or as
planned (R388). -/
def takesOver (fw fs : Option EngFrame) (silW : Nat) : Bool :=
  match fs with
  | none => false
  | some s =>
    let failed := (match fw with | some f => !f.healthy | none => false) || (decide (3 ≤ silW) && !s.partnerAlive)
    let planned := match fw with | some f => plannedNow f | none => false
    (failed && eligible s) || (planned && eligiblePlanned s)

/-- ACT_A and ACT_B by the latches that the witness has heard: a start, a change away from unit A, or one away from unit B
(R388). -/
def witActs (fa fb : Option EngFrame) (v : Witness) : Nat × Nat :=
  if !v.latA && !v.latB then
    if (fa.map canStart).getD false then (1, 0) else if (fb.map canStart).getD false then (0, 1) else (0, 0)
  else if v.latA then if takesOver fa fb v.silA then (2, 1) else (0, 0)
  else if takesOver fb fa v.silB then (1, 2) else (0, 0)

/-- The witness hears the frames and then acts. -/
theorem witDecide_eq (fa fb : Option EngFrame) (w : Witness) :
    witDecide fa fb w = (witHear fa fb w, witActs fa fb (witHear fa fb w)) := by
  rw [witActs, apply_ite (Prod.mk _), apply_ite (Prod.mk _) ((witHear fa fb w).latA = true)]
  rfl

/-- The witness keeps the latch of unit A's frame, or else the last one before. -/
theorem witHear_latA (fa fb : Option EngFrame) (w : Witness) : (witHear fa fb w).latA = (fa.map (·.latch)).getD w.latA := by
  cases fa <;> rfl

/-- The witness keeps the latch of unit B's frame, or else the last one before. -/
theorem witHear_latB (fa fb : Option EngFrame) (w : Witness) : (witHear fa fb w).latB = (fb.map (·.latch)).getD w.latB := by
  cases fb <;> rfl

/-- A unit takes over only with a frame that shows it eligible, at once or for a planned handover. -/
theorem exists_eligible_of_takesOver {fw fs : Option EngFrame} {silW : Nat} (h : takesOver fw fs silW = true) :
    ∃ s, fs = some s ∧ (eligible s = true ∨ eligiblePlanned s = true) := by
  cases fs with
  | none => cases h
  | some s =>
    simp only [takesOver, Bool.or_eq_true, Bool.and_eq_true] at h
    exact ⟨s, rfl, h.imp And.right And.right⟩

/-- A unit without a frame, or with one that is not eligible, does not take over. -/
theorem not_takesOver {fw fs : Option EngFrame} {silW : Nat} (h : ∀ f, fs = some f → eligible f = false ∧ eligiblePlanned f = false) :
    takesOver fw fs silW ≠ true := by
  intro hover
  obtain ⟨s, hs, helig⟩ := exists_eligible_of_takesOver hover
  obtain ⟨hnow, hplan⟩ := h s hs
  simp [hnow, hplan] at helig

/-- The outcomes of R388 for ACT_A and ACT_B, after the witness has heard the frames: nothing, a start of the unit granted
while neither wears the Hat, or the Hat passed from its wearer to the other unit. -/
inductive WitOutcome (fa fb : Option EngFrame) (v : Witness) : Nat × Nat → Prop
  | keep : WitOutcome fa fb v (0, 0)
  | startA (hA : v.latA = false) (hB : v.latB = false) : WitOutcome fa fb v (1, 0)
  | startB (hA : v.latA = false) (hB : v.latB = false) : WitOutcome fa fb v (0, 1)
  | passToB (hA : v.latA = true) (hover : takesOver fa fb v.silA = true) : WitOutcome fa fb v (2, 1)
  | passToA (hB : v.latB = true) (hover : takesOver fb fa v.silB = true) : WitOutcome fa fb v (1, 2)

/-- The actions of the witness are one of these outcomes. -/
theorem witActs_outcome (fa fb : Option EngFrame) (v : Witness) : WitOutcome fa fb v (witActs fa fb v) := by
  unfold witActs
  split
  next hnone =>
    obtain ⟨hA, hB⟩ : v.latA = false ∧ v.latB = false := by simpa using hnone
    split
    · exact .startA hA hB
    · split
      · exact .startB hA hB
      · exact .keep
  next hsome =>
    split
    next hA =>
      split
      next hover => exact .passToB hA hover
      next => exact .keep
    next hA =>
      have hB : v.latB = true := by simpa [hA] using hsome
      split
      next hover => exact .passToA hB hover
      next => exact .keep

/-- Settles O18, by the outcomes of the decision: only a pass revokes, it grants the other unit, and that one is eligible. -/
theorem witnessGrantsOne : Obligations.WitnessGrantsOne := by
  unfold Obligations.WitnessGrantsOne
  intro fa fb w
  rw [witDecide_eq]
  have hlatA := witHear_latA fa fb w
  have hlatB := witHear_latB fa fb w
  have hacts := witActs_outcome fa fb (witHear fa fb w)
  generalize witHear fa fb w = v at hlatA hlatB hacts ⊢
  generalize witActs fa fb v = acts at hacts ⊢
  cases hacts with
  | keep => simp [← hlatA, ← hlatB]
  | startA hA hB => simp [hB, ← hlatA, ← hlatB]
  | startB hA hB => simp [hA, ← hlatA, ← hlatB]
  | passToB hA hover =>
    have helig : ¬ ∀ f, fb = some f → eligible f = false ∧ eligiblePlanned f = false := fun h => not_takesOver h hover
    simp [hA, helig, ← hlatA, ← hlatB]
  | passToA hB hover =>
    have helig : ¬ ∀ f, fa = some f → eligible f = false ∧ eligiblePlanned f = false := fun h => not_takesOver h hover
    simp [hB, helig, ← hlatA, ← hlatB]

end Sys2Proof.Machine
end

section
/-! SUPPORT. O11: what hearing a request, accepting it and refusing it make of the session it comes in, when a command is
refused, and what a repeated TAG or a bad signature makes of the checks (R437, R438). -/

namespace Sys2Proof.Machine

/-! ### The session of a request -/

/-- Where the sessions that a request names change alike, and keep their number and carrier, so does its session. -/
theorem State.session_of_sessions_map {r : Req} {s t : State} {g : Session → Session}
    (hkeep : ∀ x, (g x).id = x.id ∧ (g x).carrier = x.carrier)
    (hmap : t.svc.sessions = s.svc.sessions.map (fun x => if x.id.toNat = r.session && x.carrier.same r.carrier then g x else x)) :
    t.session r = (s.session r).map g := by
  unfold State.session
  rw [hmap]
  induction s.svc.sessions with
  | nil => rfl
  | cons x xs ih =>
    obtain ⟨hid, hcarrier⟩ := hkeep x
    by_cases hx : x.id.toNat = r.session ∧ x.carrier.same r.carrier = true
    · simp [hx, hid, hcarrier]
    · simpa [List.find?_cons, hx] using ih

/-- Hearing a request starts the idle time of its session anew (R435). -/
theorem State.touch_session (c : CmdSpec) (r : Req) (s : State) :
    (s.touch c r).session r = (s.session r).map (fun x => { x with idle := s.tsu.statTick }) :=
  State.session_of_sessions_map (fun _ => ⟨rfl, rfl⟩) rfl

/-- Accepting a signed command makes its TAG the last of its session (R437). -/
theorem State.markTag_session {c : CmdSpec} (hsigned : c.signed = true) (r : Req) (s : State) :
    (s.markTag c r).session r = (s.session r).map (fun x => { x with lastTag := some r.tag }) :=
  State.session_of_sessions_map (fun _ => ⟨rfl, rfl⟩) (by rw [State.markTag, if_pos hsigned])

/-- A refusal leaves every session as it is. -/
@[simp] theorem State.refuse_session (c : CmdSpec) (r r' : Req) (st : Nat) (b : Bool) (s : State) :
    (s.refuse c r st b).session r' = s.session r' := by
  simp [State.session, State.refuse]

/-! ### Signature and TAG -/

/-- Hearing a request changes nothing that its signature is checked against (R434). -/
@[simp] theorem State.touch_sigGood (c : CmdSpec) (r : Req) (s : State) : (s.touch c r).sigGood c r = s.sigGood c r := by
  unfold State.sigGood
  rw [State.touch_session]
  cases s.session r <;> rfl

/-- A TAG is not new exactly where the session has accepted one that is not below it (R437). -/
theorem tagNew_eq_false_iff (x : Session) (r : Req) : tagNew x r = false ↔ ∃ n, x.lastTag = some n ∧ r.tag ≤ n := by
  unfold tagNew
  cases x.lastTag <;> simp

/-- Step 3 of R438 fails a signed command with a bad signature or a TAG that is not new. -/
theorem State.not_authed_of_replay {c : CmdSpec} {p : Nat} {r : Req} {s : State} {x : Session} (hpriv : c.priv = some p)
    (hsigned : c.signed = true) (hx : s.session r = some x) (hbad : s.sigGood c r = false ∨ tagNew x r = false) :
    s.authed c r = false := by
  simp only [State.authed, hpriv, hx, hsigned]
  obtain hsig | htag := hbad
  · simp [hsig]
  · simp [htag]

/-- In a session, the signature of a signed command has failed exactly where it is not good. -/
theorem State.sigFailed_of_session {c : CmdSpec} {r : Req} {s : State} {x : Session} (hsigned : c.signed = true)
    (hx : s.session r = some x) : s.sigFailed c r = !s.sigGood c r := by
  simp [State.sigFailed, hsigned, hx]

/-! ### Refused commands -/

/-- A request passes steps 2 to 4 of R438 exactly where its form, its session and the role are as the command needs them. -/
theorem State.verdict_eq_zero_iff (c : CmdSpec) (r : Req) (s : State) :
    s.verdict c r = 0 ↔ c.formBad r = none ∧ s.authed c r = true ∧ roleOk s.life.role c = true := by
  unfold State.verdict
  split
  next hform => simp [Option.isSome_iff_ne_none.mp hform]
  next hform =>
    have hform' : c.formBad r = none := by simpa using hform
    split
    next hauth => simp [show s.authed c r = false by simpa using hauth]
    next hauth =>
      have hauth' : s.authed c r = true := by simpa using hauth
      split
      next hrole => simp [show roleOk s.life.role c = false by simpa using hrole]
      next hrole => simpa [hform', hauth'] using hrole

/-- A request of right form that fails step 3 of R438 gets 0x0102. -/
theorem State.verdict_of_not_authed {c : CmdSpec} {r : Req} {s : State} (hform : c.formBad r = none) (hauth : s.authed c r = false) :
    s.verdict c r = 0x0102 := by
  simp [State.verdict, hform, hauth]

/-- A request that reaches the MP and fails one of the checks is refused with that check's status. -/
theorem State.command_of_verdict {c : CmdSpec} {r : Req} {s : State} (hreach : s.reached r.carrier = true)
    (hverdict : (s.touch c r).verdict c r ≠ 0) (go : State → Except Nat Ans) :
    s.command c r go = (s.touch c r).refuse c r ((s.touch c r).verdict c r) ((s.touch c r).sigFailed c r) := by
  obtain ⟨hnot, -⟩ | ⟨-, ⟨-, hcmd⟩ | ⟨hzero, -⟩⟩ := s.command_cases c r go
  · simp [hnot] at hreach
  · exact hcmd
  · exact absurd hzero hverdict

/-- A request that reaches the MP and fails one of the checks, or one of the command's own, is refused. -/
theorem State.exists_command_eq_refuse {c : CmdSpec} {r : Req} {go : State → Except Nat Ans} {s : State}
    (hreach : s.reached r.carrier = true)
    (hfails : (s.touch c r).verdict c r ≠ 0 ∨ ∃ e, go (s.touch c r) = .error e) :
    ∃ st b, s.command c r go = (s.touch c r).refuse c r st b := by
  obtain ⟨hnot, -⟩ | ⟨-, ⟨-, hcmd⟩ | ⟨hzero, ⟨e, -, hcmd⟩ | ⟨a, hok, -⟩⟩⟩ := s.command_cases c r go
  · simp [hnot] at hreach
  · exact ⟨_, _, hcmd⟩
  · exact ⟨_, _, hcmd⟩
  · obtain hverdict | ⟨e, herr⟩ := hfails
    · exact absurd hzero hverdict
    · simp [hok] at herr

/-- Settles O11: a replay fails step 3 of R438, no refusal touches a session's TAG, and an accepted TAG becomes the last. -/
theorem replayIsRefused : Obligations.ReplayIsRefused := by
  unfold Obligations.ReplayIsRefused
  refine ⟨?replay, ?refused, ?accepted⟩
  case replay =>
    intro c p r go s x hpriv hsigned hform hreach hx hbad
    have hheard := State.touch_session c r s
    rw [hx, Option.map_some] at hheard
    have hauth : (s.touch c r).authed c r = false := by
      refine State.not_authed_of_replay hpriv hsigned hheard ?_
      rwa [State.touch_sigGood, tagNew_eq_false_iff]
    have hverdict := State.verdict_of_not_authed hform hauth
    rw [State.command_of_verdict hreach (by simp [hverdict]), hverdict, State.sigFailed_of_session hsigned hheard,
      State.touch_sigGood]
  case refused =>
    intro c r go s x hx hreach hfails
    have hfails' : (s.touch c r).verdict c r ≠ 0 ∨ ∃ e, go (s.touch c r) = .error e := by
      rw [Ne, State.verdict_eq_zero_iff, State.touch_life]
      obtain hform | hauth | hrole | hown := hfails
      · simp [Option.isSome_iff_ne_none.mp hform]
      · simp [hauth]
      · simp [hrole]
      · exact .inr hown
    obtain ⟨st, b, hcmd⟩ := State.exists_command_eq_refuse hreach hfails'
    simp [hcmd, State.touch_session, hx]
  case accepted =>
    intro c r s x hsigned hx
    simp [State.markTag_session hsigned, hx]

end Sys2Proof.Machine
end

section
/-! SUPPORT. O9: no operation but the start changes which unit the engine is (R10, R523). Here the shared operations and the tick, one
lemma for each in the order of the model; each rests on those of the operations it is made of. Those that simp uses to prove what a
fold or a command asks of its function are proved by simp, since it does not assign a proof that is rfl alone there. -/

namespace Sys2Proof.Machine

/-! ### Choices, folds and answers -/

@[simp] theorem State.ite_unit (c : Prop) [Decidable c] (s t : State) :
    (if c then s else t).life.unit = if c then s.life.unit else t.life.unit :=
  apply_ite (fun x : State => x.life.unit) c s t

/-- What every step of a fold leaves, the fold leaves. -/
@[simp] theorem State.foldl_unit {α : Type} {f : State → α → State} (hf : ∀ s x, (f s x).life.unit = s.life.unit) (l : List α)
    (s : State) : (l.foldl f s).life.unit = s.life.unit := by
  induction l generalizing s with
  | nil => rfl
  | cons x l ih => rw [List.foldl_cons, ih, hf]

/-- The work of a mailbox command answers no state (it refuses), or one in which the engine is unit `u` (R438). -/
def UnitKept (u : Nat) (x : Except Nat Ans) : Prop := ∀ a, x = .ok a → a.s.life.unit = u

@[simp] theorem unitKept_error (u e : Nat) : UnitKept u (.error e) := by simp [UnitKept]

@[simp] theorem unitKept_ok (u : Nat) (a : Ans) : UnitKept u (.ok a) ↔ a.s.life.unit = u := by simp [UnitKept]

@[simp] theorem unitKept_ite (u : Nat) (c : Prop) [Decidable c] (x y : Except Nat Ans) :
    UnitKept u (if c then x else y) ↔ (c → UnitKept u x) ∧ (¬ c → UnitKept u y) := by
  split <;> simp [*]

@[simp] theorem State.unitKept_ok (u : Nat) (l : List Byte) (s : State) : UnitKept u (s.ok l) ↔ s.life.unit = u :=
  Machine.unitKept_ok u _

/-! Activation (R498, R499) -/

@[simp] theorem State.activate_unit (b : Block) (s : State) : (s.activate b).life.unit = s.life.unit := rfl

/-! Roles, resets, fall-back, messages and the command skeleton (R43, R44, R432 to R442, R508) -/

@[simp] theorem State.toPartner_unit (l : List FeltFrame) (s : State) : (s.toPartner l).life.unit = s.life.unit := by simp [State.toPartner]
@[simp] theorem State.setRole_unit (n : Nat) (s : State) : (s.setRole n).life.unit = s.life.unit := by
  obtain ⟨-, h⟩ | ⟨-, h⟩ := s.setRole_cases n <;> rw [h]

/-- Leaving Waiting changes the role and nothing else of the life states (R43). -/
theorem State.takeRole_life (s : State) : ∃ n, s.takeRole.life = { s.life with role := n } := by
  have hset (n : Nat) : ∃ m, (s.setRole n).life = { s.life with role := m } := by
    obtain ⟨-, h⟩ | ⟨-, h⟩ := s.setRole_cases n
    · exact ⟨s.life.role, by rw [h]⟩
    · exact ⟨n, by rw [h]⟩
  obtain h | h | h | h | h := s.takeRole_cases
  case inl => exact ⟨s.life.role, by rw [h]⟩
  all_goals exact h ▸ hset _

@[simp] theorem State.takeRole_unit (s : State) : s.takeRole.life.unit = s.life.unit := by
  obtain ⟨n, h⟩ := s.takeRole_life
  simp [h]
@[simp] theorem State.resetEngine_unit (cause : Nat) (s : State) : (s.resetEngine cause).life.unit = s.life.unit := rfl
@[simp] theorem State.fallBack_unit (s : State) : s.fallBack.life.unit = s.life.unit := rfl
@[simp] theorem State.firmwareFallback_unit (s : State) : s.firmwareFallback.life.unit = s.life.unit := by simp [State.firmwareFallback]
@[simp] theorem State.fallDue_unit (s : State) : s.fallDue.life.unit = s.life.unit := by
  obtain ⟨-, -, -, -, h⟩ | ⟨-, h⟩ := s.fallDue_cases <;> simp [h]
@[simp] theorem State.enableLower_unit (s : State) : s.enableLower.life.unit = s.life.unit := rfl
@[simp] theorem State.undoGrant_unit (s : State) : s.undoGrant.life.unit = s.life.unit := by
  unfold State.undoGrant
  split <;> rfl
@[simp] theorem State.unhealthy_unit (cause : Nat) (s : State) : (s.unhealthy cause).life.unit = s.life.unit := by simp [State.unhealthy]
@[simp] theorem State.resetHealth_unit (s : State) : s.resetHealth.life.unit = s.life.unit := rfl
@[simp] theorem State.resetIfDue_unit (s : State) : s.resetIfDue.life.unit = s.life.unit := by
  obtain ⟨-, h⟩ | ⟨-, h⟩ := s.resetIfDue_cases <;> simp [h]
@[simp] theorem State.leave_unit (cause : Nat) (s : State) : (s.leave cause).life.unit = s.life.unit := rfl
@[simp] theorem State.command_unit (c : CmdSpec) (r : Req) {go : State → Except Nat Ans} (s : State)
    (hgo : ∀ t, UnitKept t.life.unit (go t)) : (s.command c r go).life.unit = s.life.unit := by
  obtain ⟨-, h⟩ | ⟨-, ⟨-, h⟩ | ⟨-, ⟨e, -, h⟩ | ⟨a, ha, ⟨-, h⟩ | ⟨-, h⟩⟩⟩⟩ := s.command_cases c r go
  case inl | inr.inl | inr.inr.inl => simp [h]
  all_goals simpa [h] using hgo (s.touch c r) a ha
@[simp] theorem State.actAt_unit (c : CmdSpec) (r : Req) (ntick : Nat) (a : Act) (s : State) :
    UnitKept s.life.unit (s.actAt c r ntick a) := by simp [State.actAt]
@[simp] theorem State.answer_unit (x : Action) (status : Nat) (payload : List Byte) (s : State) :
    (s.answer x status payload).life.unit = s.life.unit := by simp [State.answer]
@[simp] theorem State.openJob_unit (j : Job) {s : State} {u : Nat} (h : s.life.unit = u) : UnitKept u (s.openJob j) := by
  simp [State.openJob, h]
@[simp] theorem State.endJob_unit (no state final : Nat) (result : BitVec 64) (s : State) :
    (s.endJob no state final result).life.unit = s.life.unit := rfl
@[simp] theorem State.dropJobs_unit (s : State) : s.dropJobs.life.unit = s.life.unit := rfl
@[simp] theorem State.enrolTimeout_unit (s : State) : s.enrolTimeout.life.unit = s.life.unit := by
  unfold State.enrolTimeout
  split <;> simp
@[simp] theorem State.discardIdle_unit (kind : Nat) (s : State) : (s.discardIdle kind).life.unit = s.life.unit := by
  unfold State.discardIdle
  split <;> simp

/-! Messages of the station protocols (R455, R458, R464) -/

@[simp] theorem State.modConn_unit (i : Nat) (f : Conn104 → Conn104) (s : State) : (s.modConn i f).life.unit = s.life.unit := rfl
@[simp] theorem State.modAssoc_unit (id : Nat) (f : Assoc → Assoc) (s : State) : (s.modAssoc id f).life.unit = s.life.unit := rfl
@[simp] theorem State.say_unit (m : StMsg) (s : State) : (s.say m).life.unit = s.life.unit := by simp [State.say]
@[simp] theorem State.sayAll_unit (l : List StMsg) (s : State) : (s.sayAll l).life.unit = s.life.unit := by simp [State.sayAll]
@[simp] theorem State.flush104_unit (i : Nat) (s : State) : (s.flush104 i).life.unit = s.life.unit := by simp [State.flush104]
@[simp] theorem State.tlsClose_unit (assoc : Nat) (s : State) : (s.tlsClose assoc).life.unit = s.life.unit := by simp [State.tlsClose]
@[simp] theorem State.dropPairAddr_unit (s : State) : s.dropPairAddr.life.unit = s.life.unit := by simp [State.dropPairAddr]

/-! Operator actions in their named tick (R27, R322) -/

@[simp] theorem State.prepare_unit (x : Action) (s : State) : (s.prepare x).life.unit = s.life.unit := by
  unfold State.prepare
  split <;> rfl
@[simp] theorem State.swapHood_unit (s : State) : s.swapHood.life.unit = s.life.unit := by
  unfold State.swapHood
  split <;> simp
@[simp] theorem State.cancelHood_unit (s : State) : s.cancelHood.life.unit = s.life.unit := by simp [State.cancelHood]
@[simp] theorem State.applyActivation_unit (s : State) : s.applyActivation.life.unit = s.life.unit := by
  unfold State.applyActivation
  split <;> simp [apply_ite]
@[simp] theorem State.writePoint_unit (i : Nat) (v : BitVec 64) (s : State) : (s.writePoint i v).life.unit = s.life.unit := rfl
@[simp] theorem State.request_unit (slot : Nat) (q : CtlReq) (s : State) : (s.request slot q).life.unit = s.life.unit := rfl
@[simp] theorem State.applyAct_unit (x : Action) (s : State) : (s.applyAct x).life.unit = s.life.unit := by
  unfold State.applyAct
  split <;> simp
@[simp] theorem State.applyActs_unit (s : State) : s.applyActs.life.unit = s.life.unit := by simp [State.applyActs]
@[simp] theorem State.answerAct_unit (x : Action) (n : Nat) (s : State) : (s.answerAct x n).life.unit = s.life.unit := by
  unfold State.answerAct
  (repeat' split) <;> simp
@[simp] theorem State.answerActs_unit (s : State) : s.answerActs.life.unit = s.life.unit := by simp [State.answerActs]
@[simp] theorem State.selectorStep_unit (s : State) : s.selectorStep.life.unit = s.life.unit := by
  unfold State.selectorStep
  (repeat' split) <;> simp

/-! What phase F publishes (R452, R462) -/

@[simp] theorem State.queueTick_unit (s : State) : s.queueTick.life.unit = s.life.unit := rfl
@[simp] theorem State.publish_unit (s : State) : s.publish.life.unit = s.life.unit := rfl

/-! Pins and snapshot banks (R446 to R451) -/

@[simp] theorem State.pinBack_unit (src : BitVec 6) (cycle : Nat) (deferred : Bool) (back : Nat) (s : State) :
    (s.pinBack src cycle deferred back).life.unit = s.life.unit := by
  obtain ⟨_, _, _, _, h⟩ := s.pinBack_frame src cycle deferred back
  rw [h]
@[simp] theorem State.pin_unit (src : BitVec 6) (cycle : Nat) (deferred : Bool) (s : State) :
    (s.pin src cycle deferred).life.unit = s.life.unit := by simp [State.pin]
@[simp] theorem State.takeSnap_unit (s : State) : s.takeSnap.life.unit = s.life.unit := rfl
@[simp] theorem State.fillBanks_unit (s : State) : s.fillBanks.life.unit = s.life.unit := by simp [State.fillBanks]
@[simp] theorem State.releaseBank_unit (i : Nat) (s : State) : (s.releaseBank i).life.unit = s.life.unit := rfl

/-! The tick, from its start to phase F (R48 to R54) -/

@[simp] theorem State.sendFrame_unit (start : Nat) (f : EngFrame) (id : TickId) (s : State) :
    (s.sendFrame start f id).life.unit = s.life.unit := rfl
@[simp] theorem State.sealTime_unit (old : Tsu) (s : State) : (s.sealTime old).life.unit = s.life.unit := rfl
@[simp] theorem State.sendEvent_unit (port instant : Nat) (f : Nat → Emit) (s : State) :
    (s.sendEvent port instant f).life.unit = s.life.unit := by simp [State.sendEvent]
@[simp] theorem State.stepShift_unit (clk : Nat) (s : State) : (s.stepShift clk).life.unit = s.life.unit := by simp [State.stepShift]
@[simp] theorem State.advance_unit (s : State) : s.advance.life.unit = s.life.unit := by simp [State.advance]
@[simp] theorem State.w1Start_unit (start : Nat) (s : State) : (s.w1Start start).life.unit = s.life.unit := by simp [State.w1Start]
@[simp] theorem State.w1Send_unit (absent : Bool) (old : State) (s0 : State) : (State.w1Send absent old s0).life.unit = s0.life.unit := by
  unfold State.w1Send
  dsimp only
  (repeat' split) <;> simp
@[simp] theorem State.handoverTick_unit (s : State) : s.handoverTick.life.unit = s.life.unit := by
  unfold State.handoverTick
  split <;> simp
@[simp] theorem State.latchNote_unit (old : Hat) (s : State) : (s.latchNote old).life.unit = s.life.unit := by simp [State.latchNote]
@[simp] theorem State.latchRole_unit (s : State) : s.latchRole.life.unit = s.life.unit := by simp [State.latchRole]
@[simp] theorem State.race_unit (s : State) : s.race.life.unit = s.life.unit := by
  unfold State.race
  split <;> simp
@[simp] theorem State.hatTick_unit (x : TickIn) (s : State) : (s.hatTick x).life.unit = s.life.unit := by simp [State.hatTick]
@[simp] theorem State.sickTick_unit (s : State) : s.sickTick.life.unit = s.life.unit := rfl
@[simp] theorem State.deferredPin_unit (s : State) : s.deferredPin.life.unit = s.life.unit := by simp [State.deferredPin]
@[simp] theorem State.tickStart_unit (x : TickIn) (s : State) : (s.tickStart x).life.unit = s.life.unit := by simp [State.tickStart]
@[simp] theorem State.copyPut_unit (s : State) (x : CopyItem) : (s.copyPut x).life.unit = s.life.unit := by
  cases x <;> simp [State.copyPut]
@[simp] theorem State.epochStart_unit (m : Nat) (s : State) : (s.epochStart m).life.unit = s.life.unit := by simp [State.epochStart]
@[simp] theorem State.ltcStep_unit (s : State) : s.ltcStep.life.unit = s.life.unit := by simp [State.ltcStep]
@[simp] theorem State.judge_unit (g : Nat) (s : State) : (s.judge g).life.unit = s.life.unit := by
  unfold State.judge
  split <;> simp
@[simp] theorem State.calibrateTick_unit (s : State) : s.calibrateTick.life.unit = s.life.unit := by simp [State.calibrateTick]
@[simp] theorem State.applyMirror_unit (aligned : TickId) (s : State) : (s.applyMirror aligned).life.unit = s.life.unit := rfl
@[simp] theorem State.staleIfDue_unit (s : State) : s.staleIfDue.life.unit = s.life.unit := by simp [State.staleIfDue]
@[simp] theorem State.bridgeTick_unit (s : State) : s.bridgeTick.life.unit = s.life.unit := by simp [State.bridgeTick]
@[simp] theorem State.ownAgain_unit (s : State) : s.ownAgain.life.unit = s.life.unit := by simp [State.ownAgain]
@[simp] theorem State.commitInputs_unit (x : TickIn) (aligned : TickId) (b : Block) (s0 : State) :
    (s0.commitInputs x aligned b).life.unit = s0.life.unit := by simp [State.commitInputs]
@[simp] theorem State.initEnd_unit (s : State) : s.initEnd.life.unit = s.life.unit := by simp [State.initEnd]
@[simp] theorem State.tellTime_unit (s : State) : s.tellTime.life.unit = s.life.unit := by simp [State.tellTime]
@[simp] theorem State.clockTick_unit (x : TickIn) (s0 : State) : (s0.clockTick x).life.unit = s0.life.unit := by simp [State.clockTick]
@[simp] theorem State.seedWrite_unit (old s : State) : (State.seedWrite old s).life.unit = s.life.unit := by simp [State.seedWrite]
@[simp] theorem State.phaseA_unit (x : TickIn) (aligned : TickId) (s : State) : (s.phaseA x aligned).life.unit = s.life.unit := by
  unfold State.phaseA
  dsimp only
  (repeat' split) <;> simp
@[simp] theorem State.commitLogic_unit (b : Block) (s : State) : (s.commitLogic b).life.unit = s.life.unit := rfl
@[simp] theorem State.statusLogic_unit (s : State) : s.statusLogic.life.unit = s.life.unit := rfl
@[simp] theorem State.commitOutputs_unit (b : Block) (s : State) : (s.commitOutputs b).life.unit = s.life.unit := by
  simp [State.commitOutputs]
@[simp] theorem State.phaseE_unit (x : TickIn) (b : Block) (old s : State) : (State.phaseE x b old s).life.unit = s.life.unit := by
  simp [State.phaseE]
@[simp] theorem State.slotPin_unit (s : State) : s.slotPin.life.unit = s.life.unit := by simp [State.slotPin]
@[simp] theorem State.statusTick_unit (x : TickIn) (s : State) : (s.statusTick x).life.unit = s.life.unit := rfl
@[simp] theorem State.drcTick_unit (b : Block) (s : State) : (s.drcTick b).life.unit = s.life.unit := rfl
@[simp] theorem State.answerClear_unit (d : Option (Nat × Nat)) (s : State) : (s.answerClear d).life.unit = s.life.unit := by
  unfold State.answerClear
  (repeat' split) <;> simp
@[simp] theorem State.evrTick_unit (x : TickIn) (s : State) : (s.evrTick x).life.unit = s.life.unit := by simp [State.evrTick]
@[simp] theorem State.copySend_unit (old s : State) : (State.copySend old s).life.unit = s.life.unit := by simp [State.copySend]
@[simp] theorem State.verifyTick_unit (old s : State) : (State.verifyTick old s).life.unit = s.life.unit := by simp [State.verifyTick]
@[simp] theorem State.copyTick_unit (old s : State) : (State.copyTick old s).life.unit = s.life.unit := by simp [State.copyTick]
@[simp] theorem State.stage_unit (b : Block) (s : State) : (s.stage b).life.unit = s.life.unit := by
  unfold State.stage
  dsimp only
  (repeat' split) <;> simp
@[simp] theorem State.writeDirectory_unit (s : State) : s.writeDirectory.life.unit = s.life.unit := rfl
@[simp] theorem State.keepHoods_unit (u : HoodUnit) (s : State) : (s.keepHoods u).life.unit = s.life.unit := rfl
@[simp] theorem State.storeTick_unit (s : State) : s.storeTick.life.unit = s.life.unit := by
  unfold State.storeTick
  dsimp only
  (repeat' split) <;> simp
@[simp] theorem State.rejoin_unit (s : State) : s.rejoin.life.unit = s.life.unit := by simp [State.rejoin]
@[simp] theorem State.pairTickEnd_unit (s : State) : s.pairTickEnd.life.unit = s.life.unit := by simp [State.pairTickEnd]
@[simp] theorem State.lateStatus_unit (ws : List PtWrite) (s0 : State) : (s0.lateStatus ws).life.unit = s0.life.unit := rfl
@[simp] theorem State.takeView_unit (s : State) : s.takeView.life.unit = s.life.unit := rfl
@[simp] theorem State.sessionTick_unit (s : State) : s.sessionTick.life.unit = s.life.unit := by simp [State.sessionTick]
@[simp] theorem State.unknownTick_unit (i : Fin 16) (s : State) : (s.unknownTick i).life.unit = s.life.unit := by simp [State.unknownTick]
@[simp] theorem State.refreshTick_unit (s : State) : s.refreshTick.life.unit = s.life.unit := rfl
@[simp] theorem State.pairAddrTick_unit (s : State) : s.pairAddrTick.life.unit = s.life.unit := by simp [State.pairAddrTick]
@[simp] theorem State.phaseF_unit (x : TickIn) (old s : State) : (State.phaseF x old s).life.unit = s.life.unit := by
  unfold State.phaseF
  dsimp only
  (repeat' split) <;> simp
@[simp] theorem State.phases_unit (x : TickIn) (aligned : TickId) (s : State) : (s.phases x aligned).life.unit = s.life.unit := by
  unfold State.phases
  dsimp only
  split <;> simp
@[simp] theorem State.windowTick_unit (s : State) : s.windowTick.life.unit = s.life.unit := by simp [State.windowTick]
@[simp] theorem State.tick_unit (x : TickIn) (s : State) : (s.tick x).life.unit = s.life.unit := by simp [State.tick]

end Sys2Proof.Machine
end

section
/-! SUPPORT. O9: the operations of the commands that are no part of the tick leave the unit too. -/

namespace Sys2Proof.Machine

/-! Process-bus intake, phasor groups and synchrophasor streams (R104 to R131, R155, R163) -/

@[simp] theorem State.calibrateLane_unit (lane : Nat) (s : State) : (s.calibrateLane lane).life.unit = s.life.unit := by
  simp [State.calibrateLane]
@[simp] theorem State.ptpTake_unit (port stamp : Nat) (m : PtpMsg) (s : State) : (s.ptpTake port stamp m).life.unit = s.life.unit := by
  unfold State.ptpTake
  (repeat' split) <;> simp
@[simp] theorem State.serviceFrame_unit (f : Frame) (s : State) : (s.serviceFrame f).life.unit = s.life.unit := by
  unfold State.serviceFrame
  (repeat' split) <;> simp
@[simp] theorem State.frameReceive_unit (f0 : Frame) (s : State) : (s.frameReceive f0).life.unit = s.life.unit := by
  unfold State.frameReceive
  repeat' split
  · simp
  · rfl
  · dsimp only
    cases (pbiReceive s.filterBlock s.simOn (s.stamped f0) s.pbi).2 <;> simp
@[simp] theorem State.gooseDropped_unit (gcb : Nat) (s : State) : (s.gooseDropped gcb).life.unit = s.life.unit := by
  unfold State.gooseDropped
  split <;> rfl
@[simp] theorem State.holdExpired_unit (g : Nat) (s : State) : (s.holdExpired g).life.unit = s.life.unit := by
  unfold State.holdExpired
  split <;> simp
@[simp] theorem State.synchroSend_unit (n : Nat) (s : State) : (s.synchroSend n).life.unit = s.life.unit := by
  unfold State.synchroSend
  split <;> rfl

/-! The coming tick of operator actions and Hoods (R27, R315) -/

@[simp] theorem State.atNext_unit {f : State → State} (s : State) (hf : ∀ t, (f t).life.unit = t.life.unit) :
    (s.atNext f).life.unit = s.life.unit := by simp [State.atNext, hf]

/-! Fault locators and completed COMTRADE jobs (R266 to R276) -/

@[simp] theorem State.flLatchRow_unit (bay : Nat) (s : State) : (s.flLatchRow bay).life.unit = s.life.unit := by
  unfold State.flLatchRow
  split <;> simp
@[simp] theorem State.flLocateRow_unit (bay : Nat) (s : State) : (s.flLocateRow bay).life.unit = s.life.unit := by
  unfold State.flLocateRow
  split <;> simp
@[simp] theorem State.wfRow_unit (bay recno : Nat) (s : State) : (s.wfRow bay recno).life.unit = s.life.unit := by
  unfold State.wfRow
  split
  · simp [State.foldl_unit (f := fun t x => State.pushAct x t) (fun _ _ => rfl)]
  · rfl
@[simp] theorem State.exportDone_unit (job : Nat) (s : State) : (s.exportDone job).life.unit = s.life.unit := by
  unfold State.exportDone
  split <;> rfl

/-! The host port (R418 to R431) -/

@[simp] theorem State.hpiRow_unit (f : Hpi → Hpi) (s : State) : (s.hpiRow f).life.unit = s.life.unit := by simp [State.hpiRow]
@[simp] theorem State.snapCtrlWrite_unit (v : BitVec 32) (s : State) : (s.snapCtrlWrite v).life.unit = s.life.unit := by
  simp [State.snapCtrlWrite]
@[simp] theorem State.pinCtrlWrite_unit (v : BitVec 32) (cycle : Nat) (s : State) : (s.pinCtrlWrite v cycle).life.unit = s.life.unit := by
  simp [State.pinCtrlWrite]
@[simp] theorem State.hostWrite_unit (addr : Nat) (v : BitVec 32) (be : BitVec 4) (s : State) :
    (s.hostWrite addr v be).life.unit = s.life.unit := by simp [State.hostWrite]

/-! Sessions and keys (R435, R512) -/

@[simp] theorem State.openSession_unit (r : Req) (keyId : Nat) (hnonce : BitVec 256) (s : State) :
    UnitKept s.life.unit (s.openSession r keyId hnonce) := by simp [State.openSession]
@[simp] theorem State.authSession_unit (r : Req) (sig : BitVec 768) (s : State) : UnitKept s.life.unit (s.authSession r sig) := by
  unfold State.authSession
  split <;> simp
@[simp] theorem State.enrol_unit (key : BitVec 776) (priv : BitVec 9) (s : State) : UnitKept s.life.unit (s.enrol key priv) := by
  have hopen := State.openJob_unit { opcode := opKeyEnrol, key := key, priv := priv } (s := s) rfl
  unfold State.enrol
  split
  · simp
  · split
    · simp
    · next a ha => simp [hopen a ha]
@[simp] theorem State.enrolButton_unit (s : State) : s.enrolButton.life.unit = s.life.unit := by
  unfold State.enrolButton
  split <;> rfl
@[simp] theorem State.leaveAns_unit (cause : Nat) (s : State) : UnitKept s.life.unit (s.leaveAns cause) := by simp [State.leaveAns]

/-! Blocks, Hoods, update packages and jobs (R304 to R316, R442, R492 to R503) -/

@[simp] theorem State.endPlain_unit (no final : Nat) (s : State) : (s.endPlain no final).life.unit = s.life.unit := rfl
@[simp] theorem State.blockChecked_unit (s : State) : s.blockChecked.life.unit = s.life.unit := by
  unfold State.blockChecked
  split <;> rfl
@[simp] theorem State.activateGo_unit (slot ntick : Nat) (s : State) : UnitKept s.life.unit (s.activateGo slot ntick) := by
  unfold State.activateGo
  (repeat' split) <;> simp
@[simp] theorem State.prepared_unit (job partner : Nat) (s : State) : (s.prepared job partner).life.unit = s.life.unit := by
  unfold State.prepared
  split <;> simp
@[simp] theorem State.activationDue_unit (s : State) : s.activationDue.life.unit = s.life.unit := by
  unfold State.activationDue
  split <;> simp
@[simp] theorem State.hoodLoadGo_unit (s : State) : UnitKept s.life.unit s.hoodLoadGo := by simp [State.hoodLoadGo]
@[simp] theorem State.hoodLoaded_unit (partner : Nat) (s : State) : (s.hoodLoaded partner).life.unit = s.life.unit := by
  unfold State.hoodLoaded
  (repeat' split) <;> simp
@[simp] theorem State.hoodSwapGo_unit (cmd : CmdSpec) (r : Req) (ntick : Nat) (s : State) :
    UnitKept s.life.unit (s.hoodSwapGo cmd r ntick) := by
  unfold State.hoodSwapGo
  split <;> simp
@[simp] theorem State.hoodCancelGo_unit (c : CmdSpec) (r : Req) (ntick : Nat) (s : State) :
    UnitKept s.life.unit (s.hoodCancelGo c r ntick) := by
  unfold State.hoodCancelGo
  split <;> simp
@[simp] theorem State.stageDone_unit (j : Job) (s : State) : (s.stageDone j).life.unit = s.life.unit := by
  unfold State.stageDone
  split <;> simp
@[simp] theorem State.dropJob_unit (j : Job) (s : State) : (s.dropJob j).life.unit = s.life.unit := by simp [State.dropJob]
@[simp] theorem State.jobEnd_unit (job final result : Nat) (s : State) : (s.jobEnd job final result).life.unit = s.life.unit := by
  unfold State.jobEnd
  split <;> simp

/-! Breaker slots and station schemes (R230 to R250) -/

@[simp] theorem State.slotRow_unit (slot : Nat) (f : SlotIn → SlotState → Option (SlotState × List Told)) (s : State) :
    (s.slotRow slot f).life.unit = s.life.unit := by
  unfold State.slotRow
  (repeat' split) <;> simp
@[simp] theorem State.slotWhen_unit (slot : Nat) (c : SlotIn → SlotState → Bool) (f : SlotIn → SlotState → SlotState) (s : State) :
    (s.slotWhen slot c f).life.unit = s.life.unit := by simp [State.slotWhen]
@[simp] theorem State.seqWhen_unit (slot : Nat) (c : SlotIn → SlotState → Bool) (f : SlotIn → SlotState → SlotState) (s : State) :
    (s.seqWhen slot c f).life.unit = s.life.unit := by simp [State.seqWhen]
@[simp] theorem State.bfTripRow_unit (slot : Nat) (s : State) : (s.bfTripRow slot).life.unit = s.life.unit := by
  unfold State.bfTripRow
  split <;> simp
@[simp] theorem State.shedRow_unit (i : Nat) (first : Bool) (s : State) : (s.shedRow i first).life.unit = s.life.unit := by
  unfold State.shedRow
  dsimp only
  (repeat' split) <;> simp

/-! Faults, supply, update boot, tamper and erase (R39, R44, R504, R513 to R515, R525) -/

@[simp] theorem State.updateFailed_unit (fail : Nat) (p : Package) (s : State) : (s.updateFailed fail p).life.unit = s.life.unit := rfl
@[simp] theorem State.updateBooted_unit (p : Package) (hash : List Byte) (s : State) :
    (s.updateBooted p hash).life.unit = s.life.unit := rfl
@[simp] theorem State.updateBoot_unit (x : BootTry) (s : State) : (s.updateBoot x).life.unit = s.life.unit := by
  unfold State.updateBoot
  (repeat' split) <;> simp
@[simp] theorem State.eccUncorrectable_unit (mem : EccMem) (s : State) : (s.eccUncorrectable mem).life.unit = s.life.unit := by
  unfold State.eccUncorrectable
  split <;> simp
@[simp] theorem State.supplyFailure_unit (s : State) : s.supplyFailure.life.unit = s.life.unit := by simp [State.supplyFailure]
@[simp] theorem State.tamperGo_unit (s : State) : s.tamperGo.life.unit = s.life.unit := by simp [State.tamperGo]
@[simp] theorem State.factoryErase_unit (s : State) : s.factoryErase.life.unit = s.life.unit := rfl
@[simp] theorem State.firmwareConfirm_unit (s : State) : s.firmwareConfirm.life.unit = s.life.unit := by simp [State.firmwareConfirm]
@[simp] theorem State.sfpChange_unit (cage : Nat) (m : Sfp) (s : State) : (s.sfpChange cage m).life.unit = s.life.unit := by
  simp [State.sfpChange]

/-! Hat, witness, mirror, copy and Felt link (R378 to R412) -/

@[simp] theorem State.hatRow_unit (f : Hat → Hat) (s : State) : (s.hatRow f).life.unit = s.life.unit := by simp [State.hatRow]
@[simp] theorem State.witPin_unit (a : Nat) (s : State) : (s.witPin a).life.unit = s.life.unit := by
  obtain ⟨_, _, _, _, h⟩ := s.witPin_frame a
  rw [h]
@[simp] theorem State.revokeRow_unit (s : State) : s.revokeRow.life.unit = s.life.unit := by simp [State.revokeRow]
@[simp] theorem State.witnessFrame_unit (bytes : List Byte) (inSlot : Bool) (s : State) :
    (s.witnessFrame bytes inSlot).life.unit = s.life.unit := by simp [State.witnessFrame]
@[simp] theorem State.witness_unit (xa xb : Option (List Byte × Nat)) (s : State) : (s.witness xa xb).life.unit = s.life.unit := by
  simp [State.witness]
@[simp] theorem State.partnerFrame_unit (f : EngFrame) (s : State) : (s.partnerFrame f).life.unit = s.life.unit := rfl
@[simp] theorem State.engineFrame_unit (f : EngFrame) (start : Nat) (s : State) : (s.engineFrame f start).life.unit = s.life.unit := by
  simp [State.engineFrame]
@[simp] theorem State.hear_unit (h : FeltHdr) (s : State) : (s.hear h).life.unit = s.life.unit := rfl
@[simp] theorem State.felt_unit (h : FeltHdr) {f : State → State} (s : State) (hf : ∀ t, (f t).life.unit = t.life.unit) :
    (s.felt h f).life.unit = s.life.unit := by
  obtain ⟨-, e⟩ | ⟨-, -, -, e⟩ | ⟨-, -, e⟩ := s.felt_cases h f <;> simp [e, hf]
@[simp] theorem State.partnerAct_unit (a : Action) (t : State) : (t.partnerAct a).life.unit = t.life.unit := by simp [State.partnerAct]
@[simp] theorem State.mirrorItem_unit (ltc : Nat) (item : MirrorItem) (t : State) : (t.mirrorItem ltc item).life.unit = t.life.unit := by
  unfold State.mirrorItem
  (repeat' split) <;> simp
@[simp] theorem State.bridgeRow_unit (s : State) : s.bridgeRow.life.unit = s.life.unit := by simp [State.bridgeRow]
@[simp] theorem State.digestRow_unit (ltc : Nat) (d : BitVec 128) (s : State) : (s.digestRow ltc d).life.unit = s.life.unit := by
  simp [State.digestRow]
@[simp] theorem State.inStepRow_unit (s : State) : s.inStepRow.life.unit = s.life.unit := by simp [State.inStepRow]
@[simp] theorem State.chunkDone_unit (chunk : Nat) (items : List CopyItem) (t : State) :
    (t.chunkDone chunk items).life.unit = t.life.unit := by simp [State.chunkDone]
@[simp] theorem State.chunkRow_unit (epoch chunk : Nat) (delta : Bool) (items : List CopyItem) (t : State) :
    (t.chunkRow epoch chunk delta items).life.unit = t.life.unit := by
  unfold State.chunkRow
  (repeat' split) <;> simp
@[simp] theorem State.correct_unit (s : State) (x : CopyItem) : (s.correct x).life.unit = s.life.unit := by simp [State.correct]
@[simp] theorem State.epochRow_unit (epoch : Nat) (digest : BitVec 128) (t : State) :
    (t.epochRow epoch digest).life.unit = t.life.unit := by simp [State.epochRow]
@[simp] theorem State.linkUpRow_unit (part : BitVec 32) (role : Nat) (fwVer : BitVec 32) (blockId hoodId : BitVec 128) (s : State) :
    (s.linkUpRow part role fwVer blockId hoodId).life.unit = s.life.unit := by simp [State.linkUpRow]
@[simp] theorem State.blockTakeGo_unit (b : Block) (hoods : List Hood) (s : State) : (s.blockTakeGo b hoods).life.unit = s.life.unit := by
  simp [State.blockTakeGo]
@[simp] theorem State.blockTake_unit (b : Block) (hoods : List Hood) (s : State) : (s.blockTake b hoods).life.unit = s.life.unit := by
  simp [State.blockTake]
@[simp] theorem State.pinForwarded_unit (id : TickId) (offset : Nat) (s : State) : (s.pinForwarded id offset).life.unit = s.life.unit := by
  simp [State.pinForwarded]
@[simp] theorem State.forwarded_unit (x : Forwarded) (t : State) : (t.forwarded x).life.unit = t.life.unit := by
  unfold State.forwarded
  split <;> simp

/-! Controls (R241 to R244) -/

@[simp] theorem State.control_unit (c : CmdSpec) (r : Req) (ntick slot : Nat) (a : Act) (s : State) :
    UnitKept s.life.unit (s.control c r ntick slot a) := by simp [State.control]

/-! Protection elements (R172 to R218) -/

@[simp] theorem State.elemRow_unit (i : Nat) (due : ElEnv → ElNext → ElemState → FluSlot → Bool)
    (take : ElEnv → ElNext → ElemState → ElemState) (takeF : ElNext → FluSlot → FluSlot) (s : State) :
    (s.elemRow i due take takeF).life.unit = s.life.unit := by
  unfold State.elemRow
  (repeat' split) <;> simp
@[simp] theorem State.elemOnly_unit (i : Nat) (types : List Nat) (due : ElEnv → ElemState → ElemState → Bool)
    (take : ElEnv → ElemState → ElemState → ElemState) (s : State) : (s.elemOnly i types due take).life.unit = s.life.unit := by
  simp [State.elemOnly]

/-! The two recorders (R276, R482) -/

@[simp] theorem State.clearGo_unit (r : Req) (s : State) : UnitKept s.life.unit (s.clearGo r) := by simp [State.clearGo]
@[simp] theorem State.clearDue_unit (s : State) : s.clearDue.life.unit = s.life.unit := by
  unfold State.clearDue
  split <;> simp
@[simp] theorem State.exportGo_unit (recno options : Nat) (s : State) : UnitKept s.life.unit (s.exportGo recno options) := by
  unfold State.exportGo
  split <;> simp

/-! Station protocols (R452 to R471) -/

@[simp] theorem State.readPts_unit (proto conn code : Nat) (l : List Nat) (s : State) :
    (s.readPts proto conn code l).life.unit = s.life.unit := by simp [State.readPts]
@[simp] theorem State.answerRead_unit (m : StMsg) (s : State) : (s.answerRead m).life.unit = s.life.unit := by simp [State.answerRead]
@[simp] theorem State.stationGo_unit (proto conn : Nat) (a : StationAct) (origin : BitVec 128) (test : Option Bool) (ack : Bool)
    (s : State) : (s.stationGo proto conn a origin test ack).life.unit = s.life.unit := by simp [State.stationGo]
@[simp] theorem State.stationAll_unit (proto conn : Nat) (l : List StationAct) (origin : BitVec 128) (s : State) :
    (s.stationAll proto conn l origin).life.unit = s.life.unit := by
  unfold State.stationAll
  split <;> simp
@[simp] theorem State.drain_unit (n : Nat) (s : State) : (s.drain n).life.unit = s.life.unit := by simp [State.drain]
@[simp] theorem State.tlsOpen_unit (assoc suite group : Nat) (certOk : Bool) (serial : Nat) (p : TlsPeer) (resumed : Bool) (s : State) :
    (s.tlsOpen assoc suite group certOk serial p resumed).life.unit = s.life.unit := by simp [State.tlsOpen]
@[simp] theorem State.tlsUpdate_unit (assoc : Nat) (s : State) : (s.tlsUpdate assoc).life.unit = s.life.unit := by simp [State.tlsUpdate]
@[simp] theorem State.encapsulated_unit (assoc opcode tag session : Nat) (s : State) :
    (s.encapsulated assoc opcode tag session).life.unit = s.life.unit := by
  unfold State.encapsulated
  split <;> simp
@[simp] theorem State.modRcb_unit (i : Nat) (f : Rcb → Rcb) (s : State) : (s.modRcb i f).life.unit = s.life.unit := rfl
@[simp] theorem State.rcbGo_unit (i : Nat) (more : List (List (Nat × Point))) (s : State) : (s.rcbGo i more).life.unit = s.life.unit := by
  simp [State.rcbGo]
@[simp] theorem State.enableReport_unit (assoc i : Nat) (on : Bool) (dataset : List Nat) (buffered : Bool) (o : RcbOpts) (s : State) :
    (s.enableReport assoc i on dataset buffered o).life.unit = s.life.unit := by simp [State.enableReport]
@[simp] theorem State.reportAll_unit (i : Nat) (s : State) : (s.reportAll i).life.unit = s.life.unit := by simp [State.reportAll]
@[simp] theorem State.integrityRow_unit (i : Nat) (s : State) : (s.integrityRow i).life.unit = s.life.unit := by simp [State.integrityRow]
@[simp] theorem State.mmsDelete_unit (assoc recno : Nat) (privE : Bool) (s : State) :
    (s.mmsDelete assoc recno privE).life.unit = s.life.unit := by simp [State.mmsDelete]
@[simp] theorem State.heardTls_unit (assoc : Nat) (s : State) : (s.heardTls assoc).life.unit = s.life.unit := rfl
@[simp] theorem State.mms_unit (assoc : Nat) (q : MmsReq) (s0 : State) : (s0.mms assoc q).life.unit = s0.life.unit := by
  unfold State.mms
  dsimp only
  (repeat' split) <;> simp
@[simp] theorem State.heard104_unit (i : Nat) (s : State) : (s.heard104 i).life.unit = s.life.unit := by simp [State.heard104]
@[simp] theorem State.heardU_unit (i : Nat) (f : Conn104 → Conn104) (s : State) : (s.heardU i f).life.unit = s.life.unit := rfl
@[simp] theorem State.start104_unit (i : Nat) (s : State) : (s.start104 i).life.unit = s.life.unit := rfl
@[simp] theorem State.asdu104_unit (i : Nat) (q : Iec104Req) (s : State) : (s.asdu104 i q).life.unit = s.life.unit := by
  unfold State.asdu104
  split <;> simp
@[simp] theorem State.iec104_unit (i : Nat) (q : Iec104Req) (s : State) : (s.iec104 i q).life.unit = s.life.unit := by
  unfold State.iec104
  (repeat' split) <;> simp
@[simp] theorem State.timer104_unit (i timer : Nat) (s : State) : (s.timer104 i timer).life.unit = s.life.unit := by simp [State.timer104]
@[simp] theorem State.modDnp_unit (i : Nat) (f : Dnp3 → Dnp3) (s : State) : (s.modDnp i f).life.unit = s.life.unit := rfl
@[simp] theorem State.dnpPoll_unit (i cls : Nat) (s : State) : (s.dnpPoll i cls).life.unit = s.life.unit := by simp [State.dnpPoll]
@[simp] theorem State.dnpRead_unit (i var : Nat) (l : List Nat) (s : State) : (s.dnpRead i var l).life.unit = s.life.unit := by
  simp [State.dnpRead]
@[simp] theorem State.crob_unit (i slot : Nat) (op : Crob) (src : Nat) (sel ack : Bool) (s : State) :
    (s.crob i slot op src sel ack).life.unit = s.life.unit := by
  unfold State.crob
  split <;> simp
@[simp] theorem State.dnp3_unit (i : Nat) (q : Dnp3Req) (s : State) : (s.dnp3 i q).life.unit = s.life.unit := by
  unfold State.dnp3
  (repeat' split) <;> simp
@[simp] theorem State.modbusRead_unit (i fc : Nat) (l : List Nat) (s : State) : (s.modbusRead i fc l).life.unit = s.life.unit := by
  simp [State.modbusRead]
@[simp] theorem State.modbus_unit (i : Nat) (q : ModbusReq) (s : State) : (s.modbus i q).life.unit = s.life.unit := by
  unfold State.modbus
  (repeat' split) <;> simp
@[simp] theorem State.modbusFrom_unit (p : ModbusPeer) (q : ModbusReq) (s : State) : (s.modbusFrom p q).life.unit = s.life.unit := by
  unfold State.modbusFrom
  split <;> simp
@[simp] theorem State.iec103_unit (port : Nat) (q : Iec103Req) (s : State) : (s.iec103 port q).life.unit = s.life.unit := by
  unfold State.iec103
  (repeat' split) <;> simp
@[simp] theorem State.c37Frame_unit (n kind : Nat) (s : State) : (s.c37Frame n kind).life.unit = s.life.unit := by simp [State.c37Frame]
@[simp] theorem State.c37_unit (n : Nat) (q : C37Cmd) (s : State) : (s.c37 n q).life.unit = s.life.unit := by
  unfold State.c37
  (repeat' split) <;> simp
@[simp] theorem State.retransmit_unit (n : Nat) (s : State) : (s.retransmit n).life.unit = s.life.unit := by
  unfold State.retransmit
  split <;> simp

/-! Logic tasks (R282 to R298) -/

@[simp] theorem State.logicRow_unit (f : Block → Logic → Logic × List EvRec) (s : State) : (s.logicRow f).life.unit = s.life.unit := by
  unfold State.logicRow
  split <;> rfl
@[simp] theorem State.taskDone_unit (t : Nat) (s : State) : (s.taskDone t).life.unit = s.life.unit := by
  unfold State.taskDone
  split <;> simp
@[simp] theorem State.bluRow_unit (u : Nat) (f : CycleEnv → Work → Work) (s : State) : (s.bluRow u f).life.unit = s.life.unit := by
  unfold State.bluRow
  split <;> rfl

/-! Time and pair commands (R368, R403) -/

@[simp] theorem State.stepGo_unit (r : Req) (ntick mode : Nat) (want : Int) (s : State) :
    UnitKept s.life.unit (s.stepGo r ntick mode want) := by simp [State.stepGo]
@[simp] theorem State.handoverGo_unit (ntick : Nat) (partnerWit : Bool) (s : State) :
    UnitKept s.life.unit (s.handoverGo ntick partnerWit) := by simp [State.handoverGo]

/-! The time-sync unit (R350 to R370) -/

@[simp] theorem State.tsuRow_unit (f : TimeCfg → Nat → Tsu → Tsu × List EvRec) (s : State) :
    (s.tsuRow f).life.unit = s.life.unit := rfl
@[simp] theorem State.stepRow_unit (f : TimeCfg → Nat → Tsu → Tsu × List EvRec) (s : State) :
    (s.stepRow f).life.unit = s.life.unit := by
  simp [State.stepRow]

end Sys2Proof.Machine
end

section
/-! SUPPORT. O9: the dispatch leaves the unit but for the start, and the start takes it from the strap (R10, R41, R523). -/

namespace Sys2Proof.Machine

/-! ### The dispatch -/

/-- Every command but POWER_UP leaves the unit: each is one of the operations above, or writes other fields only. -/
theorem exec_unit {c : Instr} {s t : State} (hc : ∀ strap sec ok self mv x, c ≠ .powerUp strap sec ok self mv x)
    (h : exec c s = .next t) : t.life.unit = s.life.unit := by
  cases c
  case powerUp => exact (hc _ _ _ _ _ _ rfl).elim
  case partnerEngineFrameReceive bytes start =>
    cases h
    cases s.partnerEngFrame bytes start <;> simp
  case sessionClose | sessionInfo | jobStatus | jobCancel | blockChunk | hoodChunk | updChunk | drcFile | drcDelete =>
    cases h
    refine State.command_unit _ _ _ fun t => ?_
    split <;> simp
  all_goals
    cases h
    simp

/-! ### The start (R41) -/

/-- The start from the Block store on changes the role and the Block's health, and nothing else of the life states. -/
theorem State.startBlock_life (s : State) : ∃ n ok, s.startBlock.life = { s.life with role := n, blockOk := ok } := by
  unfold State.startBlock
  split
  · exact ⟨_, _, rfl⟩
  · split
    · exact (State.takeRole_life _).imp fun n h => ⟨true, h⟩
    · exact ⟨_, _, rfl⟩

/-- After a power-off the engine does not run. -/
theorem State.powerOff_booted (s : State) : s.powerOff.life.booted = false := by
  unfold State.powerOff
  split
  · rfl
  · simp_all

/-- A power-off keeps a staged package (R501). -/
@[simp] theorem State.powerOff_stage (s : State) : s.powerOff.upd.stage = s.upd.stage := by
  unfold State.powerOff
  split <;> rfl

@[simp] theorem State.powerOff_pkg (s : State) : s.powerOff.upd.pkg = s.upd.pkg := by
  unfold State.powerOff
  split <;> rfl

/-- An update boot that no power loss cuts is over, well or ill (R504, R505): no boot is pending after it. -/
theorem State.updateBoot_done {x : BootTry} {s : State} (hoff : s.life.booted = false)
    (hx : x.cut = false ∨ s.upd.stage ≠ 3 ∨ s.upd.pkg = none) :
    ¬ ((s.updateBoot x).upd.stage = 3 ∧ (s.updateBoot x).upd.pkg.isSome = true) := by
  unfold State.updateBoot
  split
  · next hnone => simp [hnone]
  · next p hp =>
    split
    · next hidle => simp_all
    · next hpend =>
      have hcut : x.cut = false := by simp_all
      simp only [hcut, Bool.false_eq_true, if_false]
      split <;> simp [State.updateBooted, State.updateFailed]

/-- A start reads the strap (R10, R41). -/
theorem State.powerUp_strap (strap : BitVec 2) (sec mv : Nat) (ok self : Bool) {x : BootTry} {s : State}
    (hx : x.cut = false ∨ s.upd.stage ≠ 3 ∨ s.upd.pkg = none) :
    (s.powerUp strap sec ok self mv x).life.unit = boolNat (strap.getLsbD 0) ∧
    (s.powerUp strap sec ok self mv x).life.strapBad = !strap.getLsbD 1 := by
  have hdone := State.updateBoot_done (x := x) s.powerOff_booted (by simpa using hx)
  obtain ⟨n, b, hlife⟩ := (((s.powerOff.updateBoot x).startUp strap sec ok self mv).startRecords).startBlock_life
  simp only [State.powerUp, Bool.and_eq_true, decide_eq_true_eq, hdone, if_false, hlife]
  exact ⟨rfl, rfl⟩

/-- Settles O9: a start takes unit and strap from its operand, and the dispatch has no other command that changes the unit. -/
theorem unitIdReadOnce : Obligations.UnitIdReadOnce := by
  unfold Obligations.UnitIdReadOnce
  exact ⟨fun s strap sec mv ok self x hx => ⟨_, rfl, s.powerUp_strap strap sec mv ok self hx⟩, fun c s t hc h => exec_unit hc h⟩

end Sys2Proof.Machine
end

section
/-! SUPPORT. O4, O7 and O8: what the operations on one part of the state keep: the signal space its form, the outputs their darkness,
the event recorder its last sequence number. -/

namespace Sys2Proof

/-! ### The signal space -/

/-- A fold whose steps keep the form keeps the form. -/
theorem foldl_ptsWf {α β : Type} (pts : β → List (Nat × Point)) {f : β → α → β}
    (hf : ∀ b x, ptsWf (pts b) = true → ptsWf (pts (f b x)) = true) (l : List α) {b : β} (h : ptsWf (pts b) = true) :
    ptsWf (pts (l.foldl f b)) = true := by
  induction l generalizing b with
  | nil => exact h
  | cons x l ih => exact ih (hf b x h)

theorem forceSet_wf {g : Sig} (h : ptsWf g.pts = true) (id : TickId) (ltc i : Nat) (q : BitVec 16) (v : BitVec 64) (n : Nat) :
    ptsWf (forceSet id ltc i q v n g).pts = true := by
  unfold forceSet
  dsimp only
  split <;> exact Sig.store_wf h _ _

theorem forceRelease_wf (i : Nat) {g : Sig} (h : ptsWf g.pts = true) : ptsWf (forceRelease i g).pts = true := by
  unfold forceRelease
  split
  · exact Sig.store_wf h _ _
  · exact h

theorem forceReleaseAll_wf (i : Nat) {g : Sig} (h : ptsWf g.pts = true) : ptsWf (forceReleaseAll i g).pts = true :=
  foldl_ptsWf Sig.pts (fun _ i => forceRelease_wf i) _ h

theorem NewMap.remap_wf (n : NewMap) (keep : MapPoint → Bool) {g : Sig} (h : ptsWf g.pts = true) : ptsWf (n.remap keep g).pts = true :=
  foldl_ptsWf (fun l => l) (fun _ _ h => wrPt_wf h _ _) _ <| foldl_ptsWf (fun l => l) (fun _ _ h => wrPt_wf h _ _) _ <|
    foldl_ptsWf (fun l => l) (fun _ _ h => wrPt_wf h _ _) _ <|
      foldl_ptsWf Sig.pts (f := fun s (f : ForceEntry) => forceRelease f.point s) (fun _ f => forceRelease_wf f.point) _ h

theorem sigActivate_wf (old : Option Block) (b : Block) (id : TickId) {g : Sig} (h : ptsWf g.pts = true) :
    ptsWf (sigActivate old b id g).pts = true :=
  Sig.writes_wf id _ (NewMap.remap_wf _ _ h)

theorem hoodSwapGo_wf (b : Block) (h : Hood) (lg : Logic) {g : Sig} (hg : ptsWf g.pts = true) : ptsWf (hoodSwapGo b h lg g).sg.pts = true :=
  NewMap.remap_wf _ _ hg

theorem elemsPhase_wf (b : Block) (id : TickId) (pres : List (List (F32 × BitVec 16))) {g : Sig} (els : List ElemState) (flus : List FluSlot)
    (h : ptsWf g.pts = true) : ptsWf (elemsPhase b id pres g els flus).1.pts = true :=
  Sig.writes_wf id _ h

/-! ### Field outputs -/

/-- Every switch is off. -/
def OutsOff (l : List OutState) : Prop := ∀ o ∈ l, o.sw = false

theorem outsOff_map {f : OutState → OutState} (hf : ∀ o, o.sw = false → (f o).sw = false) {l : List OutState} (h : OutsOff l) :
    OutsOff (l.map f) := by
  intro o ho
  obtain ⟨x, hx, rfl⟩ := List.mem_map.mp ho
  exact hf x (h x hx)

theorem mem_mapI {α β : Type} {f : Nat → α → β} {l : List α} {y : β} (h : y ∈ mapI f l) : ∃ i, ∃ x ∈ l, y = f i x := by
  obtain ⟨⟨x, i⟩, hx, rfl⟩ := List.mem_map.mp h
  exact ⟨i, x, (List.mem_zipIdx' hx).2 ▸ List.getElem_mem _, rfl⟩

theorem outsOff_mapI {f : Nat → OutState → OutState} (hf : ∀ i o, o.sw = false → (f i o).sw = false) {l : List OutState}
    (h : OutsOff l) : OutsOff (mapI f l) := by
  intro o ho
  obtain ⟨i, x, hx, rfl⟩ := mem_mapI ho
  exact hf i x (h x hx)

theorem outsOff_modify {f : OutState → OutState} (hf : ∀ o, o.sw = false → (f o).sw = false) {l : List OutState} (i : Nat)
    (h : OutsOff l) : OutsOff (l.modify i f) := by
  intro o ho
  obtain ⟨n, hn, rfl⟩ := List.mem_iff_getElem.mp ho
  rw [List.getElem_modify]
  rw [List.length_modify] at hn
  split
  · exact hf _ (h _ (List.getElem_mem hn))
  · exact h _ (List.getElem_mem hn)

theorem outShutdown_off (retry : Bool) (n : Nat) {o : OutState} (h : o.sw = false) : (outShutdown retry n o).sw = false := by
  simp [outShutdown, h]

@[simp] theorem outCountReset_sw (o : OutState) : (outCountReset o).sw = o.sw := by
  unfold outCountReset
  split <;> rfl

@[simp] theorem outFaultReset_sw (o : OutState) : (outFaultReset o).sw = o.sw := by
  unfold outFaultReset
  split <;> rfl

/-- A commit without output enable leaves its switch off (R335). -/
theorem outCommit_off (v : Bool) (n : Nat) (o : OutState) : (outCommit false v n o).sw = false := by simp [outCommit]

theorem setEnable_en (v : Bool) (f : Fio) : (setEnable v f).en = v := by
  cases v <;> cases h : f.en <;> simp [setEnable, enableRise, enableClear, h]

/-- Output enable that is set or cleared leaves the switches off where it is clear. -/
theorem setEnable_off {v : Bool} {f : Fio} (h : f.en = false → OutsOff f.outs) : (setEnable v f).en = false → OutsOff (setEnable v f).outs := by
  intro he
  cases (setEnable_en v f).symm.trans he
  cases hf : f.en with
  | false => simpa [setEnable, hf] using h hf
  | true =>
    intro o ho
    simp only [setEnable, hf, enableClear, if_true, Bool.false_eq_true, if_false, List.mem_map] at ho
    obtain ⟨_, _, rfl⟩ := ho
    rfl

theorem fioControl_off (i : Nat) (v : BitVec 64) {f : Fio} (h : OutsOff f.outs) : OutsOff (fioControl i v f).outs := by
  unfold fioControl
  split
  · exact h
  · split
    · refine outsOff_mapI (f := fun k o => if k / 16 = i - 0x611D8 && v.getLsbD (k % 16) then outFaultReset o else o) (fun k o ho => ?_) h
      split
      · simpa using ho
      · exact ho
    · exact h

@[simp] theorem fioControl_en (i : Nat) (v : BitVec 64) (f : Fio) : (fioControl i v f).en = f.en := by
  unfold fioControl
  (repeat' split) <;> rfl

@[simp] theorem fioPhaseA_en (b : Block) (now : Nat) (l : List Nat) (f : Fio) : (fioPhaseA b now l f).1.en = f.en := rfl

@[simp] theorem fioPhaseA_outs (b : Block) (now : Nat) (l : List Nat) (f : Fio) : (fioPhaseA b now l f).1.outs = f.outs := rfl

theorem grpOff_off (g : Nat) {l : List OutState} (h : OutsOff l) : OutsOff (grpOff g l) := by
  refine outsOff_mapI (fun i o ho => ?_) h
  split
  · rfl
  · exact ho

theorem fioReadback_off (b : Block) (x : TickIn) (p : Bool) (n : Nat) {f : Fio} (h : OutsOff f.outs) :
    OutsOff (fioReadback b x p n f).outs := by
  unfold fioReadback
  dsimp only
  refine outsOff_mapI ?_ (outsOff_mapI ?_ h)
  · exact fun i o ho => ho
  · intro i o ho
    split
    · exact outShutdown_off _ _ ho
    · exact ho

theorem fioCommit_off (b : Block) (g : Sig) (n : Nat) {f : Fio} (he : f.en = false) : OutsOff (fioCommit b g n f).outs := by
  intro o ho
  simp only [fioCommit, he] at ho
  obtain ⟨i, x, -, rfl⟩ := mem_mapI ho
  exact outCommit_off _ _ _

@[simp] theorem fioNoCommit_en (b : Block) (f : Fio) : (fioNoCommit b f).en = f.en := by
  unfold fioNoCommit
  split <;> rfl

theorem fioNoCommit_off (b : Block) {f : Fio} (he : f.en = false) (h : OutsOff f.outs) : OutsOff (fioNoCommit b f).outs := by
  simp only [fioNoCommit, he, Bool.not_false, if_true]
  exact outsOff_map (f := outHeld) (fun _ ho => ho) h

/-! ### The Hat: the role noted at a grant is kept or dropped -/

@[simp] theorem hatRevokeGo_was (h : Hat) : (hatRevokeGo h).was = h.was := by
  unfold hatRevokeGo
  split <;> rfl

@[simp] theorem hatGrantGo_was (may loop : Bool) (h : Hat) : (hatGrantGo may loop h).was = h.was := by
  unfold hatGrantGo
  (repeat' split) <;> rfl

@[simp] theorem loneLatchGo_was (fit loop : Bool) (h : Hat) : (loneLatchGo fit loop h).was = h.was := by
  unfold loneLatchGo
  (repeat' split) <;> rfl

@[simp] theorem watchdogGo_was (h : Hat) : (watchdogGo h).was = h.was := by
  unfold watchdogGo
  split <;> rfl

theorem hatRaceGo_was (b : Bool) (h : Hat) : (hatRaceGo b h).was = h.was ∨ (hatRaceGo b h).was = none := by
  unfold hatRaceGo
  (repeat' split) <;> simp

/-! ### The Hat: what leaves the latch and the loop -/

@[simp] theorem witLostGo_latch (h : Hat) : (witLostGo h).latch = h.latch := by unfold witLostGo; split <;> rfl
@[simp] theorem witLostGo_ploop (h : Hat) : (witLostGo h).ploop = h.ploop := by unfold witLostGo; split <;> rfl
@[simp] theorem witLostGo_was (h : Hat) : (witLostGo h).was = h.was := by unfold witLostGo; split <;> rfl
@[simp] theorem witLostTick_latch (h : Hat) : (witLostTick h).latch = h.latch := by unfold witLostTick; split <;> rfl
@[simp] theorem witLostTick_ploop (h : Hat) : (witLostTick h).ploop = h.ploop := by unfold witLostTick; split <;> rfl
@[simp] theorem witLostTick_was (h : Hat) : (witLostTick h).was = h.was := by unfold witLostTick; split <;> rfl

@[simp] theorem witFrameGo_latch (l : List Byte) (i b n : Bool) (r : TickId) (h : Hat) : (witFrameGo l i b n r h).latch = h.latch := by
  unfold witFrameGo; split <;> rfl
@[simp] theorem witFrameGo_ploop (l : List Byte) (i b n : Bool) (r : TickId) (h : Hat) : (witFrameGo l i b n r h).ploop = h.ploop := by
  unfold witFrameGo; split <;> rfl
@[simp] theorem witFrameGo_was (l : List Byte) (i b n : Bool) (r : TickId) (h : Hat) : (witFrameGo l i b n r h).was = h.was := by
  unfold witFrameGo; split <;> rfl

/-! ### The event recorder (R476) -/

@[simp] theorem tombPut_lastSeq (r : EvRec) (e : Evr) : (tombPut r e).lastSeq = e.lastSeq := by
  unfold tombPut
  (repeat' split) <;> rfl

@[simp] theorem evrDirWrite_lastSeq (e : Evr) : (evrDirWrite e).lastSeq = e.lastSeq := by
  unfold evrDirWrite
  (repeat' split) <;> rfl

@[simp] theorem evrStop_lastSeq (id : TickId) (ltc : Nat) (e : Evr) : (evrStop id ltc e).lastSeq = e.lastSeq := by
  unfold evrStop
  (repeat' split) <;> simp

/-- A directory copy as it is written has a valid CRC. -/
@[simp] theorem Evr.dir_ok (n : Nat) (e : Evr) : (e.dir n).ok = true := by simp [Evr.dir, EvrDir.ok, EvrDir.bytes]

@[simp] theorem Evr.dir_n (n : Nat) (e : Evr) : (e.dir n).n = n := rfl

@[simp] theorem Evr.dir_lastSeq (n : Nat) (e : Evr) : (e.dir n).lastSeq = e.lastSeq := rfl

/-- After a write of the directory its newest valid copy says what the last sequence number is (R472). -/
theorem evrDirWrite_dirNow_lastSeq (e : Evr) : (evrDirWrite e).dirNow.lastSeq = e.lastSeq := by
  unfold evrDirWrite
  split
  case isTrue hfirst =>
    split
    · next hsame =>
      simp only [Evr.dirNow, hfirst, if_true]
      rw [hsame, Evr.dir_lastSeq]
    · simp [Evr.dirNow, Evr.dirFirst]
  case isFalse hfirst =>
    split
    · next hsame =>
      simp only [Bool.and_eq_true, decide_eq_true_eq] at hsame
      simp only [Evr.dirNow, hfirst, Bool.false_eq_true, if_false]
      rw [hsame.2, Evr.dir_lastSeq]
    · simp [Evr.dirNow, Evr.dirFirst]

/-- A reset goes on after the last number staged (R476, R485). -/
@[simp] theorem evrAfterReset_lastSeq (e : Evr) : (evrAfterReset e).lastSeq = e.lastSeq := by
  simp only [evrAfterReset, evrDirWrite_dirNow_lastSeq]

/-- A fold whose steps keep the last number keeps it. -/
theorem foldl_lastSeq {α : Type} {f : Evr → α → Evr} (hf : ∀ e x, (f e x).lastSeq = e.lastSeq) (l : List α) (e : Evr) :
    (l.foldl f e).lastSeq = e.lastSeq := by
  induction l generalizing e with
  | nil => rfl
  | cons x l ih => rw [List.foldl_cons, ih, hf]

@[simp] theorem sendRec_lastSeq (r : EvRec) (e : Evr) : (sendRec r e).lastSeq = e.lastSeq := rfl

@[simp] theorem evrDivert_lastSeq (p : Bool) (r : EvRec) (e : Evr) : (evrDivert p r e).lastSeq = e.lastSeq := by
  unfold evrDivert
  dsimp only
  (repeat' split) <;> simp

@[simp] theorem evrDivertAll_lastSeq (p : Bool) (e : Evr) : (evrDivertAll p e).lastSeq = e.lastSeq := by
  unfold evrDivertAll
  split
  · rfl
  · exact foldl_lastSeq (fun e r => evrDivert_lastSeq p r e) _ _

@[simp] theorem evrFault_lastSeq (id : TickId) (ltc : Nat) (p : Bool) (seg : Nat) (e : Evr) : (evrFault id ltc p seg e).lastSeq = e.lastSeq := by
  unfold evrFault
  dsimp only
  split <;> simp

@[simp] theorem evrBadAt_lastSeq (id : TickId) (ltc : Nat) (p : Bool) (pos : Nat) (e : Evr) : (evrBadAt id ltc p pos e).lastSeq = e.lastSeq := by
  unfold evrBadAt
  dsimp only
  (repeat' split) <;> simp

@[simp] theorem evrReadBack_lastSeq (id : TickId) (ltc : Nat) (p : Bool) (l : List Nat) (bad : Bool) (e : Evr) :
    (evrReadBack id ltc p l bad e).lastSeq = e.lastSeq := by
  have hfold := foldl_lastSeq (fun e pos => evrBadAt_lastSeq id ltc p pos e) ((e.readBack.map (·.1)).filter l.contains).reverse e
  unfold evrReadBack
  dsimp only
  rw [apply_ite Evr.lastSeq, evrFault_lastSeq, ite_self]
  exact hfold

@[simp] theorem tombCopy_lastSeq (e : Evr) : (tombCopy e).lastSeq = e.lastSeq := rfl

@[simp] theorem evrPowerUp_lastSeq (e : Evr) : (evrPowerUp e).lastSeq = e.lastSeq := by
  unfold evrPowerUp
  split <;> rfl

@[simp] theorem evrRecover_lastSeq (id : TickId) (ltc : Nat) (p : Bool) (e : Evr) : (evrRecover id ltc p e).lastSeq = e.lastSeq := by
  unfold evrRecover
  dsimp only
  (repeat' split) <;> simp

@[simp] theorem evrDrain_lastSeq (n : Nat) (e : Evr) : (evrDrain n e).lastSeq = e.lastSeq :=
  foldl_lastSeq (f := fun e r => evrWrite r e) (fun _ _ => rfl) _ _

@[simp] theorem eraseStep_lastSeq (e : Evr) : (eraseStep e).lastSeq = e.lastSeq := by
  unfold eraseStep
  split <;> rfl

@[simp] theorem evrTake_lastSeq (p : Bool) (r : EvRec) (e : Evr) : (evrTake p r e).lastSeq = r.seq := by
  unfold evrTake
  dsimp only
  split <;> simp

@[simp] theorem stageRec_seq (p : Option EvrPlan) (g : Sig) (id : TickId) (ltc seq : Nat) (prev : BitVec 128) (r : EvRec) :
    (stageRec p g id ltc seq prev r).seq = seq := rfl

/-- A record that is staged takes the next number, one that is not takes none (R476). -/
theorem evrStage_lastSeq (plans : List EvrPlan) (g : Sig) (id : TickId) (ltc : Nat) (p : Bool) (r : EvRec) (e : Evr) :
    e.lastSeq ≤ (evrStage plans g id ltc p r e).1.lastSeq := by
  unfold evrStage
  dsimp only
  (repeat' split) <;> simp

@[simp] theorem evrClearGo_lastSeq (plans : List EvrPlan) (g : Sig) (key : Nat) (fp : BitVec 128) (id : TickId) (ltc : Nat) (e : Evr) :
    (evrClearGo plans g key fp id ltc e).lastSeq = e.lastSeq + 1 := rfl

/-- Staging a list of records lowers no number. -/
theorem evrStage_foldl_lastSeq (plans : List EvrPlan) (g : Sig) (id : TickId) (ltc : Nat) (p : Bool) (l : List EvRec) (a : Evr × Bool) :
    a.1.lastSeq ≤ (l.foldl (fun a r => let (e, b) := evrStage plans g id ltc p r a.1; (e, a.2 || b)) a).1.lastSeq := by
  induction l generalizing a with
  | nil => exact Nat.le_refl _
  | cons r l ih => exact Nat.le_trans (evrStage_lastSeq plans g id ltc p r a.1) (ih (_, a.2 || (evrStage plans g id ltc p r a.1).2))

/-- Writing, erasing and the directory take no number. -/
theorem evrFinish_lastSeq (n : Nat) (f : Option Nat) (e : Evr) :
    (evrDirWrite (eraseStep { evrDrain n e with failTicks := f })).lastSeq = e.lastSeq := by simp

/-- Phase F of the recorder lowers no number (R478 to R483): the clear takes one, and the records staged after it one each. -/
theorem evrRun_lastSeq (plans : List EvrPlan) (g : Sig) (id : TickId) (ltc : Nat) (p : Bool) (l : List Nat) (bad : Bool) (e : Evr) :
    e.lastSeq ≤ (evrRun plans g id ltc p l bad e).1.lastSeq := by
  unfold evrRun
  generalize hu : evrDivertAll p (evrReadBack id ltc p l bad e) = u
  have he : e.lastSeq = u.lastSeq := by simp [← hu]
  rw [he]
  dsimp only
  refine Nat.le_trans ?_ (Nat.le_of_eq (evrFinish_lastSeq _ _ _).symm)
  refine Nat.le_trans ?_ (evrStage_foldl_lastSeq plans g id ltc p _ _)
  refine Nat.le_trans ?_ (evrStage_foldl_lastSeq plans g id ltc p _ _)
  refine Nat.le_trans ?_ (evrStage_foldl_lastSeq plans g id ltc p _ _)
  dsimp only
  (repeat' split) <;> simp

theorem evrPhaseF_lastSeq (plans : List EvrPlan) (g : Sig) (id : TickId) (ltc : Nat) (p : Bool) (l : List Nat) (bad : Bool) (e : Evr) :
    e.lastSeq ≤ (evrPhaseF plans g id ltc p l bad e).1.lastSeq := by
  unfold evrPhaseF
  split
  · exact Nat.le_refl _
  · exact evrRun_lastSeq ..

end Sys2Proof

namespace Sys2Proof.Machine

@[simp] theorem keepCause_lastSeq (id : TickId) (ltc : Nat) (e : Evr) : (keepCause id ltc e).lastSeq = e.lastSeq :=
  foldl_lastSeq (fun e r => tombPut_lastSeq r e) _ _

end Sys2Proof.Machine
end

section
/-! SUPPORT. O4 to O8: the invariants of the tier 3 statements, cut into claims about the few fields that they speak of, and what a
step has to leave or keep of these fields. -/

namespace Sys2Proof.Machine

/-- The fields of the state that the invariants of O4 to O8 speak of. -/
structure Guarded where
  pts      : List (Nat × Point)
  ram      : List (Nat × Byte)
  doorbell : BitVec 16
  done     : BitVec 16
  role     : Nat
  was      : Option Nat
  latch    : Bool
  ploop    : Bool
  en       : Bool
  outs     : List OutState
  lastSeq  : Nat

/-- The guarded fields of a state. -/
def State.guarded (s : State) : Guarded where
  pts      := s.sig.pts
  ram      := s.hpi.ram
  doorbell := s.hpi.doorbell
  done     := s.hpi.done
  role     := s.life.role
  was      := s.hat.was
  latch    := s.hat.latch
  ploop    := s.hat.ploop
  en       := s.fio.en
  outs     := s.fio.outs
  lastSeq  := s.evr.lastSeq

/-- What O4 to O8 claim. O7 is cut in two, since a change of the Hat breaks only the first half until output enable follows (R377):
`lit` says when output enable is set, `dark` what is off without it. -/
inductive Claim where
  | memory | mailbox | role | lit | dark
  | seq (n : Nat)

/-- A claim holds of the guarded fields. -/
def Claim.Holds : Claim → Guarded → Prop
  | .memory,  g => ramWf g.ram = true ∧ ptsWf g.pts = true
  | .mailbox, g => g.doorbell &&& g.done = 0
  | .role,    g => g.role ≤ 6 ∧ ∀ r, g.was = some r → r ≤ 6
  | .lit,     g => g.en = true → (g.latch && !g.ploop) = true
  | .dark,    g => g.en = false → ∀ o ∈ g.outs, o.sw = false
  | .seq n,   g => n ≤ g.lastSeq

/-! ### The fields of an updated state -/

@[simp] theorem State.guarded_mk (a : List Instr) (g : Sig) (l : Life) (c d e f h i j k m n) (fio : Fio) (o : Drc) (evr : Evr) (hat : Hat)
    (p q) (hpi : Hpi) (r t u v w x y z aa bb cc) :
    (State.mk a g l c d e f h i j k m n fio o evr hat p q hpi r t u v w x y z aa bb cc).guarded =
      ⟨g.pts, hpi.ram, hpi.doorbell, hpi.done, l.role, hat.was, hat.latch, hat.ploop, fio.en, fio.outs, evr.lastSeq⟩ := rfl

/-- Fields that are all those of one state are its guarded fields. -/
@[simp] theorem State.mk_guarded (s : State) :
    Guarded.mk s.sig.pts s.hpi.ram s.hpi.doorbell s.hpi.done s.life.role s.hat.was s.hat.latch s.hat.ploop s.fio.en s.fio.outs s.evr.lastSeq =
      s.guarded := rfl

@[simp] theorem State.ite_guarded (c : Prop) [Decidable c] (s t : State) :
    (if c then s else t).guarded = if c then s.guarded else t.guarded :=
  apply_ite State.guarded c s t

@[simp] theorem Claim.holds_ite (k : Claim) (c : Prop) [Decidable c] (a b : Guarded) :
    k.Holds (if c then a else b) ↔ (c → k.Holds a) ∧ (¬ c → k.Holds b) := by
  split <;> simp [*]

/-- What every step of a fold leaves, the fold leaves. -/
@[simp] theorem State.foldl_guarded {α : Type} {f : State → α → State} (hf : ∀ s x, (f s x).guarded = s.guarded) (l : List α)
    (s : State) : (l.foldl f s).guarded = s.guarded := by
  induction l generalizing s with
  | nil => rfl
  | cons x l ih => rw [List.foldl_cons, ih, hf]

/-- What every step of a fold keeps, the fold keeps. -/
@[simp] theorem State.foldl_holds {α : Type} {k : Claim} {f : State → α → State}
    (hf : ∀ s x, k.Holds s.guarded → k.Holds (f s x).guarded) (l : List α) {s : State} (h : k.Holds s.guarded) :
    k.Holds (l.foldl f s).guarded := by
  induction l generalizing s with
  | nil => exact h
  | cons x l ih => exact ih (hf s x h)

/-! ### Changing one field -/

/-- A write to the signal space keeps its form (O4). -/
@[simp] theorem Claim.holds_writes {k : Claim} {s : State} (h : k.Holds s.guarded) (id : TickId) (ws : List PtWrite) :
    k.Holds ⟨(s.sig.writes id ws).pts, s.hpi.ram, s.hpi.doorbell, s.hpi.done, s.life.role, s.hat.was, s.hat.latch, s.hat.ploop, s.fio.en,
      s.fio.outs, s.evr.lastSeq⟩ := by
  cases k
  case memory => exact ⟨h.1, Sig.writes_wf id ws h.2⟩
  all_goals exact h

/-- A claim that holds of a state holds where the signal space, still in its form, is the only guarded field to change. -/
theorem Claim.Holds.pts {k : Claim} {g : Guarded} (h : k.Holds g) {l : List (Nat × Point)} (hl : ptsWf g.pts = true → ptsWf l = true) :
    k.Holds { g with pts := l } := by
  cases k
  case memory => exact ⟨h.1, hl h.2⟩
  all_goals exact h

/-- The same of the mailbox RAM. -/
theorem Claim.Holds.ram {k : Claim} {g : Guarded} (h : k.Holds g) {l : List (Nat × Byte)} (hl : ramWf g.ram = true → ramWf l = true) :
    k.Holds { g with ram := l } := by
  cases k
  case memory => exact ⟨hl h.1, h.2⟩
  all_goals exact h

/-- The same of the mailboxes' bits. -/
theorem Claim.Holds.bits {k : Claim} {g : Guarded} (h : k.Holds g) {b d : BitVec 16} (hbd : g.doorbell &&& g.done = 0 → b &&& d = 0) :
    k.Holds { g with doorbell := b, done := d } := by
  cases k
  case mailbox => exact hbd h
  all_goals exact h

/-- The same of the role. -/
theorem Claim.Holds.role {k : Claim} {g : Guarded} (h : k.Holds g) {n : Nat} (hn : g.role ≤ 6 → (∀ r, g.was = some r → r ≤ 6) → n ≤ 6) :
    k.Holds { g with role := n } := by
  cases k
  case role => exact ⟨hn h.1 h.2, h.2⟩
  all_goals exact h

/-- The same of the role noted at a grant. -/
theorem Claim.Holds.was {k : Claim} {g : Guarded} (h : k.Holds g) {w : Option Nat}
    (hw : g.role ≤ 6 → (∀ r, g.was = some r → r ≤ 6) → ∀ r, w = some r → r ≤ 6) : k.Holds { g with was := w } := by
  cases k
  case role => exact ⟨h.1, hw h.1 h.2⟩
  all_goals exact h

/-- The same of the outputs, where output enable stays. -/
theorem Claim.Holds.outs {k : Claim} {g : Guarded} (h : k.Holds g) {l : List OutState}
    (hl : g.en = false → (∀ o ∈ g.outs, o.sw = false) → ∀ o ∈ l, o.sw = false) : k.Holds { g with outs := l } := by
  cases k
  case dark => exact fun he => hl he (h he)
  all_goals exact h

/-- The same of the sequence number, which does not fall. -/
theorem Claim.Holds.lastSeq {k : Claim} {g : Guarded} (h : k.Holds g) {n : Nat} (hn : g.lastSeq ≤ n) : k.Holds { g with lastSeq := n } := by
  cases k
  case seq => exact Nat.le_trans h hn
  all_goals exact h

/-- The same of the latch and the loop, for every claim that does not read them. -/
theorem Claim.Holds.hat {k : Claim} {g : Guarded} (h : k.Holds g) (hk : k ≠ .lit) (latch ploop : Bool) :
    k.Holds { g with latch := latch, ploop := ploop } := by
  cases k
  case lit => exact absurd rfl hk
  all_goals exact h

/-- A bit that is set in one word and cleared in the other is in neither overlap. -/
theorem bits_taken (b d m : BitVec 16) (h : b &&& d = 0) : (b ||| m) &&& (d &&& ~~~m) = 0 := by
  ext i hi
  have hb := congrArg (·[i]) h
  simp only [BitVec.getElem_and, BitVec.getElem_or, BitVec.getElem_not, BitVec.ofNat_eq_ofNat, BitVec.getElem_zero] at hb ⊢
  revert hb
  cases b[i] <;> cases d[i] <;> simp

/-- See `bits_taken`, with the words exchanged. -/
theorem bits_answered (b d m : BitVec 16) (h : b &&& d = 0) : (b &&& ~~~m) &&& (d ||| m) = 0 := by
  rw [BitVec.and_comm]
  exact bits_taken d b m (BitVec.and_comm .. ▸ h)

/-! ### The shared updates -/

@[simp] theorem State.localEvent_guarded (r : EvRec) (s : State) : (s.localEvent r).guarded = s.guarded := rfl
@[simp] theorem State.tickEvents_guarded (l : List EvRec) (s : State) : (s.tickEvents l).guarded = s.guarded := rfl
@[simp] theorem State.emit_guarded (l : List Emit) (s : State) : (s.emit l).guarded = s.guarded := rfl
@[simp] theorem State.sendFelt_guarded (l : List FeltFrame) (s : State) : (s.sendFelt l).guarded = s.guarded := rfl
@[simp] theorem State.used_guarded (s : State) : s.used.guarded = s.guarded := rfl
@[simp] theorem State.closeSessions_guarded (f : Session → Bool) (s : State) : (s.closeSessions f).guarded = s.guarded := rfl
@[simp] theorem State.modSession_guarded (x : Session) (f : Session → Session) (s : State) : (s.modSession x f).guarded = s.guarded := rfl
@[simp] theorem State.leave_guarded (cause : Nat) (s : State) : (s.leave cause).guarded = s.guarded := rfl
@[simp] theorem State.markTag_guarded (c : CmdSpec) (r : Req) (s : State) : (s.markTag c r).guarded = s.guarded := by
  unfold State.markTag
  split <;> rfl
@[simp] theorem State.toPartner_guarded (l : List FeltFrame) (s : State) : (s.toPartner l).guarded = s.guarded := rfl
@[simp] theorem State.pushAct_guarded (x : Action) (s : State) : (s.pushAct x).guarded = s.guarded := rfl

@[simp] theorem State.write_holds {k : Claim} (ws : List PtWrite) {s : State} (h : k.Holds s.guarded) : k.Holds (s.write ws).guarded :=
  h.pts (Sig.writes_wf _ ws)

@[simp] theorem State.setRole_lastSeq (n : Nat) (s : State) : (s.setRole n).evr.lastSeq = s.evr.lastSeq := by
  obtain ⟨-, h⟩ | ⟨-, h⟩ := s.setRole_cases n <;> rw [h]
@[simp] theorem State.setRole_holds {k : Claim} {n : Nat} (hn : n ≤ 6) {s : State} (h : k.Holds s.guarded) : k.Holds (s.setRole n).guarded := by
  obtain ⟨-, e⟩ | ⟨-, e⟩ := s.setRole_cases n <;> rw [e]
  · exact h
  · exact h.role fun _ _ => hn
/-- See `setRole_holds`, for a role that only the claim about the role has to know legal. -/
theorem State.setRole_holds_of {k : Claim} {n : Nat} (hn : k = .role → n ≤ 6) {s : State} (h : k.Holds s.guarded) :
    k.Holds (s.setRole n).guarded := by
  obtain ⟨-, e⟩ | ⟨-, e⟩ := s.setRole_cases n <;> rw [e]
  · exact h
  · cases k
    case role => exact ⟨hn rfl, h.2⟩
    all_goals exact h
/-- A claim that holds of a state holds where one of the roles of R40 is the only guarded field to change. -/
@[simp] theorem Claim.holds_newRole {k : Claim} {n : Nat} (hn : n ≤ 6) {s : State} (h : k.Holds s.guarded) :
    k.Holds ⟨s.sig.pts, s.hpi.ram, s.hpi.doorbell, s.hpi.done, n, s.hat.was, s.hat.latch, s.hat.ploop, s.fio.en, s.fio.outs, s.evr.lastSeq⟩ :=
  h.role fun _ _ => hn

@[simp] theorem State.touch_holds {k : Claim} (c : CmdSpec) (r : Req) {s : State} (h : k.Holds s.guarded) : k.Holds (s.touch c r).guarded := by
  unfold State.touch
  cases r.carrier with
  | host i => exact h.ram (ramPutAll_wf _ _)
  | net a => exact h

@[simp] theorem State.own_holds {k : Claim} (c : Carrier) {s : State} (h : k.Holds s.guarded) : k.Holds (s.own c).guarded := by
  cases c with
  | host i => exact h.bits (bits_taken _ _ _)
  | net a => exact h

@[simp] theorem State.respond_holds {k : Claim} (dst : Reply) (x : Resp) {s : State} (h : k.Holds s.guarded) :
    k.Holds (s.respond dst x).guarded := by
  cases dst with
  | host i => exact (h.ram (ramPutAll_wf _ _)).bits (bits_answered _ _ _)
  | _ => exact h

@[simp] theorem State.refuse_holds {k : Claim} (c : CmdSpec) (r : Req) (st : Nat) (b : Bool) {s : State} (h : k.Holds s.guarded) :
    k.Holds (s.refuse c r st b).guarded :=
  State.respond_holds _ _ h

/-! ### The answers of commands -/

/-- The work of a mailbox command answers no state (it refuses), or one of which the claim holds (R438). -/
def AnsHolds (k : Claim) (x : Except Nat Ans) : Prop := ∀ a, x = .ok a → k.Holds a.s.guarded

@[simp] theorem ansHolds_error (k : Claim) (e : Nat) : AnsHolds k (.error e) := by simp [AnsHolds]

@[simp] theorem ansHolds_ok (k : Claim) (a : Ans) : AnsHolds k (.ok a) ↔ k.Holds a.s.guarded := by simp [AnsHolds]

@[simp] theorem ansHolds_ite (k : Claim) (c : Prop) [Decidable c] (x y : Except Nat Ans) :
    AnsHolds k (if c then x else y) ↔ (c → AnsHolds k x) ∧ (¬ c → AnsHolds k y) := by
  split <;> simp [*]

@[simp] theorem State.ansHolds_ok (k : Claim) (l : List Byte) (s : State) : AnsHolds k (s.ok l) ↔ k.Holds s.guarded :=
  Machine.ansHolds_ok k _

@[simp] theorem State.command_holds {k : Claim} (c : CmdSpec) (r : Req) {go : State → Except Nat Ans} {s : State}
    (hgo : ∀ t, k.Holds t.guarded → AnsHolds k (go t)) (h : k.Holds s.guarded) : k.Holds (s.command c r go).guarded := by
  have ht := State.touch_holds c r h
  obtain ⟨-, e⟩ | ⟨-, ⟨-, e⟩ | ⟨-, ⟨n, -, e⟩ | ⟨a, ha, ⟨-, e⟩ | ⟨-, e⟩⟩⟩⟩ := s.command_cases c r go <;> rw [e]
  · exact h
  · exact State.refuse_holds _ _ _ _ ht
  · exact State.refuse_holds _ _ _ _ ht
  · exact State.own_holds _ ((State.markTag_guarded c r a.s).symm ▸ hgo _ ht a ha)
  · exact State.respond_holds _ _ ((State.markTag_guarded c r a.s).symm ▸ hgo _ ht a ha)



/-! Activation (R498, R499) -/

@[simp] theorem State.activate_holds {k : Claim} (b : Block) {s : State} (h : k.Holds s.guarded) : k.Holds (s.activate b).guarded := by
  have hw := h.pts (sigActivate_wf s.blk b s.tsu.id)
  unfold State.activate
  rw [State.guarded_mk]
  exact hw

/-! Roles, resets, fall-back, messages and the command skeleton (R43, R44, R432 to R442, R508) -/

@[simp] theorem State.takeRole_holds {k : Claim} {s : State} (h : k.Holds s.guarded) : k.Holds s.takeRole.guarded := by
  obtain e | e | e | e | e := s.takeRole_cases <;> simp [e, h]
/-- A reset leaves both memories empty, role 0 and every output off, and the sequence number as it was (R43, R485). -/
@[simp] theorem State.resetEngine_holds {k : Claim} (cause : Nat) {s : State} (h : k.Holds s.guarded) :
    k.Holds (s.resetEngine cause).guarded := by
  unfold State.resetEngine
  rw [State.guarded_mk, evrAfterReset_lastSeq, evrStop_lastSeq]
  cases k with
  | memory => exact ⟨rfl, rfl⟩
  | mailbox => exact BitVec.and_self
  | role => exact ⟨Nat.zero_le _, fun _ h => nomatch h⟩
  | lit => exact fun h => nomatch h
  | dark => exact fun _ o ho => by rw [List.eq_of_mem_replicate ho]
  | seq n => exact h
@[simp] theorem State.fallBack_holds {k : Claim} {s : State} (h : k.Holds s.guarded) : k.Holds s.fallBack.guarded := by
  unfold State.fallBack
  exact State.resetEngine_holds _ (by simpa using h)
@[simp] theorem State.firmwareFallback_holds {k : Claim} (s : State)
    (h : k.Holds s.guarded) : k.Holds s.firmwareFallback.guarded := by simp [h, State.firmwareFallback]
@[simp] theorem State.fallDue_holds {k : Claim} {s : State} (h : k.Holds s.guarded) : k.Holds s.fallDue.guarded := by
  obtain ⟨-, -, -, -, e⟩ | ⟨-, e⟩ := s.fallDue_cases <;> simp [e, h]
/-- Output enable that follows the Hat is set only with the latch and without the partner's loop (R377). -/
theorem State.enableStep_lit (s : State) : Claim.lit.Holds s.enableStep.guarded :=
  fun he => (setEnable_en _ _).symm.trans he

theorem State.enableLower_lit (s : State) : Claim.lit.Holds s.enableLower.guarded := by
  intro he
  cases hon : s.hat.enable with
  | true => exact hon
  | false => exact absurd (show (setEnable false s.fio).en = true by simpa [State.enableLower, hon] using he) (by simp [setEnable_en])

/-- After a change of the Hat every claim but `lit` need be known before output enable follows. -/
theorem State.enableStep_holds_of_ne {k : Claim} {s : State} (h : k ≠ .lit → k.Holds s.guarded) : k.Holds s.enableStep.guarded := by
  cases k
  case lit => exact s.enableStep_lit
  case dark => exact setEnable_off (h (by simp))
  all_goals exact h (by simp)

theorem State.enableLower_holds_of_ne {k : Claim} {s : State} (h : k ≠ .lit → k.Holds s.guarded) : k.Holds s.enableLower.guarded := by
  cases k
  case lit => exact s.enableLower_lit
  case dark =>
    have hs := h (by simp)
    unfold State.enableLower
    split
    · exact hs
    · exact setEnable_off hs
  all_goals exact h (by simp)

@[simp] theorem State.enableStep_holds {k : Claim} {s : State} (h : k.Holds s.guarded) : k.Holds s.enableStep.guarded :=
  State.enableStep_holds_of_ne fun _ => h
@[simp] theorem State.enableLower_holds {k : Claim} {s : State} (h : k.Holds s.guarded) : k.Holds s.enableLower.guarded :=
  State.enableLower_holds_of_ne fun _ => h
@[simp] theorem State.undoGrant_holds {k : Claim} {s : State} (h : k.Holds s.guarded) : k.Holds s.undoGrant.guarded := by
  unfold State.undoGrant
  split
  · exact h
  · next r hr => exact State.enableStep_holds_of_ne fun hk => ((h.hat hk false _).role fun _ hw => hw r hr).was fun _ _ _ e => nomatch e
@[simp] theorem State.unhealthy_holds {k : Claim} (cause : Nat) {s : State} (h : k.Holds s.guarded) : k.Holds (s.unhealthy cause).guarded := by
  unfold State.unhealthy
  split
  · exact h
  · exact State.undoGrant_holds h
@[simp] theorem State.resetHealth_holds {k : Claim} {s : State} (h : k.Holds s.guarded) : k.Holds s.resetHealth.guarded := by
  unfold State.resetHealth
  exact State.resetEngine_holds _ (by simpa using h)
@[simp] theorem State.resetIfDue_holds {k : Claim} {s : State} (h : k.Holds s.guarded) : k.Holds s.resetIfDue.guarded := by
  obtain ⟨-, e⟩ | ⟨-, e⟩ := s.resetIfDue_cases <;> simp [e, h]

@[simp] theorem State.actAt_holds {k : Claim} (c : CmdSpec) (r : Req) (ntick : Nat) (a : Act) {s : State} (h : k.Holds s.guarded) :
    AnsHolds k (s.actAt c r ntick a) := by
  simp [State.actAt, h]
@[simp] theorem State.openJob_holds {k : Claim} (j : Job) {s : State} (h : k.Holds s.guarded) : AnsHolds k (s.openJob j) := by
  unfold State.openJob
  split
  · exact ansHolds_error _ _
  · exact (Machine.ansHolds_ok _ _).mpr h
@[simp] theorem State.endJob_guarded (no state final : Nat) (result : BitVec 64) (s : State) :
    (s.endJob no state final result).guarded = s.guarded := rfl
@[simp] theorem State.dropJobs_guarded (s : State) : s.dropJobs.guarded = s.guarded := rfl
@[simp] theorem State.enrolTimeout_guarded (s : State) : s.enrolTimeout.guarded = s.guarded := by
  unfold State.enrolTimeout
  split <;> simp
@[simp] theorem State.discardIdle_guarded (kind : Nat) (s : State) : (s.discardIdle kind).guarded = s.guarded := by
  unfold State.discardIdle
  split <;> simp

/-! Messages of the station protocols (R455, R458, R464) -/

@[simp] theorem State.modConn_guarded (i : Nat) (f : Conn104 → Conn104) (s : State) : (s.modConn i f).guarded = s.guarded := rfl
@[simp] theorem State.modAssoc_guarded (id : Nat) (f : Assoc → Assoc) (s : State) : (s.modAssoc id f).guarded = s.guarded := rfl
@[simp] theorem State.say_guarded (m : StMsg) (s : State) : (s.say m).guarded = s.guarded := by simp [State.say]
@[simp] theorem State.sayAll_guarded (l : List StMsg) (s : State) : (s.sayAll l).guarded = s.guarded := by simp [State.sayAll]
@[simp] theorem State.flush104_guarded (i : Nat) (s : State) : (s.flush104 i).guarded = s.guarded := by simp [State.flush104]
@[simp] theorem State.tlsClose_guarded (assoc : Nat) (s : State) : (s.tlsClose assoc).guarded = s.guarded := by simp [State.tlsClose]
@[simp] theorem State.dropPairAddr_guarded (s : State) : s.dropPairAddr.guarded = s.guarded := by simp [State.dropPairAddr]

/-! Operator actions in their named tick (R27, R322) -/

@[simp] theorem State.prepare_guarded (x : Action) (s : State) : (s.prepare x).guarded = s.guarded := by
  unfold State.prepare
  split <;> rfl
@[simp] theorem State.swapHood_holds {k : Claim} {s : State} (h : k.Holds s.guarded) : k.Holds s.swapHood.guarded := by
  unfold State.swapHood
  split
  · split
    · exact h
    · exact h.pts (hoodSwapGo_wf _ _ s.logic)
  · exact h
@[simp] theorem State.answer_holds {k : Claim} (x : Action) (st : Nat) (l : List Byte) {s : State} (h : k.Holds s.guarded) :
    k.Holds (s.answer x st l).guarded :=
  State.respond_holds _ _ h
@[simp] theorem State.cancelHood_holds {k : Claim} {s : State} (h : k.Holds s.guarded) : k.Holds s.cancelHood.guarded :=
  State.foldl_holds (fun _ x => State.answer_holds x _ _) _ h
@[simp] theorem State.applyActivation_holds {k : Claim} {s : State} (h : k.Holds s.guarded) : k.Holds s.applyActivation.guarded := by
  unfold State.applyActivation
  split
  · exact h
  · next a _ =>
    extract_lets s1 _ _ s2
    have h1 : k.Holds s1.guarded := State.activate_holds a.blk h
    have h2 : k.Holds s2.guarded := by
      clear_value s1
      exact h1
    exact State.takeRole_holds (by simp [h2])
@[simp] theorem State.writePoint_holds {k : Claim} (i : Nat) (v : BitVec 64) {s : State} (h : k.Holds s.guarded) :
    k.Holds (s.writePoint i v).guarded := by
  have hsig := h.pts fun hw => Sig.write_wf hw s.tsu.id { idx := i, value := v }
  have hout := hsig.outs (l := (fioControl i v s.fio).outs) fun _ => fioControl_off i v
  unfold State.writePoint
  rw [State.guarded_mk, fioControl_en]
  exact hout
@[simp] theorem State.request_guarded (slot : Nat) (q : CtlReq) (s : State) : (s.request slot q).guarded = s.guarded := rfl
@[simp] theorem State.applyAct_holds {k : Claim} (x : Action) {s : State} (h : k.Holds s.guarded) : k.Holds (s.applyAct x).guarded := by
  unfold State.applyAct
  split
  case h_3 p _ => exact h.pts (forceReleaseAll_wf p)
  case h_4 p q v _ =>
    split
    · exact h.pts fun hw => forceSet_wf hw _ _ _ _ _ _
    · exact h
  all_goals simp [h]
@[simp] theorem State.applyActs_holds {k : Claim} {s : State} (h : k.Holds s.guarded) : k.Holds s.applyActs.guarded :=
  State.foldl_holds (fun _ x => State.applyAct_holds x) _ h
@[simp] theorem State.answerAct_holds {k : Claim} (x : Action) (n : Nat) (s : State)
    (h : k.Holds s.guarded) : k.Holds (s.answerAct x n).guarded := by
  unfold State.answerAct
  (repeat' split) <;> simp [h]
@[simp] theorem State.answerActs_holds {k : Claim} {s : State} (h : k.Holds s.guarded) : k.Holds s.answerActs.guarded :=
  State.foldl_holds (s := { s with done := [] }) (fun _ _ => State.answerAct_holds _ _ _) _ h
@[simp] theorem State.selectorStep_holds {k : Claim} {s : State} (h : k.Holds s.guarded) : k.Holds s.selectorStep.guarded := by
  unfold State.selectorStep
  dsimp only
  repeat' split
  case isFalse.isTrue => exact State.write_holds _ h
  all_goals exact h

/-! What phase F publishes (R452, R462) -/

@[simp] theorem State.queueTick_guarded (s : State) : s.queueTick.guarded = s.guarded := rfl
@[simp] theorem State.publish_guarded (s : State) : s.publish.guarded = s.guarded := rfl

/-! Pins and snapshot banks (R446 to R451) -/

@[simp] theorem State.pinBack_guarded (src : BitVec 6) (cycle : Nat) (deferred : Bool) (back : Nat) (s : State) :
    (s.pinBack src cycle deferred back).guarded = s.guarded := by
  unfold State.pinBack
  dsimp only
  (repeat' split) <;> rfl
@[simp] theorem State.pin_holds {k : Claim} (src : BitVec 6) (cycle : Nat) (deferred : Bool) (s : State)
    (h : k.Holds s.guarded) : k.Holds (s.pin src cycle deferred).guarded := by simp [h, State.pin]
@[simp] theorem State.takeSnap_guarded (s : State) : s.takeSnap.guarded = s.guarded := rfl
@[simp] theorem State.fillBanks_guarded (s : State) : s.fillBanks.guarded = s.guarded := by simp [State.fillBanks]
@[simp] theorem State.releaseBank_guarded (i : Nat) (s : State) : (s.releaseBank i).guarded = s.guarded := rfl

/-! The tick, from its start to phase F (R48 to R54) -/

@[simp] theorem State.sendFrame_guarded (start : Nat) (f : EngFrame) (id : TickId) (s : State) :
    (s.sendFrame start f id).guarded = s.guarded := rfl
@[simp] theorem State.sealTime_guarded (old : Tsu) (s : State) : (s.sealTime old).guarded = s.guarded := rfl
@[simp] theorem State.sendEvent_guarded (port instant : Nat) (f : Nat → Emit) (s : State) :
    (s.sendEvent port instant f).guarded = s.guarded := by simp [State.sendEvent]
@[simp] theorem State.stepShift_guarded (clk : Nat) (s : State) : (s.stepShift clk).guarded = s.guarded := by simp [State.stepShift]
@[simp] theorem State.advance_guarded (s : State) : s.advance.guarded = s.guarded := by simp [State.advance]
@[simp] theorem State.w1Start_guarded (start : Nat) (s : State) : (s.w1Start start).guarded = s.guarded := by simp [State.w1Start]
@[simp] theorem State.w1Send_guarded (absent : Bool) (old : State) (s0 : State) : (State.w1Send absent old s0).guarded = s0.guarded := by
  unfold State.w1Send
  dsimp only
  (repeat' split) <;> simp
@[simp] theorem State.handoverTick_guarded (s : State) : s.handoverTick.guarded = s.guarded := by
  unfold State.handoverTick
  split <;> simp
@[simp] theorem State.latchNote_holds {k : Claim} (old : Hat) {s : State} (h : k.Holds s.guarded) : k.Holds (s.latchNote old).guarded := by
  unfold State.latchNote
  split
  · exact h.was fun hr _ _ e => Option.some.inj e ▸ hr
  · exact h
@[simp] theorem State.latchRole_holds {k : Claim} (s : State)
    (h : k.Holds s.guarded) : k.Holds s.latchRole.guarded := by simp [h, State.latchRole]
/-- Every claim but `lit` survives the change of the Hat in a race (R46). -/
theorem State.raceHat_holds {k : Claim} {s : State} (hk : k ≠ .lit) (h : k.Holds s.guarded) :
    k.Holds ({ s with hat := hatRaceGo s.unitB s.hat } : State).guarded := by
  refine (h.hat hk _ _).was fun _ hw r hr => ?_
  obtain e | e := hatRaceGo_was s.unitB s.hat
  · exact hw r (by rwa [e] at hr)
  · rw [e] at hr
    exact nomatch hr

/-- See `race_holds`: the race is followed by output enable. -/
theorem State.race_holds_of_ne {k : Claim} {s : State} (h : k ≠ .lit → k.Holds s.guarded) : k.Holds s.race.guarded := by
  refine State.enableLower_holds_of_ne fun hk => ?_
  have ht := State.raceHat_holds hk (h hk)
  split
  · next r hr =>
    split
    · exact State.setRole_holds_of (fun e => by subst e; exact (h hk).2 r hr) ht
    · exact ht
  · exact ht

@[simp] theorem State.race_holds {k : Claim} {s : State} (h : k.Holds s.guarded) : k.Holds s.race.guarded :=
  State.race_holds_of_ne fun _ => h
@[simp] theorem State.pin_guarded (src : BitVec 6) (cycle : Nat) (deferred : Bool) (s : State) :
    (s.pin src cycle deferred).guarded = s.guarded :=
  State.pinBack_guarded src cycle deferred 0 s
@[simp] theorem hatSense_was (x : TickIn) (h : Hat) : (hatSense x h).was = h.was := rfl
/-- What the Hat makes of the tick's grant and loops keeps every claim but `lit`, to which output enable sees at the end. -/
theorem State.hatSense_holds {k : Claim} {s : State} (x : TickIn) (old : Hat) {n : Hat} (hn : n.was = none) (hk : k ≠ .lit)
    (h : k.Holds s.guarded) : k.Holds ((({ s with hat := hatSense x n } : State).latchNote old).latchRole).guarded := by
  refine State.latchRole_holds _ (State.latchNote_holds old ?_)
  rw [State.guarded_mk]
  refine (h.hat hk _ _).was fun _ _ r hr => ?_
  rw [hatSense_was, hn] at hr
  exact nomatch hr

@[simp] theorem State.hatTick_holds {k : Claim} (x : TickIn) {s : State} (h : k.Holds s.guarded) : k.Holds (s.hatTick x).guarded := by
  unfold State.hatTick
  extract_lets s1 s2 _ h0 h1 h2 s3 s4
  have hs2 : k.Holds s2.guarded := by simp [s2, s1, h]
  have hwas : h2.was = none := by
    unfold h2
    split <;> simp [h1, h0]
  have h4 (hk : k ≠ .lit) : k.Holds s4.guarded := State.hatSense_holds x h1 hwas hk hs2
  split
  · exact State.race_holds_of_ne h4
  · exact State.enableStep_holds_of_ne h4
@[simp] theorem State.sickTick_guarded (s : State) : s.sickTick.guarded = s.guarded := rfl
@[simp] theorem State.deferredPin_guarded (s : State) : s.deferredPin.guarded = s.guarded := by
  unfold State.deferredPin
  dsimp only
  rw [State.foldl_guarded fun t p => State.pin_guarded _ _ _ t]
  rfl
@[simp] theorem State.tickStart_holds {k : Claim} (x : TickIn) (s : State)
    (h : k.Holds s.guarded) : k.Holds (s.tickStart x).guarded := by simp [h, State.tickStart]
@[simp] theorem State.copyPut_holds {k : Claim} (x : CopyItem) {s : State} (h : k.Holds s.guarded) : k.Holds (s.copyPut x).guarded := by
  cases x
  case point i p =>
    simp only [State.copyPut]
    split
    · exact h
    · exact h.pts fun hw => wrPt_wf hw i p
  all_goals exact h
@[simp] theorem State.epochStart_guarded (m : Nat) (s : State) : (s.epochStart m).guarded = s.guarded := by simp [State.epochStart]
@[simp] theorem State.ltcStep_guarded (s : State) : s.ltcStep.guarded = s.guarded := by simp [State.ltcStep]
@[simp] theorem State.judge_guarded (g : Nat) (s : State) : (s.judge g).guarded = s.guarded := by
  unfold State.judge
  split <;> simp
@[simp] theorem State.calibrateTick_holds {k : Claim} {s : State} (h : k.Holds s.guarded) : k.Holds s.calibrateTick.guarded := by
  unfold State.calibrateTick
  dsimp only
  repeat' split
  case isFalse.isTrue => exact State.unhealthy_holds _ h
  all_goals exact h
@[simp] theorem State.applyMirror_holds {k : Claim} (aligned : TickId) {s : State} (h : k.Holds s.guarded) :
    k.Holds (s.applyMirror aligned).guarded :=
  h.pts (Sig.writes_wf _ _)
@[simp] theorem State.staleIfDue_holds {k : Claim} (s : State)
    (h : k.Holds s.guarded) : k.Holds s.staleIfDue.guarded := by simp [h, State.staleIfDue]
@[simp] theorem State.bridgeTick_holds {k : Claim} {s : State} (h : k.Holds s.guarded) : k.Holds s.bridgeTick.guarded := by
  unfold State.bridgeTick
  dsimp only
  split
  · exact h
  · split
    · exact State.staleIfDue_holds _ h
    · split <;> exact h
@[simp] theorem State.ownAgain_guarded (s : State) : s.ownAgain.guarded = s.guarded := by simp [State.ownAgain]
@[simp] theorem State.commitInputs_holds {k : Claim} (x : TickIn) (aligned : TickId) (b : Block) (s0 : State)
    (h : k.Holds s0.guarded) : k.Holds (s0.commitInputs x aligned b).guarded := by simp [h, State.commitInputs]
@[simp] theorem State.initEnd_guarded (s : State) : s.initEnd.guarded = s.guarded := by simp [State.initEnd]
@[simp] theorem State.tellTime_guarded (s : State) : s.tellTime.guarded = s.guarded := by simp [State.tellTime]
@[simp] theorem State.clockTick_guarded (x : TickIn) (s0 : State) : (s0.clockTick x).guarded = s0.guarded := by simp [State.clockTick]
@[simp] theorem State.seedWrite_holds {k : Claim} (old : State) {s : State} (h : k.Holds s.guarded) : k.Holds (old.seedWrite s).guarded := by
  unfold State.seedWrite
  split
  · exact h
  · exact State.foldl_holds (fun _ x => State.copyPut_holds x) _ h
@[simp] theorem State.phaseA_holds {k : Claim} (x : TickIn) (aligned : TickId) {s : State} (h : k.Holds s.guarded) :
    k.Holds (s.phaseA x aligned).guarded := by
  unfold State.phaseA
  extract_lets s1 s2
  have h2 : k.Holds s2.guarded := by simp [s2, s1, h]
  clear_value s2
  split
  · exact State.calibrateTick_holds h2
  · next b _ =>
    extract_lets s3
    have h3 : k.Holds s3.guarded := State.calibrateTick_holds (State.commitInputs_holds x aligned b _ h2)
    clear_value s3
    refine State.seedWrite_holds _ ?_
    split <;> exact h3
@[simp] theorem State.commitLogic_holds {k : Claim} (b : Block) {s : State} (h : k.Holds s.guarded) : k.Holds (s.commitLogic b).guarded :=
  h.pts (Sig.writes_wf _ _)
@[simp] theorem State.statusLogic_holds {k : Claim} {s : State} (h : k.Holds s.guarded) : k.Holds s.statusLogic.guarded :=
  h.pts (Sig.writes_wf _ _)
/-- A tick without a commit may clear the latch (R378), and output enable follows. -/
theorem State.watchdog_holds {k : Claim} {s : State} (h : k.Holds s.guarded) (n : Nat) (hk : k ≠ .lit) :
    k.Holds ({ s with hat := watchdogGo { s.hat with noCommit := n } } : State).guarded := by
  rw [State.guarded_mk, watchdogGo_was]
  exact h.hat hk _ _

@[simp] theorem State.commitOutputs_holds {k : Claim} (b : Block) {s : State} (h : k.Holds s.guarded) : k.Holds (s.commitOutputs b).guarded := by
  unfold State.commitOutputs
  split
  · exact h.outs (l := (fioCommit b s.sig s.tsu.statTick s.fio).outs) fun he _ => fioCommit_off b _ _ he
  · refine State.enableStep_holds_of_ne fun hk => ?_
    have hw := (State.watchdog_holds h (s.hat.noCommit + 1) hk).outs (l := (fioNoCommit b s.fio).outs) fun he => fioNoCommit_off b he
    rw [State.guarded_mk, fioNoCommit_en]
    exact hw
@[simp] theorem State.phaseE_holds {k : Claim} (x : TickIn) (b : Block) (old : State) {s : State} (h : k.Holds s.guarded) :
    k.Holds (old.phaseE x b s).guarded := by
  unfold State.phaseE
  extract_lets s0 s1 s2
  have h0 : k.Holds s0.guarded := by simp [s0, h]
  have h1 : k.Holds s1.guarded := by simp [s1, h0]
  have h2 : k.Holds s2.guarded := State.commitOutputs_holds b h1
  split <;> exact h2
@[simp] theorem State.slotPin_guarded (s : State) : s.slotPin.guarded = s.guarded := by
  unfold State.slotPin
  split
  · rfl
  · exact State.pin_guarded _ _ _ s
@[simp] theorem State.statusTick_holds {k : Claim} (x : TickIn) {s : State} (h : k.Holds s.guarded) : k.Holds (s.statusTick x).guarded := by
  unfold State.statusTick
  dsimp only
  cases s.blk with
  | none => exact h
  | some b =>
    have hout := h.outs (l := (fioReadback b x s.hat.ploop s.tsu.statTick s.fio).outs) fun _ => fioReadback_off b x _ _
    dsimp only
    split <;> exact hout
@[simp] theorem State.drcTick_guarded (b : Block) (s : State) : (s.drcTick b).guarded = s.guarded := rfl
@[simp] theorem State.answerClear_holds {k : Claim} (d : Option (Nat × Nat)) {s : State} (h : k.Holds s.guarded) :
    k.Holds (s.answerClear d).guarded := by
  unfold State.answerClear
  split
  · exact h
  · split
    · exact h
    · exact State.respond_holds _ _ h
@[simp] theorem State.evrTick_holds {k : Claim} (x : TickIn) {s : State} (h : k.Holds s.guarded) : k.Holds (s.evrTick x).guarded := by
  unfold State.evrTick
  extract_lets r e _ s1 s2 s3
  have hseq : s.evr.lastSeq ≤ e.lastSeq := by
    unfold e
    rw [apply_ite Evr.lastSeq, evrStop_lastSeq, ite_self]
    exact evrPhaseF_lastSeq ..
  have h1 : k.Holds s1.guarded := h.lastSeq hseq
  exact State.answerClear_holds _ (by simp [s3, s2, h1])
@[simp] theorem State.copySend_guarded (old s : State) : (State.copySend old s).guarded = s.guarded := by simp [State.copySend]
@[simp] theorem State.verifyTick_guarded (old s : State) : (State.verifyTick old s).guarded = s.guarded := by simp [State.verifyTick]
@[simp] theorem State.copyTick_guarded (old s : State) : (State.copyTick old s).guarded = s.guarded := by simp [State.copyTick]
@[simp] theorem State.stage_guarded (b : Block) (s : State) : (s.stage b).guarded = s.guarded := by
  unfold State.stage
  dsimp only
  (repeat' split) <;> simp
@[simp] theorem State.writeDirectory_guarded (s : State) : s.writeDirectory.guarded = s.guarded := rfl
@[simp] theorem State.keepHoods_guarded (u : HoodUnit) (s : State) : (s.keepHoods u).guarded = s.guarded := rfl
@[simp] theorem State.storeTick_guarded (s : State) : s.storeTick.guarded = s.guarded := by
  unfold State.storeTick
  dsimp only
  (repeat' split) <;> simp
@[simp] theorem State.rejoin_holds {k : Claim} (s : State)
    (h : k.Holds s.guarded) : k.Holds s.rejoin.guarded := by simp [h, State.rejoin]
@[simp] theorem State.pairTickEnd_holds {k : Claim} {s : State} (h : k.Holds s.guarded) : k.Holds s.pairTickEnd.guarded := by
  unfold State.pairTickEnd
  extract_lets _ s1 s2 _ s3
  have h1 : k.Holds s1.guarded := h
  clear_value s1
  have h2 : k.Holds s2.guarded := by
    unfold s2
    split
    · rw [State.guarded_mk, witLostTick_was, witLostTick_latch, witLostTick_ploop]
      exact h1
    · exact h1
  have h3 : k.Holds s3.guarded := by
    unfold s3
    split
    · exact State.setRole_holds (n := 2) (by omega) h2
    · exact h2
  clear_value s3
  exact State.takeRole_holds (by simp [h3])
@[simp] theorem State.lateStatus_holds {k : Claim} (ws : List PtWrite) {s : State} (h : k.Holds s.guarded) : k.Holds (s.lateStatus ws).guarded :=
  h.pts (Sig.writes_wf _ _)
@[simp] theorem State.takeView_guarded (s : State) : s.takeView.guarded = s.guarded := rfl
@[simp] theorem State.sessionTick_guarded (s : State) : s.sessionTick.guarded = s.guarded := by simp [State.sessionTick]
@[simp] theorem State.unknownTick_holds {k : Claim} (i : Fin 16) (s : State)
    (h : k.Holds s.guarded) : k.Holds (s.unknownTick i).guarded := by simp [h, State.unknownTick]
@[simp] theorem State.refreshTick_guarded (s : State) : s.refreshTick.guarded = s.guarded := rfl
@[simp] theorem State.pairAddrTick_guarded (s : State) : s.pairAddrTick.guarded = s.guarded := by simp [State.pairAddrTick]
@[simp] theorem State.phaseF_holds {k : Claim} (x : TickIn) (old : State) {s : State} (h : k.Holds s.guarded) :
    k.Holds (old.phaseF x s).guarded := by
  unfold State.phaseF
  extract_lets s1 s2 s3 s4
  have h1 : k.Holds s1.guarded := State.statusTick_holds x (by simpa using h)
  have h2 : k.Holds s2.guarded := by
    unfold s2
    split
    · simp [h1]
    · split <;> simp [h1]
  have h3 : k.Holds s3.guarded := by simp [s3, h2]
  have h4 : k.Holds s4.guarded := by simp [s4, h3]
  exact State.foldl_holds (fun _ i => State.unknownTick_holds i _) _ (by simp [h4])
@[simp] theorem State.phases_holds {k : Claim} (x : TickIn) (aligned : TickId) {s : State} (h : k.Holds s.guarded) :
    k.Holds (s.phases x aligned).guarded := by
  have h1 := State.phaseA_holds x aligned h
  unfold State.phases
  dsimp only
  refine State.phaseF_holds x s ?_
  split
  · exact State.phaseE_holds x _ _ h
  · refine State.statusLogic_holds (State.enableStep_holds_of_ne fun hk => State.watchdog_holds h1 _ hk)
@[simp] theorem State.windowTick_holds {k : Claim} (s : State)
    (h : k.Holds s.guarded) : k.Holds s.windowTick.guarded := by simp [h, State.windowTick]
@[simp] theorem State.tick_holds {k : Claim} (x : TickIn) {s : State} (h : k.Holds s.guarded) : k.Holds (s.tick x).guarded := by
  unfold State.tick
  dsimp only
  split
  · exact h
  · have h1 : k.Holds (s.tickStart x).guarded := State.tickStart_holds x _ h
    split
    · exact State.resetEngine_holds _ h1
    · split
      · exact State.resetIfDue_holds h1
      · exact State.windowTick_holds _ (State.phases_holds x _ h1)

/-! SUPPORT. O9: the operations of the commands that are no part of the tick leave the unit too. -/


/-! Process-bus intake, phasor groups and synchrophasor streams (R104 to R131, R155, R163) -/

@[simp] theorem State.calibrateLane_holds {k : Claim} (lane : Nat) {s : State} (h : k.Holds s.guarded) :
    k.Holds (s.calibrateLane lane).guarded := by
  unfold State.calibrateLane
  dsimp only
  repeat' split
  case isFalse.isTrue => exact State.unhealthy_holds _ h
  all_goals exact h
@[simp] theorem State.ptpTake_guarded (port stamp : Nat) (m : PtpMsg) (s : State) : (s.ptpTake port stamp m).guarded = s.guarded := by
  unfold State.ptpTake
  (repeat' split) <;> simp
@[simp] theorem State.serviceFrame_guarded (f : Frame) (s : State) : (s.serviceFrame f).guarded = s.guarded := by
  unfold State.serviceFrame
  (repeat' split) <;> simp
@[simp] theorem State.frameReceive_guarded (f0 : Frame) (s : State) : (s.frameReceive f0).guarded = s.guarded := by
  unfold State.frameReceive
  repeat' split
  · simp
  · rfl
  · dsimp only
    cases (pbiReceive s.filterBlock s.simOn (s.stamped f0) s.pbi).2 <;> simp
@[simp] theorem State.gooseDropped_guarded (gcb : Nat) (s : State) : (s.gooseDropped gcb).guarded = s.guarded := by
  unfold State.gooseDropped
  split <;> rfl
@[simp] theorem State.holdExpired_holds {k : Claim} (g : Nat) (s : State)
    (h : k.Holds s.guarded) : k.Holds (s.holdExpired g).guarded := by
  unfold State.holdExpired
  split <;> simp [h]
@[simp] theorem State.synchroSend_guarded (n : Nat) (s : State) : (s.synchroSend n).guarded = s.guarded := by
  unfold State.synchroSend
  split <;> rfl

/-! The coming tick of operator actions and Hoods (R27, R315) -/

@[simp] theorem State.atNext_guarded {f : State → State} (s : State) (hf : ∀ t, (f t).guarded = t.guarded) :
    (s.atNext f).guarded = s.guarded := by simp [State.atNext, hf]

/-! Fault locators and completed COMTRADE jobs (R266 to R276) -/

@[simp] theorem State.flLatchRow_guarded (bay : Nat) (s : State) : (s.flLatchRow bay).guarded = s.guarded := by
  unfold State.flLatchRow
  split <;> simp
@[simp] theorem State.flLocateRow_holds {k : Claim} (bay : Nat) (s : State)
    (h : k.Holds s.guarded) : k.Holds (s.flLocateRow bay).guarded := by
  unfold State.flLocateRow
  split <;> simp [h]
@[simp] theorem State.wfRow_guarded (bay recno : Nat) (s : State) : (s.wfRow bay recno).guarded = s.guarded := by
  unfold State.wfRow
  split
  · simp [State.foldl_guarded (f := fun t x => State.pushAct x t) (fun _ _ => rfl)]
  · rfl
@[simp] theorem State.exportDone_guarded (job : Nat) (s : State) : (s.exportDone job).guarded = s.guarded := by
  unfold State.exportDone
  split <;> rfl

/-! The host port (R418 to R431) -/

/-- A row of the host port keeps the claims where its change keeps the mailbox RAM and the ownership of the mailboxes. -/
theorem State.hpiRow_holds {k : Claim} {f : Hpi → Hpi} {s : State} (hram : (f s.hpi).ram = s.hpi.ram)
    (hbits : s.hpi.doorbell &&& s.hpi.done = 0 → (f s.hpi).doorbell &&& (f s.hpi).done = 0) (h : k.Holds s.guarded) :
    k.Holds (s.hpiRow f).guarded := by
  unfold State.hpiRow
  split
  · rw [State.guarded_mk, hram]
    exact h.bits hbits
  · exact h

theorem ringDoorbell_bits (v : BitVec 16) (p : Hpi) (h : p.doorbell &&& p.done = 0) :
    (ringDoorbell v p).doorbell &&& (ringDoorbell v p).done = 0 :=
  bits_taken _ _ _ h

/-- Bits of DONE that are cleared leave no mailbox owned and answered. -/
theorem bits_cleared (b d m : BitVec 16) (h : b &&& d = 0) : b &&& (d &&& m) = 0 := by
  rw [← BitVec.and_assoc, h]
  simp
@[simp] theorem State.snapCtrlWrite_guarded (v : BitVec 32) (s : State) : (s.snapCtrlWrite v).guarded = s.guarded := by
  simp [State.snapCtrlWrite]
@[simp] theorem State.pinCtrlWrite_holds {k : Claim} (v : BitVec 32) (cycle : Nat) {s : State} (h : k.Holds s.guarded) :
    k.Holds (s.pinCtrlWrite v cycle).guarded := by
  unfold State.pinCtrlWrite
  extract_lets t
  rw [State.ite_guarded, State.pin_guarded, ite_self]
  exact State.hpiRow_holds rfl id h
theorem hpiWrite_ram (a : Nat) (v : BitVec 32) (p : Hpi) : (hpiWrite a v p).ram = p.ram := by
  unfold hpiWrite
  (repeat' split) <;> rfl
theorem hpiWrite_bits (a : Nat) (v : BitVec 32) {p : Hpi} (h : p.doorbell &&& p.done = 0) :
    (hpiWrite a v p).doorbell &&& (hpiWrite a v p).done = 0 := by
  unfold hpiWrite
  split
  · exact ringDoorbell_bits _ _ h
  · split
    · exact bits_cleared _ _ _ h
    · (repeat' split) <;> exact h
@[simp] theorem State.hostWrite_holds {k : Claim} (addr : Nat) (v : BitVec 32) (be : BitVec 4) {s : State} (h : k.Holds s.guarded) :
    k.Holds (s.hostWrite addr v be).guarded := by
  have hhpi : k.Holds ({ s with hpi := hpiWrite (addr / 4 * 4) v s.hpi } : State).guarded := by
    rw [State.guarded_mk, hpiWrite_ram]
    exact h.bits (hpiWrite_bits _ v)
  have hhat : k.Holds ({ s with hat := hatClear v s.hat } : State).guarded := h
  have hram := h.ram fun hw => writeWord_wf hw (addr / 4 * 4) v be
  simp only [State.hostWrite, State.ite_guarded, Claim.holds_ite]
  exact ⟨fun _ => h, fun _ => ⟨fun _ => h, fun _ => ⟨fun _ => ⟨fun _ => h, fun _ => hram⟩, fun _ => ⟨fun _ => h, fun _ =>
    ⟨fun _ => by simpa using h, fun _ => ⟨fun _ => State.pinCtrlWrite_holds _ _ h, fun _ => ⟨fun _ => hhat, fun _ => hhpi⟩⟩⟩⟩⟩⟩⟩

/-! Sessions and keys (R435, R512) -/

@[simp] theorem State.openSession_holds {k : Claim} (r : Req) (keyId : Nat) (hnonce : BitVec 256) (s : State)
    (h : k.Holds s.guarded) : AnsHolds k (s.openSession r keyId hnonce) := by simp [h, State.openSession]
@[simp] theorem State.authSession_holds {k : Claim} (r : Req) (sig : BitVec 768) (s : State)
    (h : k.Holds s.guarded) : AnsHolds k (s.authSession r sig) := by
  unfold State.authSession
  split <;> simp [h]
@[simp] theorem State.enrol_holds {k : Claim} (key : BitVec 776) (priv : BitVec 9) {s : State} (h : k.Holds s.guarded) :
    AnsHolds k (s.enrol key priv) := by
  have hopen := State.openJob_holds { opcode := opKeyEnrol, key := key, priv := priv } h
  unfold State.enrol
  split
  · simp
  · split
    · simp
    · next a ha => simp [hopen a ha]
@[simp] theorem State.enrolButton_guarded (s : State) : s.enrolButton.guarded = s.guarded := by
  unfold State.enrolButton
  split <;> rfl
@[simp] theorem State.leaveAns_holds {k : Claim} (cause : Nat) (s : State)
    (h : k.Holds s.guarded) : AnsHolds k (s.leaveAns cause) := by simp [h, State.leaveAns]

/-! Blocks, Hoods, update packages and jobs (R304 to R316, R442, R492 to R503) -/

@[simp] theorem State.endPlain_guarded (no final : Nat) (s : State) : (s.endPlain no final).guarded = s.guarded := rfl
@[simp] theorem State.blockChecked_guarded (s : State) : s.blockChecked.guarded = s.guarded := by
  unfold State.blockChecked
  split <;> rfl
@[simp] theorem State.activateGo_holds {k : Claim} (slot ntick : Nat) {s : State} (h : k.Holds s.guarded) : AnsHolds k (s.activateGo slot ntick) := by
  unfold State.activateGo
  repeat' split
  case h_2 => exact State.openJob_holds _ h
  all_goals simp
@[simp] theorem State.prepared_guarded (job partner : Nat) (s : State) : (s.prepared job partner).guarded = s.guarded := by
  unfold State.prepared
  split <;> simp
@[simp] theorem State.activationDue_holds {k : Claim} (s : State)
    (h : k.Holds s.guarded) : k.Holds s.activationDue.guarded := by
  unfold State.activationDue
  split <;> simp [h]
@[simp] theorem State.hoodLoadGo_holds {k : Claim} {s : State} (h : k.Holds s.guarded) : AnsHolds k s.hoodLoadGo := by
  unfold State.hoodLoadGo
  split
  · simp
  · exact State.openJob_holds _ h
@[simp] theorem State.hoodLoaded_guarded (partner : Nat) (s : State) : (s.hoodLoaded partner).guarded = s.guarded := by
  unfold State.hoodLoaded
  (repeat' split) <;> simp
@[simp] theorem State.hoodSwapGo_holds {k : Claim} (cmd : CmdSpec) (r : Req) (ntick : Nat) (s : State)
    (h : k.Holds s.guarded) : AnsHolds k (s.hoodSwapGo cmd r ntick) := by
  unfold State.hoodSwapGo
  split <;> simp [h]
@[simp] theorem State.hoodCancelGo_holds {k : Claim} (c : CmdSpec) (r : Req) (ntick : Nat) (s : State)
    (h : k.Holds s.guarded) : AnsHolds k (s.hoodCancelGo c r ntick) := by
  unfold State.hoodCancelGo
  split <;> simp [h]
@[simp] theorem State.stageDone_guarded (j : Job) (s : State) : (s.stageDone j).guarded = s.guarded := by
  unfold State.stageDone
  split <;> simp
@[simp] theorem State.dropJob_guarded (j : Job) (s : State) : (s.dropJob j).guarded = s.guarded := by simp [State.dropJob]
@[simp] theorem State.jobEnd_guarded (job final result : Nat) (s : State) : (s.jobEnd job final result).guarded = s.guarded := by
  unfold State.jobEnd
  split <;> simp

/-! Breaker slots and station schemes (R230 to R250) -/

@[simp] theorem State.slotRow_holds {k : Claim} (slot : Nat) (f : SlotIn → SlotState → Option (SlotState × List Told)) (s : State)
    (h : k.Holds s.guarded) : k.Holds (s.slotRow slot f).guarded := by
  unfold State.slotRow
  (repeat' split) <;> simp [h]
@[simp] theorem State.slotWhen_holds {k : Claim} (slot : Nat) (c : SlotIn → SlotState → Bool) (f : SlotIn → SlotState → SlotState) (s : State)
    (h : k.Holds s.guarded) : k.Holds (s.slotWhen slot c f).guarded := by simp [h, State.slotWhen]
@[simp] theorem State.seqWhen_holds {k : Claim} (slot : Nat) (c : SlotIn → SlotState → Bool) (f : SlotIn → SlotState → SlotState) (s : State)
    (h : k.Holds s.guarded) : k.Holds (s.seqWhen slot c f).guarded := by simp [h, State.seqWhen]
@[simp] theorem State.bfTripRow_holds {k : Claim} (slot : Nat) {s : State} (h : k.Holds s.guarded) : k.Holds (s.bfTripRow slot).guarded := by
  unfold State.bfTripRow
  split
  · exact h
  · extract_lets y t
    have ht : k.Holds t.guarded := by simp [t, h]
    split
    · split
      · exact ht
      · exact State.foldl_holds (fun _ j => State.slotWhen_holds j _ _ _) _ ht
    · exact h
@[simp] theorem State.shedRow_holds {k : Claim} (i : Nat) (first : Bool) {s : State} (h : k.Holds s.guarded) :
    k.Holds (s.shedRow i first).guarded := by
  unfold State.shedRow
  dsimp only
  split
  · exact h
  · split
    · exact h
    · split
      · split
        · exact h
        · exact State.slotRow_holds _ _ _ h
      · exact h

/-! Faults, supply, update boot, tamper and erase (R39, R44, R504, R513 to R515, R525) -/

@[simp] theorem State.updateFailed_holds {k : Claim} (fail : Nat) (p : Package) {s : State} (h : k.Holds s.guarded) :
    k.Holds (s.updateFailed fail p).guarded := by
  simpa [State.updateFailed] using h
@[simp] theorem State.updateBooted_guarded (p : Package) (hash : List Byte) (s : State) :
    (s.updateBooted p hash).guarded = s.guarded := rfl
@[simp] theorem State.updateBoot_holds {k : Claim} (x : BootTry) (s : State)
    (h : k.Holds s.guarded) : k.Holds (s.updateBoot x).guarded := by
  unfold State.updateBoot
  (repeat' split) <;> simp [h]
@[simp] theorem State.eccUncorrectable_holds {k : Claim} (mem : EccMem) {s : State} (h : k.Holds s.guarded) :
    k.Holds (s.eccUncorrectable mem).guarded := by
  unfold State.eccUncorrectable
  split <;> simp [h]
@[simp] theorem State.supplyFailure_guarded (s : State) : s.supplyFailure.guarded = s.guarded := by simp [State.supplyFailure]
@[simp] theorem State.tamperGo_holds {k : Claim} {s : State} (h : k.Holds s.guarded) : k.Holds s.tamperGo.guarded :=
  State.unhealthy_holds causeTamper h
@[simp] theorem State.factoryErase_holds {k : Claim} {s : State} (h : k.Holds s.guarded) : k.Holds s.factoryErase.guarded := by
  unfold State.factoryErase
  exact State.resetEngine_holds 0x10005 (s := { s with sca := _ }) h
@[simp] theorem State.firmwareConfirm_guarded (s : State) : s.firmwareConfirm.guarded = s.guarded := by simp [State.firmwareConfirm]
@[simp] theorem State.sfpChange_guarded (cage : Nat) (m : Sfp) (s : State) : (s.sfpChange cage m).guarded = s.guarded := by
  simp [State.sfpChange]

/-! Hat, witness, mirror, copy and Felt link (R378 to R412) -/

/-- A row of the Hat keeps the claims where its change keeps the role noted at a grant. -/
theorem State.hatRow_holds {k : Claim} {f : Hat → Hat} (hf : ∀ n, (f n).was = n.was) {s : State} (h : k.Holds s.guarded) :
    k.Holds (s.hatRow f).guarded := by
  refine State.fallDue_holds <| State.enableLower_holds_of_ne fun hk => State.latchRole_holds _ <| State.latchNote_holds _ ?_
  rw [State.guarded_mk, hf]
  exact h.hat hk _ _
@[simp] theorem State.witPin_guarded (a : Nat) (s : State) : (s.witPin a).guarded = s.guarded := by
  unfold State.witPin
  split
  · exact State.pin_guarded _ _ _ s
  · rfl
@[simp] theorem State.revokeRow_holds {k : Claim} {s : State} (h : k.Holds s.guarded) : k.Holds s.revokeRow.guarded := by
  unfold State.revokeRow
  exact State.hatRow_holds hatRevokeGo_was (by simpa using h)
@[simp] theorem State.witnessFrame_holds {k : Claim} (bytes : List Byte) (inSlot : Bool) (s : State)
    (h : k.Holds s.guarded) : k.Holds (s.witnessFrame bytes inSlot).guarded := by simp [h, State.witnessFrame]
@[simp] theorem State.witness_guarded (xa xb : Option (List Byte × Nat)) (s : State) : (s.witness xa xb).guarded = s.guarded := by
  simp [State.witness]
@[simp] theorem State.partnerFrame_guarded (f : EngFrame) (s : State) : (s.partnerFrame f).guarded = s.guarded := rfl
@[simp] theorem State.engineFrame_guarded (f : EngFrame) (start : Nat) (s : State) : (s.engineFrame f start).guarded = s.guarded := by
  simp [State.engineFrame]
@[simp] theorem State.hear_guarded (h : FeltHdr) (s : State) : (s.hear h).guarded = s.guarded := rfl
@[simp] theorem State.felt_guarded (h : FeltHdr) {f : State → State} (s : State) (hf : ∀ t, (f t).guarded = t.guarded) :
    (s.felt h f).guarded = s.guarded := by
  obtain ⟨-, e⟩ | ⟨-, -, -, e⟩ | ⟨-, -, e⟩ := s.felt_cases h f <;> simp [e, hf]
@[simp] theorem State.partnerAct_guarded (a : Action) (t : State) : (t.partnerAct a).guarded = t.guarded := by simp [State.partnerAct]
@[simp] theorem State.mirrorItem_guarded (ltc : Nat) (item : MirrorItem) (t : State) : (t.mirrorItem ltc item).guarded = t.guarded := by
  unfold State.mirrorItem
  (repeat' split) <;> simp
@[simp] theorem State.bridgeRow_holds {k : Claim} {s : State} (h : k.Holds s.guarded) : k.Holds s.bridgeRow.guarded := by
  unfold State.bridgeRow
  split
  · exact State.staleIfDue_holds _ h
  · exact h
@[simp] theorem State.digestRow_guarded (ltc : Nat) (d : BitVec 128) (s : State) : (s.digestRow ltc d).guarded = s.guarded := by
  simp [State.digestRow]
@[simp] theorem State.inStepRow_holds {k : Claim} (s : State)
    (h : k.Holds s.guarded) : k.Holds s.inStepRow.guarded := by simp [h, State.inStepRow]
@[simp] theorem State.chunkDone_guarded (chunk : Nat) (items : List CopyItem) (t : State) :
    (t.chunkDone chunk items).guarded = t.guarded := by simp [State.chunkDone]
@[simp] theorem State.chunkRow_guarded (epoch chunk : Nat) (delta : Bool) (items : List CopyItem) (t : State) :
    (t.chunkRow epoch chunk delta items).guarded = t.guarded := by
  unfold State.chunkRow
  (repeat' split) <;> simp
@[simp] theorem State.correct_holds {k : Claim} (s : State) (x : CopyItem)
    (h : k.Holds s.guarded) : k.Holds (s.correct x).guarded := by simp [h, State.correct]
@[simp] theorem State.epochRow_holds {k : Claim} (epoch : Nat) (digest : BitVec 128) {s : State} (h : k.Holds s.guarded) :
    k.Holds (s.epochRow epoch digest).guarded := by
  unfold State.epochRow
  split
  · exact h
  · split
    · exact h
    · exact State.foldl_holds (f := State.correct) (fun _ x => State.correct_holds _ x) _ h
@[simp] theorem State.linkUpRow_holds {k : Claim} (part : BitVec 32) (role : Nat) (fwVer : BitVec 32) (blockId hoodId : BitVec 128)
    {s : State} (h : k.Holds s.guarded) : k.Holds (s.linkUpRow part role fwVer blockId hoodId).guarded := by
  unfold State.linkUpRow
  split
  · exact h
  · extract_lets t
    have ht : k.Holds t.guarded := h
    (repeat' split) <;> simp [ht]
@[simp] theorem State.blockTakeGo_holds {k : Claim} (b : Block) (hoods : List Hood) {s : State} (h : k.Holds s.guarded) :
    k.Holds (s.blockTakeGo b hoods).guarded := by
  unfold State.blockTakeGo
  split
  · exact h
  · extract_lets t _ _ _ u
    have ht : k.Holds t.guarded := State.activate_holds (hoods.foldl hoodBlock b) h
    clear_value t
    have hu : k.Holds u.guarded := ht
    clear_value u
    split <;> simp [hu]
@[simp] theorem State.blockTake_holds {k : Claim} (b : Block) (hoods : List Hood) (s : State)
    (h : k.Holds s.guarded) : k.Holds (s.blockTake b hoods).guarded := by
  simp [h, State.blockTake]
@[simp] theorem State.pinForwarded_holds {k : Claim} (id : TickId) (offset : Nat) (s : State)
    (h : k.Holds s.guarded) : k.Holds (s.pinForwarded id offset).guarded := by
  simp [h, State.pinForwarded]
@[simp] theorem State.forwarded_guarded (x : Forwarded) (t : State) : (t.forwarded x).guarded = t.guarded := by
  unfold State.forwarded
  split <;> simp

/-! Controls (R241 to R244) -/

@[simp] theorem State.control_holds {k : Claim} (c : CmdSpec) (r : Req) (ntick slot : Nat) (a : Act) (s : State)
    (h : k.Holds s.guarded) : AnsHolds k (s.control c r ntick slot a) := by simp [h, State.control]

/-! Protection elements (R172 to R218) -/

@[simp] theorem State.elemRow_holds {k : Claim} (i : Nat) (due : ElEnv → ElNext → ElemState → FluSlot → Bool)
    (take : ElEnv → ElNext → ElemState → ElemState) (takeF : ElNext → FluSlot → FluSlot) (s : State)
    (h : k.Holds s.guarded) : k.Holds (s.elemRow i due take takeF).guarded := by
  unfold State.elemRow
  (repeat' split) <;> simp [h]
@[simp] theorem State.elemOnly_holds {k : Claim} (i : Nat) (types : List Nat) (due : ElEnv → ElemState → ElemState → Bool)
    (take : ElEnv → ElemState → ElemState → ElemState) (s : State)
    (h : k.Holds s.guarded) : k.Holds (s.elemOnly i types due take).guarded := by
  simp [h, State.elemOnly]

/-! The two recorders (R276, R482) -/

@[simp] theorem State.clearGo_holds {k : Claim} (r : Req) (s : State)
    (h : k.Holds s.guarded) : AnsHolds k (s.clearGo r) := by simp [h, State.clearGo]
@[simp] theorem State.clearDue_holds {k : Claim} {s : State} (h : k.Holds s.guarded) : k.Holds s.clearDue.guarded := by
  unfold State.clearDue
  split
  · split
    · refine State.answerClear_holds _ ?_
      rw [State.ite_guarded, State.pin_guarded, ite_self]
      exact h.lastSeq (Nat.le_succ _)
    · exact h
  · exact h
@[simp] theorem State.exportGo_holds {k : Claim} (recno options : Nat) {s : State} (h : k.Holds s.guarded) :
    AnsHolds k (s.exportGo recno options) := by
  unfold State.exportGo
  split
  · simp
  · split
    · simp
    · split
      · simp
      · exact State.openJob_holds _ h

/-! Station protocols (R452 to R471) -/

@[simp] theorem State.readPts_guarded (proto conn code : Nat) (l : List Nat) (s : State) :
    (s.readPts proto conn code l).guarded = s.guarded := by simp [State.readPts]
@[simp] theorem State.answerRead_guarded (m : StMsg) (s : State) : (s.answerRead m).guarded = s.guarded := by simp [State.answerRead]
@[simp] theorem State.stationGo_guarded (proto conn : Nat) (a : StationAct) (origin : BitVec 128) (test : Option Bool) (ack : Bool)
    (s : State) : (s.stationGo proto conn a origin test ack).guarded = s.guarded := by simp [State.stationGo]
@[simp] theorem State.stationAll_guarded (proto conn : Nat) (l : List StationAct) (origin : BitVec 128) (s : State) :
    (s.stationAll proto conn l origin).guarded = s.guarded := by
  unfold State.stationAll
  split <;> simp
@[simp] theorem State.drain_guarded (n : Nat) (s : State) : (s.drain n).guarded = s.guarded := by simp [State.drain]
@[simp] theorem State.tlsOpen_guarded (assoc suite group : Nat) (certOk : Bool) (serial : Nat) (p : TlsPeer) (resumed : Bool) (s : State) :
    (s.tlsOpen assoc suite group certOk serial p resumed).guarded = s.guarded := by simp [State.tlsOpen]
@[simp] theorem State.tlsUpdate_guarded (assoc : Nat) (s : State) : (s.tlsUpdate assoc).guarded = s.guarded := by simp [State.tlsUpdate]
@[simp] theorem State.encapsulated_holds {k : Claim} (assoc opcode tag session : Nat) {s : State} (h : k.Holds s.guarded) :
    k.Holds (s.encapsulated assoc opcode tag session).guarded := by
  unfold State.encapsulated
  split
  · exact h
  · extract_lets t r
    have ht : k.Holds t.guarded := h
    (repeat' split) <;> simp [ht]
@[simp] theorem State.modRcb_guarded (i : Nat) (f : Rcb → Rcb) (s : State) : (s.modRcb i f).guarded = s.guarded := rfl
@[simp] theorem State.rcbGo_guarded (i : Nat) (more : List (List (Nat × Point))) (s : State) : (s.rcbGo i more).guarded = s.guarded := by
  simp [State.rcbGo]
@[simp] theorem State.enableReport_guarded (assoc i : Nat) (on : Bool) (dataset : List Nat) (buffered : Bool) (o : RcbOpts) (s : State) :
    (s.enableReport assoc i on dataset buffered o).guarded = s.guarded := by simp [State.enableReport]
@[simp] theorem State.reportAll_guarded (i : Nat) (s : State) : (s.reportAll i).guarded = s.guarded := by simp [State.reportAll]
@[simp] theorem State.integrityRow_guarded (i : Nat) (s : State) : (s.integrityRow i).guarded = s.guarded := by simp [State.integrityRow]
@[simp] theorem State.mmsDelete_guarded (assoc recno : Nat) (privE : Bool) (s : State) :
    (s.mmsDelete assoc recno privE).guarded = s.guarded := by simp [State.mmsDelete]
@[simp] theorem State.heardTls_guarded (assoc : Nat) (s : State) : (s.heardTls assoc).guarded = s.guarded := rfl
@[simp] theorem State.mms_guarded (assoc : Nat) (q : MmsReq) (s0 : State) : (s0.mms assoc q).guarded = s0.guarded := by
  unfold State.mms
  dsimp only
  (repeat' split) <;> simp
@[simp] theorem State.heard104_guarded (i : Nat) (s : State) : (s.heard104 i).guarded = s.guarded := by simp [State.heard104]
@[simp] theorem State.heardU_guarded (i : Nat) (f : Conn104 → Conn104) (s : State) : (s.heardU i f).guarded = s.guarded := rfl
@[simp] theorem State.start104_guarded (i : Nat) (s : State) : (s.start104 i).guarded = s.guarded := rfl
@[simp] theorem State.asdu104_guarded (i : Nat) (q : Iec104Req) (s : State) : (s.asdu104 i q).guarded = s.guarded := by
  unfold State.asdu104
  split <;> simp
@[simp] theorem State.iec104_guarded (i : Nat) (q : Iec104Req) (s : State) : (s.iec104 i q).guarded = s.guarded := by
  unfold State.iec104
  (repeat' split) <;> simp
@[simp] theorem State.timer104_guarded (i timer : Nat) (s : State) : (s.timer104 i timer).guarded = s.guarded := by simp [State.timer104]
@[simp] theorem State.modDnp_guarded (i : Nat) (f : Dnp3 → Dnp3) (s : State) : (s.modDnp i f).guarded = s.guarded := rfl
@[simp] theorem State.dnpPoll_guarded (i cls : Nat) (s : State) : (s.dnpPoll i cls).guarded = s.guarded := by simp [State.dnpPoll]
@[simp] theorem State.dnpRead_guarded (i var : Nat) (l : List Nat) (s : State) : (s.dnpRead i var l).guarded = s.guarded := by
  simp [State.dnpRead]
@[simp] theorem State.crob_guarded (i slot : Nat) (op : Crob) (src : Nat) (sel ack : Bool) (s : State) :
    (s.crob i slot op src sel ack).guarded = s.guarded := by
  unfold State.crob
  split <;> simp
@[simp] theorem State.dnp3_guarded (i : Nat) (q : Dnp3Req) (s : State) : (s.dnp3 i q).guarded = s.guarded := by
  unfold State.dnp3
  (repeat' split) <;> simp
@[simp] theorem State.modbusRead_guarded (i fc : Nat) (l : List Nat) (s : State) : (s.modbusRead i fc l).guarded = s.guarded := by
  simp [State.modbusRead]
@[simp] theorem State.modbus_guarded (i : Nat) (q : ModbusReq) (s : State) : (s.modbus i q).guarded = s.guarded := by
  unfold State.modbus
  (repeat' split) <;> simp
@[simp] theorem State.modbusFrom_guarded (p : ModbusPeer) (q : ModbusReq) (s : State) : (s.modbusFrom p q).guarded = s.guarded := by
  unfold State.modbusFrom
  split <;> simp
@[simp] theorem State.iec103_guarded (port : Nat) (q : Iec103Req) (s : State) : (s.iec103 port q).guarded = s.guarded := by
  unfold State.iec103
  (repeat' split) <;> simp
@[simp] theorem State.c37Frame_guarded (n kind : Nat) (s : State) : (s.c37Frame n kind).guarded = s.guarded := by simp [State.c37Frame]
@[simp] theorem State.c37_guarded (n : Nat) (q : C37Cmd) (s : State) : (s.c37 n q).guarded = s.guarded := by
  unfold State.c37
  (repeat' split) <;> simp
@[simp] theorem State.retransmit_guarded (n : Nat) (s : State) : (s.retransmit n).guarded = s.guarded := by
  unfold State.retransmit
  split <;> simp

/-! Logic tasks (R282 to R298) -/

@[simp] theorem State.logicRow_guarded (f : Block → Logic → Logic × List EvRec) (s : State) : (s.logicRow f).guarded = s.guarded := by
  unfold State.logicRow
  split <;> rfl
@[simp] theorem State.taskDone_holds {k : Claim} (t : Nat) (s : State)
    (h : k.Holds s.guarded) : k.Holds (s.taskDone t).guarded := by
  unfold State.taskDone
  split <;> simp [h]
@[simp] theorem State.bluRow_guarded (u : Nat) (f : CycleEnv → Work → Work) (s : State) : (s.bluRow u f).guarded = s.guarded := by
  unfold State.bluRow
  split <;> rfl

/-! Time and pair commands (R368, R403) -/

@[simp] theorem State.stepGo_holds {k : Claim} (r : Req) (ntick mode : Nat) (want : Int) (s : State)
    (h : k.Holds s.guarded) : AnsHolds k (s.stepGo r ntick mode want) := by simp [h, State.stepGo]
@[simp] theorem State.handoverGo_holds {k : Claim} (ntick : Nat) (partnerWit : Bool) (s : State)
    (h : k.Holds s.guarded) : AnsHolds k (s.handoverGo ntick partnerWit) := by simp [h, State.handoverGo]

/-! The time-sync unit (R350 to R370) -/

@[simp] theorem State.tsuRow_guarded (f : TimeCfg → Nat → Tsu → Tsu × List EvRec) (s : State) :
    (s.tsuRow f).guarded = s.guarded := rfl
@[simp] theorem State.stepRow_guarded (f : TimeCfg → Nat → Tsu → Tsu × List EvRec) (s : State) :
    (s.stepRow f).guarded = s.guarded := by
  simp [State.stepRow]
end Sys2Proof.Machine
end

section
/-! SUPPORT. O4 to O8: the dispatch keeps the claims. -/

namespace Sys2Proof.Machine

/-! ### Rows of the field outputs -/

/-- A claim holds where the field I/O changes without turning a switch on, and output enable stays. -/
theorem State.fio_holds {k : Claim} {s : State} {f : Fio} (hen : f.en = s.fio.en) (hoff : s.fio.en = false → OutsOff s.fio.outs → OutsOff f.outs)
    (h : k.Holds s.guarded) : k.Holds ({ s with fio := f } : State).guarded := by
  rw [State.guarded_mk, hen]
  exact h.outs hoff

/-- Output enable that follows the Hat keeps the claims (R377). -/
theorem State.setEnable_holds {k : Claim} {s : State} {v : Bool} (hv : v = true → (s.hat.latch && !s.hat.ploop) = true)
    (h : k.Holds s.guarded) : k.Holds ({ s with fio := setEnable v s.fio } : State).guarded := by
  cases k
  case lit => exact fun he => hv ((setEnable_en v s.fio).symm.trans he)
  case dark => exact setEnable_off h
  all_goals exact h

theorem State.felt_holds {k : Claim} (h : FeltHdr) {f : State → State} {s : State} (hf : ∀ t, k.Holds t.guarded → k.Holds (f t).guarded)
    (hs : k.Holds s.guarded) : k.Holds (s.felt h f).guarded := by
  obtain ⟨-, e⟩ | ⟨-, -, -, e⟩ | ⟨-, -, e⟩ := s.felt_cases h f <;> rw [e]
  · exact hf _ hs
  all_goals exact hs

theorem State.atNext_holds {k : Claim} {f : State → State} {s : State} (hf : ∀ t, k.Holds t.guarded → k.Holds (f t).guarded)
    (hs : k.Holds s.guarded) : k.Holds (s.atNext f).guarded := by
  have ht := hf { s with logic := { s.logic with ltc := s.logic.ltc + 1 }, tsu := { s.tsu with id := gridId (nextGrid s.tsu) s.tsu.gen } } hs
  unfold State.atNext
  exact ht

@[simp] theorem loneLatchIf_was (c : Prop) [Decidable c] (fit loop : Bool) (h : Hat) :
    (if c then loneLatchGo fit loop h else h).was = h.was := by
  split <;> simp

/-! ### The start (R41) -/

@[simp] theorem evrPowerUp_lastSeq (e : Evr) : (evrPowerUp e).lastSeq = e.lastSeq := by
  unfold evrPowerUp
  (repeat' split) <;> simp

@[simp] theorem State.powerOff_holds {k : Claim} {s : State} (h : k.Holds s.guarded) : k.Holds s.powerOff.guarded := by
  unfold State.powerOff
  split
  · exact State.resetEngine_holds _ h
  · exact h

@[simp] theorem State.startUp_guarded (strap : BitVec 2) (sec : Nat) (ok self : Bool) (mv : Nat) (s : State) :
    (s.startUp strap sec ok self mv).guarded = s.guarded := rfl

@[simp] theorem State.startRecords_guarded (s : State) : s.startRecords.guarded = s.guarded := by
  unfold State.startRecords
  rw [State.guarded_mk, evrPowerUp_lastSeq]
  rfl

@[simp] theorem State.startBlock_holds {k : Claim} {s : State} (h : k.Holds s.guarded) : k.Holds s.startBlock.guarded := by
  unfold State.startBlock
  split
  · exact h
  · split
    · extract_lets nb t
      have ht : k.Holds t.guarded := State.activate_holds nb h
      have hseq : t.evr.lastSeq = s.evr.lastSeq := by
        unfold t State.activate
        rfl
      clear_value t
      refine State.takeRole_holds ?_
      rw [State.guarded_mk, ← hseq]
      exact ht
    · exact h

@[simp] theorem State.powerUp_holds {k : Claim} (strap : BitVec 2) (sec : Nat) (ok self : Bool) (mv : Nat) (x : BootTry) {s : State}
    (h : k.Holds s.guarded) : k.Holds (s.powerUp strap sec ok self mv x).guarded := by
  have ht : k.Holds (s.powerOff.updateBoot x).guarded := State.updateBoot_holds x _ (State.powerOff_holds h)
  unfold State.powerUp
  extract_lets t
  split
  · exact ht
  · exact State.startBlock_holds (by simpa using ht)

/-! ### The dispatch -/

/-- Every command keeps the claims. -/
theorem exec_holds {k : Claim} {c : Instr} {s t : State} (hs : k.Holds s.guarded) (h : exec c s = .next t) : k.Holds t.guarded := by
  cases c
  case partnerEngineFrameReceive bytes start =>
    cases h
    cases s.partnerEngFrame bytes start <;> simp [hs]
  case sessionClose | sessionInfo | jobStatus | jobCancel | blockChunk | hoodChunk | updChunk | drcFile | drcDelete =>
    cases h
    refine State.command_holds _ _ (fun t ht => ?_) hs
    split <;> simp [ht]
  case engineReset | sessionOpen | sessionAuth | keyEnrol | keyRevoke | blockBegin | blockCheck | blockActivate | hoodBegin | hoodLoad | hoodSwap | hoodCancel |
      hoodUnload | forceSet | forceRelease | groupSwitch | modeSet | simSet | evrClear | drcTrigger | drcExport | timeStep | utcOfsSet |
      handover | toWaiting | updBegin | updStage | updDiscard | pointWrite | ctlSelect | ctlOperate | ctlCancel | slotReset | pinFire |
      snapRelease | selftest =>
    cases h
    refine State.command_holds _ _ (fun t ht => ?_) hs
    simp [ht]
  case outputThermalShutdown =>
    cases h
    exact State.fio_holds (by rfl) (fun _ => outsOff_modify (fun _ => outShutdown_off _ _) _) hs
  case outputRetry =>
    cases h
    refine State.fio_holds (by split <;> rfl) (fun he ho => ?_) hs
    simpa [he] using ho
  case outputRetryCountReset =>
    cases h
    exact State.fio_holds (by rfl) (fun _ => outsOff_modify (fun o ho => by simpa using ho) _) hs
  case fieldSupplyStateChange =>
    cases h
    exact State.fio_holds (by rfl) (fun _ ho => ho) hs
  case holdKeeperHold =>
    cases h
    exact State.fio_holds (by split <;> rfl) (fun _ ho => by split <;> exact ho) hs
  case holdExpiry =>
    cases h
    refine State.fio_holds (by split <;> rfl) (fun he ho => ?_) hs
    simpa [he] using ho
  case outputEnableRise =>
    cases h
    by_cases hon : s.hat.enable = true <;> simp only [hon, if_true, if_false]
    · exact State.setEnable_holds (fun _ => hon) hs
    · exact hs
  case outputEnableClear =>
    cases h
    split
    · exact hs
    · exact State.setEnable_holds nofun hs
  case hatGrant =>
    cases h
    exact State.hatRow_holds (hatGrantGo_was _ _) (by simpa using hs)
  case loneLatchSet =>
    cases h
    exact State.hatRow_holds (fun n => loneLatchIf_was _ _ _ n) hs
  case commitWatchdog =>
    cases h
    refine State.enableLower_holds_of_ne fun hk => ?_
    rw [State.guarded_mk, watchdogGo_was]
    exact hs.hat hk _ _
  case closeFrameReceive | epochClosingDigest | partnerRecordReceive | forwardedPinReceive =>
    cases h
    exact State.felt_holds _ (fun t ht => by simp [ht]) hs
  case mbxDoorbellWrite =>
    cases h
    exact State.hpiRow_holds rfl (ringDoorbell_bits _ _) hs
  case mbxDoneClear =>
    cases h
    exact State.hpiRow_holds rfl (bits_cleared _ _ _) hs
  case mbxEvtClear | hpiErrRead | unmappedAccess | pinLostRead =>
    cases h
    exact State.hpiRow_holds rfl id hs
  case ownedMailboxAccess =>
    cases h
    exact State.hpiRow_holds (by split <;> rfl) (fun hb => by split <;> exact hb) hs
  case hatStatusClear =>
    cases h
    rw [State.ite_guarded]
    split <;> exact hs
  case commandActionApply | selectorGroupSwitch | hoodSwapApply | blockActivationApply | evrClearApply =>
    cases h
    exact State.atNext_holds (fun t ht => by simp [ht]) hs
  case hatLoopFault =>
    cases h
    by_cases hbad : (s.hat.latch && !s.hat.ownLoop && decide (2 ≤ s.hat.loopBad)) = true <;> simp only [hbad, if_true, if_false] <;> exact hs
  case evrPowerfailStop =>
    cases h
    rw [State.guarded_mk, apply_ite Evr.lastSeq, evrStop_lastSeq, ite_self]
    exact hs
  all_goals
    cases h
    simp [hs]

/-! ### The step -/

/-- Every step keeps the claims. -/
theorem step_holds {k : Claim} {s t : State} (hs : k.Holds s.guarded) (h : step s = .next t) : k.Holds t.guarded := by
  unfold step at h
  split at h
  · cases h
    exact hs
  · next c rest _ =>
    exact exec_holds (s := { s with pending := rest }) hs h

/-- Settles O4: the claim about the two memories. -/
theorem memoryStaysCanonical : Obligations.MemoryStaysCanonical := by
  unfold Obligations.MemoryStaysCanonical
  exact fun _ _ hs h => step_holds (k := .memory) hs h

/-- Settles O5: the claim about the two words of the mailboxes. -/
theorem mailboxOwnedOrAnswered : Obligations.MailboxOwnedOrAnswered := by
  unfold Obligations.MailboxOwnedOrAnswered
  exact fun _ _ hs h => step_holds (k := .mailbox) hs h

/-- Settles O6: the claim about the role, with the role that a grant of the tick may have to give back. -/
theorem roleStaysLegal : Obligations.RoleStaysLegal := by
  unfold Obligations.RoleStaysLegal
  exact fun _ _ hs h => step_holds (k := .role) hs h

/-- Settles O7: the claims about output enable and about the switches, each of which every step keeps on its own. -/
theorem outputsFollowLatch : Obligations.OutputsFollowLatch := by
  unfold Obligations.OutputsFollowLatch
  exact fun _ _ hs h => ⟨step_holds (k := .lit) hs.1 h, step_holds (k := .dark) hs.2 h⟩

/-- Settles O8: the claim that the sequence number is at least the one that the step found. -/
theorem sequenceNeverFalls : Obligations.SequenceNeverFalls := by
  unfold Obligations.SequenceNeverFalls
  exact fun s _ h => step_holds (k := .seq s.evr.lastSeq) (Nat.le_refl _) h

end Sys2Proof.Machine
end

section
/-! SUPPORT. O1 to O3: the step, and the state after reset. -/

namespace Sys2Proof.Machine

/-- Settles O1: both halves are the two branches of `step`. -/
theorem stepRunsFront : Obligations.StepRunsFront := by
  unfold Obligations.StepRunsFront
  refine ⟨fun c rest s => rfl, fun s h => ?_⟩
  unfold step
  rw [h]

/-- Settles O2: the fields of the reset state; outputs, elements and slots are copies of one entry each. -/
theorem resetState : Obligations.ResetState := by
  unfold Obligations.ResetState
  refine ⟨rfl, rfl, rfl, rfl, rfl, rfl, rfl, rfl, rfl, ?_, rfl, rfl, rfl, rfl, ?_, ?_⟩
  · exact fun o ho => by rw [List.eq_of_mem_replicate ho]
  · exact fun e he => by rw [List.eq_of_mem_replicate he]; exact ⟨rfl, rfl⟩
  · exact fun y hy => by rw [List.eq_of_mem_replicate hy]

/-- Settles O3: both memories are empty at reset, no mailbox bit is set, and every output is off. -/
theorem invariantsHoldAtReset : Obligations.InvariantsHoldAtReset := by
  unfold Obligations.InvariantsHoldAtReset
  refine ⟨⟨rfl, rfl⟩, BitVec.and_self, ⟨Nat.zero_le _, nofun⟩, nofun, fun _ o ho => ?_⟩
  rw [List.eq_of_mem_replicate ho]

end Sys2Proof.Machine
end

section
/-! SUPPORT. O12: the checks of R438 in their order. -/

namespace Sys2Proof.Machine

theorem State.verdict_of_form {c : CmdSpec} {r : Req} {s : State} {o : Nat} (hform : c.formBad r = some o) : s.verdict c r = 0x0101 := by
  simp [State.verdict, hform]

theorem State.verdict_of_role {c : CmdSpec} {r : Req} {s : State} (hform : c.formBad r = none) (hauth : s.authed c r = true)
    (hrole : roleOk s.life.role c = false) : s.verdict c r = 0x0103 := by
  simp [State.verdict, hform, hauth, hrole]

/-- A refusal of wrong form names the field that offends. -/
theorem State.errOfs_of_form {c : CmdSpec} {r : Req} {o st : Nat} (hform : c.formBad r = some o) (h0 : st ≠ 0x0100) (h4 : st ≠ 0x0104)
    (s : State) : s.errOfs c r st = o := by
  simp [State.errOfs, h0, h4, hform]

/-- A mailbox behind a closed port, and one that the engine owns, takes no request (R430). -/
theorem State.not_reached {s : State} {c : Carrier} (h : s.hpi.magic = false ∨ s.owned c = true) : s.reached c = false := by
  obtain hmagic | howned := h
  · simp [State.reached, hmagic]
  · simp [State.reached, howned]

/-- A request that R438 admits reaches the MP and passes the checks. -/
theorem State.admits_iff (c : CmdSpec) (r : Req) (s : State) :
    s.admits c r = true ↔ s.reached r.carrier = true ∧ (s.touch c r).verdict c r = 0 := by
  have hlife : (s.touch c r).life = s.life := rfl
  rw [State.verdict_eq_zero_iff, hlife]
  simp [State.admits, and_assoc]

/-- An admitted command against which its own rules find something is refused with their code (R438). -/
theorem State.command_of_error {c : CmdSpec} {r : Req} {go : State → Except Nat Ans} {s : State} {e : Nat} (hadm : s.admits c r = true)
    (hgo : go (s.touch c r) = .error e) :
    s.command c r go = (s.touch c r).refuse c r e (c.op == 0x0102 && e == 0x0102 && ((s.touch c r).session r).isSome) := by
  obtain ⟨hreach, hv⟩ := (State.admits_iff c r s).mp hadm
  simp [State.command, hreach, hv, hgo]

/-- An admitted command that its own rules let through is answered (R433), or stays the engine's until it is. -/
theorem State.command_of_ok {c : CmdSpec} {r : Req} {go : State → Except Nat Ans} {s : State} {a : Ans} (hadm : s.admits c r = true)
    (hgo : go (s.touch c r) = .ok a) :
    s.command c r go = if a.later then (a.s.markTag c r).own r.carrier else a.s.answered c r a.payload a.status a.ntick := by
  obtain ⟨hreach, hv⟩ := (State.admits_iff c r s).mp hadm
  simp [State.command, hreach, hv, hgo, State.answered]

/-- Settles O12: of a request that reaches the MP the first check that fails gives the status, and the command's own code comes last. -/
theorem firstFailingCheckAnswers : Obligations.FirstFailingCheckAnswers := by
  unfold Obligations.FirstFailingCheckAnswers
  intro c r go s
  have hrefuse (hreach : s.reached r.carrier = true) {v : Nat} (hv : (s.touch c r).verdict c r = v) (h0 : v ≠ 0) :
      s.command c r go = (s.touch c r).refuse c r v ((s.touch c r).sigFailed c r) := by
    subst hv
    exact State.command_of_verdict hreach h0 go
  refine ⟨fun hnot => ?_, State.not_reached, fun hreach => ⟨fun o hform => ⟨?_, fun st h0 h4 => State.errOfs_of_form hform h0 h4 s⟩,
    fun hform hauth => ?_, fun hform hauth hrole => ?_, fun e hadm hop hgo => ?_⟩⟩
  · simp [State.command, hnot]
  · exact hrefuse hreach (State.verdict_of_form hform) (by decide)
  · exact hrefuse hreach (State.verdict_of_not_authed hform hauth) (by decide)
  · exact hrefuse hreach (State.verdict_of_role hform hauth hrole) (by decide)
  · rw [State.command_of_error hadm hgo, beq_false_of_ne hop]
    rfl

end Sys2Proof.Machine
end

section
/-! SUPPORT. O13 and O14: what a mailbox reads back after a response and after a write of the host. -/

namespace Sys2Proof

/-! ### Bytes that are written in a row -/

/-- The bytes from `a` on are the ones written there. -/
theorem ramGet_ramPutAll_at : ∀ (bs : List Byte) (l : List (Nat × Byte)) (a k : Nat), k < bs.length →
    ramGet (ramPutAll l a bs) (a + k) = bs.getD k 0
  | b :: bs, l, a, 0, _ => by
    rw [Nat.add_zero, ramPutAll, ramGet_ramPutAll_below bs _ _ _ (Nat.lt_add_one a), ramGet_ramPut, if_pos rfl]
    rfl
  | b :: bs, l, a, k + 1, hk => by
    rw [ramPutAll, ← Nat.add_assoc, Nat.add_right_comm, ramGet_ramPutAll_at bs _ _ k (by simpa using hk)]
    rfl

/-- No byte above them changes. -/
theorem ramGet_ramPutAll_above : ∀ (bs : List Byte) (l : List (Nat × Byte)) (a d : Nat), a + bs.length ≤ d →
    ramGet (ramPutAll l a bs) d = ramGet l d
  | [], _, _, _, _ => rfl
  | b :: bs, l, a, d, hd => by
    rw [List.length_cons] at hd
    rw [ramPutAll, ramGet_ramPutAll_above bs _ _ _ (by omega), ramGet_ramPut, if_neg (by omega)]

/-! ### The bit of one mailbox -/

theorem getLsbD_bit (i j : Nat) (hi : i < 16) : (1#16 <<< i).getLsbD j = decide (j = i) := by
  rw [BitVec.getLsbD_shiftLeft, BitVec.getLsbD_one, decide_eq_true (by decide : 0 < 16), Bool.true_and]
  by_cases hj : j = i
  · simp [hj, hi]
  · have hne : decide (j = i) = false := by simp [hj]
    rw [hne]
    by_cases hlt : j < i
    · simp [hlt]
    · have hsub : j - i ≠ 0 := by omega
      simp [hsub]

/-! ### A word of four byte lanes -/

/-- A write of a word acts on the bytes whose lanes are on, and on no other byte (R419). -/
theorem ramGet_writeWord (l : List (Nat × Byte)) (a : Nat) (v : BitVec 32) (be : BitVec 4) (d : Nat) :
    ramGet (writeWord l a v be) d =
      if a ≤ d ∧ d < a + 4 ∧ be.getLsbD (d - a) = true then (v >>> (8 * (d - a))).setWidth 8 else ramGet l d := by
  have hlane (k d : Nat) (m : List (Nat × Byte)) :
      ramGet (if be.getLsbD k then ramPut m (a + k) ((v >>> (8 * k)).setWidth 8) else m) d =
        if d = a + k ∧ be.getLsbD k = true then (v >>> (8 * k)).setWidth 8 else ramGet m d := by
    split
    · next hon => simp [ramGet_ramPut, hon]
    · next hoff => simp [hoff]
  have hrange : List.range 4 = [0, 1, 2, 3] := rfl
  simp only [writeWord, hrange, List.foldl_cons, List.foldl_nil, hlane]
  by_cases hd : a ≤ d ∧ d < a + 4
  · obtain ⟨k, rfl⟩ := Nat.exists_eq_add_of_le hd.1
    have hk : k = 0 ∨ k = 1 ∨ k = 2 ∨ k = 3 := by omega
    obtain rfl | rfl | rfl | rfl := hk <;> simp
  · have h0 : d ≠ a + 0 := by omega
    have h1 : d ≠ a + 1 := by omega
    have h2 : d ≠ a + 2 := by omega
    have h3 : d ≠ a + 3 := by omega
    rw [if_neg (fun h => h3 h.1), if_neg (fun h => h2 h.1), if_neg (fun h => h1 h.1), if_neg (fun h => h0 h.1),
      if_neg (fun h => hd ⟨h.1, h.2.1⟩)]

/-- Four bytes of a word, joined again. -/
theorem leNat_bytes (v : BitVec 32) : leNat ((List.range 4).map (fun k => (v >>> (8 * k)).setWidth 8)) = v.toNat := by
  have hrange : List.range 4 = [0, 1, 2, 3] := rfl
  simp only [hrange, List.map_cons, List.map_nil, leNat, BitVec.toNat_setWidth, BitVec.toNat_ushiftRight, Nat.shiftRight_eq_div_pow]
  have hv := v.isLt
  omega

end Sys2Proof

namespace Sys2Proof.Machine

theorem State.respond_host_ram (i : Nat) (x : Resp) (s : State) :
    (s.respond (.host i) x).hpi.ram = ramPutAll s.hpi.ram (mbxBase i) (respBytes x) := rfl

theorem State.respond_host_doorbell (i : Nat) (x : Resp) (s : State) :
    (s.respond (.host i) x).hpi.doorbell = s.hpi.doorbell &&& ~~~(1#16 <<< i) := rfl

theorem State.respond_host_done (i : Nat) (x : Resp) (s : State) :
    (s.respond (.host i) x).hpi.done = s.hpi.done ||| (1#16 <<< i) := rfl

/-- Settles O13: the bytes of the response are written in a row, and the two words change in one bit. -/
theorem responseFillsItsMailbox : Obligations.ResponseFillsItsMailbox := by
  unfold Obligations.ResponseFillsItsMailbox
  intro i x s
  simp only [State.respond_host_ram, State.respond_host_doorbell, State.respond_host_done]
  refine ⟨fun k hk => ramGet_ramPutAll_at _ _ _ k hk, fun a ha => ?_, ?_, ?_, fun j hj => ⟨?_, ?_⟩, rfl⟩
  · obtain hlow | hhigh := ha
    · exact ramGet_ramPutAll_below _ _ _ _ hlow
    · exact ramGet_ramPutAll_above _ _ _ _ hhigh
  · rw [BitVec.getLsbD_and, BitVec.getLsbD_not, getLsbD_bit _ _ i.isLt]
    simp
  · rw [BitVec.getLsbD_or, getLsbD_bit _ _ i.isLt]
    simp
  · rw [BitVec.getLsbD_and, BitVec.getLsbD_not, getLsbD_bit _ _ i.isLt]
    simpa [hj] using BitVec.lt_of_getLsbD
  · rw [BitVec.getLsbD_or, getLsbD_bit _ _ i.isLt]
    simp [hj]

/-! ### A write of the host -/

theorem hostRegion_mailbox {a : Nat} (hlow : 0x10000 ≤ a) (hhigh : a < 0x20000) : hostRegion (a / 4 * 4) = 4 := by
  have h1 : ¬ a / 4 * 4 < 0x100 := by omega
  have h2 : ¬ a / 4 * 4 < 0x1100 := by omega
  have h3 : ¬ a / 4 * 4 < 0x2014 := by omega
  have h4 : 0x10000 ≤ a / 4 * 4 := by omega
  have h5 : a / 4 * 4 < 0x20000 := by omega
  simp [hostRegion, h1, h2, h3, h4, h5]

/-- A write to a mailbox that the engine does not own is the word, lane by lane (R419). -/
theorem State.hostWrite_mailbox {s : State} {a : Nat} (v : BitVec 32) (be : BitVec 4) (hmagic : s.hpi.magic = true) (hlow : 0x10000 ≤ a)
    (hhigh : a < 0x20000) :
    s.hostWrite a v be = if s.hpi.doorbell.getLsbD (mbxOf (a / 4 * 4)) then { s with hpi := ownedAccess true s.hpi }
      else { s with hpi := { s.hpi with ram := writeWord s.hpi.ram (a / 4 * 4) v be } } := by
  simp [State.hostWrite, hmagic, hostRegion_mailbox hlow hhigh]

/-- Settles O14: the write of a word by lanes, and the error count of an owned mailbox. -/
theorem mailboxWordReadsBack : Obligations.MailboxWordReadsBack := by
  unfold Obligations.MailboxWordReadsBack
  intro s a v be hmagic hlow hhigh
  have hexec : exec (.registerWrite false a v be) s = .next (s.hostWrite a.toNat (v.setWidth 32) be) := rfl
  rw [hexec, State.hostWrite_mailbox _ _ hmagic hlow hhigh]
  refine ⟨fun hfree => ⟨_, rfl, ?_⟩, fun howned => ?_⟩
  · rw [hfree, if_neg Bool.false_ne_true]
    refine ⟨rfl, ?_, ?_, ?_, ?_⟩
    · rintro rfl
      have hbytes : (List.range 4).map (fun k => ramGet (writeWord s.hpi.ram (a.toNat / 4 * 4) (v.setWidth 32) 0xF) (a.toNat / 4 * 4 + k)) =
          (List.range 4).map (fun k => ((v.setWidth 32 : BitVec 32) >>> (8 * k)).setWidth 8) := by
        refine List.map_congr_left fun k hk => ?_
        have hk4 : k = 0 ∨ k = 1 ∨ k = 2 ∨ k = 3 := by
          have := List.mem_range.mp hk
          omega
        rw [ramGet_writeWord, Nat.add_sub_cancel_left, if_pos]
        obtain rfl | rfl | rfl | rfl := hk4 <;> exact ⟨by omega, by omega, by decide⟩
      simp only [State.hostWord, hmagic, hostRegion_mailbox hlow hhigh, hfree, hbytes, leNat_bytes, Bool.not_true, Bool.false_eq_true, if_false,
        BitVec.ofNat_toNat, BitVec.setWidth_eq]
    · rintro rfl
      have hram : writeWord s.hpi.ram (a.toNat / 4 * 4) (v.setWidth 32) 0 = s.hpi.ram := by simp [writeWord]
      rw [hram]
    · intro k hk
      rw [ramGet_writeWord]
      simp [hk]
    · intro d hd
      rw [ramGet_writeWord, if_neg]
      omega
  · rw [if_pos howned]
    rfl

end Sys2Proof.Machine
end

section
/-! SUPPORT. O15 and O16: a point keeps its TYPE's width of what its writer writes. -/

namespace Sys2Proof.Machine

/-- A space of one unforced single-bit point. -/
def onePoint : Sig := { pts := [(0, { typ := 1 })] }

/-- A write of a VALUE wider than the point's TYPE. -/
def wideWrite : PtWrite := { idx := 0, value := 2 }

/-- The point holds bit 0 of the VALUE that is written, here 0 (`fitValue`). -/
theorem onePoint_keeps_bit0 : ((onePoint.write {} wideWrite).rd 0).value = 0 := by decide

/-- Refutes O15: a point of TYPE 1 to which its writer writes VALUE 2 reads VALUE 0. -/
theorem not_pointReadsWhatWasWritten : ¬ Obligations.PointReadsWhatWasWritten := by
  unfold Obligations.PointReadsWhatWasWritten
  intro h
  obtain ⟨-, hwritten, -⟩ := h {} onePoint wideWrite (by decide)
  obtain ⟨hvalue, -⟩ := hwritten (Or.inl (by decide)) (by decide)
  exact absurd (hvalue.symm.trans onePoint_keeps_bit0) (by decide)

/-- Refutes O16: a point of TYPE 1 that is forced, written with VALUE 2 and released reads VALUE 0. -/
theorem not_forceHidesAndReleases : ¬ Obligations.ForceHidesAndReleases := by
  unfold Obligations.ForceHidesAndReleases
  intro h
  obtain ⟨-, -, -, -, -, hvalue, -⟩ := h {} {} 0 0 0 0 1 wideWrite onePoint (by decide) (by decide) (by decide) (by decide) (by decide) (by decide)
  exact absurd hvalue (by decide)

end Sys2Proof.Machine
end

section
/-! SUPPORT. O17: the order by rank keeps the order of acceptance. -/

namespace Sys2Proof

variable {α : Type} (key : α → Nat)

theorem insBy_perm (x : α) : ∀ l : List α, (insBy key x l).Perm (x :: l)
  | [] => List.Perm.refl _
  | y :: t => by
    unfold insBy
    split
    · exact List.Perm.refl _
    · exact ((insBy_perm x t).cons y).trans (List.Perm.swap x y t)

theorem insBy_pairwise (x : α) : ∀ {l : List α}, l.Pairwise (fun a b => key a ≤ key b) → (insBy key x l).Pairwise (fun a b => key a ≤ key b)
  | [], _ => List.pairwise_singleton _ _
  | y :: t, h => by
    obtain ⟨hy, ht⟩ := List.pairwise_cons.mp h
    unfold insBy
    split
    · next hlt => exact List.pairwise_cons.mpr ⟨fun z hz => by
        obtain rfl | hz := List.mem_cons.mp hz
        · exact Nat.le_of_lt hlt
        · exact Nat.le_trans (Nat.le_of_lt hlt) (hy z hz), h⟩
    · next hge => exact List.pairwise_cons.mpr ⟨fun z hz => by
        obtain rfl | hz := List.mem_cons.mp ((insBy_perm key x t).mem_iff.mp hz)
        · exact Nat.le_of_not_lt hge
        · exact hy z hz, insBy_pairwise x ht⟩

/-- An entry goes after all of its rank. -/
theorem insBy_filter (k : Nat) (x : α) : ∀ {l : List α}, l.Pairwise (fun a b => key a ≤ key b) →
    (insBy key x l).filter (fun a => key a == k) = (l ++ [x]).filter (fun a => key a == k)
  | [], _ => rfl
  | y :: t, h => by
    obtain ⟨hy, ht⟩ := List.pairwise_cons.mp h
    unfold insBy
    split
    · next hlt =>
      by_cases hx : key x = k
      · have hnone : ∀ z ∈ y :: t, ¬ (key z == k) = true := fun z hz => by
          obtain rfl | hz := List.mem_cons.mp hz
          · simp; omega
          · have := hy z hz
            simp; omega
        rw [List.filter_append, List.filter_cons, List.filter_eq_nil_iff.mpr hnone]
        simp [hx]
      · simp [List.filter_append, List.filter_cons, hx]
    · rw [List.filter_cons, insBy_filter k x ht, List.cons_append, List.filter_cons]

theorem foldl_insBy_perm : ∀ (l acc : List α), (l.foldl (fun acc x => insBy key x acc) acc).Perm (acc ++ l)
  | [], acc => by simp
  | x :: l, acc => by
    rw [List.foldl_cons]
    refine (foldl_insBy_perm l _).trans (((insBy_perm key x acc).append_right l).trans ?_)
    exact List.perm_middle.symm

theorem foldl_insBy_pairwise : ∀ (l : List α) {acc : List α}, acc.Pairwise (fun a b => key a ≤ key b) →
    (l.foldl (fun acc x => insBy key x acc) acc).Pairwise (fun a b => key a ≤ key b)
  | [], _, h => h
  | x :: l, _, h => foldl_insBy_pairwise l (insBy_pairwise key x h)

theorem foldl_insBy_filter (k : Nat) : ∀ (l : List α) {acc : List α}, acc.Pairwise (fun a b => key a ≤ key b) →
    (l.foldl (fun acc x => insBy key x acc) acc).filter (fun a => key a == k) = (acc ++ l).filter (fun a => key a == k)
  | [], acc, _ => by simp
  | x :: l, acc, h => by
    rw [List.foldl_cons, foldl_insBy_filter k l (insBy_pairwise key x h), List.filter_append, insBy_filter key k x h, ← List.filter_append]
    simp

theorem sortBy_perm (l : List α) : (sortBy key l).Perm l := foldl_insBy_perm key l []

theorem sortBy_pairwise (l : List α) : (sortBy key l).Pairwise (fun a b => key a ≤ key b) := foldl_insBy_pairwise key l List.Pairwise.nil

theorem sortBy_filter (k : Nat) (l : List α) : (sortBy key l).filter (fun a => key a == k) = l.filter (fun a => key a == k) :=
  foldl_insBy_filter key k l List.Pairwise.nil

end Sys2Proof

namespace Sys2Proof.Machine

/-- Settles O17: the insertion by rank is a stable sort. -/
theorem dueActionsInOrder : Obligations.DueActionsInOrder := by
  unfold Obligations.DueActionsInOrder
  exact fun s => ⟨sortBy_pairwise _ _, sortBy_perm _ _, fun k => sortBy_filter _ k _⟩

end Sys2Proof.Machine
end

section
/-! SUPPORT. O20: a tick of an engine with a Block. -/

namespace Sys2Proof.Machine

/-- A healthy engine with a Block, its clock running. -/
def blockRuns : State := { tsu := { run := true }, blk := some {} }

/-- Phase E of a Block goes on from the state as the tick began, so that LTC stays (`State.phases`). -/
theorem blockRuns_tick_ltc : (blockRuns.tick {}).logic.ltc = 0 := by
  decide +kernel

/-- Refutes O20: with a Block the tick leaves LTC as it was. -/
theorem not_tickRuns : ¬ Obligations.TickRuns := by
  unfold Obligations.TickRuns
  rintro ⟨-, h⟩
  obtain ⟨t, ht, hltc, -⟩ := h blockRuns {} rfl rfl rfl rfl rfl
  have htick : t = blockRuns.tick {} := (Host.Outcome.next.inj ht).symm
  rw [htick, blockRuns_tick_ltc] at hltc
  exact absurd hltc (by decide)

end Sys2Proof.Machine
end

section
/-! SUPPORT. O19: what the start of a tick leaves of an engine that waits for its reset. -/

namespace Sys2Proof.Machine

/-- The fields of the state that a due reset reads (R45), with the queue. -/
structure Fate where
  leaving    : Bool
  resetCause : Nat
  cause      : Nat
  sick       : Option Nat
  debug      : Bool
  failed     : Bool
  pending    : List Instr

/-- See `Fate`. -/
def State.fate (s : State) : Fate where
  leaving    := s.life.leaving
  resetCause := s.life.resetCause
  cause      := s.life.cause
  sick       := s.life.sickTicks
  debug      := s.sca.debug
  failed     := s.psu.failed
  pending    := s.pending

@[simp] theorem State.fate_mk (a : List Instr) (g : Sig) (l : Life) (c d e f h i j k m n fio o evr hat p q hpi r t u v) (sca : Sca) (psu : Psu)
    (y z aa bb cc) : (State.mk a g l c d e f h i j k m n fio o evr hat p q hpi r t u v sca psu y z aa bb cc).fate =
      ⟨l.leaving, l.resetCause, l.cause, l.sickTicks, sca.debug, psu.failed, a⟩ := rfl

@[simp] theorem State.mk_fate (s : State) :
    Fate.mk s.life.leaving s.life.resetCause s.life.cause s.life.sickTicks s.sca.debug s.psu.failed s.pending = s.fate := rfl

@[simp] theorem State.ite_fate (c : Prop) [Decidable c] (s t : State) : (if c then s else t).fate = if c then s.fate else t.fate :=
  apply_ite State.fate c s t

@[simp] theorem State.foldl_fate {α : Type} {f : State → α → State} (hf : ∀ s x, (f s x).fate = s.fate) (l : List α) (s : State) :
    (l.foldl f s).fate = s.fate := by
  induction l generalizing s with
  | nil => rfl
  | cons x l ih => rw [List.foldl_cons, ih, hf]

@[simp] theorem State.setRole_fate (n : Nat) (s : State) : (s.setRole n).fate = s.fate := by
  obtain ⟨-, h⟩ | ⟨-, h⟩ := s.setRole_cases n <;> rw [h]
  rfl

@[simp] theorem State.takeRole_fate (s : State) : s.takeRole.fate = s.fate := by
  obtain h | h | h | h | h := s.takeRole_cases <;> simp [h]

@[simp] theorem State.pin_fate (src : BitVec 6) (cycle : Nat) (deferred : Bool) (s : State) : (s.pin src cycle deferred).fate = s.fate := by
  obtain ⟨_, _, _, _, h⟩ := s.pinBack_frame src cycle deferred 0
  rw [State.pin, h]
  rfl

@[simp] theorem State.fillBanks_fate (s : State) : s.fillBanks.fate = s.fate := by
  simp [State.fillBanks]

@[simp] theorem State.stepShift_fate (clk : Nat) (s : State) : (s.stepShift clk).fate = s.fate := by
  simp [State.stepShift]

@[simp] theorem State.advance_fate (s : State) : s.advance.fate = s.fate := by
  have hseal (old : Tsu) (t : State) : (t.sealTime old).fate = t.fate := rfl
  simp [State.advance, hseal]

@[simp] theorem State.w1Start_fate (start : Nat) (s : State) : (s.w1Start start).fate = s.fate := by
  simp [State.w1Start, State.sendFrame]

@[simp] theorem State.w1Send_fate (absent : Bool) (old s : State) : (State.w1Send absent old s).fate = s.fate := by
  unfold State.w1Send
  dsimp only
  (repeat' split) <;> simp [State.sendFrame]

@[simp] theorem State.deferredPin_fate (s : State) : s.deferredPin.fate = s.fate := by
  simp [State.deferredPin]

@[simp] theorem State.handoverTick_fate (s : State) : s.handoverTick.fate = s.fate := by
  unfold State.handoverTick
  split <;> simp

@[simp] theorem State.latchNote_fate (old : Hat) (s : State) : (s.latchNote old).fate = s.fate := by
  simp [State.latchNote]

@[simp] theorem State.latchRole_fate (s : State) : s.latchRole.fate = s.fate := by
  have hpair (n : Nat) (p : Pair) : ({ s.setRole n with pair := p } : State).fate = s.fate := s.setRole_fate n
  simp only [State.latchRole, State.ite_fate, State.takeRole_fate, hpair, ite_self]

@[simp] theorem State.race_fate (s : State) : s.race.fate = s.fate := by
  have hlower (t : State) : t.enableLower.fate = t.fate := rfl
  unfold State.race
  split <;> simp [hlower]

@[simp] theorem State.hatTick_fate (x : TickIn) (s : State) : (s.hatTick x).fate = s.fate := by
  have henable (t : State) : t.enableStep.fate = t.fate := rfl
  have hhat (t : State) (n : Hat) : ({ t with hat := n } : State).fate = t.fate := rfl
  simp only [State.hatTick, State.ite_fate, State.race_fate, henable, State.latchRole_fate, State.latchNote_fate, hhat, State.handoverTick_fate,
    State.pin_fate, ite_self]

/-- The start of a tick counts a tick of an unhealthy or leaving engine, and changes nothing else that its reset reads. -/
theorem State.tickStart_fate (x : TickIn) (s : State) :
    (s.tickStart x).fate = { s.fate with sick := s.life.sickTicks.map (· + 1) } := by
  have hsick (t : State) : t.sickTick.fate = { t.fate with sick := t.fate.sick.map (· + 1) } := rfl
  have hstart (t u : State) (o b) : ({ t with out := o, sca := { u.sca with button := x.button }, store := b } : State).fate =
      { t.fate with debug := u.fate.debug } := rfl
  simp only [State.tickStart, State.hatTick_fate, State.deferredPin_fate, hsick, State.w1Send_fate, hstart, State.advance_fate,
    State.fillBanks_fate]
  rfl

/-- A tick start that finds the reset due comes to the reset (R43, R45). -/
theorem State.tick_of_resetDue {s : State} (x : TickIn) (hrun : s.tsu.run = true) (hfail : s.psu.failed = false)
    (hdue : (s.tickStart x).resetDue = true) : s.tick x = (s.tickStart x).resetHealth := by
  have hfailed : (s.tickStart x).psu.failed = false := (congrArg Fate.failed (s.tickStart_fate x)).trans hfail
  simp [State.tick, hrun, State.flushed, hfailed, hdue, State.resetIfDue]

/-- The cause under which an unhealthy or leaving engine resets (R45, R513). -/
theorem State.resetHealth_resetCause (s : State) : s.resetHealth.life.resetCause =
    if s.fate.debug then 0x10008 else if s.fate.leaving then s.fate.resetCause else s.fate.cause := rfl

/-- Settles O19: the count of its ticks makes the reset due, and the reset leaves what `resetEngine` leaves. -/
theorem unhealthyEngineResetsInTime : Obligations.UnhealthyEngineResetsInTime := by
  unfold Obligations.UnhealthyEngineResetsInTime
  intro s x n hrun hsick hn hfail
  have hfate := s.tickStart_fate x
  have hsick' : (s.tickStart x).life.sickTicks = some (n + 1) := (congrArg Fate.sick hfate).trans (by rw [hsick]; rfl)
  have hfailed : (s.tickStart x).psu.failed = false := (congrArg Fate.failed hfate).trans hfail
  have hdue : (s.tickStart x).resetDue = true := by
    simp only [State.resetDue, hsick', hfailed, Bool.not_false, Bool.true_and, Bool.or_eq_true, decide_eq_true_eq]
    exact Or.inl (by omega)
  have hexec : exec (.tick x) s = .next ((s.tickStart x).resetHealth) := congrArg Host.Outcome.next (State.tick_of_resetDue x hrun hfail hdue)
  refine ⟨_, hexec, rfl, rfl, rfl, rfl, rfl, fun o ho => ?_, rfl, congrArg Fate.pending hfate, ?_⟩
  · rw [List.eq_of_mem_replicate ho]
  · rw [State.resetHealth_resetCause, hfate]
    rfl

end Sys2Proof.Machine
end

section
/-! SUPPORT. O22 and O26: the directory of the Block store, and what its writers leave in the four slots. -/

namespace Sys2Proof

/-! ### The directory -/

theorem DirCopy.sealed_ok (d : DirCopy) : d.sealed.ok = true := by
  have hbytes : d.sealed.bytes = d.bytes := rfl
  rw [DirCopy.ok, hbytes]
  exact beq_self_eq_true _

/-- Where copy A is not the directory, B has no higher sequence number than the directory. -/
theorem Store.dirB_seq_le {x : Store} (hA : ¬ (x.dirA.ok && x.dir == x.dirA) = true) (hB : x.dirB.ok = true) : x.dirB.seq ≤ x.dir.seq := by
  cases ha : x.dirA.ok with
  | false => simp [Store.dir, ha, hB]
  | true =>
    by_cases hlt : x.dirA.seq < x.dirB.seq
    · simp [Store.dir, ha, hB, hlt]
    · simp [Store.dir, ha, hB, hlt] at hA

/-- The copy that is written is the directory from then on: its CRC is correct, and it has the higher sequence number. -/
theorem Store.writeDir_dir (d : DirCopy) (x : Store) : (x.writeDir d).dir = ({ d with seq := x.dir.seq + 1 } : DirCopy).sealed := by
  have hok := ({ d with seq := x.dir.seq + 1 } : DirCopy).sealed_ok
  have hseq : (({ d with seq := x.dir.seq + 1 } : DirCopy).sealed).seq = x.dir.seq + 1 := rfl
  unfold Store.writeDir
  generalize ({ d with seq := x.dir.seq + 1 } : DirCopy).sealed = n at hok hseq ⊢
  dsimp only
  split
  · next hA =>
    obtain ⟨ha, hdir⟩ := Bool.and_eq_true_iff.mp hA
    have hlt : x.dirA.seq < n.seq := by
      rw [hseq, eq_of_beq hdir]
      exact Nat.lt_add_one _
    simp [Store.dir, ha, hok, hlt]
  · next hA =>
    cases hB : x.dirB.ok with
    | false => simp [Store.dir, hok, hB]
    | true =>
      have hle := Store.dirB_seq_le hA hB
      have hnot : ¬ n.seq < x.dirB.seq := by omega
      simp [Store.dir, hok, hB, hnot]

@[simp] theorem Store.writeDir_dir_cur (d : DirCopy) (x : Store) : (x.writeDir d).dir.cur = d.cur := by rw [Store.writeDir_dir]; rfl
@[simp] theorem Store.writeDir_dir_prev (d : DirCopy) (x : Store) : (x.writeDir d).dir.prev = d.prev := by rw [Store.writeDir_dir]; rfl
@[simp] theorem Store.writeDir_conv (d : DirCopy) (x : Store) : (x.writeDir d).conv = (d.convCur.isSome || d.convPrev.isSome) := by
  rw [Store.conv, Store.writeDir_dir]
  rfl

@[simp] theorem Store.writeDir_slots (d : DirCopy) (x : Store) : (x.writeDir d).slots = x.slots := by
  unfold Store.writeDir
  dsimp only
  split <;> rfl

/-! ### Its writers -/

theorem Store.slot_congr {x y : Store} (h : x.slots = y.slots) (k : Option (Fin 4)) : x.slot k = y.slot k := by
  cases k with
  | none => rfl
  | some k => exact congrArg (fun l => l.get k) h

@[simp] theorem Store.writeDir_slot (d : DirCopy) (x : Store) (k : Option (Fin 4)) : (x.writeDir d).slot k = x.slot k :=
  Store.slot_congr (x.writeDir_slots d) k

/-- A directory of two slots alone is what a restart takes. -/
theorem Store.writeDir_bootAt {d : DirCopy} (hcur : d.convCur = none) (hprev : d.convPrev = none) (x : Store) :
    (x.writeDir d).bootAt = d.cur ∧ (x.writeDir d).bootPrevAt = d.prev := by
  simp [Store.bootAt, Store.bootPrevAt, hcur, hprev]

/-- The confirmation keeps the Blocks, without conversion, and a reset then keeps them too (R507). -/
theorem Store.confirm_keeps (x : Store) : x.confirm.cur = x.cur ∧ x.confirm.prev = x.prev ∧ x.confirm.conv = false ∧
    x.confirm.afterReset.cur = x.cur ∧ x.confirm.afterReset.prev = x.prev := by
  obtain ⟨hat, hprevAt⟩ := Store.writeDir_bootAt (d := { cur := x.curAt, prev := x.prevAt }) rfl rfl x
  have hslot (k : Option (Fin 4)) : x.confirm.slot k = x.slot k := x.writeDir_slot _ k
  have hreset (k : Option (Fin 4)) : x.confirm.afterReset.slot k = x.slot k := hslot k
  have hcur : x.confirm.curAt = x.curAt := by
    unfold Store.confirm Store.writeDir
    dsimp only
    split <;> rfl
  have hprev : x.confirm.prevAt = x.prevAt := by
    unfold Store.confirm Store.writeDir
    dsimp only
    split <;> rfl
  refine ⟨?_, ?_, x.writeDir_conv _, ?_, ?_⟩
  · rw [Store.cur, hslot, hcur]
    rfl
  · rw [Store.prev, hslot, hprev]
    rfl
  · exact congrArg StoreSlot.blk ((congrArg x.confirm.afterReset.slot hat).trans (hreset _))
  · exact congrArg StoreSlot.blk ((congrArg x.confirm.afterReset.slot hprevAt).trans (hreset _))

/-- A fall-back takes the slots of the two roles again, and so does the reset that follows it (R508, R509). -/
theorem Store.giveUp_cur (x : Store) : x.giveUp.cur = (x.slot x.dir.cur).blk :=
  congrArg StoreSlot.blk (x.writeDir_slot _ _)

theorem Store.giveUp_prev (x : Store) : x.giveUp.prev = (x.slot x.dir.prev).blk :=
  congrArg StoreSlot.blk (x.writeDir_slot _ _)

theorem Store.giveUp_afterReset (x : Store) : x.giveUp.afterReset.cur = (x.slot x.dir.cur).blk ∧
    x.giveUp.afterReset.prev = (x.slot x.dir.prev).blk ∧ x.giveUp.afterReset.conv = false := by
  obtain ⟨hat, hprevAt⟩ := Store.writeDir_bootAt (d := { cur := x.dir.cur, prev := x.dir.prev }) rfl rfl x
  have hslot (k : Option (Fin 4)) : x.giveUp.afterReset.slot k = x.slot k := x.writeDir_slot _ k
  exact ⟨congrArg StoreSlot.blk ((congrArg x.giveUp.afterReset.slot hat).trans (hslot _)),
    congrArg StoreSlot.blk ((congrArg x.giveUp.afterReset.slot hprevAt).trans (hslot _)), x.writeDir_conv _⟩

/-- The two slots that a conversion takes hold neither Block and differ (R509). -/
theorem convert_slots_free : ∀ c p : Option (Fin 4),
    let fr := (List.finRange 4).filter (fun k => c != some k && p != some k)
    c ≠ some (fr.headD 0) ∧ p ≠ some (fr.headD 0) ∧ c ≠ some ((fr.drop 1).headD 1) ∧ p ≠ some ((fr.drop 1).headD 1) ∧
      fr.headD 0 ≠ (fr.drop 1).headD 1 := by
  decide

/-- Writing one free slot and another leaves a slot that is neither. -/
theorem Store.slot_put_of_ne {j k : Option (Fin 4)} (h : j = none ∨ j ≠ k) (y : StoreSlot) (x : Store) : (x.put k y).slot j = x.slot j := by
  cases k with
  | none => rfl
  | some k =>
    cases j with
    | none => rfl
    | some j => exact x.slot_put_ne (fun e => by simp [e] at h) y

/-- What a conversion writes (R509): two slots that hold neither Block, and a directory that names all four. -/
theorem Store.convert_shape (f : Block → Block) (x : Store) : ∃ (a b : Fin 4) (y z : StoreSlot),
    (x.curAt ≠ some a ∧ x.prevAt ≠ some a ∧ x.curAt ≠ some b ∧ x.prevAt ≠ some b ∧ a ≠ b) ∧ y.blk = x.cur.map f ∧ z.blk = x.prev.map f ∧
    (∀ k, (x.convert f).slot k = ((x.put (x.curAt.map fun _ => a) y).put (x.prevAt.map fun _ => b) z).slot k) ∧
    (x.convert f).curAt = x.curAt.map (fun _ => a) ∧ (x.convert f).prevAt = x.prevAt.map (fun _ => b) ∧
    (x.convert f).dir.cur = x.curAt ∧ (x.convert f).dir.prev = x.prevAt :=
  ⟨_, _, _, { blk := (x.slot x.prevAt).blk.map f }, convert_slots_free x.curAt x.prevAt, rfl, rfl, fun k => Store.writeDir_slot _ _ k, rfl, rfl,
    Store.writeDir_dir_cur _ _, Store.writeDir_dir_prev _ _⟩

/-- An update boot takes the Blocks it found converted, and the old ones stay for a fall-back (R509). -/
theorem Store.convert_blocks (f : Block → Block) (x : Store) : (x.convert f).cur = x.cur.map f ∧ (x.convert f).prev = x.prev.map f ∧
    (x.convert f).giveUp.cur = x.cur ∧ (x.convert f).giveUp.prev = x.prev := by
  obtain ⟨a, b, y, z, ⟨hca, hpa, hcb, hpb, hab⟩, hy, hz, hslot, hcur, hprev, hdcur, hdprev⟩ := x.convert_shape f
  have hold {k : Option (Fin 4)} (ha : k ≠ some a) (hb : k ≠ some b) : (x.convert f).slot k = x.slot k := by
    have hmap (o : Option (Fin 4)) {c : Fin 4} (hc : k ≠ some c) : k = none ∨ k ≠ o.map (fun _ => c) := by
      cases o with
      | none => cases k <;> simp
      | some _ => exact .inr hc
    rw [hslot, Store.slot_put_of_ne (hmap _ hb), Store.slot_put_of_ne (hmap _ ha)]
  refine ⟨?_, ?_, ?_, ?_⟩
  · rw [Store.cur, hcur, hslot]
    cases hc : x.curAt with
    | none => simp [Store.slot, Store.cur, hc]
    | some c =>
      have hne : some a ≠ x.prevAt.map (fun _ => b) := by cases x.prevAt <;> simp [hab]
      rw [Option.map_some, Store.slot_put_of_ne (.inr hne), Store.slot_put, hy]
  · rw [Store.prev, hprev, hslot]
    cases hp : x.prevAt with
    | none => simp [Store.slot, Store.prev, hp]
    | some c => rw [Option.map_some, Store.slot_put, hz]
  · rw [Store.giveUp_cur, hdcur, hold hca hcb]
    rfl
  · rw [Store.giveUp_prev, hdprev, hold hpa hpb]
    rfl

end Sys2Proof

namespace Sys2Proof.Machine

/-! ### O22 -/

theorem firstNz_pair (a b : Nat) : firstNz [a, b] = if a ≠ 0 then a else b := by
  by_cases ha : a = 0 <;> by_cases hb : b = 0 <;> simp [firstNz, ha, hb]

/-- A boot of a staged package that no power loss cuts runs the new image or fails with the first step that failed (R504). -/
theorem State.updateBoot_of_staged {s : State} {p : Package} {x : BootTry} (hp : s.upd.pkg = some p) (hoff : s.life.booted = false)
    (hstage : s.upd.stage = 3) (hcut : x.cut = false) {fail : Nat}
    (hfail : (if s.loaderFail x p ≠ 0 then s.loaderFail x p else s.imageFail x p) = fail) :
    s.updateBoot x = if fail = 0 then s.updateBooted p ((x.image.map (fun i => i.2.1)).getD []) else s.updateFailed fail p := by
  rw [← firstNz_pair] at hfail
  simp only [State.updateBoot, hp, hoff, hstage, hcut, hfail]
  cases fail <;> simp

/-- Settles O22: by whether the boot fails, is cut, or has no package. -/
theorem updateBootSwitchesImage : Obligations.UpdateBootSwitchesImage := by
  unfold Obligations.UpdateBootSwitchesImage
  refine ⟨fun s p x hp hoff hstage hcut => ?_, fun s p x => ⟨fun hnone => ?_, fun d hd => ⟨fun hnone => ?_, fun h k g himage => ?_⟩⟩,
    fun s p x hp hoff hstage hcut => ⟨fun hfirst => ?_, fun hsecond => ?_⟩, fun _ _ _ => rfl, fun s x hnone => ?_⟩
  · intro fail by_
    have hboot := State.updateBoot_of_staged hp hoff hstage hcut (fail := fail) rfl
    refine ⟨fun hzero => ⟨_, rfl, ?_⟩, fun hne => ⟨_, rfl, ?_⟩⟩
    · rw [hboot, if_pos hzero]
      obtain ⟨hcur, hprev, hback, hbackPrev⟩ := s.store.convert_blocks (convertBlock p.toVer by_)
      exact ⟨rfl, rfl, rfl, rfl, rfl, rfl, rfl, rfl, hcur, hprev, hback, hbackPrev⟩
    · rw [hboot, if_neg hne]
      exact ⟨rfl, rfl, rfl, rfl, rfl, rfl, rfl, rfl⟩
  · simp [State.loaderFail, hnone]
  · simp [State.loaderFail, hd, hnone]
  · simp [State.loaderFail, hd, himage]
  · refine congrArg Host.Outcome.next (?_ : s.updateBoot x = _)
    simp [State.updateBoot, hp, hoff, hstage, hcut, hfirst]
  · have hboot : s.updateBoot x = s.updateFailed 2 p := by simp [State.updateBoot, hp, hoff, hstage, hcut, hsecond]
    exact ⟨_, congrArg Host.Outcome.next hboot, rfl, rfl, rfl, rfl⟩
  · refine congrArg Host.Outcome.next (?_ : s.updateBoot x = _)
    simp [State.updateBoot, hnone]

end Sys2Proof.Machine
end

section
/-! SUPPORT. O23 to O26: health, supply, the sealed area, confirmation and fall-back. -/

namespace Sys2Proof.Machine

/-! ### O23 -/

/-- A healthy engine becomes unhealthy from the state without the tick's grant (R44, R46). -/
theorem State.unhealthy_of_healthy {s : State} (h : s.life.healthy = true) (cause : Nat) : s.unhealthy cause =
    { s.undoGrant with
      life := { s.undoGrant.life with healthy := false, cause := cause, prevCause := false, sickTicks := some (s.undoGrant.life.sickTicks.getD 0) }
      hat := { s.undoGrant.hat with taken := s.undoGrant.life.sickTicks.isSome && s.undoGrant.hat.taken }
      evr := { s.undoGrant.evr with localEv := s.undoGrant.evr.localEv ++ [{ kind := 0x32, subject := cause }] } } := by
  simp [State.unhealthy, h]

theorem State.undoGrant_of_none {s : State} (h : s.hat.was = none) : s.undoGrant = s := by
  simp [State.undoGrant, h]

/-- What a grant that is taken back leaves (R46). -/
theorem State.undoGrant_of_some {s : State} {r : Nat} (h : s.hat.was = some r) :
    s.undoGrant = { s with life := s.undoGrant.life, hat := s.undoGrant.hat, pair := s.undoGrant.pair, fio := s.undoGrant.fio, evr := s.undoGrant.evr } ∧
    s.undoGrant.life = { s.life with role := r } ∧ s.undoGrant.hat.latch = false ∧ s.undoGrant.hat.granted = false ∧
    s.undoGrant.fio = setEnable false s.fio := by
  have hfio (ploop : Bool) : (false && !ploop) = false := rfl
  simp [State.undoGrant, h, State.enableStep, Hat.enable]

/-- Output enable that is cleared turns its switches off (R335). -/
theorem setEnable_false_outs (f : Fio) : ∀ o ∈ (setEnable false f).outs, o.sw = true → f.en = false := by
  intro o ho hon
  cases hen : f.en with
  | false => rfl
  | true =>
    have hoff := setEnable_off (v := false) (f := f) (by simp [hen]) (setEnable_en _ _) o ho
    exact absurd hon (by simp [hoff])

theorem exec_engineUnhealthy {cause : Nat} (h1 : 1 ≤ cause) (h8 : cause ≤ 8) (s : State) :
    exec (.engineUnhealthy cause) s = .next (s.unhealthy cause) :=
  congrArg Host.Outcome.next (if_pos ⟨h1, h8⟩)

/-- The frames that an error leaves missing (R425). -/
theorem mem_dropFrames_gone (k n : Nat) (r : DrcRec) (i : Nat) :
    i ∈ (dropFrames k n r).gone ↔ i ∈ r.gone ∨ (k ≤ i ∧ i < k + n ∧ i < r.frames.length) := by
  simp only [dropFrames, List.mem_append, List.mem_filterMap, List.mem_range]
  constructor
  · rintro (hold | ⟨j, hj, hij⟩)
    · exact .inl hold
    · split at hij
      · next hnew =>
        obtain rfl := Option.some.inj hij
        simp only [Bool.and_eq_true, decide_eq_true_eq] at hnew
        exact .inr ⟨by omega, by omega, hnew.1⟩
      · exact nomatch hij
  · rintro (hold | ⟨hlow, hhigh, hlen⟩)
    · exact .inl hold
    · by_cases hgone : i ∈ r.gone
      · exact .inl hgone
      · refine .inr ⟨i - k, by omega, ?_⟩
        have hik : k + (i - k) = i := by omega
        simp [hik, hlen, hgone]

/-- Settles O23: by the row, and for ENGINE_UNHEALTHY by whether the engine is healthy and the tick has a grant to take back. -/
theorem healthCausesTakeEffect : Obligations.HealthCausesTakeEffect := by
  unfold Obligations.HealthCausesTakeEffect
  refine ⟨fun s cause r h1 h8 hok hwas => ?_, fun s cause h1 h8 hok hwas => ?_, fun s cause hsick => ?_, fun s => ⟨rfl, rfl, rfl, fun n i => rfl,
    fun n i => rfl, fun no k n => ⟨_, rfl, fun r => ⟨rfl, mem_dropFrames_gone k n r⟩⟩, fun i => rfl⟩, fun s pos => rfl, fun s m => rfl, fun s => ⟨fun hnot => ?_, fun hdue => ?_⟩⟩
  · obtain ⟨hframe, hlife, hlatch, hgranted, hfio⟩ := State.undoGrant_of_some hwas
    rw [exec_engineUnhealthy h1 h8, State.unhealthy_of_healthy hok]
    refine ⟨_, rfl, ?_, ?_, hlatch, hgranted, ?_, ?_⟩
    · dsimp only
      rw [hlife]
    · dsimp only
      rw [hframe]
    · dsimp only
      rw [hfio, setEnable_en]
    · dsimp only
      rw [hfio]
      exact setEnable_false_outs s.fio
  · rw [exec_engineUnhealthy h1 h8, State.unhealthy_of_healthy hok, State.undoGrant_of_none hwas]
  · refine congrArg Host.Outcome.next (?_ : (if 1 ≤ cause ∧ cause ≤ 8 then s.unhealthy cause else s) = s)
    rw [State.unhealthy_of_sick hsick, ite_self]
  · refine congrArg Host.Outcome.next (?_ : s.resetIfDue = s)
    simp [State.resetIfDue, hnot]
  · refine congrArg Host.Outcome.next (?_ : s.resetIfDue = _)
    simp [State.resetIfDue, hdue, State.resetHealth]

/-! ### O24 -/

/-- Settles O24: by the row. -/
theorem supplyEventsTakeEffect : Obligations.SupplyEventsTakeEffect := by
  unfold Obligations.SupplyEventsTakeEffect
  refine ⟨fun s hon hok => ?_, fun s => ⟨rfl, rfl, rfl, rfl⟩, fun s n hn => ?_, fun s n hn => ?_, fun s mv => rfl⟩
  · refine congrArg Host.Outcome.next (?_ : s.supplyFailure = _)
    simp [State.supplyFailure, hon, hok]
  · refine congrArg Host.Outcome.next
      (?_ : ({ s with evr := if 161 ≤ s.evr.failTicks.getD 0 then evrStop s.tsu.id s.logic.ltc s.evr else s.evr } : State) = _)
    rw [hn, Option.getD_some]
    split <;> rfl
  · refine congrArg Host.Outcome.next (?_ : ({ s with drc := powerfailGo s.drc } : State) = _)
    unfold powerfailGo
    rw [hn]
    by_cases h96 : n = 96
    · simp [h96]
    · simp [h96]

/-! ### O25 -/

theorem State.unhealthy_healthy (cause : Nat) (s : State) : (s.unhealthy cause).life.healthy = false := by
  cases hok : s.life.healthy with
  | false => rw [State.unhealthy_of_sick hok, hok]
  | true => rw [State.unhealthy_of_healthy hok]

/-- What a cause of ill health may change (R44, R46). -/
theorem State.unhealthy_frame (cause : Nat) (s : State) : s.unhealthy cause = { s with
    life := (s.unhealthy cause).life, hat := (s.unhealthy cause).hat, pair := (s.unhealthy cause).pair, fio := (s.unhealthy cause).fio
    evr := (s.unhealthy cause).evr } := by
  cases hok : s.life.healthy with
  | false => rw [State.unhealthy_of_sick hok]
  | true =>
    rw [State.unhealthy_of_healthy hok]
    cases hwas : s.hat.was with
    | none => rw [State.undoGrant_of_none hwas]
    | some r =>
      dsimp only
      rw [(State.undoGrant_of_some hwas).1]

/-- Settles O25: by the row. -/
theorem sealedAreaIsZeroised : Obligations.SealedAreaIsZeroised := by
  unfold Obligations.SealedAreaIsZeroised
  refine ⟨fun s => ⟨_, rfl, rfl, rfl, rfl, rfl, rfl, rfl, rfl, rfl, s.unhealthy_healthy _, rfl, ?_, fun hok hwas => ?_, fun hsick => ?_⟩,
    fun s hon hkey =>
      ⟨{ s with sca := { dropKeys s.sca with debug := true }, svc := { s.svc with sessions := [] } }, ?_, rfl, rfl, rfl, rfl, rfl, rfl⟩,
    fun s => ⟨rfl, fun hgone => ?_⟩, fun s ms hms hok => ?_, fun s g ms hnot => ?_⟩
  · unfold State.tamperGo
    dsimp only
    rw [State.unhealthy_frame]
  · unfold State.tamperGo
    dsimp only
    rw [State.unhealthy_of_healthy hok, State.undoGrant_of_none hwas]
    exact ⟨rfl, rfl, rfl⟩
  · unfold State.tamperGo
    dsimp only
    rw [State.unhealthy_of_sick hsick]
    exact ⟨rfl, rfl, rfl, rfl⟩
  · refine congrArg Host.Outcome.next (if_pos ?_)
    simpa [hon] using hkey
  · refine congrArg Host.Outcome.next (if_neg ?_)
    simp [hgone]
  · refine ⟨s.factoryErase, congrArg Host.Outcome.next (if_pos ?_), rfl, rfl, rfl, rfl, rfl, rfl, rfl, rfl, rfl, ?_⟩
    · simp [hms, hok]
    · exact (evrAfterReset_lastSeq _).trans (evrStop_lastSeq _ _ _)
  · refine congrArg Host.Outcome.next (if_neg ?_)
    obtain rfl | hshort | hfailed := hnot
    · simp
    · simp [hshort]
    · simp [hfailed]

/-! ### O26 -/

/-- Settles O26: by the row, with what the Block store makes of a confirmation and a fall-back. -/
theorem firmwareConfirmsOrFallsBack : Obligations.FirmwareConfirmsOrFallsBack := by
  unfold Obligations.FirmwareConfirmsOrFallsBack
  have hfall {s : State} (hend : s.windowEnded = true) (hrole : s.life.role ≠ 1) : exec .firmwareFallback s = .next s.fallBack := by
    refine congrArg Host.Outcome.next (?_ : s.firmwareFallback = _)
    simp [State.firmwareFallback, hend, hrole]
  refine ⟨fun s hdue => ?_, Store.confirm_keeps, fun s hnot => ?_, fun s hend hrole => ?_, fun s hend hrole => ?_, fun s => ?_, fun s => hfall, fun s hnot => ?_⟩
  · refine congrArg Host.Outcome.next (?_ : s.firmwareConfirm = _)
    simp [State.firmwareConfirm, hdue]
  · refine congrArg Host.Outcome.next (?_ : s.firmwareConfirm = _)
    simp [State.firmwareConfirm, hnot]
  · refine congrArg Host.Outcome.next (?_ : s.firmwareFallback = _)
    simp [State.firmwareFallback, hend, hrole]
  · obtain ⟨hcur, hprev, hconv⟩ := s.store.giveUp_afterReset
    exact ⟨s.fallBack, hfall hend hrole, rfl, rfl, rfl, rfl, hcur, hprev, hconv, rfl, rfl, rfl⟩
  · simp [State.fallDue, and_assoc]
  · refine congrArg Host.Outcome.next (?_ : s.firmwareFallback = _)
    simp [State.firmwareFallback, hnot]

end Sys2Proof.Machine
end

section
/-! SUPPORT. O21: the parts of a start, one after the other. -/

namespace Sys2Proof.Machine

/-- A start that no power loss cuts runs through (R41, R504). -/
theorem State.powerUp_eq (strap : BitVec 2) (sec mv : Nat) (ok self : Bool) {x : BootTry} {s : State}
    (hx : x.cut = false ∨ s.upd.stage ≠ 3 ∨ s.upd.pkg = none) :
    s.powerUp strap sec ok self mv x = (((s.powerOff.updateBoot x).startUp strap sec ok self mv).startRecords).startBlock := by
  have hdone := State.updateBoot_done (x := x) s.powerOff_booted (by simpa using hx)
  simp only [State.powerUp, Bool.and_eq_true, decide_eq_true_eq, hdone, if_false]

/-! ### What the parts leave -/

/-- The sealed area after a power-off and an update boot: debug access has ended with a reset (R513). -/
theorem State.updateBoot_sca (x : BootTry) (s : State) : (s.updateBoot x).sca = s.sca := by
  unfold State.updateBoot
  (repeat' split) <;> rfl

theorem State.updateBoot_pending (x : BootTry) (s : State) : (s.updateBoot x).pending = s.pending := by
  unfold State.updateBoot
  (repeat' split) <;> rfl

theorem State.updateBoot_role (x : BootTry) (s : State) : (s.updateBoot x).life.role = s.life.role := by
  unfold State.updateBoot
  (repeat' split) <;> rfl

theorem State.powerOff_pending (s : State) : s.powerOff.pending = s.pending := by
  unfold State.powerOff
  split <;> rfl

theorem State.powerOff_sca (s : State) : ∃ d, s.powerOff.sca = { s.sca with debug := d } := by
  unfold State.powerOff
  split
  · exact ⟨false, rfl⟩
  · exact ⟨s.sca.debug, rfl⟩

/-- A store without a current Block has none after an update boot either (R509). -/
theorem State.updateBoot_cur {x : BootTry} {s : State} (h : s.store.cur = none) : (s.updateBoot x).store.cur = none := by
  unfold State.updateBoot
  split
  · exact h
  · next p _ =>
    repeat' split
    case h_1 => exact ((s.store.convert_blocks _).1).trans (by rw [h]; rfl)
    all_goals exact h

/-- The event recorder copies its tombstones at a start and drops nothing that waits (R487). -/
theorem mem_evrPowerUp {r : EvRec} {e : Evr} (h : r ∈ e.localEv) : r ∈ (evrPowerUp e).localEv := by
  unfold evrPowerUp
  split
  · exact h
  · exact List.mem_append_left _ h

@[simp] theorem State.takeRole_sca (s : State) : s.takeRole.sca = s.sca := by
  obtain h | h | h | h | h := s.takeRole_cases <;> simp [h]

/-- The Block's part of a start leaves the sealed area, the queue, the open port and what waits for the event recorder (R41). -/
theorem State.startBlock_frame (s : State) : s.startBlock.sca = s.sca ∧ s.startBlock.pending = s.pending ∧ s.startBlock.hpi.magic = s.hpi.magic ∧
    ∀ r ∈ s.evr.localEv, r ∈ s.startBlock.evr.localEv := by
  have hrole (n : Nat) (t : State) : (t.setRole n).sca = t.sca ∧ (t.setRole n).pending = t.pending ∧ (t.setRole n).hpi.magic = t.hpi.magic ∧
      ∀ r ∈ t.evr.localEv, r ∈ (t.setRole n).evr.localEv := by
    obtain ⟨-, h⟩ | ⟨-, h⟩ := t.setRole_cases n <;> rw [h]
    · exact ⟨rfl, rfl, rfl, fun r hr => hr⟩
    · exact ⟨rfl, rfl, rfl, fun r hr => List.mem_append_left _ hr⟩
  have htake (t : State) : t.takeRole.sca = t.sca ∧ t.takeRole.pending = t.pending ∧ t.takeRole.hpi.magic = t.hpi.magic ∧
      ∀ r ∈ t.evr.localEv, r ∈ t.takeRole.evr.localEv := by
    obtain h | h | h | h | h := t.takeRole_cases <;> rw [h]
    · exact ⟨rfl, rfl, rfl, fun r hr => hr⟩
    all_goals exact hrole _ t
  unfold State.startBlock
  split
  · exact ⟨rfl, rfl, rfl, fun r hr => hr⟩
  · split
    · exact htake _
    · exact ⟨rfl, rfl, rfl, fun r hr => hr⟩

theorem State.takeRole_of_unfit {s : State} (h : s.fit = false) : s.takeRole = s := by
  simp [State.takeRole, h]

/-- An unsound engine, and one without a Block, starts no role (R41). -/
theorem State.startBlock_role {s : State} (h : s.life.healthy = false ∨ s.store.cur = none) : s.startBlock.life.role = s.life.role := by
  unfold State.startBlock
  split
  · rfl
  · next b hb =>
    split
    · obtain hsick | hnone := h
      · rw [State.takeRole_of_unfit]
        · rfl
        · simp [State.fit, State.activate, hsick]
      · simp [hb] at hnone
    · rfl

/-- Settles O21: the parts of the start, one after the other. -/
theorem powerUpStarts : Obligations.PowerUpStarts := by
  unfold Obligations.PowerUpStarts
  intro s strap sec mv ok self x hx
  refine ⟨_, congrArg Host.Outcome.next (State.powerUp_eq strap sec mv ok self hx), ?_⟩
  have husca : ∃ d, (s.powerOff.updateBoot x).sca = { s.sca with debug := d } :=
    s.powerOff_sca.imp fun d hd => (State.updateBoot_sca x _).trans hd
  have hupending : (s.powerOff.updateBoot x).pending = s.pending := (State.updateBoot_pending x _).trans s.powerOff_pending
  have hurole (hon : s.life.booted = true) : (s.powerOff.updateBoot x).life.role = 0 := by
    rw [State.updateBoot_role]
    unfold State.powerOff
    rw [if_pos hon]
    rfl
  have hucur (hon : s.life.booted = true) (hnone : (s.store.slot s.store.bootAt).blk = none) : (s.powerOff.updateBoot x).store.cur = none := by
    refine State.updateBoot_cur ?_
    unfold State.powerOff
    rw [if_pos hon]
    exact hnone
  generalize s.powerOff.updateBoot x = u at husca hupending hurole hucur
  obtain ⟨d, hsca⟩ := husca
  obtain ⟨hframe, hpending, hmagic, hrecs⟩ := ((u.startUp strap sec ok self mv).startRecords).startBlock_frame
  obtain ⟨n, b, hlife⟩ := ((u.startUp strap sec ok self mv).startRecords).startBlock_life
  have hrole := State.startBlock_role (s := (u.startUp strap sec ok self mv).startRecords)
  generalize ((u.startUp strap sec ok self mv).startRecords).startBlock = t at hframe hpending hmagic hrecs hlife hrole
  have hkey : t.sca = { firstKey (if ok then u.sca else zeroise u.sca) with
    gen := (firstKey (if ok then u.sca else zeroise u.sca)).gen + 1, rtc := if ok then sec else 0 } := hframe
  have hstart : t.life = { u.life with
      booted := true, unit := boolNat (strap.getLsbD 0), strapBad := !strap.getLsbD 1, hwBad := decide (u.life.issue < minIssue)
      selfOk := self, healthy := !((firstKey (if ok then u.sca else zeroise u.sca)).tamper || !self), sealBad := !ok
      cause := if (firstKey (if ok then u.sca else zeroise u.sca)).tamper then causeTamper else if self then u.life.cause else causeMp
      prevCause := !((firstKey (if ok then u.sca else zeroise u.sca)).tamper || !self) && u.life.prevCause
      resetCause := if ok then u.life.resetCause else 0x10007, cellLow := decide (mv < 2600), role := n, blockOk := b } := hlife
  have htamper (c : Sca) : (firstKey c).tamper = c.tamper ∧ (firstKey c).gen = c.gen ∧ (firstKey c).keys = c.keys := by
    unfold firstKey
    split <;> exact ⟨rfl, rfl, rfl⟩
  refine ⟨by rw [hstart], by rw [hstart], fun hok htamp hfirst => ?_, hmagic, hpending.trans hupending, ?_, fun hok => ?_, fun hbad => ?_,
    fun hon hwhy => ?_⟩
  · subst hok
    simp [hkey, hsca, firstKey, hfirst, htamp]
  · let r : EvRec := { kind := 0x40, subject := (u.startUp strap sec ok self mv).life.resetCause, value := u.life.lost, arg := u.life.fwVer.setWidth 128 }
    refine ⟨r, hrecs r (mem_evrPowerUp (List.mem_append_left _ (List.mem_append_right _ (List.mem_singleton_self r)))), rfl, ?_⟩
    rw [hlife]
    rfl
  · subst hok
    rw [hkey, hstart]
    have htamp : u.sca.tamper = s.sca.tamper := by rw [hsca]
    refine ⟨congrArg (· + 1) ((htamper u.sca).2.1.trans (by rw [hsca])), (htamper u.sca).2.2.trans (by rw [hsca]), ?_⟩
    change (!((firstKey u.sca).tamper || !self)) = (self && !s.sca.tamper)
    rw [(htamper _).1, htamp, Bool.not_or, Bool.not_not, Bool.and_comm]
  · subst hbad
    rw [hkey, hstart]
    have hzero : firstKey (if (false : Bool) then u.sca else zeroise u.sca) = zeroise u.sca := by simp [firstKey, zeroise]
    rw [hzero]
    exact ⟨rfl, rfl, rfl, rfl, rfl⟩
  · rw [hrole ?_]
    · exact hurole hon
    · obtain hbad | hself | htamp | hnone := hwhy
      · refine .inl ?_
        change (!((firstKey (if ok then u.sca else zeroise u.sca)).tamper || !self)) = false
        simp [(htamper _).1, hbad, zeroise]
      · subst hself
        refine .inl ?_
        change (!((firstKey (if ok then u.sca else zeroise u.sca)).tamper || !false)) = false
        simp
      · refine .inl ?_
        change (!((firstKey (if ok then u.sca else zeroise u.sca)).tamper || !self)) = false
        cases ok <;> simp [(htamper _).1, hsca, htamp, zeroise]
      · exact .inr (hucur hon hnone)

end Sys2Proof.Machine
end

section
/-! SUPPORT. O27 and O28: the clock's registers and its steps. -/

namespace Sys2Proof.Machine

/-! ### The registers (R350, R351) -/

theorem writeInc_of_mem {v : BitVec 64} (hlow : 0x4115AAAAB ≤ v.toNat) (hhigh : v.toNat ≤ 0x411FAAAAB) (n : Nat) (t : Tsu) :
    writeInc v n t = setInc n v.toNat t := by
  have hmod : v.toNat % 2 ^ 40 = v.toNat := Nat.mod_eq_of_lt (by omega)
  have hnom : incNom - incHalf = 0x4115AAAAB ∧ incNom + incHalf = 0x411FAAAAB := by decide
  obtain ⟨-, -, h⟩ | ⟨hout, -⟩ := writeInc_cases v n t
  · rw [h, hmod]
  · rw [hmod, hnom.1, hnom.2] at hout
    exact absurd ⟨hlow, hhigh⟩ hout

theorem writeInc_of_not_mem {v : BitVec 64} (hwidth : v.toNat < 2 ^ 40) (hout : v.toNat < 0x4115AAAAB ∨ 0x411FAAAAB < v.toNat) (n : Nat) (t : Tsu) :
    writeInc v n t = { t with incRej := true } := by
  have hnom : incNom - incHalf = 0x4115AAAAB ∧ incNom + incHalf = 0x411FAAAAB := by decide
  obtain ⟨hlow, hhigh, -⟩ | ⟨-, h⟩ := writeInc_cases v n t
  · rw [Nat.mod_eq_of_lt hwidth, hnom.1] at hlow
    rw [Nat.mod_eq_of_lt hwidth, hnom.2] at hhigh
    omega
  · exact h

theorem writeInc_gen_utcOfs (v : BitVec 64) (n : Nat) (t : Tsu) : (writeInc v n t).gen = t.gen ∧ (writeInc v n t).utcOfs = t.utcOfs := by
  unfold writeInc
  dsimp only
  split <;> exact ⟨rfl, rfl⟩

/-- No register changes the UTC offset. -/
theorem writeTsu_utcOfs (role addr : Nat) (v : BitVec 64) (t : Tsu) : (writeTsu role addr v t).utcOfs = t.utcOfs := by
  unfold writeTsu
  split
  · exact (writeInc_gen_utcOfs v 0 t).2
  · dsimp only
    (repeat' split) <;> rfl

theorem writeTsu_gen (role : Nat) (v : BitVec 64) (t : Tsu) :
    writeTsu role 0x38 v t = if role = 0 || role = 5 then { t with gen := v.setWidth 16 } else t := rfl

/-- A register write, with what the sealed area then holds (R350). -/
theorem exec_registerWrite_tsu (s : State) (a : BitVec 24) (v : BitVec 64) (be : BitVec 4) :
    exec (.registerWrite true a v be) s = .next { s with
      tsu := writeTsu s.life.role a.toNat v s.tsu
      sca := { s.sca with gen := if (writeTsu s.life.role a.toNat v s.tsu).gen = s.tsu.gen then s.sca.gen else (writeTsu s.life.role a.toNat v s.tsu).gen } } := by
  refine congrArg Host.Outcome.next (?_ : ({ s with tsu := writeTsu s.life.role a.toNat v s.tsu } : State).sealTime s.tsu = _)
  unfold State.sealTime
  rw [if_pos (writeTsu_utcOfs s.life.role a.toNat v s.tsu)]

/-- The three words of a latched clock join to it. -/
theorem latched_join {c : Nat} (h : c < 2 ^ 94) : c = ((BitVec.ofNat 64 (c / fracOne / 1000000000)).toNat * 1000000000 +
    (BitVec.ofNat 32 (c / fracOne % 1000000000)).toNat) * 2 ^ 32 + (BitVec.ofNat 32 (c % fracOne)).toNat := by
  simp only [BitVec.toNat_ofNat, fracOne]
  omega

/-- Settles O27: by the row and, for a register write, by the register. -/
theorem clockRegistersTakeEffect : Obligations.ClockRegistersTakeEffect := by
  unfold Obligations.ClockRegistersTakeEffect
  refine ⟨fun s v n hlow hhigh => ?_, fun s v n hwidth hout => ?_, fun s n hn => ⟨_, rfl, rfl, rfl, latched_join hn⟩, fun s => rfl, fun s v => rfl,
    fun s v be => ⟨?_, ?_, ?_, fun hrole => ?_, fun h0 h5 => ?_⟩, fun s a v be => ⟨_, _, exec_registerWrite_tsu s a v be, fun hgen => if_pos hgen⟩⟩
  · refine ⟨{ s with tsu := setInc n v.toNat s.tsu }, ?_, rfl, setInc_frame _ _ _, fun hle => ?_⟩
    · rw [← writeInc_of_mem hlow hhigh]
      rfl
    · exact Nat.sub_add_cancel hle
  · rw [← writeInc_of_not_mem hwidth hout n]
    rfl
  · have hw : writeTsu s.life.role (0x10 : BitVec 24).toNat v s.tsu = writeInc v 0 s.tsu := rfl
    rw [exec_registerWrite_tsu, hw, if_pos (writeInc_gen_utcOfs v 0 s.tsu).1]
    rfl
  · have hw : writeTsu s.life.role (0x20 : BitVec 24).toNat v s.tsu = { s.tsu with stepSec := v.toInt } := rfl
    rw [exec_registerWrite_tsu, hw, if_pos rfl]
  · have hw : writeTsu s.life.role (0x30 : BitVec 24).toNat v s.tsu = { s.tsu with stepAt := v.toNat } := rfl
    rw [exec_registerWrite_tsu, hw, if_pos rfl]
  · have hw : writeTsu s.life.role (0x38 : BitVec 24).toNat v s.tsu = { s.tsu with gen := v.setWidth 16 } :=
      (writeTsu_gen _ _ _).trans (if_pos (by simpa using hrole))
    rw [exec_registerWrite_tsu, hw]
    exact ⟨_, rfl, fun hne => if_neg hne⟩
  · have hw : writeTsu s.life.role (0x38 : BitVec 24).toNat v s.tsu = s.tsu :=
      (writeTsu_gen _ _ _).trans (if_neg (by simp [h0, h5]))
    rw [exec_registerWrite_tsu, hw, if_pos rfl]

/-! ### Steps (R366, R368) -/

/-- A step that leaves the locked state changes what follows from the source, and not the clock (R362). -/
theorem leaveLocked_frame (t : Tsu) : (leaveLocked t).id = t.id ∧ (leaveLocked t).gen = t.gen := by
  unfold leaveLocked
  split <;> exact ⟨rfl, rfl⟩

/-- What a due step makes of the clock, with its one record. -/
theorem applyArmed_of_due {t : Tsu} (h : stepDue t = true) : (applyArmed t).1.clk = ((t.clk : Int) + t.stepNs * 2 ^ 32).toNat ∧
    (applyArmed t).1.gen = t.gen + 1 ∧ (applyArmed t).1.arm = false ∧ (applyArmed t).1.done = true ∧ (applyArmed t).1.stretched = true ∧
    (applyArmed t).1.id = t.id ∧ ∃ r, (applyArmed t).2 = [r] ∧ r.kind = 0x21 := by
  obtain ⟨hid, hgen⟩ := leaveLocked_frame t
  unfold applyArmed
  rw [if_pos h]
  exact ⟨rfl, congrArg (· + 1) hgen, rfl, rfl, rfl, hid, _, rfl, rfl⟩

theorem applyArmed_of_not_due {t : Tsu} (h : stepDue t = false) : applyArmed t = (t, []) := by
  simp [applyArmed, h]

/-- A clock that stands where it stood shifts no elapsed time, and changes nothing that the sealed area holds. -/
theorem State.stepShift_of_eq {s : State} {clk : Nat} (h : s.tsu.clk = clk) : s.stepShift clk = s := by
  simp [State.stepShift, h]

theorem State.stepShift_fields (clk : Nat) (s : State) : (s.stepShift clk).tsu = s.tsu ∧ (s.stepShift clk).evr = s.evr ∧ (s.stepShift clk).sca = s.sca := by
  unfold State.stepShift
  split <;> exact ⟨rfl, rfl, rfl⟩

theorem State.sealTime_same {s : State} {old : Tsu} (hgen : s.tsu.gen = old.gen) (hutc : s.tsu.utcOfs = old.utcOfs) : s.sealTime old = s := by
  unfold State.sealTime
  rw [if_pos hgen, if_pos hutc]

theorem bitVec16_succ_ne (g : BitVec 16) : g + 1 ≠ g := by
  bv_omega

/-- Settles O28: by the row. -/
theorem clockStepsTakeEffect : Obligations.ClockStepsTakeEffect := by
  unfold Obligations.ClockStepsTakeEffect
  refine ⟨fun s hdue => ?_, fun s hnot => ?_, fun s hlock => ?_, fun s hfree => ?_, fun s => ⟨rfl, rfl, rfl⟩, fun s src ofs => rfl, fun s ofs gen => rfl⟩
  · obtain ⟨hclk, hgen, harm, hdone, hstretch, hid, r, hr, hkind⟩ := applyArmed_of_due hdue
    let u : State := { s with tsu := (applyArmed s.tsu).1, evr := { s.evr with localEv := s.evr.localEv ++ (applyArmed s.tsu).2 } }
    obtain ⟨htsu, hevr, hsca⟩ := u.stepShift_fields s.tsu.clk
    have hsealed : ((u.stepShift s.tsu.clk).sealTime s.tsu).sca.gen = s.tsu.gen + 1 := by
      have hnew : (u.stepShift s.tsu.clk).tsu.gen = s.tsu.gen + 1 := (congrArg Tsu.gen htsu).trans hgen
      unfold State.sealTime
      rw [hnew]
      exact if_neg (bitVec16_succ_ne s.tsu.gen)
    have htsu' : ((u.stepShift s.tsu.clk).sealTime s.tsu).tsu = (applyArmed s.tsu).1 := htsu
    have hevr' : ((u.stepShift s.tsu.clk).sealTime s.tsu).evr = { s.evr with localEv := s.evr.localEv ++ (applyArmed s.tsu).2 } := hevr
    refine ⟨(u.stepShift s.tsu.clk).sealTime s.tsu, r, rfl, ?_, ?_⟩
    · rw [htsu', hevr']
    · rw [htsu', hevr', hr]
      exact ⟨hclk, hgen, hsealed, harm, hdone, hstretch, hid, rfl, hkind⟩
  · refine congrArg Host.Outcome.next (?_ : (({ s with
      tsu := (applyArmed s.tsu).1, evr := { s.evr with localEv := s.evr.localEv ++ (applyArmed s.tsu).2 } } : State).stepShift s.tsu.clk).sealTime s.tsu = _)
    rw [applyArmed_of_not_due hnot, State.stepShift_of_eq, State.sealTime_same] <;> rfl
  · refine congrArg (fun c => Host.Outcome.next { s with sca := c }) (if_pos hlock)
  · refine congrArg (fun c => Host.Outcome.next { s with sca := c }) (if_neg hfree)

end Sys2Proof.Machine
end

section
/-! SUPPORT. O29: the delay requests of a send, port after port. -/

namespace Sys2Proof.Machine

/-- The state in which the next event of the clock comes at instant `ns` at `a`. -/
theorem Tsu.note_eventAt {t : Tsu} {ns a : Nat} (h : t.eventAt ns = a) : (t.note ns).eventAt ns = a := by
  subst h
  change max ns (max t.ns (max ns (max t.ns t.seen))) = max ns (max t.ns t.seen)
  omega

/-- One request: the port's stamp, and the instant that has been seen (R352). -/
theorem State.sendEvent_eq {s : State} {ns a : Nat} (h : s.tsu.eventAt ns = a) (p : Nat) (f : Nat → Emit) :
    s.sendEvent p ns f = { s with
      tsu := { s.tsu with seen := a, ports := s.tsu.ports.modify p (fun x => { x with sent := (at! s.tsu.ports p).tx a }) }
      out := s.out ++ [f ((at! s.tsu.ports p).tx a)] } := by
  subst h
  rfl

/-- Requests from distinct ports: each has the stamp of its port at the one instant of the send, which is then seen. -/
theorem State.foldl_sendEvent {ns a : Nat} (f : Nat → Nat → Emit) : ∀ {l : List Nat}, l.Nodup → ∀ {s : State}, s.tsu.eventAt ns = a →
    let t := l.foldl (fun u p => u.sendEvent p ns (f p)) s
    t = { s with tsu := t.tsu, out := t.out } ∧
    t.tsu = { s.tsu with ports := t.tsu.ports, seen := if l = [] then s.tsu.seen else a } ∧
    t.out = s.out ++ l.map (fun p => f p ((at! s.tsu.ports p).tx a)) ∧ t.tsu.ports.length = s.tsu.ports.length ∧
    (∀ p, p ∉ l → at! t.tsu.ports p = at! s.tsu.ports p) ∧
    ∀ p ∈ l, p < s.tsu.ports.length → (at! t.tsu.ports p).sent = (at! s.tsu.ports p).tx a
  | [], _, s, _ => by simp
  | q :: l, hl, s, h => by
    obtain ⟨hq, hl⟩ := List.nodup_cons.mp hl
    have hnext : (s.sendEvent q ns (f q)).tsu.eventAt ns = a := Tsu.note_eventAt h
    obtain ⟨hframe, htsu, hout, hlen, hother, hsent⟩ := State.foldl_sendEvent f hl hnext
    rw [State.sendEvent_eq h] at hframe htsu hout hlen hother hsent
    rw [List.foldl_cons, State.sendEvent_eq h]
    have hat (p : Nat) (hp : p ≠ q) (g : TsuPort → TsuPort) : at! (s.tsu.ports.modify q g) p = at! s.tsu.ports p := by
      simp [at!, List.getD_eq_getElem?_getD, List.getElem?_modify, Ne.symm hp]
    refine ⟨hframe, ?_, ?_, ?_, fun p hp => ?_, fun p hp hlt => ?_⟩
    · rw [htsu]
      simp
    · have hmap : l.map (fun p => f p ((at! (s.tsu.ports.modify q (fun x => { x with sent := (at! s.tsu.ports q).tx a })) p).tx a)) =
          l.map (fun p => f p ((at! s.tsu.ports p).tx a)) :=
        List.map_congr_left fun p hp => by rw [hat p (fun e => hq (e ▸ hp))]
      rw [hout, hmap, List.map_cons, List.append_assoc]
      rfl
    · rw [hlen, List.length_modify]
    · rw [List.mem_cons, not_or] at hp
      rw [hother p hp.2, hat p hp.1]
    · obtain rfl | hp := List.mem_cons.mp hp
      · rw [hother _ hq]
        simp [at!, List.getD_eq_getElem?_getD, List.getElem?_modify, List.getElem?_eq_getElem hlt]
      · have hne : p ≠ q := fun e => hq (e ▸ hp)
        rw [hsent p hp (by rwa [List.length_modify]), hat p hne]

theorem State.tsuRow_of {f : TimeCfg → Nat → Tsu → Tsu × List EvRec} {s : State} {r : Tsu × List EvRec} (h : f s.block.time s.life.role s.tsu = r) :
    s.tsuRow f = { s with tsu := r.1, evr := { s.evr with localEv := s.evr.localEv ++ r.2 } } := by
  subst h
  rfl

/-- Settles O29: by the row. -/
theorem timeSourcesTakeEffect : Obligations.TimeSourcesTakeEffect := by
  unfold Obligations.TimeSourcesTakeEffect
  refine ⟨fun s m => rfl, fun s f => rfl, fun s ns => rfl, fun s => rfl, fun s hrun hpick => ?_, fun s hrun h2 h5 hsrc hnone => ?_, fun s ns => ?_⟩
  · have hcond : (s.tsu.run && (s.life.role = 2 || s.life.role = 5 || pickSource s.block.time (qualStep s.block.time s.tsu) != 0)) = true := by
      simpa [hrun, or_assoc] using hpick
    have hrow : exec .sourceSwitch s = .next { s with
        tsu := sourceStep s.block.time s.life.role (qualStep s.block.time s.tsu), evr := { s.evr with localEv := s.evr.localEv ++ [] } } :=
      congrArg Host.Outcome.next (State.tsuRow_of (r := (_, [])) (if_pos hcond))
    exact ⟨_, hrow, rfl, rfl, List.append_nil _⟩
  · have hcond : (s.tsu.run && !(s.life.role = 2 || s.life.role = 5) && (qualStep s.block.time s.tsu).src != 0 &&
        pickSource s.block.time (qualStep s.block.time s.tsu) == 0) = true := by
      simp [hrun, h2, h5, hsrc, hnone]
    have hrow : exec .holdoverEntry s = .next { s with
        tsu := holdoverGo (if (qualStep s.block.time s.tsu).disq.isEmpty then 3 else 4) (qualStep s.block.time s.tsu)
        evr := { s.evr with localEv := s.evr.localEv ++ [] } } :=
      congrArg Host.Outcome.next (State.tsuRow_of (r := (_, [])) (if_pos hcond))
    refine ⟨_, hrow, ?_, rfl⟩
    cases hdisq : s.tsu.disq <;> simp [qualStep, hdisq]
  · intro ports at_
    have hnodup : ports.Nodup := by
      unfold ports
      split
      · exact List.Nodup.filter _ (by decide)
      · exact List.nodup_nil
    let u : State := { s with tsu := { s.tsu with delayReqs := s.tsu.delayReqs + ports.length } }
    obtain ⟨hframe, htsu, hout, -, -, hsent⟩ := State.foldl_sendEvent Emit.delayRequest hnodup (s := u) (ns := ns) rfl
    exact ⟨_, rfl, hframe, htsu, hout, hsent⟩

end Sys2Proof.Machine
end

section
/-! SUPPORT. O30 to O33: the lanes, the process bus, the phasor engine's own rows and the ports' modules. -/

namespace Sys2Proof.Machine

/-! ### O30 -/

theorem State.unhealthy_cause (s : State) (h : s.life.healthy = true) (cause : Nat) : (s.unhealthy cause).life.cause = cause := by
  simp [State.unhealthy, h]

/-- Settles O30: by the row. -/
theorem lanesTakeEffect : Obligations.LanesTakeEffect := by
  unfold Obligations.LanesTakeEffect
  refine ⟨fun s l code hrun => ?_, fun s l code hstop => ?_, fun s l hk => ?_, fun s l hk => ?_, fun s l => rfl, fun s l m => rfl, fun s l => rfl, fun s l m => rfl⟩
  · exact congrArg (fun a => Host.Outcome.next { s with afe := a }) (if_pos hrun)
  · exact congrArg (fun a => Host.Outcome.next { s with afe := a }) (if_neg (c := s.tsu.run = true) (by simp [hstop]))
  · exact congrArg Host.Outcome.next (if_pos hk)
  · let u : State := { s with afe := { s.afe with lanes := s.afe.lanes.modify l.val laneCalibrate } }
    have hrow : exec (.laneCalibration l) s = .next (if allRefFailed u.afe then u.unhealthy causeAfe else u) :=
      congrArg Host.Outcome.next (if_neg (fun h => h hk))
    refine ⟨_, hrow, ?_⟩
    by_cases hall : allRefFailed u.afe = true
    · rw [if_pos hall]
      have hafe : (u.unhealthy causeAfe).afe = u.afe := State.unhealthy_afe causeAfe u
      refine ⟨hafe, ?_, fun _ => ⟨u.unhealthy_healthy _, fun hok => u.unhealthy_cause hok _, fun hsick => ?_⟩, fun hnone => ?_⟩
      · rw [hafe]
        exact u.unhealthy_frame causeAfe
      · rw [State.unhealthy_of_sick (s := u) hsick]
      · rw [hafe, hall] at hnone
        exact nomatch hnone
    · rw [if_neg hall]
      exact ⟨rfl, rfl, fun h => absurd h hall, fun _ => rfl⟩

/-! ### O31 -/

theorem exec_serviceFrame {f : Frame} (h4 : f.port = 4) (s : State) : exec (.frameReceive f) s = .next (s.serviceFrame f) :=
  congrArg Host.Outcome.next (if_pos h4)

/-- What the service port does not answer it drops (R471). -/
theorem State.serviceFrame_drop {f : Frame} {s : State} (harp : f.body ≠ .arp) (hecho : ∀ n, f.body ≠ .ipv4 s.block.proto.serviceAddr 1 n) :
    s.serviceFrame f = s := by
  unfold State.serviceFrame
  split
  · rfl
  · split
    · next hbody => exact absurd hbody harp
    · next dst n hbody =>
      split
      · next hdst => exact absurd (hdst ▸ hbody) (hecho n)
      · rfl
    · rfl

/-- A port's receive stamp is no part of its transmit stamps (R353). -/
theorem TsuPort.tx_modify_last (l : List TsuPort) (i n raw : Nat) :
    (at! (l.modify i (fun p => { p with last := n })) i).tx raw = (at! l i).tx raw := by
  by_cases hi : i < l.length
  · simp [at!, List.getD_eq_getElem?_getD, List.getElem?_modify, List.getElem?_eq_getElem hi, TsuPort.tx, TsuPort.fix]
  · have hnone : l[i]? = none := List.getElem?_eq_none (Nat.le_of_not_lt hi)
    simp [at!, List.getD_eq_getElem?_getD, List.getElem?_modify, hnone]

/-- A PTP message acts on the clock, and a Pdelay_Req of the own domain is answered in the profiles with peer delay (R354). -/
theorem State.ptpTake_frame (port stamp : Nat) (m : PtpMsg) (s : State) :
    s.ptpTake port stamp m = { s with tsu := (s.ptpTake port stamp m).tsu, sca := (s.ptpTake port stamp m).sca, out := (s.ptpTake port stamp m).out } := by
  unfold State.ptpTake
  dsimp only
  split <;> rfl

theorem State.ptpTake_out (port stamp : Nat) (m : PtpMsg) (s : State) : (s.ptpTake port stamp m).out = s.out ++
    (match m with
     | ⟨d, .pdelayReq a⟩ => if d = s.block.time.domain ∧ s.block.time.profile ≤ 1
        then [.pdelayResp port stamp ((at! s.tsu.ports port).tx (s.tsu.eventAt a))] else []
     | _ => []) := by
  obtain ⟨d, kind⟩ := m
  cases kind with
  | pdelayReq a =>
    by_cases hans : d = s.block.time.domain ∧ s.block.time.profile ≤ 1
    · have hsome : pdelayAnswer s.block.time ⟨d, .pdelayReq a⟩ = some a := by simp [pdelayAnswer, hans]
      have hsame : ptpReceive s.block.time (if port / 2 = 1 then 1 else 2) (port % 2 == 1) ⟨d, .pdelayReq a⟩ s.tsu = s.tsu := by
        simp [ptpReceive]
      dsimp only
      rw [if_pos hans, State.ptpTake, hsome, hsame]
      rfl
    · have hnone : pdelayAnswer s.block.time ⟨d, .pdelayReq a⟩ = none := by simpa [pdelayAnswer] using fun h => Nat.lt_of_not_le fun hp => hans ⟨h, hp⟩
      simp only [State.ptpTake, hnone, hans, if_false, List.append_nil]
      rfl
  | _ => exact (List.append_nil _).symm

/-- What a frame of a running engine on a port that is up does (R69, R352). -/
theorem State.frameReceive_eq {f0 f : Frame} {s : State} (h4 : f0.port ≠ 4) (hon : s.life.booted = true) (hup : s.portUp f0.port.val = true)
    (hf : s.stamped f0 = f) {r : Pbi × Option PtpMsg} (hr : pbiReceive s.filterBlock s.simOn f s.pbi = r) {on : Bool} (hfwd : s.forwards f = on) :
    s.frameReceive f0 = r.2.elim ({ s with
      pbi := { r.1 with hsrSent := if on then ((f.port.val, f.dupKey.getD 0) :: s.pbi.hsrSent).take 64 else s.pbi.hsrSent }
      tsu := (s.tsu.note f0.stamp).rxNote f.port.val f.stamp, out := s.out ++ (if on then [.hsr f] else []) } : State)
      (fun m => State.ptpTake f.port.val f.stamp m { s with
      pbi := { r.1 with hsrSent := if on then ((f.port.val, f.dupKey.getD 0) :: s.pbi.hsrSent).take 64 else s.pbi.hsrSent }
      tsu := (s.tsu.note f0.stamp).rxNote f.port.val f.stamp, out := s.out ++ (if on then [.hsr f] else []) }) := by
  subst hf hr hfwd
  unfold State.frameReceive
  rw [if_neg h4, if_neg (by simp [hon, hup])]

/-- A publisher that is dropped already, is heard, has no end or has not come to it stays as it is (R90). -/
theorem gooseDrop_same {dl : Nat} {g : Gcb} (h : g.dropped = true ∨ g.got = true ∨ g.ends = none ∨ (∃ e, g.ends = some e ∧ dl < e) ∨
    g.arrived dl = true) : gooseDrop dl g = g := by
  unfold gooseDrop
  split
  · next e he =>
    refine if_neg fun hcond => ?_
    simp only [Bool.and_eq_true, Bool.not_eq_true', decide_eq_true_eq] at hcond
    obtain ⟨⟨⟨hle, hgot⟩, harr⟩, hdrop⟩ := hcond
    obtain h | h | h | ⟨e', he', hlt⟩ | h := h
    · simp [hdrop] at h
    · simp [hgot] at h
    · simp [he] at h
    · obtain rfl : e = e' := by simpa [he] using he'
      omega
    · simp [harr] at h
  · rfl

theorem exec_goosePublisherDropped {s : State} {n : Fin 2048} {b : Block} {g : Gcb} (hb : s.blk = some b) (hg : lkup s.pbi.gcbs n.val = some g) :
    exec (.goosePublisherDropped n) s = .next { s with pbi := { s.pbi with
      gcbs := lset s.pbi.gcbs n.val (gooseDrop (deadlineOf (nextGrid s.tsu)) g) } } := by
  refine congrArg Host.Outcome.next (?_ : s.gooseDropped n.val = _)
  simp only [State.gooseDropped, hb, hg]

/-- Settles O31: by the row and, for a frame, by its port. -/
theorem processBusTakesEffect : Obligations.ProcessBusTakesEffect := by
  unfold Obligations.ProcessBusTakesEffect
  refine ⟨fun s f hnot => ?_, fun s f h4 hon hfcs => ⟨fun harp => ?_, fun n hecho => ?_, fun harp hecho => ?_⟩, fun s f0 h4 hon hup => ?_, fun s b hb => ?_,
    fun s n => rfl, fun s n b g hb hg => ⟨fun e he hle hgot hwaits hdrop => ?_, ?_⟩⟩
  · refine congrArg Host.Outcome.next (?_ : s.frameReceive f = s)
    obtain hoff | ⟨h4, hdown⟩ := hnot
    · simp [State.frameReceive, State.serviceFrame, hoff]
    · simp [State.frameReceive, h4, hdown]
  · rw [exec_serviceFrame h4]
    simp only [State.serviceFrame, hon, hfcs, harp]
    rfl
  · rw [exec_serviceFrame h4]
    simp only [State.serviceFrame, hon, hfcs, hecho]
    rfl
  · rw [exec_serviceFrame h4, State.serviceFrame_drop harp hecho]
  · intro p fix at_ f r on
    let t : State := { s with
      pbi := { r.1 with hsrSent := if on then ((f.port.val, f.dupKey.getD 0) :: s.pbi.hsrSent).take 64 else s.pbi.hsrSent }
      tsu := (s.tsu.note f0.stamp).rxNote f.port.val f.stamp, out := s.out ++ (if on then [.hsr f] else []) }
    have hrow : exec (.frameReceive f0) s = .next (r.2.elim t (fun m => t.ptpTake f.port.val f.stamp m)) := by
      exact congrArg Host.Outcome.next (State.frameReceive_eq h4 hon hup (f := f) rfl (r := r) rfl (on := on) rfl)
    have hsent : (r.2.elim t (fun m => t.ptpTake f.port.val f.stamp m)).pbi = t.pbi := by
      cases r.2 with
      | none => rfl
      | some m =>
        rw [Option.elim_some, State.ptpTake_frame]
    refine ⟨_, hrow, ?_, fun hoff => ?_, fun k hk hkey => ?_, fun hnone => ?_, ?_⟩
    · cases hr : r.2 with
      | none => rfl
      | some m =>
        rw [Option.elim_some, State.ptpTake_frame]
    · rw [hsent]
      simp [t, hoff]
    · rw [hsent]
      simp [t, hk, hkey]
    · rw [hnone]
      exact ⟨rfl, rfl⟩
    · cases hr : r.2 with
      | none => exact (List.append_nil _).symm
      | some m =>
        have hat (a : Nat) : t.tsu.eventAt a = Nat.max a at_ := by
          change max a (max s.tsu.ns (max f0.stamp (max s.tsu.ns s.tsu.seen))) = max a (max f0.stamp (max s.tsu.ns s.tsu.seen))
          omega
        have htx (a : Nat) : (at! t.tsu.ports f.port.val).tx (t.tsu.eventAt a) = p.tx (Nat.max a at_) := by
          rw [hat]
          exact TsuPort.tx_modify_last s.tsu.ports f.port.val f.stamp _
        rw [Option.elim_some, State.ptpTake_out]
        obtain ⟨d, kind⟩ := m
        cases kind with
        | pdelayReq a =>
          dsimp only
          rw [htx]
          rfl
        | _ => rfl
  · refine congrArg Host.Outcome.next (?_ : s.judge (nextGrid s.tsu) = _)
    simp [State.judge, hb]
  · have harrived : g.arrived (deadlineOf (nextGrid s.tsu)) = false := by
      simp only [Gcb.arrived, List.any_eq_false, Bool.and_eq_true, decide_eq_true_eq, Bool.not_eq_true', not_and]
      exact fun w hw hlt => by simp [hwaits w hw hlt]
    have hgone : gooseDrop (deadlineOf (nextGrid s.tsu)) g = { g with dropped := true, dirty := true } := by
      simp [gooseDrop, he, hle, hgot, harrived, hdrop]
    rw [exec_goosePublisherDropped hb hg, hgone]
  · refine ⟨_, exec_goosePublisherDropped hb hg, fun hwhy => gooseDrop_same ?_⟩
    simpa only [Gcb.arrived, List.any_eq_true, Bool.and_eq_true, decide_eq_true_eq, Bool.not_eq_true'] using hwhy

/-! ### O32 -/

/-- Settles O32: by the row. -/
theorem phasorRowsTakeEffect : Obligations.PhasorRowsTakeEffect := by
  unfold Obligations.PhasorRowsTakeEffect
  refine ⟨fun s g b hb => ?_, fun s n a l p hready hp => ?_, fun s n => rfl⟩
  · refine congrArg Host.Outcome.next (?_ : s.holdExpired g.val = _)
    simp [State.holdExpired, hb]
  · have hrow : exec (.synchrophasorSend n) s = .next { s with
        phe := syncPop s.phe n.val
        out := if s.hat.latch && s.fit then s.out ++ [syncFrame s.block s.life.role s.tsu s.sig n.val p (decide (0 < (at! s.phe.syncs n.val).cfgTicks)) a] else s.out } := by
      refine congrArg Host.Outcome.next (?_ : s.synchroSend n.val = _)
      simp only [State.synchroSend, hready, hp]
    refine ⟨_, syncFrame s.block s.life.role s.tsu s.sig n.val p (decide (0 < (at! s.phe.syncs n.val).cfgTicks)) a, hrow, rfl, rfl, ?_⟩
    by_cases hhat : s.hat.latch = true ∧ s.fit = true <;> simp [hhat]

/-! ### O33 -/

/-- Settles O33: by the cage and the module. -/
theorem modulesSetPorts : Obligations.ModulesSetPorts := by
  unfold Obligations.ModulesSetPorts
  refine ⟨fun s c m hc => congrArg Host.Outcome.next (if_pos hc), fun s c m hc hm => ?_, fun s c m hc hp hd => ?_⟩
  · have hserves : sfpFelt m = true := by
      obtain rfl | rfl := hm <;> rfl
    refine congrArg Host.Outcome.next (?_ : s.sfpChange c.val m = _)
    simp [State.sfpChange, Nat.not_lt.mpr hc, hserves]
  · have hnot : sfpFelt m = false := by simp [sfpFelt, hp, hd]
    let q := setLane (c.val - 4) false s.pair
    have hrow : exec (.sfpModuleChange c m) s = .next { s with
        pbi := { s.pbi with cages := s.pbi.cages.set c.val m }
        pair := if q.linkUp then q else if s.pair.linkUp then linkDown q else q } := by
      refine congrArg Host.Outcome.next (?_ : s.sfpChange c.val m = _)
      simp [State.sfpChange, Nat.not_lt.mpr hc, hnot, q]
    refine ⟨_, hrow, rfl, fun h4 => ?_, fun h5 => ?_, fun hup hdown => ?_⟩
    · have hlane : q.laneA = false := by simp [q, setLane, h4]
      dsimp only
      split
      · exact hlane
      · split
        · rfl
        · exact hlane
    · have hlane : q.laneB = false := by simp [q, setLane, h5]
      dsimp only
      split
      · exact hlane
      · split
        · rfl
        · exact hlane
    · dsimp only at hdown ⊢
      by_cases hq : q.linkUp = true
      · rw [if_pos hq, hq] at hdown
        exact nomatch hdown
      · rw [if_neg hq, if_pos hup]
        exact ⟨rfl, rfl, rfl⟩

end Sys2Proof.Machine
end

section
/-! SUPPORT. O34 and O35: the rows of one element and of a flange slot's phase. -/

namespace Sys2Proof.Machine

/-- What an element's row does where the evaluation on the present space is `(v, n)`. -/
theorem State.elemRow_of_elemAt {i : Nat} {s : State} {v : ElEnv} {n : ElNext} (h : s.elemAt i = some (v, n))
    (due : ElEnv → ElNext → ElemState → FluSlot → Bool) (take : ElEnv → ElNext → ElemState → ElemState) (takeF : ElNext → FluSlot → FluSlot) :
    s.elemRow i due take takeF = if due v n (at! s.elems i) (at! s.flus i) = true
      then s.elemSet i v n (take v n (at! s.elems i)) (takeF n (at! s.flus i)) else s := by
  unfold State.elemAt at h
  unfold State.elemRow
  cases hb : s.blk with
  | none => simp [hb] at h
  | some b =>
    simp only [hb] at h ⊢
    cases he : b.elems[i]? with
    | none => simp [he] at h
    | some e =>
      simp only [he, Option.map_some, Option.some.injEq, Prod.mk.injEq] at h ⊢
      obtain ⟨hv, hn⟩ := h
      rw [hn, hv, ← hb]
      rfl

/-- An element's row whose event is `P`, and which then takes the state `x` and the flange slot `f`. -/
theorem State.elemRow_eq {i : Nat} {s : State} {v : ElEnv} {n : ElNext} (h : s.elemAt i = some (v, n))
    {due : ElEnv → ElNext → ElemState → FluSlot → Bool} {take : ElEnv → ElNext → ElemState → ElemState} {takeF : ElNext → FluSlot → FluSlot}
    {P : Prop} [Decidable P] {x : ElemState} {f : FluSlot} (hP : due v n (at! s.elems i) (at! s.flus i) = true ↔ P)
    (hx : P → take v n (at! s.elems i) = x) (hf : P → takeF n (at! s.flus i) = f) :
    Host.Outcome.next (s.elemRow i due take takeF) = (Host.Outcome.next (if P then s.elemSet i v n x f else s) : Host.Outcome State Fault Refusal) := by
  rw [State.elemRow_of_elemAt h]
  by_cases hp : P
  · rw [if_pos (hP.2 hp), if_pos hp, hx hp, hf hp]
  · rw [if_neg (fun h => hp (hP.1 h)), if_neg hp]

/-- The same of a row that holds for the types listed, for every type where none is. -/
theorem State.elemOnly_eq {i : Nat} {s : State} {v : ElEnv} {n : ElNext} (h : s.elemAt i = some (v, n)) {types : List Nat}
    {due : ElEnv → ElemState → ElemState → Bool} {take : ElEnv → ElemState → ElemState → ElemState}
    {P Q : Prop} [Decidable Q] {x : ElemState} (hQ : ((types = [] ∨ v.e.etype ∈ types) ∧ P) ↔ Q) (hP : due v n.st (at! s.elems i) = true ↔ P)
    (hx : Q → take v n.st (at! s.elems i) = x) :
    Host.Outcome.next (s.elemOnly i types due take)
      = (Host.Outcome.next (if Q then s.elemSet i v n x (at! s.flus i) else s) : Host.Outcome State Fault Refusal) := by
  refine State.elemRow_eq h ?_ hx (fun _ => rfl)
  rw [← hQ, Bool.and_eq_true, Bool.or_eq_true, List.isEmpty_iff, List.contains_iff_mem, hP]

/-- The same of a row that holds for one type. -/
theorem State.elemOnly_of_type {i : Nat} {s : State} {v : ElEnv} {n : ElNext} (h : s.elemAt i = some (v, n)) {T : Nat}
    {due : ElEnv → ElemState → ElemState → Bool} {take : ElEnv → ElemState → ElemState → ElemState}
    {P : Prop} [Decidable P] {x : ElemState} (hP : due v n.st (at! s.elems i) = true ↔ P)
    (hx : v.e.etype = T ∧ P → take v n.st (at! s.elems i) = x) :
    Host.Outcome.next (s.elemOnly i [T] due take)
      = (Host.Outcome.next (if v.e.etype = T ∧ P then s.elemSet i v n x (at! s.flus i) else s) : Host.Outcome State Fault Refusal) :=
  State.elemOnly_eq h (by simp) hP hx

/-- Settles O34: by the row of an element, event by event. -/
theorem elementDecisionsTakeEffect : Obligations.ElementDecisionsTakeEffect := by
  unfold Obligations.ElementDecisionsTakeEffect
  intro s i v n h
  refine ⟨fun p => ?_, ?_, ?_, ?_, ?_, ?_, ?_, ?_⟩
  · refine State.elemOnly_eq h (by rw [eq_self, true_or, true_and]) ?_ (fun _ => rfl)
    simp [startsNow, and_assoc]
  · refine State.elemOnly_eq h (by rw [eq_self, true_or, true_and]) ?_ (fun _ => rfl)
    simp
  · refine State.elemOnly_eq h (by rw [eq_self, true_or, true_and]) ?_ (fun _ => rfl)
    simp [and_assoc]
  · refine State.elemOnly_of_type h bne_iff_ne (fun _ => rfl)
  · refine State.elemOnly_of_type h bne_iff_ne (fun _ => rfl)
  · refine State.elemOnly_of_type h ?_ (fun _ => rfl)
    simp
  · refine State.elemOnly_of_type h ?_ (fun _ => rfl)
    simp
  · refine State.elemOnly_of_type h ?_ (fun hq => ?_)
    · simp [and_assoc]
    · simp [takeOp, hq.2.2.1]

/-- Settles O35: by the row of an element, event by event. -/
theorem elementWindowsTakeEffect : Obligations.ElementWindowsTakeEffect := by
  unfold Obligations.ElementWindowsTakeEffect
  intro s i v n h
  refine ⟨?_, ?_, ?_, ?_, ?_, ?_, ?_, fun p => ⟨?_, ?_, ?_⟩⟩
  · refine State.elemOnly_of_type h ?_ (fun _ => rfl)
    simp [and_assoc]
  · refine State.elemOnly_of_type h ?_ (fun _ => rfl)
    simp
  · refine State.elemOnly_of_type h ?_ (fun _ => rfl)
    simp
  · refine State.elemOnly_of_type h ?_ (fun _ => rfl)
    simp
  · refine State.elemOnly_of_type h ?_ (fun _ => rfl)
    simp
  · refine State.elemOnly_of_type h bne_iff_ne (fun _ => rfl)
  · refine State.elemOnly_eq h (P := 0 < (at! s.elems i.val).srcHold ∧ n.st.srcHold = 0) (by simp [or_assoc]) ?_ (fun _ => rfl)
    simp
  · refine State.elemRow_eq h ?_ (fun _ => rfl) (fun _ => rfl)
    simp [FluSlot.op, and_assoc]
  · refine State.elemRow_eq h ?_ (fun _ => rfl) (fun _ => rfl)
    simp [and_assoc]
  · refine State.elemRow_eq h ?_ (fun _ => rfl) (fun hp => ?_)
    · simp [and_assoc]
    · simp [FluSlot.setPh, FluSlot.ph, hp.2.2]

end Sys2Proof.Machine
end

section
/-! SUPPORT. O36 to O38: the rows of a breaker slot and of the schemes. -/

namespace Sys2Proof.Machine

/-! ### The rows of a breaker slot -/

/-- What a slot's row does where the slot is in use. -/
theorem State.slotRow_of_slotIn {k : Nat} {s : State} {x : SlotIn} (h : s.slotIn k = some x)
    (f : SlotIn → SlotState → Option (SlotState × List Told)) :
    s.slotRow k f = match f x (at! s.slots k) with
      | none => s
      | some (y, ev) => s.slotSet k x y ev := by
  unfold State.slotRow State.slotSet
  simp only [h] <;> rfl

/-- A slot's row whose event is `P`. -/
theorem State.slotRow_ite {k : Nat} {s : State} {x : SlotIn} (h : s.slotIn k = some x)
    {f : SlotIn → SlotState → Option (SlotState × List Told)} {P : Prop} [Decidable P] {y : SlotState} {ev : List Told}
    (hP : f x (at! s.slots k) = if P then some (y, ev) else none) :
    s.slotRow k f = if P then s.slotSet k x y ev else s := by
  rw [State.slotRow_of_slotIn h, hP]
  split_ifs <;> rfl

/-- A slot's event without a record. -/
theorem State.slotWhen_eq {k : Nat} {s : State} {x : SlotIn} (h : s.slotIn k = some x) {c : SlotIn → SlotState → Bool}
    {f : SlotIn → SlotState → SlotState} {P : Prop} [Decidable P] {y : SlotState} (hP : c x (at! s.slots k) = true ↔ P)
    (hy : f x (at! s.slots k) = y) : s.slotWhen k c f = if P then s.slotSet k x y [] else s :=
  State.slotRow_ite h (by rw [if_congr hP rfl rfl, hy])

/-- An event of a slot's state machine, which runs in every mode but Off. -/
theorem State.seqWhen_eq {k : Nat} {s : State} {x : SlotIn} (h : s.slotIn k = some x) {c : SlotIn → SlotState → Bool}
    {f : SlotIn → SlotState → SlotState} {P : Prop} [Decidable P] {y : SlotState} (hP : c x (at! s.slots k) = true ↔ P)
    (hy : f x (at! s.slots k) = y) : s.seqWhen k c f = if x.mode ≠ 5 ∧ P then s.slotSet k x y [] else s :=
  State.slotWhen_eq h (by rw [Bool.and_eq_true, bne_iff_ne, hP]) hy

/-- An event that comes about without a condition. -/
theorem State.slotWhen_true {k : Nat} {s : State} {x : SlotIn} (h : s.slotIn k = some x) (f : SlotIn → SlotState → SlotState) :
    s.slotWhen k (fun _ _ => true) f = s.slotSet k x (f x (at! s.slots k)) [] := by
  rw [State.slotWhen_eq h (P := True) (by simp) rfl, if_pos trivial]

/-- `bf_trip` of a slot that is due, by the backup slots of its mode. -/
theorem State.bfTripRow_of_slotIn {k : Nat} {s : State} {x : SlotIn} (h : s.slotIn k = some x) :
    s.bfTripRow k = if x.mode ≠ 5 ∧ (bfStep x (x.bfInit (at! s.slots k)) (at! s.slots k)).bfTrip = true ∧ (at! s.slots k).bfTrip = false
      then (if x.mode = 2 ∨ x.mode = 4 then s.slotSet k x (bfGo (at! s.slots k)) []
        else x.e.bft.foldl (fun t j => t.slotWhen j (fun _ _ => true) backupTrip) (s.slotSet k x (bfGo (at! s.slots k)) []))
      else s := by
  unfold State.bfTripRow
  rw [h]
  simp only [State.slotWhen_true h, Bool.and_eq_true, bne_iff_ne, Bool.not_eq_true', Bool.or_eq_true, decide_eq_true_eq, and_assoc]

/-- Settles O36: by the row of a slot, event by event. -/
theorem breakerSlotEventsTakeEffect : Obligations.BreakerSlotEventsTakeEffect := by
  unfold Obligations.BreakerSlotEventsTakeEffect
  intro s k x h
  refine ⟨?_, ?_, ?_, ?_, ?_, ?_, ?_, ?_⟩
  · refine congrArg Host.Outcome.next (State.seqWhen_eq h ?_ rfl)
    simp [and_assoc]
  · refine congrArg Host.Outcome.next (State.seqWhen_eq h ?_ rfl)
    simp [and_assoc]
  · refine congrArg Host.Outcome.next (State.seqWhen_eq h ?_ rfl)
    cases x.recOk <;> simp [and_assoc]
  · refine congrArg Host.Outcome.next (State.seqWhen_eq h ?_ rfl)
    simp [and_assoc]
  · refine congrArg Host.Outcome.next (State.seqWhen_eq h ?_ rfl)
    simp [and_assoc]
  · refine congrArg Host.Outcome.next (State.slotWhen_eq h ?_ rfl)
    simp
  · refine congrArg Host.Outcome.next (State.slotWhen_eq h ?_ rfl)
    simp
  · refine ⟨fun hd => ?_, fun hd hm => ?_, fun j z hd h2 h4 hb hz => ?_⟩
    all_goals refine congrArg Host.Outcome.next ((State.bfTripRow_of_slotIn h).trans ?_)
    · rw [if_neg hd]
    · rw [if_pos hd]
      rcases or_assoc.2 hm with hm | hm
      · rw [if_pos hm]; rfl
      · rw [hm]; split_ifs <;> rfl
    · rw [if_pos hd, if_neg (not_or.2 ⟨h2, h4⟩), hb]
      exact State.slotWhen_true hz backupTrip

/-! ### The end of Tripping -/

theorem slotState_enter_fields (y : SlotState) (n : Nat) : (y.enter n).state = n ∧ (y.enter n).tmr = 0 ∧ (y.enter n).trip = (n == 2) ∧
    (y.enter n).close = (n == 3) ∧ (y.enter n).shot = y.shot ∧ (y.enter n).tclass = y.tclass := by
  unfold SlotState.enter
  dsimp only
  split_ifs <;> exact ⟨rfl, rfl, rfl, rfl, rfl, rfl⟩

/-- The state in which Tripping ends, by trip class, former state and shots (R238). -/
def tripEndState (x : SlotIn) (y : SlotState) : Nat :=
  if y.tclass = 5 then 0
  else if y.from_ = 4 ∨ ((y.tclass = 1 ∨ y.tclass = 2) ∧ y.from_ = 5 ∧ y.manual = true) ∨ y.tclass = 2 ∨ y.tclass = 4 then 6
  else if y.tclass = 1 ∧ x.n 0 = 1 then (if (y.from_ = 1 ∨ y.from_ = 5) ∧ y.shot < x.c 4 ∧ x.blk79 = false then 4 else 6)
  else 0

/-- The slot enters that state; a manual trip leaves shot 0. -/
theorem tripEnd_eq (x : SlotIn) (y : SlotState) :
    tripEnd x y = if y.tclass = 5 then { y.enter 0 with shot := 0 } else y.enter (tripEndState x y) := by
  unfold tripEnd tripEndState
  dsimp only
  by_cases h5 : y.tclass = 5
  · rw [if_pos h5, if_pos h5]
  · simp only [if_neg h5, beq_iff_eq, Bool.not_eq_true']
    split_ifs <;> grind

theorem tripEnd_fields (x : SlotIn) (y : SlotState) : (tripEnd x y).state = tripEndState x y ∧ (tripEnd x y).tmr = 0 ∧
    (tripEnd x y).trip = (tripEndState x y == 2) ∧ (tripEnd x y).close = (tripEndState x y == 3) ∧
    (tripEnd x y).shot = if y.tclass = 5 then 0 else y.shot := by
  rw [tripEnd_eq]
  split_ifs with h5
  · rw [show tripEndState x y = 0 by unfold tripEndState; rw [if_pos h5]]
    obtain ⟨h1, h2, h3, h4, -⟩ := slotState_enter_fields y 0
    exact ⟨h1, h2, h3, h4, rfl⟩
  · obtain ⟨h1, h2, h3, h4, hs, -⟩ := slotState_enter_fields y (tripEndState x y)
    exact ⟨h1, h2, h3, h4, hs⟩

theorem tripEndState_cases (x : SlotIn) (y : SlotState) : tripEndState x y = 0 ∨ tripEndState x y = 4 ∨ tripEndState x y = 6 := by
  unfold tripEndState
  split_ifs <;> simp

/-- Settles O37: by the state that Tripping ends in, and by the backup trip's branches. -/
theorem trippingEndsByClass : Obligations.TrippingEndsByClass := by
  unfold Obligations.TrippingEndsByClass
  refine ⟨fun x y => ?_, fun x y => ⟨fun h => ?_, fun h7 h5 => ?_⟩⟩
  · obtain ⟨hst, htmr, htrip, hclose, hshot⟩ := tripEnd_fields x y
    have hc := tripEndState_cases x y
    rw [hst, htmr, htrip, hclose, hshot]
    refine ⟨rfl, ?_, ?_, hc, fun h => ?_, fun h => if_neg h, fun h5 h => ?_, fun h1 h5 hm => ?_, ?_, fun h1 hn h4 hm => ?_, fun h1 hn => ?_, fun h3 h4 => ?_⟩
    · rcases hc with h | h | h <;> rw [h] <;> rfl
    · rcases hc with h | h | h <;> rw [h] <;> rfl
    · exact ⟨by simp [tripEndState, h], if_pos h⟩
    · unfold tripEndState
      rw [if_neg h5, if_pos (by tauto)]
    · simp [tripEndState, h1, h5, hm]
    · unfold tripEndState
      constructor
      · intro h
        split_ifs at h with h5 h6 h1 h4
        · simp at h
        · refine ⟨h1.1, h1.2, h4.1.imp_right fun h => ⟨h, ?_⟩, h4.2⟩
          by_contra hm
          exact h6 (.inr (.inl ⟨.inl h1.1, h, by simpa using hm⟩))
        · simp at h
      · rintro ⟨h1, hn, hf, hs, hb⟩
        rw [if_neg (by omega), if_neg, if_pos (c := y.tclass = 1 ∧ x.n 0 = 1) ⟨h1, hn⟩, if_pos (by tauto)]
        rcases hf with hf | ⟨hf, hm⟩ <;> simp [hf, h1, *]
    · simp only [tripEndState, h1, hn, h4, true_or, true_and, false_or, hm]
      simp
    · unfold tripEndState
      rw [if_neg (c := y.tclass = 5) (by omega), if_pos (c := y.tclass = 1 ∧ x.n 0 = 1) ⟨h1, hn⟩]
      split_ifs <;> simp
    · simp [tripEndState, h3, h4]
  · unfold backupTrip
    rw [if_pos (by simpa using h)]
  · have hb : backupTrip x y = if y.state = 2 then { y with tclass := clsMax y.tclass 4 } else tripEnter 4 y := by
      unfold backupTrip
      rw [if_neg (by simp [h7, h5])]
    rw [hb]
    by_cases h2 : y.state = 2
    · simp only [if_pos h2]
      exact ⟨h2, fun h => absurd h2 h, fun _ => trivial⟩
    · simp only [if_neg h2]
      obtain ⟨h1, ht, -⟩ := slotState_enter_fields y 2
      exact ⟨h1, fun _ => ⟨rfl, rfl, rfl, ht⟩, fun h => absurd h h2⟩

/-! ### Controls and schemes -/

theorem ctlFinal_of_due {x : SlotIn} {c : CtlPend} (h : (if c.value = 2 then x.tclmax else x.ttmax) ≤ c.tmr) : ctlFinal x c = some 9 :=
  if_pos h

theorem ctlFinal_of_there {x : SlotIn} {c : CtlPend} (h : ¬(if c.value = 2 then x.tclmax else x.ttmax) ≤ c.tmr)
    (ht : (if c.value = 2 then x.isOn else x.isOff) = true) : ctlFinal x c = some 8 :=
  (if_neg h).trans (if_pos ht)

theorem ctlFinal_of_neither {x : SlotIn} {c : CtlPend} (h : ¬(if c.value = 2 then x.tclmax else x.ttmax) ≤ c.tmr)
    (ht : ¬(if c.value = 2 then x.isOn else x.isOff) = true) : ctlFinal x c = none :=
  (if_neg h).trans (if_neg ht)

/-- The row of a load-shed stage, whose stage asks where its step starts or goes on with the restoration. -/
theorem State.shedRow_of {i : Nat} {s : State} {b : Block} {e : ShedStage} (hb : s.blk = some b) (he : b.sheds[i]? = some e) (first : Bool) :
    let o := at! s.schemes.shed i
    let h := (b.sheds.zipIdx).any (fun h => decide (i < h.2) && h.1.rflags.testBit 0 && !(shedLeft h.1 s.slots).isEmpty)
    let r := shedStep s.sig e h s.slots o
    let t : State := { s with
      schemes := { s.schemes with shed := s.schemes.shed.modify i (fun _ => r.1) }
      slots := r.2.2.2.foldl (fun l j => l.modify j (fun y => { y with shed := false })) s.slots
      evr := { s.evr with tickEv := s.evr.tickEv ++ r.2.2.2.map (fun j => { kind := 4, subject := j, value := i, rflags := 1 }) } }
    s.shedRow i first = if (r.1.on = true ∧ r.1.since = 0) ∧ o.on ≠ first then
        (match r.2.2.1 with
        | none => t
        | some (j, free) => t.slotRow j (fun x y =>
            let r := restoreAsk j x i free false false y
            some (if r.1 = 1 then closeStart r.2.1 else r.2.1, r.2.2.map (fun e => (e, Reply.none))))) else s := by
  intro o h r t
  unfold State.shedRow
  rw [hb]
  simp only [he]
  refine if_congr ?_ ?_ rfl
  · rw [Bool.and_eq_true, Bool.and_eq_true, beq_iff_eq, bne_iff_ne]
  · rw [← hb]
    rfl

/-- Settles O38: by the rows of a slot, of a scheme and of a load-shed stage. -/
theorem controlsAndSchemesTakeEffect : Obligations.ControlsAndSchemesTakeEffect := by
  unfold Obligations.ControlsAndSchemesTakeEffect
  refine ⟨fun s k x h => ⟨?_, fun hc => ?_, fun c hc => ⟨fun hd => ?_, fun hd ht => ?_, fun hd ht => ?_⟩⟩, fun s i => ?_, fun s i => ?_,
    fun s i b e hb he => ⟨fun hn => ?_, fun ha hr => ?_, fun j free x ha hr hx => ?_⟩⟩
  · refine congrArg Host.Outcome.next (State.slotRow_ite h (if_congr ?_ rfl rfl))
    rw [Bool.and_eq_true, bne_iff_ne, decide_eq_true_iff]
  · refine congrArg Host.Outcome.next ((State.slotRow_of_slotIn h _).trans ?_)
    rw [hc]; rfl
  · refine congrArg Host.Outcome.next ((State.slotRow_of_slotIn h _).trans ?_)
    simp [hc, ctlTerminate, ctlEnds, ctlFinal_of_due hd]
  · refine congrArg Host.Outcome.next ((State.slotRow_of_slotIn h _).trans ?_)
    simp [hc, ctlTerminate, ctlEnds, ctlFinal_of_there hd ht, bne]
  · refine congrArg Host.Outcome.next ((State.slotRow_of_slotIn h _).trans ?_)
    simp [hc, ctlFinal_of_neither hd ht]
  · refine congrArg Host.Outcome.next ?_
    dsimp only
    split_ifs <;> rfl
  · refine congrArg Host.Outcome.next ?_
    dsimp only
    split_ifs <;> rfl
  · constructor
    · refine congrArg Host.Outcome.next ((State.shedRow_of hb he true).trans (if_neg fun h => hn h.1))
    · refine congrArg Host.Outcome.next ((State.shedRow_of hb he false).trans (if_neg fun h => hn h.1))
  · have hrow (first : Bool) := (State.shedRow_of hb he first).trans (if_congr (and_iff_right ha) (by rw [hr]) rfl)
    constructor
    · refine congrArg Host.Outcome.next ((hrow true).trans ?_)
      rw [← ite_not]
      exact if_congr not_not rfl rfl
    · refine congrArg Host.Outcome.next ((hrow false).trans (if_congr (by rw [Bool.ne_false_iff]) rfl rfl))
  · have hrow (first : Bool) := (State.shedRow_of hb he first).trans (if_congr (and_iff_right ha) (by rw [hr]) rfl)
    have hask := State.slotRow_of_slotIn hx (fun x y =>
      let r := restoreAsk j x i free false false y
      some (if r.1 = 1 then closeStart r.2.1 else r.2.1, r.2.2.map (fun e => (e, Reply.none))))
    constructor
    · refine congrArg Host.Outcome.next ((hrow true).trans ?_)
      rw [← ite_not]
      exact if_congr not_not rfl hask
    · refine congrArg Host.Outcome.next ((hrow false).trans (if_congr (by rw [Bool.ne_false_iff]) hask rfl))

end Sys2Proof.Machine
end

section
/-! SUPPORT. O39 and O40: the disturbance recorder and the fault locators. -/

namespace Sys2Proof.Machine

/-! ### The records -/

/-- A closed record keeps the space that its parts use, which its state does not enter. -/
theorem closeRec_eq (n : Nat) (r : DrcRec) : closeRec n r = { r with state := n, kib := Nat.min r.kib r.usedKib } := rfl

theorem closeDue_of_due {p : Nat} {d : Drc} {r : DrcRec} (h : d.running p = some r) {ltc : Nat} (h1 : r.state = 1) (he : r.endLtc ≤ ltc) :
    closeDue p ltc d = { d.modRec r.recno (closeRec 2) with plans := d.plans.modify p (fun x => { x with run := none }) } := by
  unfold closeDue
  rw [h]
  exact if_pos (by simp [h1, he])

theorem closeDue_of_early {p : Nat} {d : Drc} {r : DrcRec} (h : d.running p = some r) {ltc : Nat} (he : ltc < r.endLtc) :
    closeDue p ltc d = d := by
  unfold closeDue
  rw [h]
  exact if_neg (by simp [he])

theorem copyLane_eq (afe : Afe) (l : Nat) (r : DrcRec) : copyLane afe l r =
    { r with snips := r.snips.map (fun n => if n.lane = l ∧ n.due (at! afe.lanes l) = true then copySnip n (at! afe.lanes l) else n) } := by
  unfold copyLane snipStep
  refine congrArg (fun q => { r with snips := q }) (List.map_congr_left fun n _ => ?_)
  by_cases hl : n.lane = l
  · subst hl; simp
  · simp [hl]

/-- The frames of a block that cannot be read: those it holds join the ones that are gone. -/
theorem mem_dropFrames (k n : Nat) (r : DrcRec) (i : Nat) :
    i ∈ (dropFrames k n r).gone ↔ i ∈ r.gone ∨ (k ≤ i ∧ i < k + n ∧ i < r.frames.length) := by
  simp only [dropFrames, List.mem_append, List.mem_filterMap, List.mem_range, Bool.and_eq_true, decide_eq_true_eq, Bool.not_eq_true',
    Option.ite_none_right_eq_some, Option.some.injEq]
  constructor
  · rintro (h | ⟨a, ha, ⟨hl, -⟩, rfl⟩)
    · exact .inl h
    · exact .inr ⟨by omega, by omega, hl⟩
  · rintro (h | ⟨h1, h2, h3⟩)
    · exact .inl h
    · by_cases hi : i ∈ r.gone
      · exact .inl hi
      · refine .inr ⟨i - k, by omega, ⟨?_, ?_⟩, by omega⟩
        · omega
        · rw [show k + (i - k) = i by omega]; simpa using hi

theorem State.exportDone_of_running {s : State} {n : Nat} {j : Job}
    (h : s.running.find? (fun j => j.no == n && j.opcode == 0x0803) = some j) :
    s.exportDone n = ({ s with drc := s.drc.modRec j.recno markExported } : State).endJob n 2 0
      (Config.exportResult (s.comtrade ((s.drc.rec_ j.recno).getD {}) ((ComOpts.ofNat j.opts).getD {}))) := by
  unfold State.exportDone opDrcExport
  rw [h]

/-- The end of a running job, which the event line tells of. -/
theorem State.endJob_of_running {s : State} {n : Nat} {j : Job} (hm : j ∈ s.running) (hn : j.no = n)
    (d : Drc) (state final : Nat) (result : BitVec 64) :
    ({ s with drc := d } : State).endJob n state final result = { s with
      drc := d
      svc := { s.svc with jobs := s.svc.jobs.map (fun j =>
        if j.no = n ∧ j.state = 1 then { j with state := state, final := final, result := result, endedAt := s.tsu.statTick } else j) }
      hpi := { s.hpi with evt := s.hpi.evt ||| 8 } } := by
  obtain ⟨hj, h1⟩ := List.mem_filter.1 hm
  have hany : s.svc.jobs.any (fun j => j.no == n && j.state == 1) = true := List.any_eq_true.2 ⟨j, hj, by simp [hn, h1]⟩
  unfold State.endJob
  simp only [hany, if_true, Bool.and_eq_true, decide_eq_true_eq]

/-- Settles O39: by the recorder's row. -/
theorem recordersTakeEffect : Obligations.RecordersTakeEffect := by
  unfold Obligations.RecordersTakeEffect
  refine ⟨fun s p r h => ⟨fun h1 he => ?_, fun he => ?_, fun l => ?_⟩, fun s k => ?_, fun s no k n => ⟨badBlock k n, rfl, fun r => ⟨rfl, ?_⟩⟩,
    fun s n j hj => ?_, fun s n hn => ?_⟩
  · exact congrArg (fun d => Host.Outcome.next { s with drc := d }) (closeDue_of_due h h1 he)
  · exact congrArg (fun d => Host.Outcome.next { s with drc := d }) (closeDue_of_early h he)
  · have hl : copyLane s.afe l.val = _ := funext (copyLane_eq s.afe l.val)
    refine congrArg (fun d => Host.Outcome.next { s with drc := d }) (?_ : (match s.drc.running p.val with
      | some r => s.drc.modRec r.recno (copyLane s.afe l.val)
      | none => s.drc) = _)
    rw [h, hl]
    rfl
  · simp only [exec, execDrcStorageError, storageError, List.contains_iff_mem]
    split_ifs <;> rfl
  · exact mem_dropFrames k n r
  · rw [show exec (.exportComplete n) s = .next (s.exportDone n) from rfl, State.exportDone_of_running hj]
    have hno : j.no = n ∧ j.opcode = 0x0803 := by simpa using List.find?_some hj
    rw [State.endJob_of_running (List.mem_of_find?_eq_some hj) hno.1]
    exact ⟨_, Config.exportResult (s.comtrade ((s.drc.rec_ j.recno).getD {}) ((ComOpts.ofNat j.opts).getD {})), rfl, rfl, rfl, rfl, rfl⟩
  · refine congrArg Host.Outcome.next ?_
    unfold State.exportDone
    have hnone : s.running.find? (fun j => j.no == n && j.opcode == opDrcExport) = none := by
      simp only [List.find?_eq_none, State.running, List.mem_filter, Bool.and_eq_true, beq_iff_eq, not_and]
      exact fun j hj h => hn j hj.1 h hj.2
    rw [hnone]

/-! ### The fault locators -/

/-- An active engine with its Felt link up, an enabled locator of bay 0 and a record that names bay and lane 0. -/
def wavefrontPaired : State where
  life := { role := 1 }
  pair := { laneA := true }
  blk := some { groups := [{ chan := [0], sets := [{}] }], fls := [{ en := true }] }
  drc := { recs := [{ recno := 1, entry := { bays := 1, lanes := 1 } }] }

/-- The queued writes are mirrored to the partner, each with the next sequence number of the Felt link (R390). -/
theorem wavefrontPaired_feltSeq : (wavefrontPaired.wfRow 0 1).pair.feltSeq = 2 := by
  decide +kernel

/-- Refutes O40: with the Felt link up the writes that a wavefront's location queues are mirrored to the partner, which
counts the link's frames, so that not only the queue and what is sent change. -/
theorem not_locatorsTakeEffect : ¬ Obligations.LocatorsTakeEffect := by
  unfold Obligations.LocatorsTakeEffect
  rintro ⟨-, -, -, h, -⟩
  obtain ⟨-, h⟩ := h wavefrontPaired 0 1 _ _ rfl rfl rfl
  obtain ⟨t, ht, hframe, -⟩ := h (by decide +kernel)
  have hrow : wavefrontPaired.wfRow 0 1 = t := Host.Outcome.next.inj ht
  have hseq : wavefrontPaired.pair.feltSeq = 2 := by
    rw [← wavefrontPaired_feltSeq, hrow, hframe]
  exact absurd hseq (by decide)

end Sys2Proof.Machine
end

section
/-! SUPPORT. O41 to O43: the rows of the logic tasks and the bit instructions. -/

namespace Sys2Proof.Machine

/-! ### The rows of the logic tasks -/

theorem State.logicRow_of_blk {s : State} {b : Block} (h : s.blk = some b) (f : Block → Logic → Logic × List EvRec) :
    s.logicRow f = { s with logic := (f b s.logic).1, evr := { s.evr with tickEv := s.evr.tickEv ++ (f b s.logic).2 } } := by
  unfold State.logicRow
  split
  · simp_all
  · next b' hb =>
    obtain rfl : b' = b := Option.some.inj (hb.symm.trans h)
    rfl

/-- A row whose result is known. -/
theorem State.logicRow_eq {s : State} {b : Block} (h : s.blk = some b) {f : Block → Logic → Logic × List EvRec} {lg : Logic} {ev : List EvRec}
    (hf : f b s.logic = (lg, ev)) : s.logicRow f = { s with logic := lg, evr := { s.evr with tickEv := s.evr.tickEv ++ ev } } := by
  rw [State.logicRow_of_blk h, hf]

/-- What TASK_COMPLETE does to the signal space and the tasks. -/
theorem State.taskDone_of_blk {s : State} {b : Block} (h : s.blk = some b) (t : Nat) :
    s.taskDone t = if (at! s.logic.tasks t).st = 4 then { s with
      logic := { s.logic with tasks := s.logic.tasks.modify t (completeTask s.logic.ltc) }
      sig := s.sig.writes s.tsu.id (taskWrites (at! b.tasks t) (at! s.logic.tasks t)) } else s := by
  unfold State.taskDone
  split
  · simp_all
  · next b' hb =>
    obtain rfl : b' = b := Option.some.inj (hb.symm.trans h)
    rfl

theorem lateRelease_of_late {e : TaskEntry} {lg : Logic} {t : TaskState} (hd : dueAt e lg.ltc = true) (hb : t.busy = true)
    (hl : e.maxrel ≠ 0 ∧ t.relLtc + e.maxrel * e.period ≤ lg.ltc) : lateRelease e lg t = some true := by
  simp [lateRelease, hd, hb, hl]

theorem lateRelease_of_skip {e : TaskEntry} {lg : Logic} {t : TaskState} (hd : dueAt e lg.ltc = true) (hb : t.busy = true)
    (hl : ¬(e.maxrel ≠ 0 ∧ t.relLtc + e.maxrel * e.period ≤ lg.ltc)) : lateRelease e lg t = some false := by
  simp only [lateRelease, hd, hb, Bool.and_self, if_true, Option.some.injEq]
  rw [← Bool.decide_and]
  exact decide_eq_false hl

theorem lateRelease_eq_none {e : TaskEntry} {lg : Logic} {t : TaskState} (h : ¬dueAt e lg.ltc = true ∨ t.busy = false) :
    lateRelease e lg t = none := by
  unfold lateRelease
  rcases h with h | h <;> simp [h]

/-- A dropped cycle is on no unit. -/
theorem dropTask_cur {i : Nat} {lg : Logic} {c : Option Nat} (h : c ∈ (dropTask i lg).cur) : c ≠ some i := by
  obtain ⟨c', -, rfl⟩ := List.mem_map.1 h
  split_ifs with hc
  · simp
  · exact hc

/-- The event task of a Block that has one is the one that is released. -/
theorem eventTasks_foldl {b : Block} {e : TaskEntry} {i : Nat} (h : b.tasks.zipIdx.filter (fun e => e.1.kind == 2) = [(e, i)]) (lg : Logic) :
    b.tasks.zipIdx.foldl (fun (l : Logic) e => if e.1.kind = 2 then eventRelease e.2 l else l) lg = eventRelease i lg := by
  have hf := List.foldl_filter (p := fun e : TaskEntry × Nat => e.1.kind == 2) (f := fun (l : Logic) e => eventRelease e.2 l)
    (l := b.tasks.zipIdx) (init := lg)
  rw [h] at hf
  simpa using hf.symm

/-- An event task's release touches the task states alone. -/
theorem eventRelease_eq (i : Nat) (lg : Logic) : eventRelease i lg = { lg with tasks := (eventRelease i lg).tasks } := by
  unfold eventRelease
  dsimp only
  split_ifs <;> rfl

theorem eventRelease_of_free {i : Nat} {lg : Logic} (hb : (at! lg.tasks i).busy = false)
    (h : (at! lg.tasks i).pend = true ∨ eventFires (at! lg.tasks i) = true) :
    (eventRelease i lg).tasks = lg.tasks.modify i (fun x => releaseTask lg.ltc
      { x with skipped := if x.pend = true ∧ eventFires (at! lg.tasks i) = true then x.skipped + 1 else x.skipped }) := by
  simp only [eventRelease, hb, Bool.false_eq_true, if_false, Bool.or_eq_true, if_pos h, Bool.and_eq_true]

theorem eventRelease_of_busy {i : Nat} {lg : Logic} (hb : (at! lg.tasks i).busy = true) (h : eventFires (at! lg.tasks i) = true) :
    (eventRelease i lg).tasks = lg.tasks.modify i (fun x => if x.pend = true then { x with skipped := x.skipped + 1 } else { x with pend := true }) := by
  simp only [eventRelease, hb, h, if_true]

theorem eventRelease_of_quiet {i : Nat} {lg : Logic} (h : eventFires (at! lg.tasks i) = false)
    (hb : (at! lg.tasks i).busy = true ∨ (at! lg.tasks i).pend = false) : eventRelease i lg = lg := by
  unfold eventRelease
  rcases hb with hb | hb <;> simp [h, hb]

/-- Settles O41: by the row of the logic tasks, row by row. -/
theorem logicTasksTakeEffect : Obligations.LogicTasksTakeEffect := by
  unfold Obligations.LogicTasksTakeEffect
  refine ⟨fun s t b hb => ?_, fun s b e hb he => ?_, fun s b hb hk hq => ?_⟩
  · intro e x due late
    refine ⟨?_, fun hd hx hl => ?_, fun hd hx hl => ?_, fun h => ⟨?_, ?_⟩, fun h => ?_, fun h => ?_⟩
    · refine congrArg Host.Outcome.next ((State.logicRow_of_blk hb _).trans ?_)
      have hc : (dueAt (at! b.tasks t.val) s.logic.ltc && !(at! s.logic.tasks t.val).busy) = true ↔ due ∧ x.busy = false := by
        rw [Bool.and_eq_true, Bool.not_eq_true']
      by_cases h : due ∧ x.busy = false
      · simp only [if_pos (hc.2 h), if_pos h]; rfl
      · simp only [if_neg (fun h' => h (hc.1 h')), if_neg h]
    · exact ⟨taskEvent 0x10 t.val (at! (s.logic.tasks.modify t.val skipRelease) t.val).skipped,
        congrArg Host.Outcome.next (State.logicRow_eq hb (if_pos (lateRelease_of_skip hd hx hl))), rfl, rfl⟩
    · exact ⟨(doAbandon t.val s.logic).1, taskEvent 0x11 t.val x.relLtc,
        congrArg Host.Outcome.next (State.logicRow_eq hb (if_pos (lateRelease_of_late hd hx hl))), rfl, rfl, rfl, rfl, rfl,
        fun c hc => dropTask_cur (lg := { s.logic with tasks := _ }) hc⟩
    · refine congrArg Host.Outcome.next (State.logicRow_eq hb (if_neg ?_))
      rw [lateRelease_eq_none h]; simp
    · refine congrArg Host.Outcome.next (State.logicRow_eq hb (if_neg ?_))
      rw [lateRelease_eq_none h]; simp
    · exact congrArg Host.Outcome.next ((State.taskDone_of_blk hb t.val).trans (if_pos h))
    · exact congrArg Host.Outcome.next ((State.taskDone_of_blk hb t.val).trans (if_neg h))
  · intro x
    have hrow : exec .eventTaskRelease s = .next { s with
        logic := eventRelease 8 s.logic, evr := { s.evr with tickEv := s.evr.tickEv ++ [] } } :=
      congrArg Host.Outcome.next (State.logicRow_eq hb (congrArg (·, []) (eventTasks_foldl he s.logic)))
    refine ⟨_, hrow, ?_, rfl, fun h0 h1 => ?_, fun h0 h1 => ?_, fun h0 h1 => ?_⟩
    · exact congrArg (fun lg => ({ s with logic := lg, evr := { s.evr with tickEv := s.evr.tickEv ++ [] } } : State)) (eventRelease_eq 8 s.logic)
    · exact eventRelease_of_free h0 h1
    · exact eventRelease_of_busy h0 h1
    · exact congrArg Logic.tasks (eventRelease_of_quiet h0 h1)
  · have hE : hasErrTask b = true := beq_iff_eq.2 hk
    refine congrArg Host.Outcome.next (State.logicRow_eq hb (congrArg (·, []) ((if_pos hE).trans ?_)))
    unfold errorRelease
    rw [if_neg (by simpa using hq)]

/-! ### The bit instructions -/

theorem at!_modify_done {l : List Work} {u : Nat} {f : Work → Work} (hf : ∀ w, (f w).done = w.done) :
    (at! (l.modify u f) u).done = (at! l u).done := by
  simp only [at!, List.getD_eq_getElem?_getD, List.getElem?_modify, if_true]
  cases l[u]? with
  | none => rfl
  | some w => exact hf w

/-- An instruction that ends no cycle acts on its unit's working state alone. -/
theorem State.bluRow_of_cycle {s : State} {u : Nat} {v : CycleEnv} (h : s.cycle u = some v) (hd : (at! s.logic.work (2 + u)).done = false)
    {f : CycleEnv → Work → Work} (hf : ∀ w, (f v w).done = w.done) : s.bluRow u f = s.work (2 + u) (f v) := by
  unfold State.cycle at h
  split at h
  case h_2 => exact absurd h (by simp)
  case h_1 b t hb ht =>
    obtain rfl := Option.some.inj h
    unfold State.bluRow State.work
    simp only [hb, ht]
    have hdone := (at!_modify_done (l := s.logic.work) (u := 2 + u) hf).trans hd
    unfold unloadDone
    simp only [ht, hdone, Bool.false_eq_true, if_false]

theorem cycWrite_frame (w : Work) (i : Nat) (x : BitVec 64) (q : BitVec 16) :
    cycWrite w i x q = { w with outs := (cycWrite w i x q).outs } := by
  unfold cycWrite
  split_ifs <;> rfl

/-- A bit instruction as its row runs it: `f`, charged, and the next word. -/
theorem State.bluRow_next {s : State} {u : Nat} {v : CycleEnv} (h : s.cycle u = some v) (hd : (at! s.logic.work (2 + u)).done = false)
    {f : CycleEnv → Work → Work} {g : Work → Work} (hf : ∀ w, f v w = g w) (hg : ∀ w, (g w).done = w.done) :
    Host.Outcome.next (s.bluRow u f) = (Host.Outcome.next (s.work (2 + u) g) : Host.Outcome State Fault Refusal) := by
  rw [State.bluRow_of_cycle h hd (fun w => by rw [hf, hg]), funext hf]

theorem bluTick_cycWrite (w : Work) (i : Nat) (x : BitVec 64) (q : BitVec 16) :
    bluTick (cycWrite w i x q) = { cycWrite w i x q with pc := w.pc + 1, charge := w.charge + 1 } := by
  unfold bluTick cycWrite
  split_ifs <;> rfl

theorem bne_eq_ite_not (a b : Bool) : (if b then !a else a) = (a != b) := by
  cases a <;> cases b <;> rfl

/-- The same of an instruction that charges one cycle and moves to the next word. -/
theorem State.bluRow_charged {s : State} {u : Nat} {v : CycleEnv} (h : s.cycle u = some v) (hd : (at! s.logic.work (2 + u)).done = false)
    {f : CycleEnv → Work → Work} (g : Work → Work) (hf : ∀ w, f v w = { g w with pc := w.pc + 1, charge := w.charge + 1 })
    (hg : ∀ w, (g w).done = w.done) :
    Host.Outcome.next (s.bluRow u f)
      = (Host.Outcome.next (s.work (2 + u) (fun w => { g w with pc := w.pc + 1, charge := w.charge + 1 })) : Host.Outcome State Fault Refusal) :=
  State.bluRow_next h hd hf hg

/-- The same of one that moves the position itself before it goes to the next word. -/
theorem State.bluRow_stepped {s : State} {u : Nat} {v : CycleEnv} (h : s.cycle u = some v) (hd : (at! s.logic.work (2 + u)).done = false)
    {f : CycleEnv → Work → Work} (g : Work → Work) (hf : ∀ w, f v w = { g w with pc := (g w).pc + 1, charge := w.charge + 1 })
    (hg : ∀ w, (g w).done = w.done) :
    Host.Outcome.next (s.bluRow u f)
      = (Host.Outcome.next (s.work (2 + u) (fun w => { g w with pc := (g w).pc + 1, charge := w.charge + 1 })) : Host.Outcome State Fault Refusal) :=
  State.bluRow_next h hd hf hg

/-- SET and RST write where ACC is true. -/
theorem bluTick_setIf (w : Work) (i : Nat) (x : BitVec 64) :
    bluTick (if w.acc then cycWrite w i x 0 else w) = { (if w.acc then cycWrite w i x 0 else w) with pc := w.pc + 1, charge := w.charge + 1 } ∧
      (if w.acc then cycWrite w i x 0 else w).done = w.done := by
  cases w.acc
  · exact ⟨rfl, rfl⟩
  · exact ⟨bluTick_cycWrite .., by rw [if_pos rfl, cycWrite_frame]⟩

/-- CLB combines the pushed value with ACC. -/
def clbWork (w : Work) : Work :=
  match w.stack with
  | (x, true) :: t => { w with stack := t, acc := x || w.acc }
  | (x, false) :: t => { w with stack := t, acc := x && w.acc }
  | [] => w

theorem bluOpClb_eq (w : Work) : bluOpClb w = { clbWork w with pc := w.pc + 1, charge := w.charge + 1 } ∧ (clbWork w).done = w.done := by
  unfold bluOpClb clbWork
  rcases w.stack with _ | ⟨⟨x, o⟩, t⟩
  · exact ⟨rfl, rfl⟩
  · cases o <;> exact ⟨rfl, rfl⟩

theorem cycRead_cycWrite_same (v : CycleEnv) (w : Work) (i : Nat) (x : BitVec 64) (q : BitVec 16) :
    cycRead v (cycWrite w i x q) i = (x, q, v.typ i) := by
  unfold cycRead cycWrite
  by_cases hi : w.outs.any (fun o => o.1 == i) = true
  · rw [if_pos hi]
    obtain ⟨o, ho⟩ := Option.isSome_iff_exists.1 (List.find?_isSome.2 (List.any_eq_true.1 hi))
    have hp : ((fun o : Nat × BitVec 64 × BitVec 16 => o.1 == i) ∘ fun o => if o.1 = i then (i, x, q) else o) = fun o => o.1 == i := by
      funext o
      by_cases h : o.1 = i <;> simp [h]
    have hfind : (w.outs.map (fun o => if o.1 = i then (i, x, q) else o)).find? (fun o => o.1 == i) = some (i, x, q) := by
      have hoi : o.1 = i := by simpa using List.find?_some ho
      rw [List.find?_map, hp, ho, Option.map_some, if_pos hoi]
    simp only [hfind]
  · rw [if_neg hi]
    have hnone : w.outs.find? (fun o => o.1 == i) = none :=
      List.find?_eq_none.2 fun o ho h => hi (List.any_eq_true.2 ⟨o, ho, h⟩)
    simp [List.find?_append, hnone]

theorem cycRead_cycWrite_other (v : CycleEnv) (w : Work) {i j : Nat} (h : j ≠ i) (x : BitVec 64) (q : BitVec 16) :
    cycRead v (cycWrite w i x q) j = cycRead v w j := by
  have hfind : (cycWrite w i x q).outs.find? (fun o => o.1 == j) = w.outs.find? (fun o => o.1 == j) := by
    unfold cycWrite
    split_ifs
    · induction w.outs with
      | nil => rfl
      | cons o l ih =>
        by_cases ho : o.1 = i
        · simp [ho, List.find?_cons, h.symm, ih]
        · simp [ho, List.find?_cons, ih]
    · simp [List.find?_append, h.symm]
  unfold cycRead
  rw [hfind]

/-- The operand of a point that is no double point (R298). -/
theorem bluOperand_of_single {w : Work} {v : CycleEnv} {m : BitVec 4} {i : Nat} (h : (cycRead v w i).2.2 ≠ 2) :
    bluOperand v w m i = if m.getLsbD 1 = true ∧ qBad (cycRead v w i).2.1 = true then false else ((cycRead v w i).1.getLsbD 0 != m.getLsbD 0) := by
  unfold bluOperand
  simp only [if_neg h, Bool.and_eq_true]
  refine if_congr Iff.rfl rfl ?_
  cases m.getLsbD 0 <;> simp

/-- Settles O42: by the row of a unit and the accessors of the working copy. -/
theorem bitLogicTakesEffect : Obligations.BitLogicTakesEffect := by
  unfold Obligations.BitLogicTakesEffect
  refine ⟨fun s u v m i h hd => ?_, fun w v i j x q => ⟨cycRead_cycWrite_same v w i x q, fun hj => cycRead_cycWrite_other v w hj x q⟩,
    fun w v m i h => bluOperand_of_single h⟩
  refine ⟨?_, ?_, ?_, ?_, ?_, ?_, ?_, ?_, ?_, ?_, ?_, ?_⟩
  · exact State.bluRow_charged h hd id (fun w => rfl) (fun w => rfl)
  · exact State.bluRow_charged h hd (fun w => { w with acc := bluOperand v w m i.toNat }) (fun w => rfl) (fun w => rfl)
  · refine State.bluRow_charged h hd (fun w => cycWrite w i.toNat (vBool (w.acc != m.getLsbD 0)) 0) (fun w => ?_) (fun w => by rw [cycWrite_frame])
    rw [← bne_eq_ite_not w.acc]
    exact bluTick_cycWrite ..
  · exact State.bluRow_charged h hd (fun w => { w with acc := w.acc && bluOperand v w m i.toNat }) (fun w => rfl) (fun w => rfl)
  · exact State.bluRow_charged h hd (fun w => { w with acc := w.acc || bluOperand v w m i.toNat }) (fun w => rfl) (fun w => rfl)
  · exact State.bluRow_charged h hd (fun w => { w with acc := w.acc != bluOperand v w m i.toNat }) (fun w => rfl) (fun w => rfl)
  · exact State.bluRow_charged h hd (fun w => if w.acc then cycWrite w i.toNat 1 0 else w) (fun w => (bluTick_setIf ..).1) (fun w => (bluTick_setIf ..).2)
  · exact State.bluRow_charged h hd (fun w => if w.acc then cycWrite w i.toNat 0 0 else w) (fun w => (bluTick_setIf ..).1) (fun w => (bluTick_setIf ..).2)
  · refine State.bluRow_charged h hd (fun w => { w with acc := decide (i = 1) }) (fun w => ?_) (fun w => rfl)
    have hi : (i.toNat == 1) = decide (i = 1) := by
      rw [Bool.eq_iff_iff, beq_iff_eq, decide_eq_true_iff, ← BitVec.toNat_inj]; rfl
    simp only [bluOpLdk, hi]; rfl
  · exact State.bluRow_charged h hd (fun w => { w with stack := ((w.acc, false) :: w.stack).take 16, acc := bluOperand v w m i.toNat })
      (fun w => rfl) (fun w => rfl)
  · exact State.bluRow_charged h hd (fun w => { w with stack := ((w.acc, true) :: w.stack).take 16, acc := bluOperand v w m i.toNat })
      (fun w => rfl) (fun w => rfl)
  · exact State.bluRow_charged h hd clbWork (fun w => (bluOpClb_eq w).1) (fun w => (bluOpClb_eq w).2)

/-- The end of the cycle: the unit is free and its work waits with its task for phase E. -/
theorem unloadDone_of_done {u t : Nat} {lg : Logic} (ht : at! lg.cur u = some t) (hd : (at! lg.work u).done = true) :
    unloadDone u lg = { lg with
      tasks := lg.tasks.modify t (fun x => { x with work := at! lg.work u, st := 4 })
      cur := setAt lg.cur u none, work := setAt lg.work u {} } := by
  unfold unloadDone
  simp only [ht, hd, if_true]

theorem at!_modify_of_lt {l : List Work} {u : Nat} (h : u < l.length) (f : Work → Work) : at! (l.modify u f) u = f (at! l u) := by
  simp [at!, List.getElem?_modify, h]

theorem bluOpJc_eq (i : Nat) (w : Work) : bluOpJc i w =
    { (if w.acc then { w with pc := w.pc + i } else w) with pc := (if w.acc then { w with pc := w.pc + i } else w).pc + 1, charge := w.charge + 1 } := by
  unfold bluOpJc bluTick
  by_cases h : w.acc = true <;> simp [h, Nat.add_right_comm]

theorem bluOpJnc_eq (i : Nat) (w : Work) : bluOpJnc i w =
    { (if w.acc then w else { w with pc := w.pc + i }) with pc := (if w.acc then w else { w with pc := w.pc + i }).pc + 1, charge := w.charge + 1 } := by
  unfold bluOpJnc bluTick
  by_cases h : w.acc = true <;> simp [h, Nat.add_right_comm]

/-- END on the unit that carries a task's cycle. -/
theorem State.bluRow_end {s : State} {u t : Nat} {b : Block} (hb : s.blk = some b) (ht : at! s.logic.cur (2 + u) = some t)
    (hl : 2 + u < s.logic.work.length) :
    s.bluRow u (fun _ w => bluOpEnd w) = { s with logic := { s.logic with
      tasks := s.logic.tasks.modify t (fun x => { x with st := 4, work := bluOpEnd (at! s.logic.work (2 + u)) })
      cur := setAt s.logic.cur (2 + u) none, work := setAt s.logic.work (2 + u) {} } } := by
  have hget := at!_modify_of_lt hl bluOpEnd
  have hset : (s.logic.work.modify (2 + u) bluOpEnd).set (2 + u) {} = s.logic.work.set (2 + u) {} := by
    rw [List.modify_eq_set, List.set_set]
  have hend := unloadDone_of_done (u := 2 + u) (t := t) (lg := { s.logic with work := s.logic.work.modify (2 + u) bluOpEnd }) ht (by rw [hget]; rfl)
  unfold setAt at hend ⊢
  rw [hset, hget] at hend
  unfold State.bluRow
  split
  case h_2 hno => exact absurd ht (hno b t hb)
  case h_1 b' t' hb' ht' => exact congrArg (fun lg => ({ s with logic := lg } : State)) hend

/-- Settles O43: by the row of a unit and the blocks' evaluations. -/
theorem bitLogicBlocksTakeEffect : Obligations.BitLogicBlocksTakeEffect := by
  unfold Obligations.BitLogicBlocksTakeEffect
  refine ⟨fun s u v m i h hd => ?_, fun s u m i b t hb ht hl => ?_, fun input it => ⟨rfl, rfl, rfl, rfl⟩, fun pv input it => ⟨rfl, rfl, rfl⟩⟩
  · refine ⟨?_, ?_, ?_, ?_, ?_, ?_, ?_, ?_, ?_, ?_, ?_, ?_⟩
    · exact State.bluRow_next h hd (fun w => rfl) (fun w => rfl)
    · exact State.bluRow_next h hd (fun w => rfl) (fun w => rfl)
    · exact State.bluRow_next h hd (fun w => rfl) (fun w => rfl)
    · exact State.bluRow_next h hd (fun w => rfl) (fun w => rfl)
    · exact State.bluRow_next h hd (fun w => rfl) (fun w => rfl)
    · exact State.bluRow_next h hd (fun w => rfl) (fun w => rfl)
    · exact State.bluRow_next h hd (fun w => rfl) (fun w => rfl)
    · exact State.bluRow_next h hd (fun w => rfl) (fun w => rfl)
    · exact State.bluRow_next h hd (fun w => rfl) (fun w => rfl)
    · refine State.bluRow_stepped h hd (fun w => if w.acc then { w with counters := w.counters.modify i.toNat (fun c => { c with cv := 0 }) } else w)
        (fun w => ?_) (fun w => ?_)
      · unfold bluOpCrs
        cases w.acc <;> rfl
      · cases w.acc <;> rfl
    · refine State.bluRow_stepped h hd (fun w => if w.acc then { w with pc := w.pc + i.toNat } else w) (fun w => ?_) (fun w => ?_)
      · exact bluOpJc_eq ..
      · cases w.acc <;> rfl
    · refine State.bluRow_stepped h hd (fun w => if w.acc then w else { w with pc := w.pc + i.toNat }) (fun w => ?_) (fun w => ?_)
      · exact bluOpJnc_eq ..
      · cases w.acc <;> rfl
  · exact congrArg Host.Outcome.next (State.bluRow_end hb ht hl)

end Sys2Proof.Machine
end

section
/-! SUPPORT. O45: configuration as it takes effect. -/

namespace Sys2Proof

/-! ### The Block store -/

theorem Store.put_at (k : Option (Fin 4)) (y : StoreSlot) (x : Store) : (x.put k y).curAt = x.curAt ∧ (x.put k y).prevAt = x.prevAt := by
  cases k <;> exact ⟨rfl, rfl⟩

theorem Store.keep_cur (x : Store) (l : List Hood) (n : Nat) : (x.keep l n).cur = x.cur := by
  unfold Store.keep Store.cur
  rw [(Store.put_at ..).1]
  cases x.curAt with
  | none => rfl
  | some k => rw [Store.slot_put]

theorem Store.keep_chain {x : Store} (h : x.curAt.isSome = true) (l : List Hood) (n : Nat) :
    ((x.keep l n).slot x.curAt).chain = l ∧ ((x.keep l n).slot x.curAt).marked = n := by
  obtain ⟨k, hk⟩ := Option.isSome_iff_exists.1 h
  unfold Store.keep
  rw [hk, Store.slot_put]
  exact ⟨rfl, rfl⟩

theorem Store.writeDir_frame (d : DirCopy) (x : Store) : x.writeDir d = { x with dirA := (x.writeDir d).dirA, dirB := (x.writeDir d).dirB } := by
  unfold Store.writeDir
  dsimp only
  split <;> rfl

/-- The copy that the write-back seals: the slots in use, kept apart from the unconverted ones of an unconfirmed image. -/
def Store.nowDir (x : Store) : DirCopy := if x.conv then { x.dir with convCur := x.curAt, convPrev := x.prevAt } else { cur := x.curAt, prev := x.prevAt }

theorem Store.writeNow_eq {x : Store} (hb : x.bad = false) : x.writeNow = { x.writeDir x.nowDir with dirDue := none } := by
  unfold Store.writeNow Store.nowDir
  rw [hb]
  rfl

/-- A restart takes the slots in use, from either half of the directory. -/
theorem Store.nowDir_boot {x : Store} (hc : x.conv = true → x.curAt ≠ none ∨ x.prevAt ≠ none) :
    (x.writeDir x.nowDir).bootAt = x.curAt ∧ (x.writeDir x.nowDir).bootPrevAt = x.prevAt := by
  unfold Store.nowDir
  by_cases h : x.conv = true
  · have hconv : (x.curAt.isSome || x.prevAt.isSome) = true := by
      rcases hc h with h | h <;> simp [Option.isSome_iff_ne_none.2 h]
    rw [if_pos h]
    constructor
    · rw [Store.bootAt, Store.writeDir_conv, if_pos hconv, Store.writeDir_dir]; rfl
    · rw [Store.bootPrevAt, Store.writeDir_conv, if_pos hconv, Store.writeDir_dir]; rfl
  · rw [if_neg h]
    exact Store.writeDir_bootAt rfl rfl x

/-- The directory that is written is the one a restart takes. -/
theorem Store.writeNow_keeps {x : Store} (hb : x.bad = false) (hc : x.conv = true → x.curAt ≠ none ∨ x.prevAt ≠ none) :
    x.writeNow.dirDue = none ∧ x.writeNow.cur = x.cur ∧ x.writeNow.prev = x.prev ∧
    x.writeNow.afterReset.cur = x.cur ∧ x.writeNow.afterReset.prev = x.prev ∧ x.writeNow.slots = x.slots := by
  have hs : x.writeNow.slots = x.slots := by
    rw [Store.writeNow_eq hb]
    exact x.writeDir_slots _
  have hcur : x.writeNow.curAt = x.curAt ∧ x.writeNow.prevAt = x.prevAt := by
    rw [Store.writeNow_eq hb, Store.writeDir_frame]
    exact ⟨rfl, rfl⟩
  obtain ⟨hboot, hbootPrev⟩ := Store.nowDir_boot hc
  have hafter : x.writeNow.afterReset.curAt = x.curAt ∧ x.writeNow.afterReset.prevAt = x.prevAt := by
    rw [Store.writeNow_eq hb]
    exact ⟨hboot, hbootPrev⟩
  have hslot (y : Store) (hy : y.slots = x.slots) (k j : Option (Fin 4)) (hk : k = j) : (y.slot k).blk = (x.slot j).blk := by
    rw [hk, Store.slot_congr hy]
  exact ⟨by rw [Store.writeNow_eq hb], hslot _ hs _ _ hcur.1, hslot _ hs _ _ hcur.2, hslot x.writeNow.afterReset hs _ _ hafter.1,
    hslot x.writeNow.afterReset hs _ _ hafter.2, hs⟩

end Sys2Proof

namespace Sys2Proof.Machine

/-! ### The event recorder -/

theorem tombPut_fields (r : EvRec) (e : Evr) : (tombPut r e).pathBad = e.pathBad ∧ (tombPut r e).pathFail = e.pathFail ∧
    (tombPut r e).mem = e.mem ∧ (tombPut r e).lastSeq = e.lastSeq := by
  unfold tombPut
  dsimp only
  split
  · exact ⟨rfl, rfl, rfl, rfl⟩
  · split <;> exact ⟨rfl, rfl, rfl, rfl⟩

theorem evrFault_fields (id : TickId) (ltc : Nat) (partner : Bool) (seg : Nat) (e : Evr) : (evrFault id ltc partner seg e).pathBad = e.pathBad ∧
    (evrFault id ltc partner seg e).pathFail = e.pathFail ∧ (evrFault id ltc partner seg e).mem = e.mem ∧ (evrFault id ltc partner seg e).lastSeq = e.lastSeq := by
  unfold evrFault
  dsimp only
  split_ifs <;> exact tombPut_fields _ e

theorem evrRecover_fields (id : TickId) (ltc : Nat) (partner : Bool) (e : Evr) : (evrRecover id ltc partner e).pathBad = false ∧
    (evrRecover id ltc partner e).pathFail = 0 ∧ (evrRecover id ltc partner e).mem = e.mem ∧ (evrRecover id ltc partner e).lastSeq = e.lastSeq := by
  unfold evrRecover
  dsimp only
  split_ifs
  · exact ⟨rfl, rfl, rfl, rfl⟩
  · exact evrFault_fields id ltc partner 0xFFFFFFFF { e with pathBad := false, pathFail := 0 }
  · exact ⟨rfl, rfl, rfl, rfl⟩

theorem nextGood_zero {bad : List Nat} (h : 0 ∉ bad) (n : Nat) : nextGood bad (n + 1) 0 = 0 := by
  have h0 : bad.contains (segOf 0) = false := by
    rw [← Bool.not_eq_true, List.contains_iff_mem]
    exact h
  unfold nextGood
  refine (if_neg ?_ : (if bad.contains (segOf 0) then _ else 0) = 0)
  rw [h0]
  exact Bool.false_ne_true

theorem tickStamp_fields (id : TickId) (ltc : Nat) (r : EvRec) : (tickStamp id ltc r).kind = r.kind ∧ (tickStamp id ltc r).subject = r.subject ∧
    (tickStamp id ltc r).arg = r.arg := by
  unfold tickStamp
  dsimp only
  split_ifs <;> exact ⟨rfl, rfl, rfl⟩

/-- What the record of a clear says. -/
theorem stageRec_clearRec (p : Option EvrPlan) (sg : Sig) (id : TickId) (ltc seq : Nat) (prev : BitVec 128) (key : Nat) (fp : BitVec 128) (e : Evr) :
    let r := stageRec p sg id ltc seq prev (clearRec key fp e)
    r.kind = 0x52 ∧ r.seq = seq ∧ r.subject = key ∧ r.arg = fp ∧ r.prevTag = prev := by
  intro r
  obtain ⟨hk, hs, ha⟩ := tickStamp_fields id ltc (clearRec key fp e)
  exact ⟨hk, rfl, hs, ha, rfl⟩

/-- What answers a clear: a host's mailbox or an association, and the command that waits. -/
theorem State.answerClear_frame (d : Option (Nat × Nat)) (s : State) : s.answerClear d =
    { s with svc := (s.answerClear d).svc, hpi := (s.answerClear d).hpi, cp := (s.answerClear d).cp, out := (s.answerClear d).out } := by
  unfold State.answerClear
  split
  · rfl
  · split
    · rfl
    · next w _ => cases w.1.reply <;> rfl

/-- A clear that is due, with its Pin, leaves the recorder as `evrClearGo` does. -/
theorem State.clearDue_of_due {s : State} {key tag at_ : Nat} {fp : BitVec 128} (h : s.evr.clearReq = some (key, fp, at_, tag)) (hd : at_ ≤ s.logic.ltc) :
    s.clearDue = { s with
      evr := evrClearGo s.block.evrPlans s.sig key fp s.tsu.id s.logic.ltc s.evr, svc := s.clearDue.svc, hpi := s.clearDue.hpi
      pair := { s.pair with feltSeq := s.clearDue.pair.feltSeq }, cp := s.clearDue.cp, free := s.clearDue.free, out := s.clearDue.out } := by
  unfold State.clearDue
  rw [h]
  dsimp only
  rw [if_pos hd]
  split_ifs
  · obtain ⟨hp, n, f, o, hpin⟩ := State.pinBack_frame 0x20 23592 false 0
      { s with evr := evrClearGo s.block.evrPlans s.sig key fp s.tsu.id s.logic.ltc s.evr }
    unfold State.pin
    rw [hpin, State.answerClear_frame]
  · rw [State.answerClear_frame]

theorem State.clearDue_of_early {s : State} {key tag at_ : Nat} {fp : BitVec 128} (h : s.evr.clearReq = some (key, fp, at_, tag))
    (hd : s.logic.ltc < at_) : s.clearDue = s := by
  unfold State.clearDue
  rw [h]
  exact if_neg (Nat.not_le.2 hd)

/-! ### What acts on the coming tick -/

/-- The engine as its row sees it in the coming tick. -/
def State.coming (s : State) : State :=
  { s with logic := { s.logic with ltc := s.logic.ltc + 1 }, tsu := { s.tsu with id := gridId (nextGrid s.tsu) s.tsu.gen } }

theorem State.atNext_of {s u : State} {f : State → State} (h : f s.coming = u) :
    s.atNext f = { u with logic := { u.logic with ltc := s.logic.ltc }, tsu := { u.tsu with id := s.tsu.id } } := by
  subst h
  rfl

/-- A row that acts as of the coming tick and does nothing then does nothing. -/
theorem State.atNext_idle {s : State} {f : State → State} (h : f s.coming = s.coming) : s.atNext f = s :=
  (State.atNext_of h).trans rfl

theorem State.selectorStep_of {s : State} {p : Nat} {old : Int} (hs : s.block.selector = some p) (hl : s.logic.selLast = some old) :
    s.selectorStep = if old = selValue s.sig p then s
      else if 1 ≤ selValue s.sig p ∧ selValue s.sig p ≤ 8 then
        { s with logic := { s.logic with selLast := some (selValue s.sig p) }, sig := s.sig.writes s.tsu.id [wE 0x63402 (selValue s.sig p)] }
      else { s with logic := { s.logic with selLast := some (selValue s.sig p), selIgn := s.logic.selIgn + 1 } } := by
  unfold State.selectorStep
  rw [hs]
  dsimp only
  rw [hl]
  rfl

theorem swapHood_of {s : State} {n : Nat} {h : Hood} {b : Block} (ha : s.hood.armed = some n) (hh : s.hood.held = some h) (hb : s.blk = some b) :
    s.swapHood = if s.logic.ltc < n then s else { s with
      blk := some (hoodBlock b h), logic := (hoodSwapGo b h s.logic s.sig).lg, sig := (newMap (hoodBlock b h)).remap (fun _ => true) s.sig
      hood := swapUnit (hoodSwapGo b h s.logic s.sig) h s.logic.ltc s.hood
      store := s.store.keep (s.hood.chain ++ [h]) s.hood.marked
      evr := { s.evr with tickEv := s.evr.tickEv ++ (hoodSwapGo b h s.logic s.sig).events } } := by
  unfold State.swapHood
  rw [ha, hh]
  split
  case h_2 hno => exact absurd hb (hno _ _ b rfl rfl)
  case h_1 n' h' b' hn' hh' hb' =>
    obtain rfl := Option.some.inj hn'
    obtain rfl := Option.some.inj hh'
    obtain rfl := Option.some.inj (hb'.symm.trans hb)
    rfl

/-- The record of a Hood swap names the Hood. -/
theorem hoodSwapGo_event (b : Block) (h : Hood) (lg : Logic) (sg : Sig) :
    ({ kind := 0x12, rflags := 1, subject := h.tasks.toNat, arg := h.hoodId } : EvRec) ∈ (hoodSwapGo b h lg sg).events := by
  simp [hoodSwapGo]

theorem State.takeRole_frame (s : State) : s.takeRole = { s with life := { s.life with role := s.takeRole.life.role }, evr := s.takeRole.evr } := by
  have hset (n : Nat) : s.setRole n = { s with life := { s.life with role := (s.setRole n).life.role }, evr := (s.setRole n).evr } := by
    unfold State.setRole
    split_ifs <;> rfl
  rcases s.takeRole_cases with h | h | h | h | h <;> rw [h]
  all_goals exact hset _

/-- A prepared Block takes its place in the store, and the engine a role where it waits for one. -/
theorem State.activationDue_of_due {s : State} {a : Activation} (ha : s.store.act = some a) {n : Nat} (hn : a.at_ = some n) (hd : n ≤ s.logic.ltc) :
    s.activationDue = s.applyActivation := by
  unfold State.activationDue
  rw [ha]
  exact if_pos (by simp [hn, hd])

theorem State.activationDue_of_early {s : State} {a : Activation} (ha : s.store.act = some a)
    (h : a.at_ = none ∨ ∃ n, a.at_ = some n ∧ s.logic.ltc < n) : s.activationDue = s := by
  unfold State.activationDue
  rw [ha]
  rcases h with h | ⟨n, h, hn⟩
  · exact if_neg (by simp [h])
  · exact if_neg (by simp [h, hn])

/-- The engine with a prepared Block current and running, before it takes a role. -/
def State.activated (a : Activation) (s : State) : State :=
  ({ s.activate a.blk with
    store := { (if a.prev then s.store.exchange else s.store.take a.blk []) with
      act := none, checked := false, partnerOk := none, xfer := if a.prev then s.store.xfer else none, dirDue := some (s.logic.ltc + 9600) }
    life := { (s.activate a.blk).life with blockOk := true } } : State).endJob a.job 2 0 (BitVec.ofNat 64 s.logic.ltc)

/-- What changes when a prepared Block is activated: the running configuration, the store, the Hoods and no output. -/
structure Activates (a : Activation) (s t : State) : Prop where
  blk : t.blk = some a.blk
  cur : t.store.cur = if a.prev = true then s.store.prev else some a.blk
  prev : t.store.prev = s.store.cur
  act : t.store.act = none
  dirDue : t.store.dirDue = some (s.logic.ltc + 9600)
  blockOk : t.life.blockOk = true
  hood : t.hood = { s.hood with
    held := none, loaded := false, armed := none, cand := none, chain := [], marked := 0, marks := []
    relForces := ((newMap a.blk).lostForces s.sig).length }
  ram : t.hpi.ram = s.hpi.ram
  outs : t.fio.outs = s.fio.outs
  hat : t.hat = s.hat
  pending : t.pending = s.pending
  sca : t.sca = s.sca

theorem State.activated_activates (a : Activation) (s : State) : Activates a s (s.activated a) where
  blk := rfl
  cur := by
    refine Eq.trans (?_ : _ = (if a.prev then s.store.exchange else s.store.take a.blk []).cur) ?_
    · rfl
    · split_ifs
      · exact s.store.exchange_cur
      · exact Store.take_cur ..
  prev := by
    refine Eq.trans (?_ : _ = (if a.prev then s.store.exchange else s.store.take a.blk []).prev) ?_
    · rfl
    · split_ifs
      · exact s.store.exchange_prev
      · exact Store.take_prev ..
  act := rfl
  dirDue := rfl
  blockOk := rfl
  hood := rfl
  ram := rfl
  outs := rfl
  hat := rfl
  pending := rfl
  sca := rfl

theorem State.applyActivation_eq {s : State} {a : Activation} (ha : s.store.act = some a) : s.applyActivation = (s.activated a).takeRole := by
  unfold State.applyActivation
  rw [ha]
  rfl

theorem State.applyActivation_activates {s : State} {a : Activation} (ha : s.store.act = some a) : Activates a s s.applyActivation := by
  rw [State.applyActivation_eq ha, State.takeRole_frame]
  have h := s.activated_activates a
  exact ⟨h.blk, h.cur, h.prev, h.act, h.dirDue, h.blockOk, h.hood, h.ram, h.outs, h.hat, h.pending, h.sca⟩

/-- Settles O45: by the rows of the coming tick, the Block store and the event recorder. -/
theorem configurationTakesEffect : Obligations.ConfigurationTakesEffect := by
  unfold Obligations.ConfigurationTakesEffect
  refine ⟨fun s p old hs hl => ?_, fun s m h b ha hh hb => ⟨fun hm => ?_, fun hm => ?_⟩, fun x l n => ⟨x.keep_cur l n, fun h => Store.keep_chain h l n⟩,
    fun s => ?_, fun s a ha => ⟨fun n hn hd => ?_, fun h => ?_⟩, fun s => rfl, fun x => ⟨fun h => ?_, fun hb hc => Store.writeNow_keeps hb hc⟩,
    fun s key tag at_ fp hc => ⟨fun hd => ?_, fun hd => ?_⟩, fun s => rfl, fun s => ?_⟩
  · intro n
    refine ⟨fun hn => ?_, fun hn h1 h8 => ?_, fun hn h => ?_⟩
    · exact congrArg Host.Outcome.next (State.atNext_idle ((State.selectorStep_of (s := s.coming) hs hl).trans (if_pos hn.symm)))
    · exact congrArg Host.Outcome.next
        (State.atNext_of ((State.selectorStep_of (s := s.coming) hs hl).trans ((if_neg (Ne.symm hn)).trans (if_pos ⟨h1, h8⟩))))
    · have h18 : ¬(1 ≤ n ∧ n ≤ 8) := by omega
      exact congrArg Host.Outcome.next
        (State.atNext_of ((State.selectorStep_of (s := s.coming) hs hl).trans ((if_neg (Ne.symm hn)).trans (if_neg h18))))
  · exact congrArg Host.Outcome.next (State.atNext_idle ((swapHood_of (s := s.coming) ha hh hb).trans (if_pos hm)))
  · exact ⟨_, congrArg Host.Outcome.next (State.atNext_of ((swapHood_of (s := s.coming) ha hh hb).trans (if_neg (Nat.not_lt.2 hm)))),
      rfl, rfl, rfl, rfl, rfl, rfl, rfl, rfl, ⟨_, List.mem_append_right _ (hoodSwapGo_event ..), rfl, rfl⟩, rfl, rfl⟩
  · refine congrArg Host.Outcome.next ?_
    by_cases h : s.hood.marks.isEmpty = true
    · rw [if_pos h, if_pos h]
    · rw [if_neg h, if_neg h]
      unfold State.keepHoods hoodMark
      rw [if_neg h]
  · have hx := State.applyActivation_activates (s := s.coming) ha
    exact ⟨_, congrArg Host.Outcome.next (State.atNext_of (State.activationDue_of_due (s := s.coming) ha hn hd)),
      hx.blk, hx.cur, hx.prev, hx.act, hx.dirDue, hx.blockOk, hx.hood, hx.ram, hx.outs, hx.hat, hx.pending, hx.sca⟩
  · exact congrArg Host.Outcome.next (State.atNext_idle (State.activationDue_of_early (s := s.coming) ha h))
  · exact if_pos h
  · exact congrArg Host.Outcome.next (State.atNext_idle (State.clearDue_of_early (s := s.coming) hc hd))
  · obtain ⟨hk, hq, hs, ha, hp⟩ := stageRec_clearRec (planOf s.coming.block.evrPlans (clearRec key fp s.coming.evr)) s.coming.sig s.coming.tsu.id
      s.coming.logic.ltc (s.coming.evr.lastSeq + 1) s.coming.evr.lastTag key fp s.coming.evr
    exact ⟨_, _, _, congrArg Host.Outcome.next (State.atNext_of (State.clearDue_of_due (s := s.coming) hc hd)),
      rfl, fun h => nextGood_zero h 1024, hk, hq, hs, ha, hp, hq, rfl, rfl, rfl, rfl, rfl, rfl, rfl, rfl⟩
  · obtain ⟨h1, h2, h3, h4⟩ := evrRecover_fields s.tsu.id s.logic.ltc s.recReach s.evr
    exact ⟨_, rfl, rfl, h1, h2, h3, h4⟩

end Sys2Proof.Machine
end

section
/-! SUPPORT. O46 and O47: the field inputs and outputs. -/

namespace Sys2Proof

/-! ### Inputs and fast channels -/

theorem diRun_eq (e : DiEntry) (raw : Bool) (t : Nat) (gen : BitVec 16) (d : DiState) {P : Prop} [Decidable P]
    (hP : P ↔ d.seen = true ∧ ∀ x, d.lastCnt = some x → x + e.filt * 100000 ≤ t) :
    diRun e raw t gen d = { d with
      seen := true, raw := raw, since := t, start := stampOf t gen
      back := some { seen := d.seen, since := d.since, start := d.start, counted := d.counted, lastCnt := d.lastCnt }
      counted := if P then d.counted ++ [t] else d.counted, lastCnt := if P then some t else d.lastCnt } := by
  rw [show e.filt * 100000 = e.filtNs from rfl] at hP
  unfold diRun
  rcases hl : d.lastCnt with _ | x
  · simp only [hl] at hP
    simp [hP]
  · simp only [hl, Option.some.injEq, forall_eq'] at hP
    simp [hP]

theorem diAccept_eq (e : DiEntry) (now : Nat) (d : DiState) :
    diAccept e now d = if e.en = true ∧ d.seen = true ∧ d.acc ≠ some (d.raw != e.inv) ∧ d.since + e.filt * 100000 ≤ now then { d with
        acc := some (d.raw != e.inv), accAt := d.start
        waits := if d.osc then d.waits else d.waits ++
          [{ val := d.raw != e.inv, start := d.start, acc := d.since + e.filt * 100000 }] } else d := by
  unfold diAccept
  dsimp only
  refine if_congr ?_ ?_ rfl
  · rw [show e.filt * 100000 = e.filtNs from rfl]
    simp [diLevel, and_assoc]
  · cases d.osc <;> rfl

/-- A change of the raw state, and one that is taken back (R327). -/
theorem diRaw_eq (e : DiEntry) (raw : Bool) (instant : Nat) (gen : BitVec 16) (d0 : DiState) :
    let t := Nat.max ((instant + 999) / 1000 * 1000) d0.since
    let d := diAccept e t d0
    diRaw e raw instant gen d0 = if d.raw = raw then d
      else if d.back.isSome = true ∧ d.since = t then diBack raw (d.back.getD {}) d
      else diRun e raw t gen d := by
  intro t d
  unfold diRaw
  refine if_congr Iff.rfl rfl ?_
  change (match d.back with
    | some r => if d.since = t then diBack raw r d else diRun e raw t gen d
    | none => diRun e raw t gen d) = _
  cases d.back <;> simp

theorem fastEdge_eq (c : Nat) (e : FastEntry) (rising : Bool) (at_ : Nat) (short : Bool) (f : FastState) : fastEdge c e rising at_ short f = { f with
      count := if e.cnt = true then (if short = true then Config.fastCount c f.count at_ else if rising = true then f.count + 1 else f.count)
        else f.count
      edges := if rising = true ∧ e.frq = true then Nat.max at_ (f.edges.headD 0) :: f.edges else f.edges
      short := f.short || short, ovf := f.ovf || short } := by
  unfold fastEdge
  cases rising <;> cases short <;> cases e.cnt <;> cases e.frq <;> simp

end Sys2Proof

namespace Sys2Proof.Machine

/-- Settles O46: by the equations of the inputs and the fast channels. -/
theorem fieldInputsTakeEffect : Obligations.FieldInputsTakeEffect := by
  unfold Obligations.FieldInputsTakeEffect
  refine ⟨fun s i raw ns => ?_, fun s i ns => ?_, fun s c rising short ns => ?_⟩
  · intro e at_
    refine congrArg (fun f => Host.Outcome.next { s with tsu := { s.tsu with seen := at_ }, fio := { s.fio with dis := s.fio.dis.modify i.val f } })
      (funext fun d0 => (diRaw_eq e raw at_ s.tsu.gen d0).trans ?_)
    rw [diRun_eq e raw _ s.tsu.gen _ Iff.rfl]
    rfl
  · intro e
    exact congrArg (fun f => Host.Outcome.next { s with fio := { s.fio with dis := s.fio.dis.modify i.val f } }) (funext (diAccept_eq e ns))
  · intro e at_
    exact congrArg (fun f => Host.Outcome.next { s with tsu := { s.tsu with seen := at_ }, fio := { s.fio with fasts := s.fio.fasts.modify c.val f } })
      (funext (fastEdge_eq c.val e rising at_ short))

/-! ### Outputs, groups and output enable -/

/-- A change of one entry of a list, which leaves the others. -/
theorem getElem?_modify_self {α : Type} {l : List α} {i : Nat} {x : α} (h : l[i]? = some x) (f : α → α) : (l.modify i f)[i]? = some (f x) := by
  simp [List.getElem?_modify, h]

theorem getElem?_modify_other {α : Type} {i k : Nat} (h : k ≠ i) (l : List α) (f : α → α) : (l.modify i f)[k]? = l[k]? := by
  simp [List.getElem?_modify, Ne.symm h]

/-- An output's row that changes it to `f x`. -/
theorem State.out_only {s : State} {o : Nat} {x y : OutState} (h : s.fio.outs[o]? = some x) {f : OutState → OutState} (hf : f x = y) :
    let t : State := { s with fio := s.fio.out o f }
    t = { s with fio := { s.fio with outs := t.fio.outs } } ∧ t.fio.outs[o]? = some y ∧ ∀ k, k ≠ o → t.fio.outs[k]? = s.fio.outs[k]? := by
  subst hf
  exact ⟨rfl, getElem?_modify_self h f, fun k hk => getElem?_modify_other hk s.fio.outs f⟩

/-- The row of a group that changes it to `f x`. -/
theorem State.grp_only {s : State} {g : Nat} {x y : OutGroup} (h : s.fio.grps[g]? = some x) {f : OutGroup → OutGroup} (hf : f x = y) (l : List OutState) :
    let t : State := { s with fio := { s.fio.grp g f with outs := l } }
    t = { s with fio := { s.fio with grps := t.fio.grps, outs := t.fio.outs } } ∧ t.fio.grps[g]? = some y ∧
      ∀ k, k ≠ g → t.fio.grps[k]? = s.fio.grps[k]? := by
  subst hf
  exact ⟨rfl, getElem?_modify_self h f, fun k hk => getElem?_modify_other hk s.fio.grps f⟩

theorem outShutdown_of_retry {x : OutState} {retry : Bool} {n : Nat} (hsw : x.sw = true) (hr : retry = true) (h5 : x.retries < 5) :
    outShutdown retry n x = { x with sw := false, tsd := true, retryAt := n + 96, onFor := 0 } := by
  simp [outShutdown, hsw, hr, h5]

theorem outShutdown_of_latch {x : OutState} {retry : Bool} {n : Nat} (hsw : x.sw = true) (h : retry = false ∨ 5 ≤ x.retries) :
    outShutdown retry n x = { x with sw := false, latch := true, tsd := false, onFor := 0 } := by
  have hr : ¬(retry && decide (x.retries < 5)) = true := by
    rw [Bool.and_eq_true, decide_eq_true_iff]
    rintro ⟨h1, h5⟩
    rcases h with h | h
    · exact Bool.false_ne_true (h.symm.trans h1)
    · omega
  unfold outShutdown
  rw [if_neg (by simp [hsw]), if_neg hr]

theorem outShutdown_of_off {x : OutState} {retry : Bool} {n : Nat} (hsw : x.sw = false) : outShutdown retry n x = x := by
  simp [outShutdown, hsw]

/-- The row of R336's retry: where the engine commits without a keeper that holds, the switch is turned on again. -/
theorem State.retry_only {s : State} {o : Nat} {x y : OutState} (h : s.fio.outs[o]? = some x)
    (hy : (if s.fio.en && s.commits && !(at! s.fio.grps (o / 16)).holding then outRetry (s.tsu.statTick + 1) x else x) = y) :
    let t : State := { s with fio := if s.fio.en && s.commits && !(at! s.fio.grps (o / 16)).holding then s.fio.out o (outRetry (s.tsu.statTick + 1)) else s.fio }
    t = { s with fio := { s.fio with outs := t.fio.outs } } ∧ t.fio.outs[o]? = some y ∧ ∀ k, k ≠ o → t.fio.outs[k]? = s.fio.outs[k]? := by
  intro t
  by_cases hc : (s.fio.en && s.commits && !(at! s.fio.grps (o / 16)).holding) = true
  · have ht : t = { s with fio := s.fio.out o (outRetry (s.tsu.statTick + 1)) } := by simp only [t, if_pos hc]
    rw [ht]
    exact State.out_only h (by rw [← hy, if_pos hc])
  · have ht : t = s := by simp only [t, if_neg hc]
    rw [ht]
    exact ⟨rfl, by rw [h, ← hy, if_neg hc], fun _ _ => rfl⟩

theorem State.fioRow_eq {s : State} {f g : Fio} (h : f = g) :
    (Host.Outcome.next { s with fio := f } : Host.Outcome State Fault Refusal) = .next { s with fio := g } := by
  rw [h]

theorem at!_of_getElem? {l : List OutGroup} {i : Nat} {x : OutGroup} (h : l[i]? = some x) : at! l i = x := by
  simp [at!, h]

/-- The state of a supply by R341's table. -/
theorem supApply_eq {x : OutGroup} {n : Nat} (h1 : 3 ≤ at! x.conds 1 → n = 2) (h2 : ¬3 ≤ at! x.conds 1 → 3 ≤ at! x.conds 2 → n = 3)
    (h : ¬3 ≤ at! x.conds 1 → ¬3 ≤ at! x.conds 2 →
      (x.sup = 2 → 3 ≤ at! x.conds 4 → n = 1) ∧ (x.sup = 2 → ¬3 ≤ at! x.conds 4 → n = 2) ∧ (x.sup = 1 → 3 ≤ at! x.conds 3 → n = 0) ∧
      (x.sup = 1 → ¬3 ≤ at! x.conds 3 → n = 1) ∧ (x.sup = 0 ∨ x.sup = 3 → 3 ≤ at! x.conds 0 → n = 1) ∧ (x.sup = 0 → ¬3 ≤ at! x.conds 0 → n = 0) ∧
      (x.sup = 3 → ¬3 ≤ at! x.conds 0 → 3 ≤ at! x.conds 5 → n = 0) ∧ (x.sup = 3 → ¬3 ≤ at! x.conds 0 → ¬3 ≤ at! x.conds 5 → n = 3))
    (h3 : x.sup ≤ 3) : supApply x = { x with sup := n } := by
  refine congrArg (fun n => { x with sup := n }) ?_
  simp only [decide_eq_true_eq]
  split_ifs <;> grind

theorem getElem?_mapI {α β : Type} (f : Nat → α → β) (l : List α) (k : Nat) : (mapI f l)[k]? = l[k]?.map (f k) := by
  simp only [mapI, List.getElem?_map, List.getElem?_zipIdx, Option.map_map, Nat.zero_add]
  rfl

theorem grpOff_getElem? (g : Nat) (l : List OutState) (k : Nat) :
    (grpOff g l)[k]? = l[k]?.map (fun o => if k / 16 = g then { o with sw := false, onFor := 0 } else o) :=
  getElem?_mapI ..

/-- The group's row of R344 that ends a keeper's hold. -/
theorem State.holdExpiry_of_due {s : State} {g : Nat} {holdt : Nat} {x : OutGroup} (h : s.fio.grps[g]? = some x) (hen : s.fio.en = true)
    (hh : x.holding = true) (hm : ticksOfMs holdt ≤ x.missed) :
    (s.fio.en && holdDue holdt (at! s.fio.grps g)) = true := by
  simp [hen, at!_of_getElem? h, holdDue, hh, hm]

theorem State.holdExpiry_of_not {s : State} {g : Nat} {holdt : Nat} {x : OutGroup} (h : s.fio.grps[g]? = some x)
    (hn : s.fio.en = false ∨ x.holding = false ∨ x.missed < ticksOfMs holdt) : ¬(s.fio.en && holdDue holdt (at! s.fio.grps g)) = true := by
  rw [at!_of_getElem? h, Bool.and_eq_true, holdDue, Bool.and_eq_true, decide_eq_true_iff]
  rintro ⟨h1, h2, h3⟩
  rcases hn with hn | hn | hn
  · exact Bool.false_ne_true (hn.symm.trans h1)
  · exact Bool.false_ne_true (hn.symm.trans h2)
  · omega

theorem Hat.enable_eq_false {h : Hat} (hn : h.latch = false ∨ h.ploop = true) : h.enable = false := by
  rcases hn with hn | hn <;> simp [Hat.enable, hn]

/-- Settles O47: by the output's, the group's and the enable's rows. -/
theorem outputEventsTakeEffect : Obligations.OutputEventsTakeEffect := by
  unfold Obligations.OutputEventsTakeEffect
  refine ⟨fun s o x h => ?_, fun s g x h => ?_, fun s => ?_⟩
  · refine ⟨fun hsw hr h5 => ⟨_, rfl, State.out_only h (outShutdown_of_retry hsw hr h5)⟩, fun hsw hr => ⟨_, rfl, State.out_only h (outShutdown_of_latch hsw hr)⟩,
      fun hsw => ⟨_, rfl, State.out_only h (outShutdown_of_off hsw)⟩, fun hd => ⟨_, rfl, State.retry_only h ?_⟩, fun hd => ⟨_, rfl, State.retry_only h ?_⟩,
      fun hn => ⟨_, rfl, State.out_only h (if_pos hn)⟩, fun hn => ⟨_, rfl, State.out_only h (if_neg (Nat.not_le.2 hn))⟩⟩
    · obtain ⟨hen, hc, hh, ht, hcmd, hl, hr⟩ := hd
      simp [hen, hc, hh, outRetry, ht, hcmd, hl, hr]
    · rw [Bool.and_assoc, outRetry]
      split_ifs with hc hr
      · simp only [Bool.and_eq_true, Bool.not_eq_true', decide_eq_true_eq, and_assoc] at hc hr
        obtain ⟨hen, hcm, hh⟩ := hc
        exact absurd ⟨hen, hcm, hh, hr⟩ hd
      · rfl
      · rfl
  · refine ⟨fun n h1 h2 h3 hsup => ⟨_, rfl, State.grp_only h (supApply_eq h1 h2 h3 hsup) _, rfl⟩, fun hen => ?_, fun hen => ?_, fun hn => ?_,
      fun hen hh hm => ?_⟩
    · refine ⟨_, State.fioRow_eq (if_pos hen), State.grp_only h rfl s.fio.outs, rfl⟩
    · exact State.fioRow_eq (if_neg (Bool.eq_false_iff.1 hen))
    · exact State.fioRow_eq (if_neg (State.holdExpiry_of_not h hn))
    · refine ⟨_, State.fioRow_eq (if_pos (State.holdExpiry_of_due h hen hh hm)), State.grp_only h rfl (grpOff g.val s.fio.outs),
        fun k o ho => ?_⟩
      exact (grpOff_getElem? g.val s.fio.outs k).trans (congrArg _ ho)
  · refine ⟨fun hl hp hen => ?_, fun h => ?_, fun h hen => ?_, fun hl hp => ?_, fun hen => ?_⟩
    · have he : s.hat.enable = true := by simp [Hat.enable, hl, hp]
      have hrise : enableRise s.fio = { s.fio with en := true, outs := s.fio.outs.map (fun o => { o with sw := o.cmd && !o.latch && !o.tsd }) } :=
        if_neg (Bool.eq_false_iff.1 hen)
      refine ⟨_, State.fioRow_eq ((if_pos he).trans hrise), rfl, fun k o ho => ?_⟩
      exact (List.getElem?_map ..).trans (by rw [ho]; rfl)
    · refine State.fioRow_eq ?_
      by_cases he : s.hat.enable = true
      · rw [if_pos he]
        rcases or_assoc.2 h with h | h
        · exact absurd he (Bool.eq_false_iff.1 (Hat.enable_eq_false h))
        · exact if_pos h
      · exact if_neg he
    · have he : ¬s.hat.enable = true := Bool.eq_false_iff.1 (Hat.enable_eq_false h)
      refine ⟨_, State.fioRow_eq ((if_neg he).trans (if_pos hen)), rfl, fun k o ho => ?_, fun k g hg => ?_⟩
      · exact (List.getElem?_map ..).trans (by rw [ho]; rfl)
      · exact (List.getElem?_map ..).trans (by rw [hg]; rfl)
    · have he : s.hat.enable = true := by simp [Hat.enable, hl, hp]
      exact State.fioRow_eq (if_pos he)
    · refine State.fioRow_eq ?_
      by_cases he : s.hat.enable = true
      · exact if_pos he
      · exact (if_neg he).trans (if_neg (Bool.eq_false_iff.1 hen))

end Sys2Proof.Machine
end

section
/-! SUPPORT. O48: the Hat's rows. -/

namespace Sys2Proof

/-- The Hat after a change to `h`: the engine remembers the role in which it took the latch by a grant. -/
def Hat.noted (h old : Hat) (role : Nat) : Hat :=
  if h.latch && !old.latch && h.granted && role != 6 then { h with was := some role } else h

theorem Hat.noted_of_off {old h : Hat} {role : Nat} (hl : h.latch = false ∨ old.latch = true) : h.noted old role = h := by
  unfold Hat.noted
  rcases hl with hl | hl <;> simp [hl]

end Sys2Proof

namespace Sys2Proof.Machine

/-! ### What a row of the Hat does -/

/-- A row of the Hat but for a fall-back that has waited. -/
def State.hatSettled (f : Hat → Hat) (s : State) : State := ((({ s with hat := f s.hat } : State).latchNote s.hat).latchRole).enableLower

theorem State.hatRow_eq (f : Hat → Hat) (s : State) : s.hatRow f = (s.hatSettled f).fallDue := rfl

theorem State.latchNote_eq (old : Hat) (s : State) : s.latchNote old = { s with hat := s.hat.noted old s.life.role } := by
  unfold State.latchNote Hat.noted
  split_ifs <;> rfl

theorem State.latchRole_frame (s : State) : s.latchRole = { s with life := s.latchRole.life, pair := s.latchRole.pair, evr := s.latchRole.evr } := by
  have hset (n : Nat) (p : Pair) : ({ s.setRole n with pair := p } : State)
      = { s with life := (s.setRole n).life, pair := p, evr := (s.setRole n).evr } := by
    unfold State.setRole
    split_ifs <;> rfl
  unfold State.latchRole
  split
  · split
    · exact hset ..
    · rw [State.takeRole_frame]
  · split
    · exact hset ..
    · rfl

theorem State.enableLower_frame (s : State) : s.enableLower = { s with fio := s.enableLower.fio } := rfl

theorem State.enableLower_en (s : State) : s.enableLower.fio.en = (s.fio.en && s.hat.enable) := by
  unfold State.enableLower setEnable enableClear
  cases hs : s.hat.enable <;> cases hf : s.fio.en <;> simp [hf]

theorem State.enableLower_of_enable {s : State} (h : s.hat.enable = true) : s.enableLower = s :=
  congrArg (fun f => { s with fio := f }) (if_pos h)

/-- Without the latch and a planned handover the role stays. -/
theorem State.latchRole_idle {s : State} (hl : s.hat.latch = false) (h : s.life.role ≠ 1 ∨ s.pair.hoTick = false ∨ s.fit = false) : s.latchRole = s := by
  unfold State.latchRole
  rw [if_neg (Bool.eq_false_iff.1 hl)]
  exact if_neg (by rcases h with h | h | h <;> simp [h])

theorem State.latchRole_of_standby {s : State} (hl : s.hat.latch = true) (h : s.life.role = 2 ∨ s.life.role = 3) : s.latchRole.life.role = 1 := by
  unfold State.latchRole
  rw [if_pos hl, if_pos (by simpa using h)]
  exact State.setRole_role 1 s

theorem State.latchRole_of_lone {s : State} (hl : s.hat.latch = true) (h : s.life.role = 6) : s.latchRole = s := by
  unfold State.latchRole
  rw [if_pos hl, if_neg (by simp [h])]
  unfold State.takeRole
  exact if_pos (by simp [h])

theorem State.latchRole_of_planned {s : State} (hl : s.hat.latch = false) (h1 : s.life.role = 1) (hp : s.pair.hoTick = true) (hf : s.fit = true) :
    s.latchRole.life.role = 5 ∧ s.latchRole.pair.ho = s.pair.ho := by
  unfold State.latchRole
  rw [if_neg (Bool.eq_false_iff.1 hl), if_pos (by simp [h1, hp, hf])]
  exact ⟨State.setRole_role 5 s, rfl⟩

/-- The engine with the Hat changed, before its role follows. -/
def State.withHat (f : Hat → Hat) (s : State) : State := { s with hat := (f s.hat).noted s.hat s.life.role }

theorem State.hatSettled_eq (f : Hat → Hat) (s : State) : s.hatSettled f = ((s.withHat f).latchRole).enableLower := by
  unfold State.hatSettled
  rw [State.latchNote_eq]
  rfl

/-- The Hat of the row, and what else a row of the Hat may touch. -/
theorem State.hatSettled_hat (f : Hat → Hat) (s : State) : (s.hatSettled f).hat = (f s.hat).noted s.hat s.life.role := by
  unfold State.hatSettled
  rw [State.enableLower_frame, State.latchRole_frame, State.latchNote_eq]

theorem State.hatSettled_frame (f : Hat → Hat) (s : State) : s.hatSettled f = { s with
    hat := (s.hatSettled f).hat, life := (s.hatSettled f).life, pair := (s.hatSettled f).pair, fio := (s.hatSettled f).fio, evr := (s.hatSettled f).evr } := by
  unfold State.hatSettled
  rw [State.enableLower_frame, State.latchRole_frame, State.latchNote_eq]

theorem State.hatSettled_en (f : Hat → Hat) (s : State) : (s.hatSettled f).fio.en = (s.fio.en && ((f s.hat).noted s.hat s.life.role).enable) := by
  unfold State.hatSettled
  rw [State.enableLower_en, State.latchRole_frame, State.latchNote_eq]

theorem State.hatSettled_fio {f : Hat → Hat} {s : State} (h : ((f s.hat).noted s.hat s.life.role).enable = true) : (s.hatSettled f).fio = s.fio := by
  unfold State.hatSettled
  rw [State.enableLower_of_enable, State.latchRole_frame, State.latchNote_eq]
  rw [State.latchRole_frame, State.latchNote_eq]
  exact h


/-- Without the latch, and without a planned handover, the role stays. -/
theorem State.hatSettled_idle {f : Hat → Hat} {s : State} (hl : ((f s.hat).noted s.hat s.life.role).latch = false)
    (h : s.life.role ≠ 1 ∨ s.pair.hoTick = false ∨ s.fit = false) : s.hatSettled f = (s.withHat f).enableLower := by
  rw [State.hatSettled_eq, State.latchRole_idle (s := s.withHat f) hl h]

theorem State.hatSettled_standby {f : Hat → Hat} {s : State} (hl : ((f s.hat).noted s.hat s.life.role).latch = true)
    (h : s.life.role = 2 ∨ s.life.role = 3) : (s.hatSettled f).life.role = 1 := by
  rw [State.hatSettled_eq]
  exact State.latchRole_of_standby (s := s.withHat f) hl h

theorem State.hatSettled_lone {f : Hat → Hat} {s : State} (hl : ((f s.hat).noted s.hat s.life.role).latch = true)
    (h : s.life.role = 6) : s.hatSettled f = (s.withHat f).enableLower := by
  rw [State.hatSettled_eq, State.latchRole_of_lone (s := s.withHat f) hl h]

theorem State.hatSettled_planned {f : Hat → Hat} {s : State} (hl : ((f s.hat).noted s.hat s.life.role).latch = false)
    (h1 : s.life.role = 1) (hp : s.pair.hoTick = true) (hf : s.fit = true) : (s.hatSettled f).life.role = 5 ∧ (s.hatSettled f).pair.ho = s.pair.ho := by
  rw [State.hatSettled_eq]
  exact State.latchRole_of_planned (s := s.withHat f) hl h1 hp hf

/-! ### The Pin of the witness's action -/

/-- `u` is `s` but for the host port, the pair, and what leaves the engine. -/
def HatSame (s u : State) : Prop := u = { s with hpi := u.hpi, pair := u.pair, free := u.free, out := u.out }

theorem HatSame.fields {s u : State} (hu : HatSame s u) : u.hat = s.hat ∧ u.life = s.life ∧ u.fio = s.fio ∧ u.evr = s.evr :=
  ⟨(congrArg State.hat hu :), (congrArg State.life hu :), (congrArg State.fio hu :), (congrArg State.evr hu :)⟩

/-- What a row of the Hat leaves, seen from before the Pin. -/
theorem HatSame.settled_frame {s u : State} (hu : HatSame s u) (f : Hat → Hat) : let t := u.hatSettled f
    t = { s with hat := t.hat, life := t.life, pair := t.pair, fio := t.fio, evr := t.evr, hpi := t.hpi, free := t.free, out := t.out } := by
  intro t
  have ht : t = { u with hat := t.hat, life := t.life, pair := t.pair, fio := t.fio, evr := t.evr } := u.hatSettled_frame f
  clear_value t
  have h1 : t.hpi = u.hpi := (congrArg State.hpi ht :)
  have h2 : t.free = u.free := (congrArg State.free ht :)
  have h3 : t.out = u.out := (congrArg State.out ht :)
  rw [h1, h2, h3]
  refine ht.trans ?_
  rw [show u = _ from hu]

theorem HatSame.hat {s u : State} (hu : HatSame s u) (f : Hat → Hat) : (u.hatSettled f).hat = (f s.hat).noted s.hat s.life.role := by
  obtain ⟨hhat, hlife, -⟩ := hu.fields
  rw [State.hatSettled_hat, hhat, hlife]

theorem HatSame.en {s u : State} (hu : HatSame s u) (f : Hat → Hat) :
    (u.hatSettled f).fio.en = (s.fio.en && ((f s.hat).noted s.hat s.life.role).enable) := by
  obtain ⟨hhat, hlife, hfio, -⟩ := hu.fields
  rw [State.hatSettled_en, hhat, hlife, hfio]

/-- Where neither latch nor a planned handover lead to another role. -/
theorem HatSame.idle {s u : State} (hu : HatSame s u) {f : Hat → Hat} (hl : ((f s.hat).noted s.hat s.life.role).latch = false)
    (h : s.life.role ≠ 1 ∨ u.pair.hoTick = false ∨ s.fit = false) : u.hatSettled f = (u.withHat f).enableLower := by
  obtain ⟨hhat, hlife, -⟩ := hu.fields
  refine State.hatSettled_idle (by rw [hhat, hlife]; exact hl) ?_
  rw [State.fit, hlife]
  exact h

/-- A Pin touches of the pair the count of frames alone. -/
theorem State.witPin_same (a : Nat) (s : State) : HatSame s (s.witPin a) ∧ (s.witPin a).pair = { s.pair with feltSeq := (s.witPin a).pair.feltSeq } := by
  obtain ⟨h, n, f, o, hw⟩ := s.witPin_frame a
  rw [hw]
  exact ⟨rfl, rfl⟩

/-- So where neither latch nor a planned handover lead to another role, the row leaves role, recorder and the rest of the pair. -/
theorem State.witPin_idle {a : Nat} {s : State} {f : Hat → Hat} (hl : ((f s.hat).noted s.hat s.life.role).latch = false)
    (h : s.life.role ≠ 1 ∨ s.pair.hoTick = false ∨ s.fit = false) : let t := (s.witPin a).hatSettled f
    t.life = s.life ∧ t.pair = { s.pair with feltSeq := t.pair.feltSeq } ∧ t.evr = s.evr := by
  intro t
  obtain ⟨hu, hpair⟩ := s.witPin_same a
  obtain ⟨-, hlife, -, hevr⟩ := hu.fields
  have ht : t = ((s.witPin a).withHat f).enableLower := hu.idle hl (by rw [hpair]; exact h)
  rw [ht]
  exact ⟨hlife, hpair, hevr⟩

/-! ### The Hat of each row -/

theorem hatGrantGo_taken {h : Hat} (ha : h.act = 1) (hl : h.latch = false) : hatGrantGo true false h =
    { h with act := 0, latch := true, fresh := true, blockAlarm := false, grants := h.grants + 1, noCommit := 0, ploop := false, granted := true } := by
  simp [hatGrantGo, latchSet, ha, hl]

theorem hatGrantGo_blocked {h : Hat} (ha : h.act = 1) (hl : h.latch = false) : hatGrantGo true true h =
    { h with act := 0, ploop := true, granted := true, blocked := true, blocks := h.blocks + 1 } := by
  simp [hatGrantGo, ha, hl]

theorem hatGrantGo_refused {may : Bool} {h : Hat} (ha : h.act = 1) (hm : may = false ∨ h.latch = true) (loop : Bool) :
    hatGrantGo may loop h = { h with act := 0 } := by
  unfold hatGrantGo
  rw [if_neg (by simp [ha]), if_pos (by rcases hm with hm | hm <;> simp [hm])]

theorem hatGrantGo_idle {h : Hat} (ha : h.act ≠ 1) (may loop : Bool) : hatGrantGo may loop h = h := if_pos ha

/-- Without the latch output enable stays off. -/
theorem Hat.enable_of_unlatched {h : Hat} (hl : h.latch = false) : h.enable = false := by simp [Hat.enable, hl]

theorem Hat.enable_of_loop {h : Hat} (hl : h.ploop = true) : h.enable = false := by simp [Hat.enable, hl]

theorem State.mayGrant_eq_true {s : State} (hf : s.fit = true) (h5 : s.life.role ≠ 5) (h6 : s.life.role ≠ 6) : s.mayGrant = true := by
  simp [State.mayGrant, hf, h5, h6]

theorem State.mayGrant_eq_false {s : State} (h : s.fit = false ∨ s.life.role = 5 ∨ s.life.role = 6) : s.mayGrant = false := by
  rcases h with h | h | h <;> simp [State.mayGrant, h]

theorem hatRevokeGo_pending {h : Hat} (ha : h.act = 2) : hatRevokeGo h =
    { h with act := 0, latch := false, revoked := h.revoked || h.latch, granted := false, taken := true } := if_pos ha

theorem hatRevokeGo_idle {h : Hat} (ha : h.act ≠ 2) : hatRevokeGo h = h := if_neg ha

/-- A handover that is due is over, and the role follows the latch (R403). -/
theorem State.handoverTick_of_done {s u : State} (hu : HatSame s u) (hp : u.pair = { s.pair with feltSeq := u.pair.feltSeq }) (h : s.hoDone = true) :
    u.handoverTick = { u with pair := { u.pair with ho := none, hoA := false, hoTick := true } } := by
  simp only [State.hoDone, State.hoNow, Bool.and_eq_true, beq_iff_eq] at h
  obtain ⟨⟨hnow, hA⟩, hact⟩ := h
  cases ho : s.pair.ho with
  | none => simp [ho] at hnow
  | some p =>
    have hl : u.logic = s.logic := (congrArg State.logic hu :)
    obtain ⟨hhat, -⟩ := hu.fields
    have huo : u.pair.ho = some p := by rw [hp]; exact ho
    have huA : u.pair.hoA = true := by rw [hp]; exact hA
    have hd : ¬u.logic.ltc + 1 < p.at_ := by
      rw [ho] at hnow
      rw [hl]
      exact Nat.not_lt.2 (of_decide_eq_true hnow)
    unfold State.handoverTick
    simp only [huo, if_neg hd, huA, hhat, hact, decide_true, Bool.and_self, if_true]

theorem HatSame.withPair {s u : State} (hu : HatSame s u) (p : Pair) : HatSame s { u with pair := p } := by
  unfold HatSame at hu ⊢
  rw [hu]

/-- A row that leaves the latch and the planned handover as they are touches output enable alone. -/
theorem State.hatRow_same {s : State} {f : Hat → Hat} (hf : (f s.hat).noted s.hat s.life.role = s.hat) (hl : s.hat.latch = false)
    (hp : s.pair.hoTick = false) : s.hatRow f = s.enableLower.fallDue := by
  rw [State.hatRow_eq, State.hatSettled_idle (by rw [hf]; exact hl) (.inr (.inl hp)), State.withHat, hf]

/-- A role touches the engine's life and the recorder. -/
theorem State.setRole_frame (n : Nat) (s : State) : s.setRole n = { s with life := (s.setRole n).life, evr := (s.setRole n).evr } := by
  unfold State.setRole
  split_ifs <;> rfl

/-- A race: unit B gives way and has the role it had before, unit A keeps its latch without output enable (R380, R46). -/
theorem State.race_of_fresh {s : State} (hl : s.hat.latch = true) (hf : s.hat.fresh = true) :
    s.race = if s.unitB = true then
      (match s.hat.was with
        | some r => ({ s with hat := { s.hat with latch := false, fresh := false, ploop := true, revoked := false, raceLost := true, was := none } } : State).setRole r
        | none => { s with hat := { s.hat with latch := false, fresh := false, ploop := true, revoked := false, raceLost := true, was := none } }).enableLower
    else ({ s with hat := { s.hat with ploop := true } } : State).enableLower := by
  have hgo : hatRaceGo s.unitB s.hat = if s.unitB = true then
      { s.hat with latch := false, fresh := false, ploop := true, revoked := false, raceLost := true, was := none }
      else { s.hat with ploop := true } := if_pos (by simp [hl, hf])
  unfold State.race
  rw [hgo]
  by_cases hB : s.unitB = true
  · simp only [if_pos hB]
    cases s.hat.was with
    | none => rfl
    | some r => exact congrArg State.enableLower (if_pos (by simp [hl]))
  · simp only [if_neg hB]
    cases s.hat.was with
    | none => rfl
    | some r => exact congrArg State.enableLower (if_neg (by simp))

theorem State.race_idle {s : State} (h : s.hat.latch = false ∨ s.hat.fresh = false) : s.race = s.enableLower := by
  have hgo : hatRaceGo s.unitB s.hat = s.hat := if_neg (by rcases h with h | h <;> simp [h])
  unfold State.race
  rw [hgo]
  cases s.hat.was <;> simp

/-- Settles O48: by the Hat of each row and what a row of the Hat leaves. -/
theorem hatEventsTakeEffect : Obligations.HatEventsTakeEffect := by
  unfold Obligations.HatEventsTakeEffect
  refine ⟨fun s ha hf h5 h6 hl => ?_, fun s ha hf h5 h6 hl => ?_, fun s loop ha h => ?_, fun s loop ha hl hp => ?_, fun s ha => ?_, fun s ha hl hp => ?_,
    fun s loop h6 hf hl => ?_, fun s loop h => ?_, fun s hl hfr => ?_, fun s h => ?_, fun s => ?_, fun s => ?_, fun s => ?_, fun s v => ?_⟩
  · obtain ⟨hu, -⟩ := s.witPin_same 1
    have hhat : (hatGrantGo s.mayGrant false s.hat).noted s.hat s.life.role =
        { s.hat with act := 0, latch := true, fresh := true, blockAlarm := false, grants := s.hat.grants + 1, noCommit := 0
                     ploop := false, granted := true, was := some s.life.role } := by
      rw [State.mayGrant_eq_true hf h5 h6, hatGrantGo_taken ha hl]
      simp [Hat.noted, hl, h6]
    obtain ⟨hh, hlife, hfio, -⟩ := hu.fields
    refine ⟨_, congrArg Host.Outcome.next (State.hatRow_eq ..), hu.settled_frame _, (hu.hat _).trans hhat, ?_, fun hr => ?_⟩
    · refine (State.hatSettled_fio ?_).trans hfio
      rw [hh, hlife, hhat]; rfl
    · refine State.hatSettled_standby ?_ (by rw [hlife]; exact hr)
      rw [hh, hlife, hhat]
  · obtain ⟨hu, -⟩ := s.witPin_same 1
    have hhat : (hatGrantGo s.mayGrant true s.hat).noted s.hat s.life.role =
        { s.hat with act := 0, ploop := true, granted := true, blocked := true, blocks := s.hat.blocks + 1 } := by
      rw [State.mayGrant_eq_true hf h5 h6, hatGrantGo_blocked ha hl]
      exact Hat.noted_of_off (h := { s.hat with act := 0, ploop := true, granted := true, blocked := true, blocks := s.hat.blocks + 1 }) (.inl hl)
    refine ⟨_, congrArg Host.Outcome.next (State.hatRow_eq ..), hu.settled_frame _, (hu.hat _).trans hhat, ?_, fun hr => State.witPin_idle ?_ ?_⟩
    · rw [hu.en, hhat, Hat.enable_of_loop rfl, Bool.and_false]
    · rw [hhat]; exact hl
    · exact hr.imp_right .inl
  · obtain ⟨hu, -⟩ := s.witPin_same 1
    have hmay : s.mayGrant = false ∨ s.hat.latch = true := by
      rcases h with h | h | h | h
      · exact .inl (State.mayGrant_eq_false (.inl h))
      · exact .inl (State.mayGrant_eq_false (.inr (.inl h)))
      · exact .inl (State.mayGrant_eq_false (.inr (.inr h)))
      · exact .inr h
    have hhat : (hatGrantGo s.mayGrant loop s.hat).noted s.hat s.life.role = { s.hat with act := 0 } := by
      rw [hatGrantGo_refused ha hmay]
      refine Hat.noted_of_off (h := { s.hat with act := 0 }) ?_
      exact (Bool.eq_false_or_eq_true s.hat.latch).symm
    refine ⟨_, congrArg Host.Outcome.next (State.hatRow_eq ..), (hu.hat _).trans hhat, ?_, hu.settled_frame _, fun hl hr => State.witPin_idle ?_ ?_⟩
    · rw [hu.en, hhat]; rfl
    · rw [hhat]; exact hl
    · exact hr.imp_right .inr
  · have hw : s.witPin 1 = s := if_neg ha
    have hhat : (hatGrantGo s.mayGrant loop s.hat).noted s.hat s.life.role = s.hat := by
      rw [hatGrantGo_idle ha, Hat.noted_of_off (.inl hl)]
    refine ⟨s.enableLower, ?_, rfl, ?_⟩
    · simp only [exec, execHatGrant, hw, State.hatRow_same hhat hl hp]
    · rw [State.enableLower_en, Hat.enable_of_unlatched hl, Bool.and_false]
  · obtain ⟨hu, hpair⟩ := s.witPin_same 2
    have hhat : (hatRevokeGo s.hat).noted s.hat s.life.role =
        { s.hat with act := 0, latch := false, revoked := s.hat.revoked || s.hat.latch, granted := false, taken := true } := by
      rw [hatRevokeGo_pending ha]
      exact Hat.noted_of_off (.inl rfl)
    have hl : ((hatRevokeGo s.hat).noted s.hat s.life.role).latch = false := by rw [hhat]
    have hen : ((hatRevokeGo s.hat).noted s.hat s.life.role).enable = false := Hat.enable_of_unlatched hl
    by_cases hd : s.hoDone = true
    · have hrow : exec .hatRevoke s = .next (({ s.witPin 2 with
          pair := { (s.witPin 2).pair with ho := none, hoA := false, hoTick := true } } : State).hatSettled hatRevokeGo).fallDue := by
        rw [← State.handoverTick_of_done hu hpair hd]
        simp only [exec, execHatRevoke, State.revokeRow, if_pos hd, State.hatRow_eq]
      have hu' := hu.withPair { (s.witPin 2).pair with ho := none, hoA := false, hoTick := true }
      refine ⟨_, hrow, (hu'.hat _).trans hhat, hu'.settled_frame _, by rw [hu'.en, hen, Bool.and_false], fun h1 hf _ => ?_,
        fun h => absurd hd (Bool.eq_false_iff.1 h)⟩
      obtain ⟨hh, hlife, -⟩ := hu'.fields
      exact State.hatSettled_planned (by rw [hh, hlife]; exact hl) (by rw [hlife]; exact h1) rfl (by rw [State.fit, hlife]; exact hf)
    · have hrow : exec .hatRevoke s = .next ((s.witPin 2).hatSettled hatRevokeGo).fallDue := by
        simp only [exec, execHatRevoke, State.revokeRow, if_neg hd, State.hatRow_eq]
      exact ⟨_, hrow, (hu.hat _).trans hhat, hu.settled_frame _, by rw [hu.en, hen, Bool.and_false], fun _ _ h => absurd h hd,
        fun _ hp => State.witPin_idle hl (.inr (.inl hp))⟩
  · have hw : s.witPin 2 = s := if_neg ha
    have hdone : s.hoDone = false := by simp [State.hoDone, ha]
    have hhat : (hatRevokeGo s.hat).noted s.hat s.life.role = s.hat := by
      rw [hatRevokeGo_idle ha, Hat.noted_of_off (.inl hl)]
    refine ⟨s.enableLower, ?_, rfl, ?_⟩
    · simp only [exec, execHatRevoke, State.revokeRow, hw, hdone, Bool.false_eq_true, if_false, State.hatRow_same hhat hl hp]
    · rw [State.enableLower_en, Hat.enable_of_unlatched hl, Bool.and_false]
  · cases loop
    · have hhat : (if s.life.role = 6 then loneLatchGo s.fit false s.hat else s.hat).noted s.hat s.life.role =
          { s.hat with latch := true, fresh := true, blockAlarm := false, noCommit := 0, ploop := false } := by
        simp [h6, loneLatchGo, latchSet, hl, hf, Hat.noted]
      have hrow := State.hatSettled_lone (f := fun h => if s.life.role = 6 then loneLatchGo s.fit false h else h) (s := s) (by rw [hhat]) h6
      refine ⟨_, congrArg Host.Outcome.next (State.hatRow_eq ..), ?_⟩
      rw [hrow, State.enableLower_of_enable (s := s.withHat _) (by rw [State.withHat, hhat]; rfl)]
      simp only [State.withHat, hhat]
      exact ⟨rfl, trivial, trivial, fun _ => ⟨trivial, trivial⟩, fun h => absurd h (by simp)⟩
    · have hhat : (if s.life.role = 6 then loneLatchGo s.fit true s.hat else s.hat).noted s.hat s.life.role =
          { s.hat with ploop := true, blocked := true, blockAlarm := true, blocks := s.hat.blocks + 1 } := by
        simp [h6, loneLatchGo, hl, hf, Hat.noted]
      have hrow := State.hatSettled_idle (f := fun h => if s.life.role = 6 then loneLatchGo s.fit true h else h) (s := s) (by rw [hhat]; exact hl)
        (.inl (by omega))
      refine ⟨_, congrArg Host.Outcome.next (State.hatRow_eq ..), ?_⟩
      rw [hrow]
      refine ⟨?_, rfl, rfl, fun h => absurd h (by simp), fun _ => ⟨?_, hhat⟩⟩
      · exact (congrArg Hat.latch hhat).trans hl
      · exact (State.enableLower_en _).trans (by rw [State.withHat, hhat, Hat.enable_of_loop rfl, Bool.and_false])
  · have hhat : (if s.life.role = 6 then loneLatchGo s.fit loop s.hat else s.hat).noted s.hat s.life.role = s.hat := by
      have hgo : (if s.life.role = 6 then loneLatchGo s.fit loop s.hat else s.hat) = s.hat := by
        rcases h with h | h | h
        · exact if_neg h
        · simp [loneLatchGo, h]
        · simp [loneLatchGo, h]
      rw [hgo]
      exact Hat.noted_of_off (Bool.eq_false_or_eq_true s.hat.latch).symm
    refine ⟨_, congrArg Host.Outcome.next (State.hatRow_eq ..), (State.hatSettled_hat ..).trans hhat, ?_, ?_⟩
    · refine (State.hatSettled_frame ..).trans ?_
      rw [State.hatSettled_hat, hhat]
    · rw [State.hatSettled_en, hhat]
  · rw [show exec .hatRace s = .next s.race from rfl, State.race_of_fresh hl hfr]
    cases hB : s.unitB
    · refine ⟨_, rfl, ?_, fun _ => rfl, fun h => absurd h (by simp)⟩
      exact (State.enableLower_en _).trans (by simp [Hat.enable])
    · cases hw : s.hat.was with
      | none => exact ⟨_, rfl, (State.enableLower_en _).trans (by simp [Hat.enable]), fun h => absurd h (by simp), fun _ => ⟨rfl, rfl, rfl⟩⟩
      | some r =>
        refine ⟨_, rfl, (State.enableLower_en _).trans (by simp [Hat.enable]), fun h => absurd h (by simp), fun _ => ⟨?_, State.setRole_hat .., State.setRole_role ..⟩⟩
        dsimp only [if_true]
        rw [if_pos rfl, State.enableLower_frame, State.setRole_frame]
  · rw [show exec .hatRace s = .next s.race from rfl, State.race_idle h]
    exact ⟨_, rfl, rfl, s.enableLower_en⟩
  · refine ⟨_, rfl, rfl, State.enableLower_en _, ?_⟩
    exact if_congr (by simp) rfl rfl
  · refine congrArg Host.Outcome.next ?_
    unfold witLostGo
    split_ifs <;> rfl
  · refine congrArg Host.Outcome.next ?_
    simp only [Bool.and_eq_true, Bool.not_eq_true', decide_eq_true_eq, and_assoc]
    split_ifs <;> rfl
  · rfl

end Sys2Proof.Machine
end

section
/-! SUPPORT. O49: the frames of the witness bus. -/

namespace Sys2Proof

theorem nearNs_iff (a b : Nat) : nearNs a b = true ↔ a ≤ b + 5000 ∧ b ≤ a + 5000 := by
  simp [nearNs]

theorem Witness.predict_of {w : Witness} {g at_ : Nat} (ha : w.aAt = some (g, at_)) (hn : w.aAgo < 3) :
    w.predict = some (at_ + (gridNs (g + (w.aAgo + 1)) - gridNs g)) := by
  unfold Witness.predict
  simp only [ha]
  exact if_pos (by omega)

theorem unitFrame_of {l : List Byte} {t : Nat} {f : EngFrame} (h : EngFrame.ofBytes l = some f) {u : Bool} (hu : f.unitB = u) :
    unitFrame u (some (l, t)) = some (f, t) := by
  simp [unitFrame, h, hu]

/-- With a prediction that is not 3 ticks old: unit A's frame is accepted near it, and unit B's near 30 µs after unit A's start. -/
theorem Witness.accepts_of {w : Witness} {g at_ : Nat} (ha : w.aAt = some (g, at_)) (hn : w.aAgo < 3) (xa xb : Option (List Byte × Nat)) :
    let p := at_ + (gridNs (g + (w.aAgo + 1)) - gridNs g)
    (w.accepts xa xb).1 = (unitFrame false xa).filter (fun x => nearNs x.2 p) ∧
    ∀ y, (w.accepts xa xb).1 = some y → (w.accepts xa xb).2 = (unitFrame true xb).filter (fun x => nearNs x.2 (y.2 + 30000)) := by
  intro p
  have hp := Witness.predict_of ha hn
  have hc : ¬(w.aAt.isNone || decide (3 ≤ w.aAgo)) = true := by simp [ha]; omega
  have hx : w.accepts xa xb = ((unitFrame false xa).filter (fun x => nearNs x.2 p),
      (unitFrame true xb).filter (fun x => match (((unitFrame false xa).filter (fun x => nearNs x.2 p)).map (·.2)).or (some p) with
        | some t => nearNs x.2 (t + w1Offset)
        | none => true)) := by
    unfold Witness.accepts
    simp only [if_neg hc, hp] <;> rfl
  refine ⟨congrArg Prod.fst hx, fun y hy => ?_⟩
  have hy' : (unitFrame false xa).filter (fun x => nearNs x.2 p) = some y := (congrArg Prod.fst hx).symm.trans hy
  rw [hx, hy']
  rfl

end Sys2Proof

namespace Sys2Proof.Machine

theorem State.witnessFrame_of {s : State} (hb : s.life.booted = true) (h4 : s.life.role ≠ 4) (l : List Byte) (slot : Bool) :
    ∃ a : Bool, s.witnessFrame l slot = { s with
      hat := witFrameGo l slot s.unitB (s.life.role == 6) s.pair.reported s.hat
      pair := { s.pair with hoA := witValid l slot s.unitB s.pair.reported && bothActions l s.unitB, startAlarm := a } } := by
  unfold State.witnessFrame
  rw [if_neg (by simp [hb, h4])]
  exact ⟨_, rfl⟩

theorem witFrameGo_latch (l : List Byte) (slot unitB lone : Bool) (rep : TickId) (h : Hat) : (witFrameGo l slot unitB lone rep h).latch = h.latch := by
  unfold witFrameGo
  dsimp only
  split_ifs <;> rfl

theorem State.partnerEngFrame_of {s : State} {l : List Byte} {f : EngFrame} {ns : Nat} (hb : s.life.booted = true) (hf : EngFrame.ofBytes l = some f)
    (hu : f.unitB ≠ s.unitB) (hslot : s.unitB = true ∨
      (ns ≤ gridNs (TickId.grid s.tsu.id) + 30000 + 5000 ∧ gridNs (TickId.grid s.tsu.id) + 30000 ≤ ns + 5000)) :
    s.partnerEngFrame l ns = some f := by
  have hn : (f.unitB != s.unitB && (s.unitB || nearNs ns (gridNs (TickId.grid s.tsu.id) + w1Offset))) = true := by
    rw [Bool.and_eq_true, Bool.or_eq_true, bne_iff_ne, nearNs_iff]
    exact ⟨hu, hslot⟩
  unfold State.partnerEngFrame
  rw [if_neg (by simp [hb]), hf, Option.filter_some, if_pos hn]

theorem State.partnerEngFrame_eq_none {s : State} {l : List Byte} {ns : Nat} (h : s.life.booted = false ∨ EngFrame.ofBytes l = none ∨
    (∃ f, EngFrame.ofBytes l = some f ∧ (f.unitB = s.unitB ∨ (s.unitB = false ∧
      (gridNs (TickId.grid s.tsu.id) + 35000 < ns ∨ ns + 5000 < gridNs (TickId.grid s.tsu.id) + 30000))))) :
    s.partnerEngFrame l ns = none := by
  unfold State.partnerEngFrame
  rcases h with h | h | ⟨f, hf, h⟩
  · exact if_pos (by simp [h])
  · rw [h]
    split_ifs <;> rfl
  · have hn : ¬(f.unitB != s.unitB && (s.unitB || nearNs ns (gridNs (TickId.grid s.tsu.id) + w1Offset))) = true := by
      rw [Bool.and_eq_true, Bool.or_eq_true, bne_iff_ne, nearNs_iff, w1Offset]
      rintro ⟨h1, h2⟩
      rcases h with h | ⟨h0, h⟩
      · exact h1 h
      · rcases h2 with h2 | h2
        · exact Bool.false_ne_true (h0.symm.trans h2)
        · omega
    rw [hf, Option.filter_some, if_neg hn, ite_self]

/-- Unit B's own frame, 30 µs after unit A's: in this tick, or planned for the coming one. -/
theorem State.engineFrame_of_unitB {s : State} {f : EngFrame} {ns : Nat} (hu : s.unitB = true) (h4 : s.life.role ≠ 4)
    (hg : ∀ a, s.pair.w1Last = some a → a + 52083 < ns + 30000) :
    s.engineFrame f ns = ({ s with pair := { s.pair with pframe := some f, pframeT := some 0, psick := !f.healthy, w1At := some ns } } : State).w1Start (ns + 30000) := by
  have hgone : s.w1Gone (ns + w1Offset) = false := by
    unfold State.w1Gone
    cases hl : s.pair.w1Last with
    | none => rfl
    | some a => exact decide_eq_false (Nat.not_le.2 (hg a hl))
  unfold State.engineFrame
  rw [if_pos (by simp [hu, h4])]
  simp only [hgone, Bool.false_eq_true, if_false]
  rfl

theorem State.engineFrame_frame (f : EngFrame) (ns : Nat) (s : State) : let t := s.engineFrame f ns
    t = { s with pair := t.pair, out := t.out } ∧ t.pair.pframe = some f ∧ t.pair.pframeT = some 0 ∧ t.pair.psick = !f.healthy ∧
    t.pair.prole = s.pair.prole ∧ (s.unitB = false ∨ s.life.role = 4 → t.out = s.out) := by
  unfold State.engineFrame
  dsimp only
  by_cases hc : (s.unitB && decide (s.life.role ≠ 4)) = true
  · have hn : ¬(s.unitB = false ∨ s.life.role = 4) := by
      rintro (h | h) <;> simp [h] at hc
    rw [if_pos hc]
    split_ifs
    · exact ⟨rfl, rfl, rfl, rfl, rfl, fun h => absurd h hn⟩
    · unfold State.w1Start
      split_ifs
      · exact ⟨rfl, rfl, rfl, rfl, rfl, fun h => absurd h hn⟩
      · exact ⟨rfl, rfl, rfl, rfl, rfl, fun h => absurd h hn⟩
  · rw [if_neg hc]
    exact ⟨rfl, rfl, rfl, rfl, rfl, fun _ => rfl⟩

/-- What an engine's own frame tells of its health at once. -/
theorem State.frameNow_fields (s : State) : s.frameNow.tk = s.pair.frame.tk ∧ s.frameNow.tsec = s.pair.frame.tsec ∧
    s.frameNow.healthy = (s.fit && s.pair.frame.healthy) ∧ s.frameNow.hatReq = (s.fit && s.pair.frame.hatReq) := by
  unfold State.frameNow
  cases s.fit <;> exact ⟨rfl, rfl, rfl, rfl⟩

/-- Settles O49: by the frames' rows and the witness's slots. -/
theorem witnessFramesTakeEffect : Obligations.WitnessFramesTakeEffect := by
  unfold Obligations.WitnessFramesTakeEffect
  refine ⟨fun s l slot hb h4 => ?_, fun s l slot h => ?_, fun s xa xb h4 => ?_, fun s xa xb h4 => ?_, fun w xa xb g at_ own ha hn => ⟨fun l t f hx hf hu => ?_, fun hx => ?_⟩,
    fun s l f ns hb hf hu hslot => ?_, fun s l ns h => ?_⟩
  · obtain ⟨a, ht⟩ := State.witnessFrame_of hb h4 l slot
    refine ⟨_, congrArg Host.Outcome.next ht, rfl, witFrameGo_latch .., fun hv => ?_, fun hv => ⟨?_, ?_⟩⟩
    · refine (if_pos hv).trans ?_
      simp only [beq_iff_eq]
    · simp [hv]
    · exact if_neg (by simp [hv])
  · exact congrArg Host.Outcome.next (if_pos (by rcases h with h | h <;> simp [h]))
  · exact congrArg Host.Outcome.next (if_neg (not_not.2 h4))
  · exact congrArg Host.Outcome.next (if_pos h4)
  · obtain ⟨h1, h2⟩ := Witness.accepts_of ha hn xa xb
    have hfilter (x : EngFrame × Nat) (c : Nat) : (some x).filter (fun x => nearNs x.2 c) = some x ↔ x.2 ≤ c + 5000 ∧ c ≤ x.2 + 5000 := by
      rw [Option.filter_some, ← nearNs_iff]
      split_ifs with h <;> simp [h]
    rw [h1, hx, unitFrame_of hf hu]
    refine ⟨hfilter (f, t) _, fun hle hge => ?_⟩
    have hacc : (w.accepts (some (l, t)) xb).1 = some (f, t) := by
      rw [← hx, h1, hx, unitFrame_of hf hu]
      exact (hfilter (f, t) _).2 ⟨hle, hge⟩
    rw [(hfilter (f, t) _).2 ⟨hle, hge⟩]
    refine ⟨rfl, fun m u e hm he hue => ?_⟩
    rw [← hx, h2 _ (hx ▸ hacc), hm, unitFrame_of he hue]
    exact hfilter (e, u) _
  · obtain ⟨h1, -⟩ := Witness.accepts_of ha hn xa xb
    rw [h1, hx]; rfl
  · have hrow : exec (.partnerEngineFrameReceive l ns) s = .next (s.engineFrame f ns) := by
      simp only [exec, execPartnerEngineFrameReceive, State.partnerEngFrame_of hb hf hu hslot]
    obtain ⟨h1, h2, h3, h4, h5, h6⟩ := s.engineFrame_frame f ns
    refine ⟨_, hrow, h1, h2, h3, h4, h5, fun hB hr hg => ?_, h6⟩
    rw [State.engineFrame_of_unitB hB hr hg]
    unfold State.w1Start
    refine ⟨fun hlt => ?_, fun hle => ?_⟩
    · rw [if_neg (Nat.not_le.2 hlt)]
      obtain ⟨k1, k2, k3, k4⟩ := State.frameNow_fields { s with
        pair := { s.pair with pframe := some f, pframeT := some 0, psick := !f.healthy, w1At := some ns, w1Plan := none, w1Last := some (ns + 30000) } }
      exact ⟨rfl, rfl, _, rfl, k1, k2, k3, k4⟩
    · rw [if_pos hle]
      exact ⟨rfl, rfl⟩
  · simp only [exec, execPartnerEngineFrameReceive, State.partnerEngFrame_eq_none h]

end Sys2Proof.Machine
end

section
/-! SUPPORT. O50: the mirror. -/

namespace Sys2Proof

theorem mirrors_iff (role : Nat) : mirrors role = true ↔ role = 2 ∨ role = 5 := by
  simp [mirrors]

theorem Pair.hear_eq (p : Pair) (h : FeltHdr) : p.hear h = { p with
    heard := true :: p.heard.drop 1, feltGot := (h.seq :: p.feltGot).take 64, prole := (h.status.map (·.1)).getD p.prole
    psick := (h.status.map (fun x => !x.2)).getD p.psick, pevrBad := h.recBad.getD p.pevrBad } := by
  unfold Pair.hear
  cases h.status <;> rfl

theorem signedBy_iff (keys : List KeyRec) (p : Nat) (hash : List Byte) (sig : BitVec 768) :
    signedBy keys p hash sig = true ↔ ∃ k ∈ keys, k.priv.getLsbD p = true ∧ ecdsaOk k.key hash sig = true := by
  simp [signedBy]

/-- What a window leaves of a channel and what it shows, where it is not compared, agrees, and disagrees (R394). -/
theorem PlausChan.close_eq (tol time : Nat) (c : PlausChan) :
    let r (x : Nat) : Nat := Nat.sqrt (x * 2 ^ 32 / c.n)
    let d := r c.own - r c.mir + (r c.mir - r c.own)
    let off := c.gone = true ∨ tol * r c.mir + 2 * 2 ^ 39 < 1000 * d
    (c.bad = true ∨ c.n = 0 → c.close tol time = ({}, 2)) ∧
    (c.bad = false → c.n ≠ 0 → ¬off → c.close tol time = ({}, 0)) ∧
    (c.bad = false → c.n ≠ 0 → off → c.close tol time = ({ runs := c.runs + 1 }, if time ≤ c.runs + 1 then 1 else 0)) := by
  intro r d off
  have hd : (Nat.max (r c.own) (r c.mir) - Nat.min (r c.own) (r c.mir)) = d := by
    change max (r c.own) (r c.mir) - min (r c.own) (r c.mir) = r c.own - r c.mir + (r c.mir - r c.own)
    omega
  have hoff : (c.gone || c.differs tol) = true ↔ off := by
    rw [Bool.or_eq_true]
    refine or_congr_right ?_
    unfold PlausChan.differs
    change decide (tol * r c.mir + 2 * 2 ^ 39 < 1000 * (Nat.max (r c.own) (r c.mir) - Nat.min (r c.own) (r c.mir))) = true ↔ _
    rw [hd, decide_eq_true_iff]
  have hcmp : (c.bad || c.n == 0) = true ↔ c.bad = true ∨ c.n = 0 := by simp
  unfold PlausChan.close
  refine ⟨fun h => if_pos (hcmp.2 h), fun hb hn h => ?_, fun hb hn h => ?_⟩
  · rw [if_neg (fun h' => (hcmp.1 h').elim (Bool.eq_false_iff.1 hb) hn), if_neg (fun h' => h (hoff.1 h'))]
  · rw [if_neg (fun h' => (hcmp.1 h').elim (Bool.eq_false_iff.1 hb) hn), if_pos (hoff.2 h)]
    by_cases ht : time ≤ c.runs + 1 <;> simp [ht, boolNat]

/-- A full window is evaluated channel by channel. -/
theorem plausWindow_of_full {b : Block} {p : Pair} (h : 960 ≤ p.plausW) : plausWindow b p = { p with
    plausW := 0, plausC := (plausWindow b p).plausC, plaus := (plausWindow b p).plaus, plausV := (plausWindow b p).plausV, plausS := (plausWindow b p).plausS } ∧
    ∀ (k : Nat) (c : PlausChan), p.plausC[k]? = some c → (plausWindow b p).plausC[k]? = some (c.close b.pair.plTol b.pair.plTime).1 ∧
      (plausWindow b p).plaus[k]? = some (c.close b.pair.plTol b.pair.plTime).2 := by
  have hw : ¬p.plausW < plausTicks := Nat.not_lt.2 h
  unfold plausWindow
  rw [if_neg hw]
  refine ⟨rfl, fun k c hc => ?_⟩
  simp [List.getElem?_map, hc]

theorem copyLeave_fields (p : Pair) : (copyLeave p).got = [] ∧ (copyLeave p).diffs = [] ∧ (copyLeave p).synced = p.synced ∧
    (copyLeave p).seedNext = p.seedNext ∧ (copyLeave p).linkUp = p.linkUp := by
  unfold copyLeave
  split_ifs <;> exact ⟨rfl, rfl, rfl, rfl, rfl⟩

end Sys2Proof

namespace Sys2Proof.Machine

theorem State.feltTakes_iff (s : State) (h : FeltHdr) :
    s.feltTakes h = true ↔ (if h.lane = 0 then s.pair.laneA else s.pair.laneB) = true ∧ h.crcOk = true ∧ h.seq ∉ s.pair.feltGot := by
  simp [State.feltTakes, FeltHdr.laneUp, and_assoc]

theorem State.felt_taken {s : State} {h : FeltHdr} (ht : s.feltTakes h = true) (f : State → State) : s.felt h f = f (s.hear h) := if_pos ht

theorem State.felt_dropped {s : State} {h : FeltHdr} (ht : s.feltTakes h = false) (f : State → State) : s.felt h f =
    if h.crcOk = false ∧ (if h.lane = 0 then s.pair.laneA else s.pair.laneB) = true
      then { s with pair := { s.pair with laneErr := s.pair.laneErr.modify h.lane.val (· + 1) } } else s := by
  unfold State.felt
  rw [if_neg (Bool.eq_false_iff.1 ht)]
  exact if_congr (by simp [FeltHdr.laneUp, and_comm]) rfl rfl

theorem State.prepare_frame (x : Action) (s : State) :
    s.prepare x = { s with hood := (s.prepare x).hood, tsu := (s.prepare x).tsu, store := (s.prepare x).store } := by
  unfold State.prepare
  split <;> rfl

theorem State.mirrorItem_of_item {t : State} (h : t.life.role = 2 ∨ t.life.role = 5) (n : Nat) {i : MirrorItem} (hi : ∀ a, i ≠ .action a) :
    t.mirrorItem n i = { t with pair := { t.pair with items := t.pair.items ++ [(n, i)] } } := by
  unfold State.mirrorItem
  rw [if_neg (by simp [(mirrors_iff _).2 h])]
  split
  · next a => exact absurd rfl (hi a)
  · rfl

theorem State.mirrorItem_of_action {t : State} (h : t.life.role = 2 ∨ t.life.role = 5) (n : Nat) (a : Action) :
    t.mirrorItem n (.action a) = t.partnerAct a := by
  unfold State.mirrorItem
  rw [if_neg (by simp [(mirrors_iff _).2 h])]

theorem State.mirrorItem_of_untrusted {t : State} {a : Action} (h : t.trusts a = false) (n : Nat) : t.mirrorItem n (.action a) = t := by
  by_cases hr : t.life.role = 2 ∨ t.life.role = 5
  · rw [State.mirrorItem_of_action hr]
    exact if_neg (Bool.eq_false_iff.1 h)
  · exact if_pos (by rw [Bool.not_eq_true', Bool.eq_false_iff]; exact fun h => hr ((mirrors_iff _).1 h))

/-- A standby whose mirror data have not come bridges the tick, and is stale after two in a row (R393). -/
theorem State.bridgeRow_of {s : State} (hr : s.life.role = 2 ∨ s.life.role = 5) (hc : s.closeAhead = false) (hn : s.pair.bridgeNow = false) :
    s.bridgeRow = if 1 ≤ s.pair.bridgeRun then { ({ s with pair := bridgeGo s.pair } : State).setRole 3 with pair := goesStale (bridgeGo s.pair) } else { s with pair := bridgeGo s.pair } := by
  unfold State.bridgeRow
  rw [if_pos (by simp [(mirrors_iff _).2 hr, hc, hn])]
  exact if_congr (Nat.succ_le_succ_iff (a := 1) (b := s.pair.bridgeRun)) rfl rfl

theorem State.bridgeRow_idle {s : State} (h : s.closeAhead = true ∨ (s.life.role ≠ 2 ∧ s.life.role ≠ 5)) : s.bridgeRow = s := by
  unfold State.bridgeRow
  refine if_neg ?_
  rw [Bool.and_eq_true, Bool.and_eq_true, mirrors_iff]
  rintro ⟨⟨hm, hc⟩, -⟩
  rcases h with h | ⟨h2, h5⟩
  · simp [h] at hc
  · exact hm.elim h2 h5

theorem Pair.stepReady_iff (own : BitVec 32) (p : Pair) : p.stepReady own = true ↔ p.ppart = own ∧ p.applied = true ∧ 96 ≤ p.since := by
  simp [Pair.stepReady, Pair.kin, and_assoc]

theorem State.epochStart_of {s : State} {m : Nat} (he : s.pair.epoch ≠ m / 768) (hl : s.pair.linkUp = true) (hr : s.life.role = 2 ∨ s.life.role = 5) :
    let t := s.epochStart m
    t = { s with pair := t.pair } ∧ t.pair.epoch = m / 768 ∧ t.pair.got = [] ∧ t.pair.diffs = [] ∧
      t.pair.copy = (if s.pair.synced = true ∧ s.pair.seedNext = false then 1 else 2) := by
  obtain ⟨hgot, hdiffs, hsync, hseed, hlink⟩ := copyLeave_fields s.pair
  have hgo : epochGo s.life.role m s.partnerStandby s.pair = { copyLeave s.pair with
      epoch := m / 768, resync := if s.life.role = 2 && !s.pair.inStep then s.pair.resync + 1 else 0
      copy := if !(copyLeave s.pair).synced || (copyLeave s.pair).seedNext then 2 else 1 } := by
    unfold epochGo
    refine (if_neg ?_).trans (if_pos hr)
    change ¬(!(copyLeave s.pair).linkUp) = true
    rw [hlink, hl]
    exact Bool.false_ne_true
  unfold State.epochStart
  rw [if_neg he, hgo]
  refine ⟨rfl, rfl, hgot, hdiffs, ?_⟩
  simp only [hsync, hseed]
  cases s.pair.synced <;> cases s.pair.seedNext <;> rfl

theorem State.pairRow_eq {s : State} {p q : Pair} (h : p = q) :
    (Host.Outcome.next { s with pair := p } : Host.Outcome State Fault Refusal) = .next { s with pair := q } := by
  rw [h]

/-- Settles O50: by the Felt frames' rule and each row. -/
theorem mirrorTakesEffect : Obligations.MirrorTakesEffect := by
  unfold Obligations.MirrorTakesEffect
  refine ⟨State.feltTakes_iff, Pair.hear_eq, fun s h n i ht hr hi => ?_, fun s h n a ht hn => ?_, fun s a => ⟨fun hp => ?_, fun p hp => ?_⟩,
    fun s h n a ht htr hr => ?_, fun s h id l n ht => ?_, fun s h ht => ?_, fun s hr hc hn => ?_, fun s h => congrArg Host.Outcome.next (State.bridgeRow_idle h),
    fun s => ⟨fun h5 hp ha hs => ?_, fun h => ?_⟩, fun s h => ?_, fun s hr hw => ?_, fun s hm he hl hr => ?_, fun s h => ?_⟩
  · exact congrArg Host.Outcome.next ((State.felt_taken ht _).trans (State.mirrorItem_of_item (t := s.hear h) hr n hi))
  · exact congrArg Host.Outcome.next ((State.felt_taken ht _).trans (State.mirrorItem_of_untrusted (t := s.hear h) hn n))
  · simp [State.trusts, hp]
  · simp only [State.trusts, hp]
    exact signedBy_iff ..
  · refine ⟨_, congrArg Host.Outcome.next ((State.felt_taken ht _).trans ((State.mirrorItem_of_action (t := s.hear h) hr n a).trans (if_pos htr))), ?_⟩
    rw [State.prepare_frame]
    exact ⟨rfl, rfl, rfl⟩
  · refine congrArg Host.Outcome.next ((State.felt_taken ht _).trans ?_)
    simp only [mirrors_iff]
    rfl
  · exact ⟨fun _ _ => congrArg Host.Outcome.next (State.felt_dropped ht _), fun _ _ _ => congrArg Host.Outcome.next (State.felt_dropped ht _),
      fun _ _ => congrArg Host.Outcome.next (State.felt_dropped ht _), fun _ _ _ _ => congrArg Host.Outcome.next (State.felt_dropped ht _),
      fun _ _ => congrArg Host.Outcome.next (State.felt_dropped ht _), fun _ => congrArg Host.Outcome.next (State.felt_dropped ht _),
      fun _ _ => congrArg Host.Outcome.next (State.felt_dropped ht _), fun _ => congrArg Host.Outcome.next (State.felt_dropped ht _)⟩
  · refine ⟨_, congrArg Host.Outcome.next (State.bridgeRow_of hr hc hn), ?_⟩
    split_ifs
    · rw [State.setRole_frame]
      exact ⟨rfl, rfl, State.setRole_role ..⟩
    · exact ⟨rfl, rfl, rfl⟩
  · refine ⟨_, congrArg Host.Outcome.next (if_pos ?_), State.setRole_role .., rfl, ?_⟩
    · rw [Bool.and_eq_true, decide_eq_true_iff, Pair.stepReady_iff]
      exact ⟨h5, hp, ha, hs⟩
    · rw [State.setRole_frame]
  · refine congrArg Host.Outcome.next (if_neg ?_)
    rw [Bool.and_eq_true, decide_eq_true_iff, Pair.stepReady_iff]
    rintro ⟨h5, hp, ha, hs⟩
    rcases h with h | h | h | h
    · exact h h5
    · exact h hp
    · exact Bool.false_ne_true (h.symm.trans ha)
    · omega
  · refine State.pairRow_eq ?_
    rcases h with ⟨h2, h5⟩ | h
    · exact if_neg (fun hm => ((mirrors_iff _).1 hm).elim h2 h5)
    · rw [show plausWindow s.block s.pair = s.pair from if_pos h, ite_self]
  · obtain ⟨hframe, hchan⟩ := plausWindow_of_full (b := s.block) hw
    refine ⟨_, State.pairRow_eq (if_pos ((mirrors_iff _).2 hr)), rfl, ?_, ?_, fun k c hc => ?_⟩
    · rw [hframe]
    · rw [hframe]
    · obtain ⟨hc1, hc2⟩ := hchan k c hc
      obtain ⟨h1, h2, h3⟩ := c.close_eq s.block.pair.plTol s.block.pair.plTime
      dsimp only
      rw [hc1, hc2]
      refine ⟨fun h => ?_, fun hb hn h => ?_, fun hb hn h => ?_⟩
      · rw [h1 h]; exact ⟨rfl, rfl⟩
      · rw [h2 hb hn h]; exact ⟨rfl, rfl⟩
      · rw [h3 hb hn h]; exact ⟨rfl, rfl⟩
  · exact ⟨_, congrArg Host.Outcome.next (if_pos hm), State.epochStart_of he hl hr⟩
  · refine congrArg Host.Outcome.next ?_
    split_ifs with hm
    · exact if_pos (h.resolve_left (not_not.2 hm))
    · rfl

end Sys2Proof.Machine
end

section
/-! SUPPORT. O51: digests and the rolling state copy. -/

namespace Sys2Proof

theorem digestMatch_fields (role : Nat) (p : Pair) : (digestMatch role p).matched = p.matched + 1 ∧ (digestMatch role p).run = p.run + 1 ∧
    (digestMatch role p).since = p.since + 1 ∧ (digestMatch role p).mismatched = p.mismatched ∧
    (digestMatch role p).inStep = (p.inStep || decide (95 ≤ p.run)) ∧
    (digestMatch role p).synced = (p.synced || (decide (95 ≤ p.since) && decide (role = 2) && p.applied)) := by
  have hrun : decide (96 ≤ p.run + 1) = decide (95 ≤ p.run) := decide_eq_decide.2 (by omega)
  have hsince : decide (96 ≤ p.since + 1) = decide (95 ≤ p.since) := decide_eq_decide.2 (by omega)
  unfold digestMatch
  dsimp only
  rw [hsince, hrun]
  by_cases h : (decide (95 ≤ p.since) && role == 2 && p.applied && !p.synced) = true
  · rw [if_pos h]
    simp only [Bool.and_eq_true, beq_iff_eq, Bool.not_eq_true'] at h
    obtain ⟨⟨⟨h95, h2⟩, ha⟩, hs⟩ := h
    exact ⟨rfl, rfl, rfl, rfl, rfl, by simp [syncedNow, h95, h2, ha]⟩
  · rw [if_neg h]
    refine ⟨rfl, rfl, rfl, rfl, rfl, ?_⟩
    cases hs : p.synced
    · simpa [hs] using h
    · simp [hs]

/-- What a chunk holds after its delta (R398): the delta's items, and the others of the base. -/
theorem mem_overlay {b d : List CopyItem} {x : CopyItem} (h : x ∈ overlay b d) : x ∈ d ∨ (x ∈ b ∧ ∀ y ∈ d, y.key ≠ x.key) := by
  unfold overlay at h
  rcases List.mem_append.1 h with h | h
  · obtain ⟨z, hz, rfl⟩ := List.mem_map.1 h
    cases hf : d.find? (fun y => y.key == z.key) with
    | some y => exact .inl (List.mem_of_find?_eq_some hf)
    | none =>
      refine .inr ⟨hz, fun y hy hk => ?_⟩
      exact (List.find?_eq_none.1 hf y hy) (beq_iff_eq.2 hk)
  · exact .inl (List.mem_filter.1 h).1

theorem Pair.hear_kin (p : Pair) (h : FeltHdr) (own : BitVec 32) : (p.hear h).kin own = p.kin own := rfl

end Sys2Proof

namespace Sys2Proof.Machine

/-! ### Digests -/

theorem State.digestRow_of_stranger {t : State} (h : t.pair.ppart ≠ idPart t.life.variant) (l : Nat) (d : BitVec 128) : t.digestRow l d = t := by
  have hk : t.pair.kin (idPart t.life.variant) = false := beq_eq_false_iff_ne.2 h
  unfold State.digestRow
  simp only [hk]
  cases t.pair.own with
  | none => rfl
  | some o => simp

theorem State.digestRow_of_other {t : State} {n l : Nat} {v : BitVec 128} (h : t.pair.own = some (n, v)) (hn : n ≠ l) (d : BitVec 128) :
    t.digestRow l d = t := by
  unfold State.digestRow digestGo
  simp [h, hn]

theorem State.digestRow_of_own {t : State} {l : Nat} {v : BitVec 128} (hk : t.pair.ppart = idPart t.life.variant) (h : t.pair.own = some (l, v))
    (d : BitVec 128) : t.digestRow l d = { t with
      pair := if v = d then digestMatch t.life.role t.pair else digestMismatch t.life.role t.pair
      upd := { t.upd with matches_ := if v = d then (if mirrors t.life.role && t.pair.applied then t.upd.matches_ + 1 else t.upd.matches_) else 0 } } := by
  have hk : t.pair.kin (idPart t.life.variant) = true := beq_iff_eq.2 hk
  unfold State.digestRow digestGo
  simp [h, hk]

/-! ### Chunks and epochs -/

theorem State.chunkRow_of_stranger {t : State} (h : t.pair.ppart ≠ idPart t.life.variant) (e c : Nat) (dl : Bool) (items : List CopyItem) :
    t.chunkRow e c dl items = t := by
  have hk : t.pair.kin (idPart t.life.variant) = false := beq_eq_false_iff_ne.2 h
  exact if_pos (by simp [hk])

theorem State.epochRow_of_stranger {t : State} (h : t.pair.ppart ≠ idPart t.life.variant) (e : Nat) (d : BitVec 128) : t.epochRow e d = t := by
  have hk : t.pair.kin (idPart t.life.variant) = false := beq_eq_false_iff_ne.2 h
  exact if_pos (by simp [hk])

theorem State.chunkRow_of_kin {t : State} {e c : Nat} (hc : chunkCounts e c t.pair = true) (hk : t.pair.ppart = idPart t.life.variant)
    (dl : Bool) (items : List CopyItem) : t.chunkRow e c dl items = if dl = false then { t with pair := { t.pair with base := some (c, items) } }
      else match t.pair.base with
        | some (k, b) => if k = c then t.chunkDone c (overlay b items) else { t with pair := copyDiscard t.pair }
        | none => { t with pair := copyDiscard t.pair } := by
  have hk : t.pair.kin (idPart t.life.variant) = true := beq_iff_eq.2 hk
  unfold State.chunkRow
  rw [if_neg (by simp [hc, hk])]
  exact if_congr (by simp) rfl rfl

theorem State.chunkRow_of_unbased {t : State} {e c : Nat} (hc : chunkCounts e c t.pair = true) (hk : t.pair.ppart = idPart t.life.variant)
    (hb : ∀ b, t.pair.base ≠ some (c, b)) (items : List CopyItem) : t.chunkRow e c true items = { t with pair := copyDiscard t.pair } := by
  rw [State.chunkRow_of_kin hc hk]
  cases hbase : t.pair.base with
  | none => simp
  | some x =>
    have hx : ¬x.1 = c := fun h => hb x.2 (by rw [hbase, ← h])
    simp [hx]

theorem State.chunkRow_of_based {t : State} {e c : Nat} (hc : chunkCounts e c t.pair = true) (hk : t.pair.ppart = idPart t.life.variant)
    {b : List CopyItem} (hb : t.pair.base = some (c, b)) (items : List CopyItem) : t.chunkRow e c true items = t.chunkDone c (overlay b items) := by
  rw [State.chunkRow_of_kin hc hk]
  simp [hb]

theorem chunkNote_of_new {c : Nat} {p : Pair} (h : p.got.contains c = false) (items : List CopyItem) :
    chunkNote c items p = { p with got := p.got ++ [c], parts := p.parts ++ [items], base := none } :=
  if_neg (Bool.eq_false_iff.1 h)

theorem State.copyPut_frame (t : State) (x : CopyItem) : (t.copyPut x).hat = t.hat ∧ (t.copyPut x).fio = t.fio := by
  cases x with
  | point i p =>
    simp only [State.copyPut]
    split_ifs <;> exact ⟨rfl, rfl⟩
  | _ => exact ⟨rfl, rfl⟩

/-- A correction counts, and touches of the pair nothing else. -/
theorem State.foldl_correct (l : List CopyItem) (t : State) : (l.foldl State.correct t).pair =
      { t.pair with corrected := t.pair.corrected + l.length, corrT := (l.foldl State.correct t).pair.corrT } ∧
    (l.foldl State.correct t).hat = t.hat ∧ (l.foldl State.correct t).fio = t.fio := by
  induction l generalizing t with
  | nil => exact ⟨rfl, rfl, rfl⟩
  | cons x l ih =>
    obtain ⟨hp, hh, hf⟩ := ih (t.correct x)
    obtain ⟨hh', hf'⟩ := t.copyPut_frame x
    refine ⟨?_, hh.trans hh', hf.trans hf'⟩
    rw [List.foldl_cons, hp, List.length_cons]
    refine congrArg (fun n => { t.pair with corrected := n, corrT := (l.foldl State.correct (t.correct x)).pair.corrT }) ?_
    change t.pair.corrected + 1 + l.length = _
    omega

theorem State.epochRow_of_kin {t : State} {e : Nat} (hc : chunkCounts e 0 t.pair = true) (hk : t.pair.ppart = idPart t.life.variant) (d : BitVec 128) :
    t.epochRow e d = if d ≠ closingDigest e t.pair.parts ∨ t.pair.got.length ≠ 768 then { t with pair := copyDiscard t.pair }
      else { t.pair.diffs.foldl State.correct t with pair := epochApplied (t.pair.diffs.foldl State.correct t).pair } := by
  have hk : t.pair.kin (idPart t.life.variant) = true := beq_iff_eq.2 hk
  unfold State.epochRow
  rw [if_neg (by simp [hc, hk])]
  exact if_congr (by simp [Pair.copyFull, or_comm]) rfl rfl

/-- What is read for the copy does not depend on what the partner says. -/
theorem State.copyGet_hear (s : State) (h : FeltHdr) (x : CopyItem) : (s.hear h).copyGet x = s.copyGet x := by
  cases x <;> rfl

/-- A chunk of a verifying engine, and of a seeding one. -/
theorem State.chunkDone_of_verifying {t : State} {c : Nat} (h : t.pair.copy = 1) (hg : t.pair.got.contains c = false) (items : List CopyItem) :
    t.chunkDone c items = { t with pair := { t.pair with
      got := t.pair.got ++ [c], parts := t.pair.parts ++ [items], base := none
      diffs := t.pair.diffs ++ (if t.pair.mixed then [] else t.copyDiffs items) } } := by
  unfold State.chunkDone
  rw [if_neg (by omega), chunkNote_of_new hg]

theorem State.chunkDone_of_seeding {t : State} {c : Nat} (h : t.pair.copy = 2) (hm : t.pair.mixed = false) (hg : t.pair.got.contains c = false)
    (items : List CopyItem) : t.chunkDone c items = { t with pair := { t.pair with
      got := t.pair.got ++ [c], parts := t.pair.parts ++ [items], base := none, seeds := t.pair.seeds ++ items } } := by
  unfold State.chunkDone
  rw [if_pos h, if_neg (by simp [hm]), chunkNote_of_new hg]

/-! ### Seeding -/

theorem State.seedWrite_of {old s : State} (h : s.pair.seeds ≠ []) : old.seedWrite s =
    { (s.pair.seeds.filter (fun x => !(old.written s).any (fun y => y.key == x.key))).foldl State.copyPut s with pair := seedNote s.pair } := by
  unfold State.seedWrite
  exact if_neg (by simpa using h)

/-- Of a line that phase A has written nothing of the copy is written (R399). -/
theorem State.seed_of_unwritten {l : List CopyItem} {i : Nat} (h : ∀ y ∈ l, y.key ≠ (0, i)) {p : Point} {s : State} :
    (([CopyItem.point i p]).filter (fun x => !l.any (fun y => y.key == x.key))).foldl State.copyPut s = s.copyPut (.point i p) := by
  have hany : l.any (fun y => y.key == (CopyItem.point i p).key) = false :=
    List.any_eq_false.2 fun y hy hk => h y hy (beq_iff_eq.1 hk)
  simp [hany]

theorem State.seed_of_written {l : List CopyItem} {i : Nat} (h : ∃ y ∈ l, y.key = (0, i)) {p : Point} {s : State} :
    (([CopyItem.point i p]).filter (fun x => !l.any (fun y => y.key == x.key))).foldl State.copyPut s = s := by
  obtain ⟨y, hy, hk⟩ := h
  have hany : l.any (fun y => y.key == (CopyItem.point i p).key) = true := List.any_eq_true.2 ⟨y, hy, beq_iff_eq.2 hk⟩
  simp [hany]

/-- Settles O51: by the digests' and the copy's rows. -/
theorem copyTakesEffect : Obligations.CopyTakesEffect := by
  unfold Obligations.CopyTakesEffect
  refine ⟨fun s h l d e c dl items ht hk => ⟨?_, ?_, ?_⟩, fun s h l d v ht hk ho => ?_, fun s h l n d v ht ho hn => ?_,
    fun s h e c items ht hc hk => ⟨?_, fun hb => ?_, fun b hb hg => ⟨fun h1 => ?_, fun h2 hm => ?_⟩⟩, fun b d x => mem_overlay,
    fun old s hs => ⟨?_, fun i p hp hl hw => ?_, fun i p hp hw => ?_⟩, fun s h e d ht hk hc => ⟨fun hd => ?_, fun hd hg => ?_⟩⟩
  · exact congrArg Host.Outcome.next ((State.felt_taken ht _).trans (State.digestRow_of_stranger (t := s.hear h) hk l d))
  · exact congrArg Host.Outcome.next ((State.felt_taken ht _).trans (State.chunkRow_of_stranger (t := s.hear h) hk e c dl items))
  · exact congrArg Host.Outcome.next ((State.felt_taken ht _).trans (State.epochRow_of_stranger (t := s.hear h) hk e d))
  · refine ⟨_, congrArg Host.Outcome.next ((State.felt_taken ht _).trans (State.digestRow_of_own (t := s.hear h) hk ho d)), rfl, fun hd => ?_, fun hd => ?_⟩
    · dsimp only
      rw [if_pos hd.symm]
      exact digestMatch_fields s.life.role (s.pair.hear h)
    · dsimp only
      rw [if_neg (Ne.symm hd), if_neg (Ne.symm hd)]
      exact ⟨rfl, rfl, rfl, rfl, rfl, rfl, rfl, rfl⟩
  · exact ⟨_, congrArg Host.Outcome.next ((State.felt_taken ht _).trans (State.digestRow_of_other (t := s.hear h) ho hn d)), rfl⟩
  · exact congrArg Host.Outcome.next ((State.felt_taken ht _).trans (State.chunkRow_of_kin (t := s.hear h) hc hk false items))
  · exact ⟨_, congrArg Host.Outcome.next ((State.felt_taken ht _).trans (State.chunkRow_of_unbased (t := s.hear h) hc hk hb items)),
      rfl, rfl, rfl, rfl, rfl, rfl⟩
  · refine congrArg Host.Outcome.next ((State.felt_taken ht _).trans ((State.chunkRow_of_based (t := s.hear h) hc hk hb items).trans
      ((State.chunkDone_of_verifying (t := s.hear h) h1 hg _).trans ?_)))
    unfold State.copyDiffs
    simp only [State.copyGet_hear]
    rfl
  · exact congrArg Host.Outcome.next ((State.felt_taken ht _).trans ((State.chunkRow_of_based (t := s.hear h) hc hk hb items).trans
      (State.chunkDone_of_seeding (t := s.hear h) h2 hm hg _)))
  · rw [State.seedWrite_of hs]; rfl
  · rw [State.seedWrite_of hs, hp, State.seed_of_unwritten hw]
    exact congrArg State.sig (if_neg (Bool.eq_false_iff.1 hl))
  · rw [State.seedWrite_of hs, hp]
    by_cases hany : ∃ y ∈ old.written s, y.key = (0, i)
    · rw [State.seed_of_written hany]
    · rw [State.seed_of_unwritten (fun y hy hk => hany ⟨y, hy, hk⟩)]
      have hput : s.copyPut (.point i p) = s := if_pos (hw.resolve_right hany)
      exact (congrArg State.sig hput :)
  · exact ⟨_, congrArg Host.Outcome.next ((State.felt_taken ht _).trans ((State.epochRow_of_kin (t := s.hear h) hc hk d).trans (if_pos hd))),
      rfl, rfl, rfl, rfl⟩
  · obtain ⟨hp, hhat, hfio⟩ := State.foldl_correct s.pair.diffs (s.hear h)
    have hne : ¬(d ≠ closingDigest e (s.hear h).pair.parts ∨ (s.hear h).pair.got.length ≠ 768) := by
      rintro (h | h)
      · exact h hd
      · exact h hg
    refine ⟨_, congrArg Host.Outcome.next ((State.felt_taken ht _).trans ((State.epochRow_of_kin (t := s.hear h) hc hk d).trans (if_neg hne))), ?_⟩
    dsimp only
    rw [show (s.hear h).pair.diffs = s.pair.diffs from rfl, hp]
    exact ⟨rfl, rfl, rfl, rfl, rfl, rfl, rfl, rfl, hhat, hfio⟩

end Sys2Proof.Machine
end

section
/-! SUPPORT. O52: the Felt link. -/

namespace Sys2Proof

theorem linkDown_fields (p : Pair) : (linkDown p).linkUp = false ∧ (linkDown p).linkWas = true ∧ (linkDown p).prole = 0 ∧
    (linkDown p).close = none ∧ (linkDown p).items = [] ∧ (linkDown p).copy = 0 := by
  unfold linkDown copyLeave
  split <;> exact ⟨rfl, rfl, rfl, rfl, rfl, rfl⟩

end Sys2Proof

namespace Sys2Proof.Machine

/-- One lane that fails leaves the link on the other, or takes the last one with it. -/
theorem laneDown_zero (p : Pair) : laneDown 0 p =
    if p.laneB = true then { p with laneA := false } else if p.laneA = true then linkDown p else { p with laneA := false } := by
  cases ha : p.laneA <;> cases hb : p.laneB <;> simp [laneDown, setLane, Pair.linkUp, ha, hb]

theorem laneDown_one (p : Pair) : laneDown 1 p =
    if p.laneA = true then { p with laneB := false } else if p.laneB = true then linkDown p else { p with laneB := false } := by
  cases ha : p.laneA <;> cases hb : p.laneB <;> simp [laneDown, setLane, Pair.linkUp, ha, hb]

theorem State.sameConfig_iff (s : State) : s.sameConfig = true ↔ s.pair.pblock = s.block.blockId ∧ s.pair.phood = lastHood s.hood.chain := by
  simp [State.sameConfig]

/-- The link comes up on the lanes whose cages serve them, with what the partner reports. -/
def State.linkNoted (part fw : BitVec 32) (role : Nat) (id hid : BitVec 128) (s : State) : State :=
  { s with pair := linkRestored (s.laneFit 0) (s.laneFit 1) (idPart s.life.variant) part role s.life.fwVer fw id hid s.pair }

theorem State.linkUpRow_of_fit {s : State} (part fw : BitVec 32) (role : Nat) (id hid : BitVec 128)
    (h : s.laneFit 0 = true ∨ s.laneFit 1 = true) :
    s.linkUpRow part role fw id hid =
      if part ≠ idPart s.life.variant then s.linkNoted part fw role id hid
      else if s.life.role = 3 then (if (s.linkNoted part fw role id hid).sameConfig then (s.linkNoted part fw role id hid).rejoin else s.linkNoted part fw role id hid)
      else if s.life.role = 1 && !(s.linkNoted part fw role id hid).sameConfig
        then (s.linkNoted part fw role id hid).sendFelt [.config (s.store.cur.getD s.block) s.hood.chain]
      else (s.linkNoted part fw role id hid).takeRole := by
  unfold State.linkUpRow
  rw [if_neg (by cases h <;> simp_all)]
  rfl

theorem State.linkUpRow_of_unfit {s : State} (part fw : BitVec 32) (role : Nat) (id hid : BitVec 128)
    (h0 : s.laneFit 0 = false) (h1 : s.laneFit 1 = false) : s.linkUpRow part role fw id hid = s := by
  unfold State.linkUpRow
  rw [if_pos (by simp [h0, h1])]

theorem State.linkNoted_sameConfig (part fw : BitVec 32) (role : Nat) (id hid : BitVec 128) (s : State) :
    (s.linkNoted part fw role id hid).sameConfig = true ↔ id = s.block.blockId ∧ hid = lastHood s.hood.chain :=
  State.sameConfig_iff _

/-- Of another variant the partner is noted, with error 0x0405 (R8). -/
theorem State.linkUpRow_of_other {s : State} {part : BitVec 32} (hp : part ≠ idPart s.life.variant) (fw : BitVec 32) (role : Nat) (id hid : BitVec 128)
    (h : s.laneFit 0 = true ∨ s.laneFit 1 = true) : s.linkUpRow part role fw id hid = s.linkNoted part fw role id hid := by
  rw [State.linkUpRow_of_fit part fw role id hid h, if_pos hp]

theorem State.linkUpRow_cases {s : State} {part : BitVec 32} (fw : BitVec 32) (role : Nat) (id hid : BitVec 128)
    (h : s.laneFit 0 = true ∨ s.laneFit 1 = true) : 
    s.linkUpRow part role fw id hid = s.linkNoted part fw role id hid ∨ s.linkUpRow part role fw id hid = (s.linkNoted part fw role id hid).rejoin ∨
    s.linkUpRow part role fw id hid = (s.linkNoted part fw role id hid).sendFelt [.config (s.store.cur.getD s.block) s.hood.chain] ∨
    s.linkUpRow part role fw id hid = (s.linkNoted part fw role id hid).takeRole := by
  rw [State.linkUpRow_of_fit part fw role id hid h]
  split_ifs <;> simp

/-- What every outcome of the link's return keeps of what was noted. -/
structure LinkKept (t u : State) : Prop where
  frame : u = { t with pair := u.pair, life := u.life, evr := u.evr, out := u.out }
  pair : u.pair = { t.pair with seedNext := u.pair.seedNext, applied := u.pair.applied, since := u.pair.since, bridgeRun := u.pair.bridgeRun, feltSeq := u.pair.feltSeq }

theorem LinkKept.refl (t : State) : LinkKept t t := ⟨rfl, rfl⟩

theorem LinkKept.rejoin (t : State) : LinkKept t t.rejoin := by
  unfold State.rejoin
  rw [State.setRole_frame]
  exact ⟨rfl, rfl⟩

theorem LinkKept.sendFelt (l : List FeltFrame) (t : State) : LinkKept t (t.sendFelt l) := ⟨rfl, rfl⟩

theorem LinkKept.takeRole (t : State) : LinkKept t t.takeRole := by
  rw [State.takeRole_frame]
  exact ⟨rfl, rfl⟩

theorem State.linkUpRow_kept {s : State} (part fw : BitVec 32) (role : Nat) (id hid : BitVec 128)
    (h : s.laneFit 0 = true ∨ s.laneFit 1 = true) : LinkKept (s.linkNoted part fw role id hid) (s.linkUpRow part role fw id hid) := by
  rcases State.linkUpRow_cases fw role id hid h with e | e | e | e <;> rw [e]
  · exact .refl _
  · exact .rejoin _
  · exact .sendFelt _ _
  · exact .takeRole _

/-- What a joining engine has once it has taken a Block and Hoods (R412). -/
def State.blockTaken (b : Block) (hs : List Hood) (s : State) : State :=
  let t := s.activate (hs.foldl hoodBlock b)
  { t with
    hood := hoodOfChain hs t.hood
    store := { t.store.take b hs with dirDue := some (s.logic.ltc + 9600), act := none }
    life := { t.life with blockOk := true }
    pair := { s.pair with err := 0, pblock := b.blockId, phood := lastHood hs } }

theorem State.blockTaken_fields (b : Block) (hs : List Hood) (s : State) :
    (s.blockTaken b hs).blk = some (hs.foldl hoodBlock b) ∧ (s.blockTaken b hs).store.cur = some b ∧
    (s.blockTaken b hs).store.prev = s.store.cur ∧ (s.blockTaken b hs).hood.chain = hs ∧ (s.blockTaken b hs).life.blockOk = true ∧
    (s.blockTaken b hs).pair = { s.pair with err := 0, pblock := b.blockId, phood := lastHood hs } ∧
    (s.blockTaken b hs).hat = s.hat ∧ (s.blockTaken b hs).sca = s.sca ∧ (s.blockTaken b hs).svc = s.svc ∧
    (s.blockTaken b hs).hpi.ram = s.hpi.ram ∧ (s.blockTaken b hs).pending = s.pending :=
  ⟨rfl, Store.take_cur b hs s.store, Store.take_prev b hs s.store, rfl, rfl, rfl, rfl, rfl, rfl, rfl, rfl⟩

theorem State.blockTakeGo_of_ok {s : State} {b : Block} {hs : List Hood} (h : bootCheck s.checkEnv b hs = 0) :
    s.blockTakeGo b hs = if s.life.role = 3 then (s.blockTaken b hs).rejoin else (s.blockTaken b hs).takeRole := by
  unfold State.blockTakeGo
  rw [if_neg (by simp [h])]
  rfl

theorem State.blockTake_of_joining {s : State} (b : Block) (hs : List Hood) (hr : s.life.role = 0 ∨ s.life.role = 3)
    (hl : s.pair.linkUp = true) (hp : s.pair.prole = 1) : s.blockTake b hs = s.blockTakeGo ((s.takes b).getD b) hs := by
  unfold State.blockTake
  rw [if_neg (by rcases hr with hr | hr <;> simp [hr, hl, hp])]

theorem State.blockTake_of_not {s : State} (b : Block) (hs : List Hood)
    (h : (s.life.role ≠ 0 ∧ s.life.role ≠ 3) ∨ s.pair.linkUp = false ∨ s.pair.prole ≠ 1) : s.blockTake b hs = s := by
  unfold State.blockTake
  rw [if_pos (by rcases h with ⟨h0, h3⟩ | h | h <;> simp [*])]

theorem State.partnerAct_of_trusted {s : State} {a : Action} (h : s.trusts a = true) :
    s.partnerAct a = ({ s with svc := { s.svc with acts := s.svc.acts ++ [{ a with reply := .none }] } } : State).prepare a := if_pos h

theorem State.partnerAct_of_untrusted {s : State} {a : Action} (h : s.trusts a = false) : s.partnerAct a = s := if_neg (by simp [h])

/-- Settles O52: by each row of the link. -/
theorem linkEventsTakeEffect : Obligations.LinkEventsTakeEffect := by
  unfold Obligations.LinkEventsTakeEffect
  refine ⟨fun s hup => ?_, fun s hup => ?_, fun s => ?_, fun s part fw role id hid h0 h1 => ?_, fun s part fw role id hid hfit => ?_,
    fun s b hs hr hl hp hbad => ?_, fun s b => ?_, fun s b0 hs => ?_, fun s b0 hs => ?_, fun s b hs h => ?_,
    fun s h r ht => ?_, fun s h ht => ?_⟩
  · exact ⟨linkDown s.pair, State.pairRow_eq (if_pos hup), linkDown_fields s.pair⟩
  · exact State.pairRow_eq (if_neg (by simp [hup]))
  · refine ⟨fun hb => State.pairRow_eq ((laneDown_zero _).trans (if_pos hb)), fun ha => State.pairRow_eq ((laneDown_one _).trans (if_pos ha)),
      fun ha hb => State.pairRow_eq ?_, fun ha hb => State.pairRow_eq ?_, fun hf => State.pairRow_eq (if_pos hf), fun hf => State.pairRow_eq (if_pos hf),
      fun l hl => State.pairRow_eq (if_neg (by simp [hl])), fun l => rfl⟩
    · simp [laneDown_zero, Pair.linkUp, ha, hb]
    · simp [laneDown_one, Pair.linkUp, ha, hb]
  · exact congrArg Host.Outcome.next (State.linkUpRow_of_unfit part fw role id hid h0 h1)
  · have hkept := State.linkUpRow_kept part fw role id hid hfit
    obtain ⟨hframe, hpair⟩ := hkept
    have hsame := State.linkNoted_sameConfig part fw role id hid s
    have hrow := State.linkUpRow_of_fit part fw role id hid hfit
    refine ⟨s.linkUpRow part role fw id hid, rfl, hframe, by rw [hpair]; rfl, by rw [hpair]; rfl, by rw [hpair]; rfl, by rw [hpair]; rfl,
      by rw [hpair]; rfl, by rw [hpair]; rfl, by rw [hpair]; rfl, by rw [hpair]; rfl, by rw [hframe]; rfl, by rw [hframe]; rfl,
      fun hp => ?_, fun hp => ⟨?_, fun hr hid hh => ?_, fun hr hne => ?_, fun hr hne => ?_⟩⟩
    · rw [State.linkUpRow_of_other hp fw role id hid hfit]
      exact ⟨if_neg hp, rfl, rfl⟩
    · rw [hpair]
      exact if_pos hp
    · rw [hrow, if_neg (not_not.2 hp), if_pos hr, if_pos (hsame.2 ⟨hid, hh⟩)]
      exact ⟨State.setRole_role 5 _, rfl, rfl⟩
    · rw [hrow, if_neg (not_not.2 hp), if_pos hr, if_neg (fun h => hne.elim (· (hsame.1 h).1) (· (hsame.1 h).2))]
      rfl
    · have hdiff : (s.linkNoted part fw role id hid).sameConfig = false := Bool.eq_false_iff.2 (fun h => hne.elim (· (hsame.1 h).1) (· (hsame.1 h).2))
      rw [hrow, if_neg (not_not.2 hp), if_neg (by simp [hr]), if_pos (by simp [hr, hdiff])]
      rfl
  · refine congrArg Host.Outcome.next ((State.blockTake_of_joining b hs hr hl hp).trans ?_)
    exact if_pos hbad
  · refine ⟨fun h => if_neg (by cases h <;> simp [*]), fun hc hs c => ?_⟩
    rw [State.takes, if_pos (by simp [hc, hs])]
    simp [Option.filter_eq_some_iff]
  · intro b hr hl hp hok
    refine ⟨_, congrArg Host.Outcome.next ((State.blockTake_of_joining b0 hs (.inr hr) hl hp).trans ((State.blockTakeGo_of_ok hok).trans (if_pos hr))), ?_⟩
    obtain ⟨hblk, hcur, -, hchain, -⟩ := State.blockTaken_fields b hs s
    refine ⟨State.setRole_role 5 _, rfl, ?_, ?_, ?_⟩
    · unfold State.rejoin
      rw [State.setRole_frame]
      exact hblk
    · unfold State.rejoin
      rw [State.setRole_frame]
      exact hcur
    · unfold State.rejoin
      rw [State.setRole_frame]
      exact hchain
  · intro b hr hl hp hok
    refine ⟨_, congrArg Host.Outcome.next ((State.blockTake_of_joining b0 hs (.inl hr) hl hp).trans
      ((State.blockTakeGo_of_ok hok).trans (if_neg (by simp [hr])))), ?_⟩
    rw [State.takeRole_frame]
    exact State.blockTaken_fields b hs s
  · exact congrArg Host.Outcome.next (State.blockTake_of_not b hs h)
  · exact congrArg Host.Outcome.next (State.felt_taken ht _)
  · intro u
    refine ⟨fun b => ?_, fun x => ?_, fun a ha => ?_, fun a ha => ?_⟩
    · intro c
      refine congrArg Host.Outcome.next ((State.felt_taken ht _).trans ?_)
      have hc : firstNz [blockCheck u.checkEnv b, if s.store.bad = true then 0x0206 else 0] = c := firstNz_pair _ _
      change (if firstNz [blockCheck u.checkEnv b, if s.store.bad = true then 0x0206 else 0] = 0
        then { u with store := { s.store with act := some { blk := b } } } else u).sendFelt
          [.checkResult opBlockActivate (firstNz [blockCheck u.checkEnv b, if s.store.bad = true then 0x0206 else 0])] = _
      rw [hc]
      by_cases h0 : c = 0 <;> simp only [h0, if_true, if_false] <;> rfl
    · exact congrArg Host.Outcome.next (State.felt_taken ht _)
    · exact congrArg Host.Outcome.next ((State.felt_taken ht _).trans (State.partnerAct_of_untrusted ha))
    · refine ⟨_, congrArg Host.Outcome.next ((State.felt_taken ht _).trans (State.partnerAct_of_trusted ha)), ?_⟩
      rw [State.prepare_frame]
      exact ⟨rfl, rfl⟩

end Sys2Proof.Machine
end

section
/-! SUPPORT. O53: the handover at its tick. -/

namespace Sys2Proof.Machine

theorem State.hatSettled_ho {f : Hat → Hat} {s : State} (hl : ((f s.hat).noted s.hat s.life.role).latch = false) :
    (s.hatSettled f).pair.ho = s.pair.ho := by
  have hrole (t : State) (ht : t.hat.latch = false) : t.latchRole.pair.ho = t.pair.ho := by
    unfold State.latchRole
    rw [if_neg (Bool.eq_false_iff.1 ht)]
    split_ifs <;> rfl
  rw [State.hatSettled_eq, State.enableLower_frame]
  exact hrole (s.withHat f) hl

theorem State.hoNow_of_due {s : State} {h : Planned} (hp : s.pair.ho = some h) (hd : h.at_ ≤ s.logic.ltc + 1) : s.hoNow = true := by
  simp [State.hoNow, hp, hd]

theorem State.hoNow_of_not {s : State} (h : s.pair.ho = none ∨ ∃ h, s.pair.ho = some h ∧ s.logic.ltc + 1 < h.at_) : s.hoNow = false := by
  obtain h | ⟨h, hp, hd⟩ := h
  · simp [State.hoNow, h]
  · simp [State.hoNow, hp, hd]

/-- A handover whose witness frame carried both actions revokes (R403). -/
theorem State.revokeRow_of_done {s : State} (h : s.hoDone = true) : s.revokeRow =
    (({ s.witPin 2 with pair := { (s.witPin 2).pair with ho := none, hoA := false, hoTick := true } } : State).hatSettled hatRevokeGo).fallDue := by
  obtain ⟨hu, hpair⟩ := s.witPin_same 2
  rw [← State.handoverTick_of_done hu hpair h]
  simp only [State.revokeRow, if_pos h, State.hatRow_eq]

/-- One that was not witnessed lapses, with its record. -/
theorem State.handoverTick_of_lapse {s : State} {h : Planned} (hp : s.pair.ho = some h) (hd : h.at_ ≤ s.logic.ltc + 1)
    (hn : s.pair.hoA = false ∨ s.hat.act ≠ 2) : s.handoverTick = { s with
      pair := { s.pair with ho := none, hoA := false }
      evr := { s.evr with localEv := s.evr.localEv ++ [lapseEvent h.at_] } } := by
  simp only [State.handoverTick, hp]
  rw [if_neg (by omega), if_neg (by cases hn <;> simp [*])]

/-- Settles O53: by whether the handover is due and witnessed. -/
theorem handoverTakesEffect : Obligations.HandoverTakesEffect := by
  unfold Obligations.HandoverTakesEffect
  refine ⟨fun s h hp hd => ⟨fun hA hact => ?_, fun hn => ?_⟩, fun s hn => ?_, fun s h id o ht hid => ?_⟩
  · have hdone : s.hoDone = true := by simp [State.hoDone, State.hoNow_of_due hp hd, hA, hact]
    refine ⟨congrArg Host.Outcome.next (if_neg (by simp [hdone])), ?_⟩
    obtain ⟨hu, -⟩ := s.witPin_same 2
    have hu' := hu.withPair { (s.witPin 2).pair with ho := none, hoA := false, hoTick := true }
    obtain ⟨hh, hlife, -⟩ := hu'.fields
    have hhat : (hatRevokeGo s.hat).noted s.hat s.life.role =
        { s.hat with act := 0, latch := false, revoked := s.hat.revoked || s.hat.latch, granted := false, taken := true } := by
      rw [hatRevokeGo_pending hact]
      exact Hat.noted_of_off (.inl rfl)
    have hl : ((hatRevokeGo s.hat).noted s.hat s.life.role).latch = false := by rw [hhat]
    refine ⟨_, congrArg Host.Outcome.next ((if_pos hdone).trans (State.revokeRow_of_done hdone)), State.hatSettled_ho (by rw [hh, hlife]; exact hl),
      (hu'.hat _).trans hhat, by rw [hu'.en, Hat.enable_of_unlatched hl, Bool.and_false], fun h1 hf => ?_, ?_⟩
    · exact (State.hatSettled_planned (by rw [hh, hlife]; exact hl) (by rw [hlife]; exact h1) rfl (by rw [State.fit, hlife]; exact hf)).1
    · exact hu'.settled_frame _
  · have hdone : s.hoDone = false := by cases hn <;> simp [State.hoDone, *]
    refine ⟨congrArg Host.Outcome.next (if_neg (by simp [hdone])), congrArg Host.Outcome.next ?_⟩
    exact (if_pos (by simp [hdone, State.hoNow_of_due hp hd])).trans (State.handoverTick_of_lapse hp hd hn)
  · have hnow := State.hoNow_of_not hn
    exact ⟨congrArg Host.Outcome.next (if_neg (by simp [State.hoDone, hnow])), congrArg Host.Outcome.next (if_neg (by simp [hnow]))⟩
  · exact congrArg Host.Outcome.next ((State.felt_taken ht _).trans (if_pos hid))

end Sys2Proof.Machine
end

section
/-! SUPPORT. O54: the registers of the host port. -/

namespace Sys2Proof

theorem getLsbD_clear {w : Nat} (d v : BitVec w) (i : Nat) : (d &&& ~~~v).getLsbD i = (d.getLsbD i && !v.getLsbD i) := by
  by_cases h : i < w
  · simp [h]
  · rw [BitVec.getLsbD_of_ge _ _ (by omega), BitVec.getLsbD_of_ge d _ (by omega), Bool.false_and]

theorem getLsbD_ring (d v : BitVec 16) (i : Nat) : (d ||| v &&& ~~~d).getLsbD i = (d.getLsbD i || v.getLsbD i) := by
  rw [BitVec.getLsbD_or, getLsbD_clear]
  cases d.getLsbD i <;> simp

theorem getLsbD_ringDone (d b v : BitVec 16) (i : Nat) : (d &&& ~~~(v &&& ~~~b)).getLsbD i = (d.getLsbD i && !(v.getLsbD i && !b.getLsbD i)) := by
  rw [getLsbD_clear, getLsbD_clear]

theorem getLsbD_setWidth_of_lt {w : Nat} (n : Nat) (v : BitVec w) {i : Nat} (h : i < n) : (v.setWidth n).getLsbD i = v.getLsbD i := by
  simp [h]

/-- The Pin input's source is on where its enable is. -/
theorem pinInput_enabled {c : BitVec 8} (h : c.getLsbD 1 = true) : (0x02 : BitVec 6) &&& c.setWidth 6 = 2 := by
  revert h
  revert c
  decide

theorem pinInput_disabled {c : BitVec 8} (h : c.getLsbD 1 = false) : (0x02 : BitVec 6) &&& c.setWidth 6 = 0 := by
  revert h
  revert c
  decide

end Sys2Proof

namespace Sys2Proof.Machine

theorem State.hpiRow_of_open {s : State} (h : s.hpi.magic = true) (f : Hpi → Hpi) : s.hpiRow f = { s with hpi := f s.hpi } := if_pos h

theorem State.hpiRow_of_closed {s : State} (h : s.hpi.magic = false) (f : Hpi → Hpi) : s.hpiRow f = s := if_neg (by simp [h])

/-- A bank that is released is no longer full; the other keeps what it holds (R447). -/
def releaseBanks (v : BitVec 32) (banks : List Bank) : List Bank :=
  let l := if v.getLsbD 0 then banks.modify 0 (fun b => { b with full := false }) else banks
  if v.getLsbD 1 then l.modify 1 (fun b => { b with full := false }) else l

theorem releaseBanks_getElem? (v : BitVec 32) (banks : List Bank) (i : Nat) :
    (releaseBanks v banks)[i]? = (banks[i]?).map (fun b => if i < 2 ∧ v.getLsbD i = true then { b with full := false } else b) := by
  have hmod (c : Bool) (l : List Bank) (k : Nat) : (if c = true then l.modify k (fun b => { b with full := false }) else l)[i]? =
      (l[i]?).map (fun b => if k = i ∧ c = true then { b with full := false } else b) := by
    cases c
    · simp
    · by_cases hk : k = i <;> cases hl : l[i]? <;> simp [List.getElem?_modify, hk, hl]
  unfold releaseBanks
  dsimp only
  rw [hmod, hmod, Option.map_map]
  refine congrArg (fun f => (banks[i]?).map f) (funext fun b => ?_)
  match i with
  | 0 => simp
  | 1 => simp
  | i + 2 => simp

theorem State.snapCtrlWrite_of_open {s : State} (h : s.hpi.magic = true) (v : BitVec 32) :
    s.snapCtrlWrite v = { s with hpi := { s.hpi with banks := releaseBanks v s.hpi.banks } } := by
  unfold State.snapCtrlWrite releaseBanks
  rw [if_neg (by simp [h])]
  cases v.getLsbD 0 <;> cases v.getLsbD 1 <;> rfl

theorem State.snapCtrlWrite_of_closed {s : State} (h : s.hpi.magic = false) (v : BitVec 32) : s.snapCtrlWrite v = s := if_pos (by simp [h])

theorem State.pin_of_off {s : State} {src : BitVec 6} (h : src &&& s.hpi.pinCtrl.setWidth 6 = 0 ∨ s.hpi.magic = false) (n : Nat) (d : Bool) :
    s.pin src n d = s := by
  unfold State.pin State.pinBack
  exact if_pos (by cases h <;> simp [*])

/-- Outside a mailbox a write with an inactive byte enable has no effect (R419). -/
theorem State.hostWrite_partial {s : State} (h : s.hpi.magic = true) {a : Nat} (h0 : hostRegion (a / 4 * 4) ≠ 0) (h4 : hostRegion (a / 4 * 4) ≠ 4)
    {be : BitVec 4} (hbe : be ≠ 0xF) (v : BitVec 32) : s.hostWrite a v be = s := by
  unfold State.hostWrite
  rw [if_neg (by simp [h]), if_neg h0, if_neg h4, if_pos hbe]

/-- The mailbox registers take a whole word (R434). -/
theorem State.hostWrite_irqEn {s : State} (h : s.hpi.magic = true) (v : BitVec 32) :
    s.hostWrite 0x2008 v 0xF = { s with hpi := { s.hpi with irqEn := v.setWidth 20 } } := by
  unfold State.hostWrite
  dsimp only
  rw [if_neg (by simp [h])]
  rfl

/-- The Pin of an enabled source on a free edge takes the first bank that is not full (R446). -/
theorem State.pinInput_of_free {s : State} (h : s.hpi.magic = true) (hon : s.hpi.pinCtrl.getLsbD 1 = true) {n : Nat} (he : s.edgeTaken n 0 = none)
    {i : Nat} (hi : s.hpi.banks.findIdx? (fun b => !b.full) = some i) : let t := s.pin 0x02 n false
    t = { s with
      hpi := { s.hpi with banks := s.hpi.banks.set i (s.bankOf 2 n false 0), pinSeq := s.hpi.pinSeq + 1, pulseEnd := t.hpi.pulseEnd
                          edges := s.hpi.edges ++ [((s.tsu.id.grid, n), some i)] }
      pair := { s.pair with feltSeq := t.pair.feltSeq }, free := s.free + 1, out := t.out } := by
  intro t
  have ht : t = s.pin 0x02 n false := rfl
  unfold State.pin State.pinBack at ht
  dsimp only at ht
  rw [pinInput_enabled hon, if_neg (by simp [h]), he] at ht
  simp only [hi] at ht
  rw [ht]
  rfl

/-- On a taken edge it joins that edge's bank, or the loss that the edge has brought. -/
theorem State.pinInput_of_taken {s : State} (h : s.hpi.magic = true) (hon : s.hpi.pinCtrl.getLsbD 1 = true) {n : Nat} {x : Option Nat}
    (he : s.edgeTaken n 0 = some x) : s.pin 0x02 n false = match x with
      | none => s
      | some i => { s with hpi := { s.hpi with banks := s.hpi.banks.modify i (fun b =>
          if b.full then { b with hdr := { b.hdr with src := b.hdr.src ||| 2, deferred := b.hdr.deferred || false } } else b) } } := by
  unfold State.pin State.pinBack
  dsimp only
  rw [pinInput_enabled hon, if_neg (by simp [h])]
  cases x <;> simp only [he]

/-- With both banks full it is lost and counted. -/
theorem State.pinInput_of_full {s : State} (h : s.hpi.magic = true) (hon : s.hpi.pinCtrl.getLsbD 1 = true) {n : Nat} (he : s.edgeTaken n 0 = none)
    (hfull : ∀ b ∈ s.hpi.banks, b.full = true) : s.pin 0x02 n false = { s with hpi := { s.hpi with
      pinLost := Nat.min (s.hpi.pinLost + 1) 0xFFFFFFFF, edges := s.hpi.edges ++ [((s.tsu.id.grid, n), none)] } } := by
  have hno : s.hpi.banks.findIdx? (fun b => !b.full) = none := List.findIdx?_eq_none_iff.2 (fun b hb => by simp [hfull b hb])
  unfold State.pin State.pinBack
  dsimp only
  rw [pinInput_enabled hon, if_neg (by simp [h]), he]
  simp only [hno]
  rfl

/-- Settles O54: the port closed, and each register of the open port. -/
theorem hostRegistersTakeEffect : Obligations.HostRegistersTakeEffect := by
  unfold Obligations.HostRegistersTakeEffect
  refine ⟨fun s v i w n h => ?_, fun s h => ⟨fun v => ?_, fun v => ?_, fun v => ?_, ?_, ?_, fun i w => ?_, fun w => ?_, fun v => ?_, fun v n => ?_, fun n => ?_,
    fun v => ?_, fun a v be hbe h0 h4 => ?_⟩⟩
  · have hrow (f : Hpi → Hpi) : (Host.Outcome.next (s.hpiRow f) : Host.Outcome State Fault Refusal) = .next s := by rw [State.hpiRow_of_closed h]
    refine ⟨hrow _, hrow _, hrow _, hrow _, hrow _, hrow _, hrow _, ?_, ?_, ?_⟩
    · exact congrArg Host.Outcome.next (State.snapCtrlWrite_of_closed h v)
    · refine congrArg Host.Outcome.next ?_
      unfold State.pinCtrlWrite
      rw [State.hpiRow_of_closed h]
      dsimp only
      rw [State.pin_of_off (.inr h), ite_self]
    · exact congrArg Host.Outcome.next (State.pin_of_off (.inr h) n false)
  · refine ⟨_, congrArg Host.Outcome.next (State.hpiRow_of_open h _), rfl, fun i hi => ⟨?_, ?_⟩⟩
    · exact (getLsbD_ring _ _ i).trans (by rw [getLsbD_setWidth_of_lt 16 v hi])
    · exact (getLsbD_ringDone _ _ _ i).trans (by rw [getLsbD_setWidth_of_lt 16 v hi])
  · refine ⟨_, congrArg Host.Outcome.next (State.hpiRow_of_open h _), rfl, fun i hi => ?_⟩
    exact (getLsbD_clear _ _ i).trans (by rw [getLsbD_setWidth_of_lt 16 v hi])
  · refine ⟨_, congrArg Host.Outcome.next (State.hpiRow_of_open h _), rfl, fun i hi => ?_⟩
    exact (getLsbD_clear _ _ i).trans (by rw [getLsbD_setWidth_of_lt 4 v hi])
  · exact congrArg Host.Outcome.next (State.hpiRow_of_open h _)
  · exact congrArg Host.Outcome.next (State.hpiRow_of_open h _)
  · refine congrArg Host.Outcome.next ((State.hpiRow_of_open h _).trans ?_)
    by_cases hd : s.hpi.doorbell.getLsbD i.val = true
    · rw [if_pos hd]
      exact (if_pos hd).symm
    · rw [if_neg hd]
      exact (if_neg hd).symm
  · cases w <;> exact congrArg Host.Outcome.next (State.hpiRow_of_open h _)
  · exact ⟨_, congrArg Host.Outcome.next (State.snapCtrlWrite_of_open h v), rfl, releaseBanks_getElem? v s.hpi.banks⟩
  · refine congrArg Host.Outcome.next ?_
    unfold State.pinCtrlWrite
    rw [State.hpiRow_of_open h]
  · refine ⟨fun hoff => congrArg Host.Outcome.next (State.pin_of_off (.inl (pinInput_disabled hoff)) n false),
      fun hon he hfull => congrArg Host.Outcome.next (State.pinInput_of_full h hon he hfull),
      fun hon he => congrArg Host.Outcome.next (State.pinInput_of_taken h hon he), fun i hon he => ?_, fun i hon he hi => ?_⟩
    · refine ⟨_, congrArg Host.Outcome.next (State.pinInput_of_taken h hon he), rfl, fun j => ?_⟩
      rw [List.getElem?_modify]
      refine congrArg (fun f => (s.hpi.banks[j]?).map f) (funext fun b => ?_)
      by_cases hj : i = j
      · simp [hj]
      · rw [if_neg hj, if_neg (fun h => hj h.1.symm)]
    · exact ⟨_, s.bankOf 2 n false 0, rfl, State.pinInput_of_free h hon he hi, rfl, rfl, rfl, rfl, rfl, rfl⟩
  · refine congrArg Host.Outcome.next ((State.hostWrite_irqEn h _).trans ?_)
    rw [BitVec.setWidth_setWidth_of_le v (by decide)]
  · exact congrArg Host.Outcome.next (State.hostWrite_partial h h0 h4 hbe _)

end Sys2Proof.Machine
end

section
/-! SUPPORT. O56: queries. -/

namespace Sys2Proof.Machine

/-- An admitted command whose own rules let it through with a payload is answered with it. -/
theorem State.command_answers {c : CmdSpec} {r : Req} {go : State → Except Nat Ans} {s t : State} {p : List Byte} (hadm : s.admits c r = true)
    (hgo : go (s.touch c r) = t.ok p) : s.command c r go = t.answered c r p :=
  State.command_of_ok hadm hgo

/-- An admitted query is answered with what it reads. -/
theorem State.query_answers {c : CmdSpec} {r : Req} {s : State} (p : State → List Byte) (hadm : s.admits c r = true) :
    (Host.Outcome.next (s.command c r (fun t => t.ok (p t))) : Host.Outcome State Fault Refusal) =
      .next ((s.touch c r).answered c r (p (s.touch c r))) :=
  congrArg Host.Outcome.next (State.command_answers hadm rfl)

theorem jobBytes_eq (k : Nat) (j : Job) : ∃ (pr : BitVec 16) (fi : Nat) (re : BitVec 64),
    (j.state ≠ 1 → fi = j.final ∧ re = j.result) ∧ (j.armed = true → re = j.result) ∧
    jobBytes k j = leBytes j.state 1 ++ leBytes 0 1 ++ leBytes pr.toNat 2 ++ leBytes fi 2 ++ leBytes 0 2 ++ leBytes re.toNat 8 := by
  refine ⟨_, _, _, fun h => ⟨if_neg h, if_neg (by simp [h])⟩, fun h => if_neg (by simp [h]), rfl⟩

theorem State.touch_port (c : CmdSpec) (r : Req) (s : State) : (s.touch c r).hpi.win = s.hpi.win ∧ hpiErr (s.touch c r).hpi = hpiErr s.hpi ∧
    (s.touch c r).hpi.banks = s.hpi.banks := by
  unfold State.touch
  cases r.carrier <;> exact ⟨rfl, rfl, rfl⟩

/-- Settles O56: each query reads what the state holds. -/
theorem queriesAreAnswered : Obligations.QueriesAreAnswered := by
  unfold Obligations.QueriesAreAnswered
  intro s r u ans o
  refine ⟨fun h => ?_, fun h => ?_, fun h => ?_, fun h => ?_, fun h => ?_, fun d h => ?_, fun h => ?_, fun h => ?_, fun h => ?_, fun h => ?_,
    fun h => ?_, fun l h => ?_, fun f n h => ?_, fun f h => ?_, fun h => ?_, fun q n h => ?_, fun k h => ?_, fun q h => ?_, fun j f b x h hx => ?_,
    fun k b n h => ?_, fun n j h hj => ?_⟩
  · exact State.query_answers _ h
  · obtain ⟨hwin, -⟩ := State.touch_port cmdGetStatus r s
    change Host.Outcome.next (s.command cmdGetStatus r (fun t => t.ok (windowHead t.hpi.win))) = _
    rw [State.query_answers (fun t => windowHead t.hpi.win) h, hwin]
  · exact State.query_answers _ h
  · obtain ⟨hwin, -⟩ := State.touch_port cmdSelftest r s
    refine ⟨Config.selftestWord s.free, congrArg Host.Outcome.next (State.command_answers h ?_)⟩
    rw [← hwin]
    rfl
  · obtain ⟨-, herr, -⟩ := State.touch_port cmdCounters r s
    refine congrArg Host.Outcome.next (State.command_answers h ?_)
    change _ = State.ok (leBytes (hpiErr s.hpi) 4 ++ leBytes (u cmdCounters).svc.sessions.length 4 ++ leBytes s.svc.sigFails 4 ++ leBytes s.svc.refused 4) _
    rw [← herr]
    rfl
  · exact State.query_answers _ h
  · exact State.query_answers _ h
  · exact State.query_answers _ h
  · exact State.query_answers _ h
  · exact State.query_answers _ h
  · exact State.query_answers _ h
  · exact State.query_answers _ h
  · rw [show exec (.rangeRead r f n) s = .next (s.command (cmdRangeRead f n) r (fun t => t.ok (t.records ((List.range n).map (f + ·))))) from rfl,
      State.query_answers _ h]
    simp only [State.records, List.length_map, List.length_range, List.flatMap_map]
    rfl
  · exact State.query_answers _ h
  · exact State.query_answers _ h
  · exact State.query_answers _ h
  · exact State.query_answers _ h
  · exact State.query_answers _ h
  · refine congrArg Host.Outcome.next (State.command_answers h ?_)
    have hx' : (s.touch (cmdDrcFile j f b) r).exported j = some x := hx
    simp only [hx']
    rfl
  · obtain ⟨-, -, hbanks⟩ := State.touch_port (cmdSnapRead k b n) r s
    change Host.Outcome.next (s.command (cmdSnapRead k b n) r (fun t => t.ok (((bankBytes (at! t.hpi.banks k)).drop b).take n))) = _
    rw [State.query_answers (fun t => ((bankBytes (at! t.hpi.banks k)).drop b).take n) h, hbanks]
  · obtain ⟨pr, fi, re, hrun, harm, hbytes⟩ := jobBytes_eq s.free j
    have hj' : (s.touch (cmdJobStatus n) r).svc.jobs.find? (fun j => j.no == n) = some j := hj
    refine ⟨pr, fi, re, hrun, harm, congrArg Host.Outcome.next (State.command_answers h ?_)⟩
    simp only [hj']
    rw [← hbytes]
    rfl

end Sys2Proof.Machine
end

section
/-! SUPPORT. O55: sessions and keys. -/

namespace Sys2Proof

theorem nonZero_ne_zero (v : BitVec 32) : nonZero v ≠ 0 := by
  unfold nonZero
  split_ifs with h
  · decide
  · exact h

end Sys2Proof

namespace Sys2Proof.Machine

theorem State.openSession_ok {r : Req} {k : Nat} {u : State} (hk : u.sca.keys.any (fun x => x.id == k) = true)
    (hf : u.sessionsFull r.carrier = false) (h : BitVec 256) : ∃ (id : BitVec 32) (en : BitVec 256), id ≠ 0 ∧
    u.openSession r k h = ({ u with free := u.free + 1, svc := { u.svc with sessions := u.svc.sessions ++
      [{ id := id, keyId := k, carrier := r.carrier, enonce := en, hnonce := h, idle := u.tsu.statTick }] } } : State).ok
        (leBytes id.toNat 4 ++ leBytes en.toNat 32) := by
  refine ⟨nonZero (Config.session u.free), Config.nonce u.free, nonZero_ne_zero _, ?_⟩
  unfold State.openSession
  rw [if_neg (by simp [hk]), if_neg (by simp [hf])]

theorem State.authSession_of_signed {r : Req} {u : State} {x : Session} (hx : u.session r = some x) {sig : BitVec 768}
    (h : u.keySigned x.keyId (sha384 (u.openBytes x)) sig = true) :
    u.authSession r sig = (u.modSession x (fun y => { y with authed := true, priv := u.checkEnv.priv x.keyId })).ok (leBytes (u.checkEnv.priv x.keyId).toNat 4) := by
  unfold State.authSession
  simp only [hx]
  rw [if_neg (by simp [h])]

theorem State.authSession_of_unsigned {r : Req} {u : State} {x : Session} (hx : u.session r = some x) {sig : BitVec 768}
    (h : u.keySigned x.keyId (sha384 (u.openBytes x)) sig = false) : u.authSession r sig = .error 0x0102 := by
  unfold State.authSession
  simp only [hx]
  rw [if_pos (by simp [h])]

theorem State.enrol_ok {key : BitVec 776} {p : BitVec 9} {u : State} (hn : u.sca.keys.length < 32) (hb : u.sca.button = false)
    (hj : u.jobFree 0x0110 = true) : u.enrol key p = .ok
      { s := { u with svc := { u.svc with nextJob := u.svc.nextJob + 1, jobs := u.svc.jobs ++
          [{ opcode := 0x0110, key := key, priv := p, no := u.svc.nextJob, state := 1, begun := u.tsu.statTick }] } }
        status := 1, payload := leBytes u.svc.nextJob 4 } := by
  have hopen : u.openJob { opcode := opKeyEnrol, key := key, priv := p } = .ok
      { s := { u with svc := { u.svc with nextJob := u.svc.nextJob + 1, jobs := u.svc.jobs ++
          [{ opcode := 0x0110, key := key, priv := p, no := u.svc.nextJob, state := 1, begun := u.tsu.statTick }] } }
        status := 1, payload := leBytes u.svc.nextJob 4 } := by
    unfold State.openJob
    rw [if_neg (by simpa [opKeyEnrol] using hj)]
    rfl
  unfold State.enrol
  rw [if_neg (show ¬maxKeys ≤ u.sca.keys.length from Nat.not_le.2 hn), hopen]
  exact if_neg (by simp [hb])

/-- The end of a job changes the jobs and its event bit. -/
theorem State.endJob_svc (no state final : Nat) (result : BitVec 64) (s : State) : (s.endJob no state final result).svc = { s.svc with
    jobs := s.svc.jobs.map (fun i => if i.no = no ∧ i.state = 1 then { i with state := state, final := final, result := result, endedAt := s.tsu.statTick } else i) } := by
  simp [State.endJob]

theorem State.enrolButton_of_job {s : State} {j : Job} (h : s.jobOf 0x0110 = some j) : s.enrolButton =
    ({ s with sca := { s.sca with button := true, nextKey := s.sca.nextKey + 1, keys := s.sca.keys ++ [{ id := s.sca.nextKey, key := j.key, priv := j.priv }] }
              free := s.free + 1 } : State).endJob j.no 2 0 (Config.jobResult s.free) := by
  unfold State.enrolButton
  rw [show s.jobOf opKeyEnrol = some j from h]

theorem State.enrolTimeout_of_job {s : State} {j : Job} (h : s.jobOf 0x0110 = some j) : s.enrolTimeout =
    if j.begun + 576000 ≤ s.tsu.statTick then { s.endJob j.no 3 0x0102 (Config.jobResult s.free) with free := s.free + 1 } else s := by
  unfold State.enrolTimeout
  rw [show s.jobOf opKeyEnrol = some j from h]

/-- Settles O55: by each command of the sessions and the keys, and the events of both. -/
theorem sessionsAndKeysTakeEffect : Obligations.SessionsAndKeysTakeEffect := by
  unfold Obligations.SessionsAndKeysTakeEffect
  refine ⟨?_, ?_, ?_, fun s r x hx hadm => ?_, fun s n => rfl, ?_, fun s j hj => ⟨?_, fun hd => ?_, fun hd => ?_⟩, fun s hj => ⟨?_, ?_⟩, fun s r => ⟨?_, fun hadm => ?_⟩⟩
  · intro s r k h c u hadm hk hfull
    obtain ⟨id, en, hid, hgo⟩ := State.openSession_ok (u := u) hk hfull h
    exact ⟨id, en, hid, congrArg Host.Outcome.next (State.command_answers hadm hgo)⟩
  · intro s r x sig c u p msg hx hadm
    refine ⟨fun hs => congrArg Host.Outcome.next (State.command_answers hadm (State.authSession_of_signed hx hs)), fun hs => ?_⟩
    refine congrArg Host.Outcome.next ((State.command_of_error hadm (State.authSession_of_unsigned hx hs)).trans ?_)
    have hx' : (s.touch c r).session r = some x := hx
    simp only [hx']
    rfl
  · intro s r x u hx hadm
    refine congrArg Host.Outcome.next (State.command_answers hadm ?_)
    have hx' : (s.touch cmdSessionClose r).session r = some x := hx
    simp only [hx']
    rfl
  · refine congrArg Host.Outcome.next (State.command_answers hadm ?_)
    simp only [hx]
  · intro s r key p c u hadm hn hb hj
    exact congrArg Host.Outcome.next (State.command_of_ok hadm (State.enrol_ok (u := u) hn hb hj))
  · refine ⟨_, Config.jobResult s.free, congrArg Host.Outcome.next (State.enrolButton_of_job hj), rfl, rfl, ?_⟩
    exact State.endJob_svc ..
  · exact congrArg Host.Outcome.next ((State.enrolTimeout_of_job hj).trans (if_neg (Nat.not_le.2 hd)))
  · exact ⟨_, congrArg Host.Outcome.next ((State.enrolTimeout_of_job hj).trans (if_pos hd))⟩
  · refine congrArg Host.Outcome.next ?_
    unfold State.enrolTimeout
    rw [show s.jobOf opKeyEnrol = none from hj]
  · refine congrArg Host.Outcome.next ?_
    unfold State.enrolButton
    rw [show s.jobOf opKeyEnrol = none from hj]
  · intro k c u hadm hk
    refine congrArg Host.Outcome.next (State.command_answers hadm ?_)
    have hk' : u.sca.keys.any (fun x => x.id == k) = true := hk
    simp only [show s.touch (cmdKeyRevoke k) r = u from rfl, hk', Bool.not_true, Bool.false_eq_true, if_false]
    rfl
  · exact State.query_answers (fun t => (t.sca.keys.take 32).flatMap keyEntry) hadm

end Sys2Proof.Machine
end

section
/-! SUPPORT. O57: the action of an accepted TIME_STEP carries no signature. -/

namespace Sys2Proof.Machine

/-- A running engine that stands alone, with a session whose key is that of the secret 1: the base point. -/
def stepEngine : State := {
  hpi := { magic := true }
  life := { booted := true, healthy := true, role := 6, blockOk := true }
  tsu := { run := true }
  svc := { sessions := [{ id := 1, keyId := 1, authed := true, priv := 0x1FF }] }
  sca := { keys := [{ id := 1, priv := 0x1FF, key := BitVec.ofNat 776 (4 * 2 ^ 768 + basePt.x * 2 ^ 384 + basePt.y) }] }
  blk := some {} }

/-- TIME_STEP of 1 ns for tick 2, signed with that key and the nonce 1. -/
def stepAsk : Req :=
  let c := cmdTimeStep 2 1 0 1
  let r : Req := { session := 1, tag := 7, flags := 1, length := c.payload.length }
  { r with sig := BitVec.ofNat 768 (basePt.x * 2 ^ 384 + (beNat (sha384 (List.replicate 40 0 ++ reqBytes c r)) + basePt.x) % n384) }

theorem stepAsk_admitted : State.admits (cmdTimeStep 2 1 0 1) stepAsk stepEngine = true := by decide +kernel

theorem stepAsk_passes : stepCode stepEngine.block.time.jump stepEngine.logic.ltc 2 1 ((0 : Int) * 1000000000 + 1) stepEngine.tsu = 0 := by decide

/-- The action that the model queues names no privilege: `State.stepGo` leaves the signature out. -/
theorem stepAsk_unsigned : ∃ t, exec (.timeStep stepAsk 2 1 0 1) stepEngine = .next t ∧ t.svc.acts.map (·.priv) = [none] :=
  ⟨_, rfl, by decide +kernel⟩

/-- The action that the statement has queued names the privilege of TIME_STEP. -/
theorem stepAsk_queued : (State.queued (cmdTimeStep 2 1 0 1) stepAsk 2 (.timeStep 0 1) stepEngine).svc.acts.map (·.priv) = [some 5] := by
  decide +kernel

/-- Refutes O57: a TIME_STEP is queued without the signature that `State.queued` keeps of a signed command (R512). -/
theorem not_operatorCommandsTakeEffect : ¬ Obligations.OperatorCommandsTakeEffect := by
  unfold Obligations.OperatorCommandsTakeEffect
  intro h
  obtain ⟨-, -, -, -, -, -, -, -, -, -, -, -, -, hstep, -⟩ := h stepEngine stepAsk
  obtain ⟨t, hexec, ht⟩ := hstep 2 0 1 stepAsk_admitted stepAsk_passes
  obtain ⟨u, hu, hnone⟩ := stepAsk_unsigned
  have htu : t = u := Host.Outcome.next.inj (hexec.symm.trans hu)
  have hsome : t.svc.acts.map (·.priv) = [some 5] := (congrArg (fun x : State => x.svc.acts.map (·.priv)) ht).trans stepAsk_queued
  rw [htu, hnone] at hsome
  exact absurd hsome (by decide)

end Sys2Proof.Machine
end

section
/-! SUPPORT. O58: transfers and jobs. -/

namespace Sys2Proof

theorem foreign_of_own {session : Nat} {x : Xfer} (h : x.session.toNat = session) : foreign session (some x) = false := by
  simp [foreign, h]

/-- A chunk of the session's own transfer joins it. -/
theorem takeChunk_of_own {session : Nat} {x : Xfer} (h : x.session.toNat = session) (ofs : Nat) (data : List Byte) (now : Nat) :
    takeChunk session ofs data now (some x) = .ok { x with got := x.got ++ [(ofs, data)], lastT := now } :=
  if_neg (not_not.2 h)

end Sys2Proof

namespace Sys2Proof.Machine

/-- A free job opens with the next number (R443). -/
theorem State.openJob_of_free {s : State} {j : Job} (h : s.jobFree j.opcode = true) : s.openJob j = .ok
    { s := { s with svc := { s.svc with nextJob := s.svc.nextJob + 1
                                        jobs := s.svc.jobs ++ [{ j with no := s.svc.nextJob, state := 1, begun := s.tsu.statTick }] } }
      status := 1, payload := leBytes s.svc.nextJob 4 } := by
  unfold State.openJob
  rw [if_neg (by simp [h])]

/-- An admitted command that opens a job is answered with its number. -/
theorem State.command_opens {c : CmdSpec} {r : Req} {go : State → Except Nat Ans} {s v : State} {j : Job} (hadm : s.admits c r = true)
    (hgo : go (s.touch c r) = v.openJob j) (hfree : v.jobFree j.opcode = true) (hnext : v.svc.nextJob = s.svc.nextJob)
    (hjobs : v.svc.jobs = s.svc.jobs) (htick : v.tsu.statTick = s.tsu.statTick) : s.command c r go = ({ v with svc := { v.svc with
      nextJob := s.svc.nextJob + 1, jobs := s.svc.jobs ++ [{ j with no := s.svc.nextJob, state := 1, begun := s.tsu.statTick }] } } : State).answered
        c r (leBytes s.svc.nextJob 4) (status := 1) := by
  rw [← hnext, ← hjobs, ← htick]
  exact State.command_of_ok hadm (hgo.trans (State.openJob_of_free hfree))

theorem State.endPlain_of_ne {code : Nat} (h : code ≠ 0) (no : Nat) (s : State) :
    s.endPlain no code = { s.endJob no 3 code (Config.jobResult s.free) with free := s.free + 1 } := by
  unfold State.endPlain endState
  rw [if_neg h]

theorem State.endPlain_zero (no : Nat) (s : State) : s.endPlain no 0 = { s.endJob no 2 0 (Config.jobResult s.free) with free := s.free + 1 } := rfl

/-- An activation that nothing bars prepares the Block, forwards it and opens its job (R500). -/
theorem State.activateGo_of_free {s : State} {k n : Nat} {b : Block} (hbar : s.activateBarred = false) (htick : ntickOk s.logic.ltc n = true)
    (hfree : s.jobFree 0x0304 = true) (hslot : s.slotBlock k = some b) : s.activateGo k n =
      (({ s with store := { s.store with partnerOk := none, act := some { blk := b, prev := k == 1, job := s.svc.nextJob, ntick := n } } } : State).sendFelt
        (if s.life.role = 1 then [.forward (.block b)] else [])).openJob { opcode := 0x0304 } := by
  unfold State.activateGo
  rw [if_neg (by simp [hbar, htick]), if_neg (by simp [show s.jobFree opBlockActivate = true from hfree]), hslot]
  rfl

theorem State.hoodLoadGo_of_free {s : State} (hbusy : s.partnerBusy = false) (harm : s.hood.armed = none) : s.hoodLoadGo =
    (s.sendFelt (if s.life.role = 1 then [.forward (.hood s.hoodReceived)] else [])).openJob { opcode := 0x0403 } := by
  unfold State.hoodLoadGo
  rw [if_neg (by simp [hbusy, harm])]
  rfl

theorem State.exportGo_of_free {s : State} {n k : Nat} {x : DrcRec} (hrec : s.drc.rec_ n = some x) (hst : x.state ≠ 1) (hfree : s.jobFree 0x0803 = true) :
    s.exportGo n k = ({ s with drc := { s.drc with recs := s.drc.recs.map (fun y => if y.recno = n then { y with exporting := true } else y) } } : State).openJob
      { opcode := 0x0803, recno := n, opts := k } := by
  unfold State.exportGo
  rw [hrec]
  dsimp only
  rw [if_neg hst, if_neg (by simp [show s.jobFree opDrcExport = true from hfree])]
  rfl

/-- A chunk of the session's own transfer is answered by the transfer that it joins. -/
theorem State.command_takesChunk {mk : Bool → CmdSpec} {r : Req} {s : State} {a : Nat} {d : List Byte} {x : Xfer} {held : State → Option Xfer}
    {put : Xfer → State → State} (hheld : held s = some x) (hown : x.session.toNat = r.session)
    (hadm : s.admits (mk (decide (a + d.length ≤ x.length))) r = true)
    (htouch : held (s.touch (mk (decide (a + d.length ≤ x.length))) r) = held s) :
    s.command (mk (chunkFits a d.length (held s))) r (fun t =>
      match takeChunk r.session a d t.tsu.statTick (held t) with
      | .error e => .error e
      | .ok y => (put y t).ok []) =
    (put { x with got := x.got ++ [(a, d)], lastT := s.tsu.statTick } (s.touch (mk (decide (a + d.length ≤ x.length))) r)).answered
      (mk (decide (a + d.length ≤ x.length))) r [] := by
  have hfit : chunkFits a d.length (held s) = decide (a + d.length ≤ x.length) := by rw [hheld]; rfl
  rw [hfit]
  refine State.command_answers hadm ?_
  rw [htouch, hheld, takeChunk_of_own hown]
  rfl

/-- The end of a Hood's load: its own check, the partner's, or a load that passes (R308). -/
theorem State.hoodLoaded_of_job {s : State} {j : Job} (h : s.jobOf 0x0403 = some j) (p : Nat) :
    s.hoodLoaded p =
      if s.checkHood s.hoodReceived ≠ 0 then s.endPlain j.no (s.checkHood s.hoodReceived)
      else if s.pair.linkUp = true ∧ p ≠ 0 then s.endPlain j.no p
      else if s.hood.armed.isSome = true then s.endPlain j.no 0x0103
      else ({ s with hood := { s.hood with held := some s.hoodReceived, loaded := true }, store := { s.store with hoodX := none } } : State).endPlain j.no 0 := by
  unfold State.hoodLoaded
  rw [show s.jobOf opHoodLoad = some j from h]
  by_cases hc : s.checkHood s.hoodReceived = 0
  · by_cases hp : s.pair.linkUp = true ∧ p ≠ 0
    · simp [firstNz, hc, hp.1, hp.2]
    · have hpart : (if s.pair.linkUp = true then p else 0) = 0 := by
        split_ifs with hl
        · exact not_not.1 (fun h => hp ⟨hl, h⟩)
        · rfl
      cases ha : s.hood.armed <;> simp [firstNz, hc, hp, hpart, ha]
  · simp [firstNz, hc]

theorem State.hoodLoaded_of_idle {s : State} (h : s.jobOf 0x0403 = none) (p : Nat) : s.hoodLoaded p = match s.hood.cand with
    | none => s
    | some x => { s with hood := if p = 0 ∧ s.hood.armed = none then { s.hood with held := some x, loaded := true, cand := none }
                                 else { s.hood with cand := none } } := by
  unfold State.hoodLoaded
  rw [show s.jobOf opHoodLoad = none from h]
  cases s.hood.cand <;> simp

/-- A stage that ends without a restart (R503). -/
theorem State.stageDone_of_package {s : State} {j : Job} {p : Package} (hp : s.package = some p) (hm : j.opts = 0) :
    s.stageDone j = if packageCode s.life.fwVer s.upd.hash s.sca.fwKey s.sca.secLvl p ≠ 0
      then s.endPlain j.no (packageCode s.life.fwVer s.upd.hash s.sca.fwKey s.sca.secLvl p)
      else ({ s with upd := { s.upd with stage := 2, pkg := some p, xfer := none } } : State).endPlain j.no 0 := by
  unfold State.stageDone
  simp [hp, hm]

theorem State.jobEnd_of_stage {s : State} {j : Job} {n : Nat} (hj : s.running.find? (fun j => j.no == n) = some j) (hop : j.opcode = 0x0B03)
    (final result : Nat) : s.jobEnd n final result = s.stageDone j := by
  unfold State.jobEnd
  simp [hj, hop, opKeyEnrol, opBlockCheck, opBlockActivate, opHoodLoad, opDrcExport, opUpdStage]

theorem State.blockChunk_answers {r : Req} {s : State} {a : Nat} {d : List Byte} {x : Xfer} (hx : s.store.xfer = some x)
    (hown : x.session.toNat = r.session) : let c := cmdBlockChunk (decide (a + d.length ≤ x.length)) a d
    s.admits c r = true → exec (.blockChunk r a d) s = .next (({ s.touch c r with store := { s.store with checked := false, xfer := some { x with got := x.got ++ [(a, d)], lastT := s.tsu.statTick } } } : State).answered c r []) := by
  intro c hadm
  have hans := State.command_takesChunk (mk := fun b => cmdBlockChunk b a d) (held := fun t => t.store.xfer) (put := fun y t => { t with store := { t.store with xfer := some y, checked := false } }) hx hown hadm rfl
  exact congrArg Host.Outcome.next hans

theorem State.hoodChunk_answers {r : Req} {s : State} {a : Nat} {d : List Byte} {x : Xfer} (hx : s.store.hoodX = some x)
    (hown : x.session.toNat = r.session) : let c := cmdHoodChunk (decide (a + d.length ≤ x.length)) a d
    s.admits c r = true → exec (.hoodChunk r a d) s = .next (({ s.touch c r with store := { s.store with hoodX := some { x with got := x.got ++ [(a, d)], lastT := s.tsu.statTick } } } : State).answered c r []) := by
  intro c hadm
  have hans := State.command_takesChunk (mk := fun b => cmdHoodChunk b a d) (held := fun t => t.store.hoodX) (put := fun y t => { t with store := { t.store with hoodX := some y } }) hx hown hadm rfl
  exact congrArg Host.Outcome.next hans

theorem State.updChunk_answers {r : Req} {s : State} {a : Nat} {d : List Byte} {x : Xfer} (hx : s.upd.xfer = some x)
    (hown : x.session.toNat = r.session) : let c := cmdUpdChunk (decide (a + d.length ≤ x.length)) a d
    s.admits c r = true → exec (.updChunk r a d) s = .next (({ s.touch c r with upd := { s.upd with xfer := some { x with got := x.got ++ [(a, d)], lastT := s.tsu.statTick } } } : State).answered c r []) := by
  intro c hadm
  have hans := State.command_takesChunk (mk := fun b => cmdUpdChunk b a d) (held := fun t => t.upd.xfer) (put := fun y t => { t with upd := { t.upd with xfer := some y } }) hx hown hadm rfl
  exact congrArg Host.Outcome.next hans

/-- Settles O58: by each command of the transfers and the jobs, and their ends. -/
theorem transfersAndJobsTakeEffect : Obligations.TransfersAndJobsTakeEffect := by
  unfold Obligations.TransfersAndJobsTakeEffect
  refine ⟨?_, fun s j hj => ?_, fun s hj => ?_, fun s p j hj => ?_, fun s p hj hc => ?_, fun s p h hj hc => ?_, fun s n fin res hj => ?_,
    fun s n fin res j p hj hop hm hp => ?_, fun s => ⟨rfl, rfl, rfl⟩⟩
  · intro s r u o job fwd
    refine ⟨fun n id => ?_, fun n id => ?_, fun n => ?_, fun a d x => ?_, fun a d x => ?_, fun a d x => ?_, ?_, fun k n b => ?_, ?_, fun n k x => ?_,
      fun m out => ?_, ?_, ?_, fun n j => ?_⟩
    · intro c ho hf
      exact congrArg Host.Outcome.next (State.command_answers ho (if_neg (Bool.eq_false_iff.1 hf)))
    · intro c ho hn hf
      exact congrArg Host.Outcome.next (State.command_answers ho ((if_neg (Bool.eq_false_iff.1 hf)).trans (if_neg (Nat.not_lt.2 hn))))
    · intro c ho hn hf hst
      exact congrArg Host.Outcome.next (State.command_answers ho
        ((if_neg (Bool.eq_false_iff.1 hf)).trans ((if_neg (Nat.not_lt.2 hn)).trans (if_neg (not_not.2 hst)))))
    · exact fun ho hx hown => State.blockChunk_answers hx hown ho
    · exact fun ho hx hown => State.hoodChunk_answers hx hown ho
    · exact fun ho hx hown => State.updChunk_answers hx hown ho
    · intro c ho hfree
      exact congrArg Host.Outcome.next (State.command_opens ho rfl hfree rfl rfl rfl)
    · intro c ho hbar htick hfree hslot
      have hopen := State.command_opens ho (State.activateGo_of_free (s := u c) hbar htick hfree hslot) hfree rfl rfl rfl
      exact congrArg Host.Outcome.next hopen
    · intro c ho hbusy harm hfree
      have hopen := State.command_opens ho (State.hoodLoadGo_of_free (s := u c) hbusy harm) hfree rfl rfl rfl
      exact congrArg Host.Outcome.next hopen
    · intro c ho hrec hst hfree
      have hopen := State.command_opens ho (State.exportGo_of_free (s := u c) (k := k) hrec hst hfree) hfree rfl rfl rfl
      exact congrArg Host.Outcome.next hopen
    · intro c ho hb hfree hcode
      refine congrArg Host.Outcome.next (State.command_opens ho (v := u c) (j := { opcode := opUpdStage, opts := m }) ?_ hfree rfl rfl rfl)
      have hbar : (decide (m = 1) && (u c).bootBarred) = false := by
        by_cases hm : m = 1
        · simp [show (u c).bootBarred = false from hb hm]
        · simp [hm]
      refine (if_neg (Bool.eq_false_iff.1 hbar)).trans ((if_neg ?_).trans (if_neg ?_))
      · rw [show (s.touch (cmdUpdStage m out) r).jobFree opUpdStage = true from hfree]
        decide
      · exact not_not.2 hcode
    · intro c ho
      exact congrArg Host.Outcome.next (State.command_answers ho rfl)
    · intro c ho hl ha
      refine congrArg Host.Outcome.next (State.command_answers ho (if_neg ?_))
      rw [show (s.touch cmdHoodUnload r).hood.loaded = true from hl, show (s.touch cmdHoodUnload r).hood.armed = none from ha]
      decide
    · intro a c ho hj harm
      have hj' : (s.touch c r).running.find? (fun j => j.no == n) = some j := hj
      refine ⟨(Config.jobProgress s.free).toNat, Config.jobResult s.free, ?_⟩
      change Host.Outcome.next (s.command c r _) = _
      refine congrArg Host.Outcome.next (State.command_answers ho ?_)
      simp only [hj', harm, Bool.false_eq_true, if_false]
      rfl
  · refine ⟨Config.jobResult s.free, congrArg Host.Outcome.next ?_⟩
    unfold State.blockChecked
    rw [show s.jobOf opBlockCheck = some j from hj]
    rfl
  · refine congrArg Host.Outcome.next ?_
    unfold State.blockChecked
    rw [show s.jobOf opBlockCheck = none from hj]
  · have hend := State.hoodLoaded_of_job hj p
    refine ⟨Config.jobResult s.free, fun hc => ?_, fun hc hl hp => ?_, fun hc hlp ha => ?_⟩
    · exact congrArg Host.Outcome.next (hend.trans ((if_pos hc).trans (State.endPlain_of_ne hc _ _)))
    · exact congrArg Host.Outcome.next (hend.trans ((if_neg (not_not.2 hc)).trans ((if_pos ⟨hl, hp⟩).trans (State.endPlain_of_ne hp _ _))))
    · have hno : ¬(s.pair.linkUp = true ∧ p ≠ 0) := fun h => hlp.elim (fun hl => by simp [hl] at h) h.2
      exact congrArg Host.Outcome.next (hend.trans ((if_neg (not_not.2 hc)).trans ((if_neg hno).trans (if_neg (by simp [ha])))))
  · refine congrArg Host.Outcome.next ((State.hoodLoaded_of_idle hj p).trans ?_)
    rw [hc]
  · refine congrArg Host.Outcome.next ((State.hoodLoaded_of_idle hj p).trans ?_)
    rw [hc]
  · refine congrArg Host.Outcome.next ?_
    unfold State.jobEnd
    rw [hj]
  · have hend := (State.jobEnd_of_stage hj hop fin res).trans (State.stageDone_of_package hp hm)
    refine ⟨Config.jobResult s.free, fun hc => ?_, fun hc => ?_⟩
    · exact congrArg Host.Outcome.next (hend.trans ((if_pos hc).trans (State.endPlain_of_ne hc _ _)))
    · exact congrArg Host.Outcome.next (hend.trans (if_neg (not_not.2 hc)))

end Sys2Proof.Machine
end

section
/-! SUPPORT. O59: the requests of the station protocols. -/

namespace Sys2Proof.Machine

/-! ### What a message leaves -/

/-- A state that has talked: its communication state and what has left it. -/
def Talked (s t : State) : Prop := t = { s with cp := t.cp, out := t.out }

theorem Talked.refl (s : State) : Talked s s := rfl

theorem Talked.trans {s t u : State} (h : Talked s t) (h' : Talked t u) : Talked s u := by
  unfold Talked at h h' ⊢
  rw [h', h]

theorem State.say_talked (m : StMsg) (s : State) : Talked s (s.say m) := by
  unfold State.say
  dsimp only
  split_ifs <;> rfl

theorem State.sayAll_talked (l : List StMsg) (s : State) : Talked s (s.sayAll l) := by
  unfold State.sayAll
  induction l generalizing s with
  | nil => exact .refl s
  | cons m l ih => exact (s.say_talked m).trans (ih (s.say m))

theorem State.flush104_talked (i : Nat) (s : State) : Talked s (s.flush104 i) :=
  (show Talked s (s.modConn i (fun c => { c with wait := [] })) from rfl).trans (State.sayAll_talked _ _)

theorem State.heard104_talked (i : Nat) (s : State) : Talked s (s.heard104 i) := by
  unfold State.heard104
  extract_lets c now full t
  have ht : Talked s t := (show Talked s (s.modConn i _) from rfl).trans (State.flush104_talked i _)
  split_ifs
  · exact ht.trans (State.say_talked _ _)
  · exact ht

/-! ### Data transfer of the connections -/

/-- Each connection is open and transfers data as before. -/
def SameTransfer (l m : List Conn104) : Prop := m.map (fun c => (c.open_, c.started)) = l.map (fun c => (c.open_, c.started))

theorem sameTransfer_modify (l : List Conn104) (i : Nat) {f : Conn104 → Conn104} (hf : ∀ c, (f c).open_ = c.open_ ∧ (f c).started = c.started) :
    SameTransfer l (l.modify i f) := by
  unfold SameTransfer
  refine List.ext_getElem? fun k => ?_
  simp only [List.getElem?_map, List.getElem?_modify, Option.map_eq_map, Option.map_map]
  refine congrArg (fun g => (l[k]?).map g) (funext fun c => ?_)
  by_cases h : i = k
  · simp [h, hf]
  · simp [h]

theorem State.say_transfer (m : StMsg) (s : State) : SameTransfer s.cp.conns (s.say m).cp.conns := by
  unfold State.say
  dsimp only
  split_ifs
  · rfl
  · change SameTransfer s.cp.conns (s.cp.conns.modify _ _)
    exact sameTransfer_modify _ _ (fun _ => ⟨rfl, rfl⟩)
  · change SameTransfer s.cp.conns (s.cp.conns.modify _ _)
    exact sameTransfer_modify _ _ (fun _ => ⟨rfl, rfl⟩)
  · rfl

theorem State.sayAll_transfer (l : List StMsg) (s : State) : SameTransfer s.cp.conns (s.sayAll l).cp.conns := by
  unfold State.sayAll
  induction l generalizing s with
  | nil => rfl
  | cons m l ih => exact (ih (s.say m)).trans (s.say_transfer m)

theorem State.flush104_transfer (i : Nat) (s : State) : SameTransfer s.cp.conns (s.flush104 i).cp.conns :=
  (State.sayAll_transfer _ _).trans (sameTransfer_modify s.cp.conns i (fun _ => ⟨rfl, rfl⟩))

theorem SameTransfer.at! {l m : List Conn104} (h : SameTransfer l m) (k : Nat) :
    (at! m k).open_ = (at! l k).open_ ∧ (at! m k).started = (at! l k).started := by
  have hk : (m.map (fun c => (c.open_, c.started)))[k]? = (l.map (fun c => (c.open_, c.started)))[k]? := by rw [h]
  simp only [List.getElem?_map] at hk
  unfold Sys2Proof.at!
  rw [List.getD_eq_getElem?_getD, List.getD_eq_getElem?_getD]
  cases hm : m[k]? <;> cases hl : l[k]? <;> simp_all

/-- Data transfer starts on a connection and stops on the others of its group (R464). -/
theorem State.start104_conns (i : Nat) (s : State) :
    (i < s.cp.conns.length → (at! (s.start104 i).cp.conns i).open_ = true ∧ (at! (s.start104 i).cp.conns i).started = true) ∧
    ∀ j, j ≠ i → s.block.proto.group104[j]? = s.block.proto.group104[i]? → (at! (s.start104 i).cp.conns j).started = false := by
  unfold State.start104 State.modConn Sys2Proof.at!
  dsimp only
  refine ⟨fun hi => ?_, fun j hj hg => ?_⟩
  · rw [List.getD_eq_getElem?_getD, List.getElem?_modify, getElem?_mapI, List.getElem?_eq_getElem hi]
    simp
  · rw [List.getD_eq_getElem?_getD, List.getElem?_modify, getElem?_mapI]
    cases hc : s.cp.conns[j]? with
    | none => rfl
    | some c => cases hs : c.started <;> simp [Ne.symm hj, hg, hj, hs]

/-! ### Requests -/

/-- An action that a protocol takes is queued for the next tick (R457). -/
theorem State.stationGo_taken {s : State} {p : Nat} {a : StationAct} (hp : s.serves p = true) (hc : s.stCode p a = 0) (conn : Nat) (w : BitVec 128)
    (test : Option Bool) (ack : Bool) : s.stationGo p conn a w test ack = s.pushAct
      { act := a.toAct w test, ntick := s.logic.ltc + 1, opcode := a.opcode, reply := if ack then .station p conn else .none } := by
  unfold State.stationGo
  rw [if_neg (by simp [hp])]
  exact if_neg (not_not.2 hc)

theorem State.stationGo_refused {s : State} {p : Nat} {a : StationAct} (hp : s.serves p = true) (hc : s.stCode p a ≠ 0) (conn : Nat) (w : BitVec 128)
    (test : Option Bool) : s.stationGo p conn a w test true = s.say (stRefusal p conn s.drives a (s.stCode p a)) := by
  unfold State.stationGo
  rw [if_neg (by simp [hp])]
  exact if_pos hc

theorem State.stationGo_unserved {s : State} {p : Nat} (hp : s.serves p = false) (a : StationAct) (conn : Nat) (w : BitVec 128) (test : Option Bool)
    (ack : Bool) : s.stationGo p conn a w test ack = s := if_pos (by simp [hp])

theorem State.heard104_serves (i p : Nat) (s : State) : (s.heard104 i).serves p = s.serves p := by
  have h := State.heard104_talked i s
  unfold Talked at h
  rw [h]
  rfl

/-- A request of a connection that has started is heard and asked (R464). -/
theorem State.iec104_control {s : State} {i k v : Nat} (hp : s.serves 1 = true) (hst : (at! s.cp.conns i).started = true)
    (hc : (s.heard104 i).stCode 1 (.operate k v) = 0) :
    s.iec104 i (.control 45 k v false 0 (s.heard104 i).block.proto.ca104) = (s.heard104 i).pushAct
      { act := .ctlOperate k v (stOrigin 1 i (s.heard104 i).block.proto.ca104) none, ntick := s.logic.ltc + 1, opcode := 0x0C11, reply := .station 1 i } := by
  have hltc : (s.heard104 i).logic.ltc = s.logic.ltc := by
    have h := State.heard104_talked i s
    unfold Talked at h
    rw [h]
  unfold State.iec104
  rw [if_neg (by simp [hp])]
  dsimp only
  rw [if_pos hst]
  unfold State.asdu104
  dsimp only
  rw [if_neg (by decide), if_neg (fun h => h rfl), if_neg (by simp)]
  refine (State.stationGo_taken ((State.heard104_serves i 1 s).trans hp) hc _ _ _ _).trans ?_
  rw [hltc]
  rfl

/-- A whole coil command of one coil. -/
theorem State.stationAll_one {s : State} {p conn : Nat} {a : StationAct} (hp : s.serves p = true) (hc : s.stCode p a = 0) (w : BitVec 128) :
    s.stationAll p conn [a] w = s.pushAct { act := a.toAct w none, ntick := s.logic.ltc + 1, opcode := a.opcode, reply := .station p conn } := by
  unfold State.stationAll
  rw [List.find?_cons_of_neg (by simp [hc])]
  exact State.stationGo_taken hp hc conn w none true

theorem State.readPts_mapped {s : State} {p : Nat} (hr : s.life.role ≠ 0) (conn code : Nat) :
    s.readPts p conn code (s.mapped p) = s.say { proto := p, conn := conn, pts := s.points (s.mapped p) } := by
  unfold State.readPts
  exact if_pos (by simp [hr])

/-- Settles O59: each protocol's requests. -/
theorem stationRequestsTakeEffect : Obligations.StationRequestsTakeEffect := by
  unfold Obligations.StationRequestsTakeEffect
  refine ⟨fun s p a w t => ⟨fun hp => ?_, fun hp hc => ?_, fun hp hc => ?_⟩, fun s a k v op test w hp ho => ?_, fun s a q h => ?_, fun s i k v hp hst => ?_,
    fun s i pair hp hpair => ?_, fun s i hp => ?_, fun s i q hp => ?_, fun s i k m ack hp hc => ?_, fun s i k m hp => ?_, fun s i q hp => ?_,
    fun s i k v hp hc => ?_, fun s i l hp hr hl => ?_, fun s p a q h => ?_, fun s i q hp => ?_, fun s i k v hp hk hc => ?_, fun s i hp hk hr => ?_,
    fun s i q h => ?_⟩
  · exact congrArg Host.Outcome.next (State.stationGo_unserved hp ..)
  · exact congrArg Host.Outcome.next (State.stationGo_taken hp hc ..)
  · exact congrArg Host.Outcome.next (State.stationGo_refused hp hc ..)
  · intro x hc
    refine congrArg Host.Outcome.next ?_
    unfold State.mms
    rw [if_neg (by simp [hp, ho])]
    exact State.stationGo_taken (s := s.heardTls a) hp hc ..
  · refine congrArg Host.Outcome.next ?_
    unfold State.mms
    exact if_pos (by cases h <;> simp [*])
  · intro u ca hc
    exact congrArg Host.Outcome.next (State.iec104_control hp hst hc)
  · refine congrArg Host.Outcome.next ?_
    unfold State.iec104
    rw [if_neg (by simp [hp])]
    exact if_neg (by cases hpair <;> simp [*])
  · refine ⟨_, congrArg Host.Outcome.next (if_neg (by simp [hp])), ?_⟩
    obtain ⟨hmine, hothers⟩ := State.start104_conns i.val (s.heardU i.val id)
    have hflush := State.flush104_transfer i.val ((s.heardU i.val id).start104 i.val)
    have hsay := State.say_transfer { proto := 1, conn := i.val, kind := 4, code := 1 } (((s.heardU i.val id).start104 i.val).flush104 i.val)
    have hsame := SameTransfer.at! (hsay.trans hflush)
    have htalk : Talked s ((((s.heardU i.val id).start104 i.val).flush104 i.val).say { proto := 1, conn := i.val, kind := 4, code := 1 }) :=
      (show Talked s ((s.heardU i.val id).start104 i.val) from rfl).trans ((State.flush104_talked _ _).trans (State.say_talked _ _))
    refine ⟨htalk, fun hi => ?_, fun j hj hg => (hsame j).2.trans (hothers j hj hg)⟩
    have hlen : i.val < (s.heardU i.val id).cp.conns.length := by
      change i.val < (s.cp.conns.modify i.val _).length
      rw [List.length_modify]
      exact hi
    obtain ⟨hopen, hstart⟩ := hmine hlen
    exact ⟨(hsame i.val).1.trans hopen, (hsame i.val).2.trans hstart⟩
  · exact congrArg Host.Outcome.next (if_pos (by simp [hp]))
  · refine congrArg Host.Outcome.next ?_
    unfold State.dnp3
    rw [if_neg (by simp [hp])]
    exact State.stationGo_taken hp hc ..
  · refine congrArg Host.Outcome.next ?_
    unfold State.dnp3
    rw [if_neg (by simp [hp])]
    rfl
  · exact congrArg Host.Outcome.next (if_pos (by simp [hp]))
  · refine congrArg Host.Outcome.next ((if_neg (by simp [hp])).trans ?_)
    exact State.stationAll_one hp hc _
  · refine congrArg Host.Outcome.next ((if_neg (by simp [hp])).trans ?_)
    refine (if_pos (by decide)).trans (if_neg ?_)
    rw [show (l.all fun p => (s.mapped 3).contains p) = true from List.all_eq_true.2 (fun p hp => List.contains_iff_mem.2 (hl p hp))]
    simp [hr]
  · exact congrArg Host.Outcome.next (if_neg (fun hpa => by cases h <;> simp_all))
  · have hno (c : Nat) : s.modbus c q = s := if_pos (by simp [hp])
    refine congrArg Host.Outcome.next ?_
    cases i with
    | tcp c => exact hno c.val
    | rtu port addr => exact (if_congr Iff.rfl (hno _) rfl).trans (ite_self s)
  · refine congrArg Host.Outcome.next ((if_neg (by simp [hp, hk])).trans ?_)
    exact State.stationGo_taken hp hc ..
  · refine congrArg Host.Outcome.next ((if_neg (by simp [hp, hk])).trans ?_)
    exact State.readPts_mapped hr ..
  · exact congrArg Host.Outcome.next (if_pos (by cases h <;> simp [*]))

end Sys2Proof.Machine
end

section
/-! SUPPORT. O60: the services of the station networks. -/

namespace Sys2Proof

theorem modify_congr_at! {l : List Conn104} {i : Nat} {f g : Conn104 → Conn104} (h : f (at! l i) = g (at! l i)) : l.modify i f = l.modify i g := by
  refine List.ext_getElem? fun k => ?_
  rw [List.getElem?_modify, List.getElem?_modify]
  by_cases hk : i = k
  · subst hk
    unfold at! at h
    rw [List.getD_eq_getElem?_getD] at h
    cases hc : l[i]? with
    | none => rfl
    | some c =>
      rw [hc] at h
      simpa using h
  · simp [hk]

theorem at!_modify_self {α : Type} [Inhabited α] {l : List α} {i : Nat} (h : i < l.length) (f : α → α) : at! (l.modify i f) i = f (at! l i) := by
  unfold at!
  rw [List.getD_eq_getElem?_getD, List.getD_eq_getElem?_getD, List.getElem?_modify_eq, List.getElem?_eq_getElem h]
  rfl

theorem at!_modify_ne {α : Type} [Inhabited α] {l : List α} {i j : Nat} (h : j ≠ i) (f : α → α) : at! (l.modify i f) j = at! l j := by
  unfold at!
  rw [List.getD_eq_getElem?_getD, List.getD_eq_getElem?_getD, List.getElem?_modify]
  simp [h.symm]

theorem tlsOk_of {suite g : Nat} (hs : suite = 0x1301 ∨ suite = 0x1302) (hg : g = 23 ∨ g = 24) : tlsOk suite g = true := by
  rcases hs with rfl | rfl <;> rcases hg with rfl | rfl <;> rfl

theorem mapI_concat {α β : Type} (f : Nat → α → β) (l : List α) (x : α) : mapI f (l ++ [x]) = mapI f l ++ [f l.length x] := by
  simp [mapI, List.zipIdx_append]

theorem mapI_length {α β : Type} (f : Nat → α → β) (l : List α) : (mapI f l).length = l.length := by
  simp [mapI]

end Sys2Proof

namespace Sys2Proof.Machine

/-! ### Synchrophasor commands and publications -/

theorem State.c37_of_stream {s : State} {n : Nat} {p : SyncStream} (hs : s.serves 5 = true) (hp : s.block.proto.syncs[n]? = some p) (q : C37Cmd) :
    s.c37 n q = match q with
      | .dataOn pair => if s.hat.latch && (!pair || s.cp.holdsPair) then { s with phe := syncOn n true pair s.phe } else s
      | .dataOff => { s with phe := syncOn n false false s.phe }
      | .sendHdr => s.c37Frame n 0
      | .sendCfg1 => s.c37Frame n 1
      | .sendCfg2 => s.c37Frame n 2
      | .sendCfg3 => s.c37Frame n 3
      | .extended => s := by
  refine (if_neg (by simp [hs, hp])).trans ?_
  cases q <;> rfl

/-- A publication that is due and unchanged is repeated (R463). -/
theorem State.retransmit_of_pub {s : State} {n : Nat} {p : GoosePub} (hp : s.block.proto.goosePubs[n]? = some p) : let x := at! s.cp.pubs n
    s.retransmit n = if s.protects = true ∧ x.live = true ∧ x.vals = pubVals s.sig p ∧ x.due ≤ 1 then
      { s with cp := { s.cp with pubs := s.cp.pubs.modify n (pubRepeat p) }
               out := if s.hat.latch && s.fit then s.out ++ [pubFrame n p (pubRepeat p x)] else s.out } else s := by
  intro x
  unfold State.retransmit
  rw [hp]
  dsimp only
  have hiff : (s.protects && x.live && x.vals == pubVals s.sig p && decide (x.due ≤ 1)) = true ↔
      s.protects = true ∧ x.live = true ∧ x.vals = pubVals s.sig p ∧ x.due ≤ 1 := by simp [and_assoc]
  by_cases h : s.protects = true ∧ x.live = true ∧ x.vals = pubVals s.sig p ∧ x.due ≤ 1
  · rw [if_pos h]
    exact if_neg (by rw [hiff.2 h]; decide)
  · rw [if_neg h]
    exact if_pos (by rw [Bool.not_eq_true', Bool.eq_false_iff]; exact fun h' => h (hiff.1 h'))

/-! ### Reports -/

/-- A report control block that is on gives up the image that was due. -/
theorem State.rcbDrain_image {r : Rcb} (h : r.on = true) (es : List ChgEntry) (s : State) (i : Nat) : (s.rcbDrain es i r).1.image = false := by
  unfold State.rcbDrain
  rw [if_neg (by simp [h])]
  dsimp only
  split_ifs <;> rfl

/-- Messages leave the queue, the report control blocks and the interrogation of IEC 103 as they are. -/
theorem State.say_reports (m : StMsg) (s : State) : (s.say m).cp.queue = s.cp.queue ∧ (s.say m).cp.gi103 = s.cp.gi103 ∧ (s.say m).cp.rcbs = s.cp.rcbs := by
  unfold State.say
  dsimp only
  split_ifs <;> exact ⟨rfl, rfl, rfl⟩

theorem State.sayAll_reports (l : List StMsg) (s : State) :
    (s.sayAll l).cp.queue = s.cp.queue ∧ (s.sayAll l).cp.gi103 = s.cp.gi103 ∧ (s.sayAll l).cp.rcbs = s.cp.rcbs := by
  unfold State.sayAll
  induction l generalizing s with
  | nil => exact ⟨rfl, rfl, rfl⟩
  | cons m l ih =>
    obtain ⟨hq, hg, hr⟩ := ih (s.say m)
    obtain ⟨hq', hg', hr'⟩ := s.say_reports m
    exact ⟨hq.trans hq', hg.trans hg', hr.trans hr'⟩

/-- An MMS message leaves as one record. -/
theorem State.say_mms {m : StMsg} (h : m.proto = 0) (s : State) : (s.say m).out = s.out ++ [.station (s.dress m)] := by
  unfold State.say
  dsimp only
  rw [if_pos h]
  rfl

theorem State.sayAll_mms {l : List StMsg} (h : ∀ m ∈ l, m.proto = 0) (s : State) :
    ∃ l', (s.sayAll l).out = s.out ++ l' ∧ l'.length = l.length := by
  unfold State.sayAll
  induction l generalizing s with
  | nil => exact ⟨[], (List.append_nil _).symm, rfl⟩
  | cons m l ih =>
    obtain ⟨l', hout, hlen⟩ := ih (fun x hx => h x (List.mem_cons_of_mem _ hx)) (s.say m)
    refine ⟨.station (s.dress m) :: l', hout.trans ?_, by simp [hlen]⟩
    rw [State.say_mms (h m List.mem_cons_self), List.append_assoc]
    rfl

/-- The last message of several. -/
theorem State.sayAll_concat_mms {l : List StMsg} {m : StMsg} (h : ∀ x ∈ l, x.proto = 0) (hm : m.proto = 0) (s : State) :
    ∃ l' x, (s.sayAll (l ++ [m])).out = s.out ++ l' ++ [.station x] ∧ l'.length = l.length ∧ x.conn = m.conn ∧ x.kind = m.kind ∧ x.code = m.code ∧ x.pts = m.pts := by
  obtain ⟨l', hout, hlen⟩ := State.sayAll_mms h s
  refine ⟨l', (s.sayAll l).dress m, ?_, hlen, rfl, rfl, rfl, rfl⟩
  rw [← hout, ← State.say_mms hm]
  unfold State.sayAll
  rw [List.foldl_append]
  rfl

/-- A report of a control block, in its place (R459). -/
def rcbReport (i : Nat) (r : Rcb) (k : Nat) (l : List (Nat × Point)) : StMsg :=
  { proto := 0, conn := r.assoc, kind := 1, code := r.seq + k, ovfl := r.ovfl && rcbBuffered i && k == 0, ev := true, pts := l }

theorem rcbFlush_reports (i : Nat) (r : Rcb) (more : List (List (Nat × Point))) :
    (rcbFlush i r more).2 = mapI (rcbReport i r) (r.buffer.map entryPts ++ more) := rfl

/-- What a control block reports of its dataset: first what it has kept (R459). -/
theorem rcbFlush_one (i : Nat) (r : Rcb) (pts : List (Nat × Point)) :
    (rcbFlush i r [pts]).1 = { r with seq := r.seq + r.buffer.length + 1, ovfl := false, buffer := [] } ∧
    ∃ l, (rcbFlush i r [pts]).2 = l ++ [rcbReport i r r.buffer.length pts] ∧ (∀ x ∈ l, x.proto = 0) ∧ l.length = r.buffer.length := by
  refine ⟨by simp [rcbFlush, Nat.add_assoc], mapI (rcbReport i r) (r.buffer.map entryPts), ?_, fun x hx => ?_, by rw [mapI_length, List.length_map]⟩
  · rw [rcbFlush_reports, mapI_concat, List.length_map]
  · unfold mapI at hx
    obtain ⟨e, -, rfl⟩ := List.mem_map.1 hx
    rfl

/-- The integrity report of an open client (R459). -/
theorem State.reportAll_open {s : State} {i : Nat} (hon : (at! s.cp.rcbs i).on = true)
    (ho : s.assocOpen (at! s.cp.rcbs i).assoc = true) : let r := at! s.cp.rcbs i
    Talked s (s.reportAll i) ∧
    (s.reportAll i).cp.rcbs = s.cp.rcbs.modify i (fun _ => { r with seq := r.seq + r.buffer.length + 1, ovfl := false, buffer := [] }) ∧
    ∃ l x, (s.reportAll i).out = s.out ++ l ++ [.station x] ∧ l.length = r.buffer.length ∧ x.conn = r.assoc ∧ x.kind = 1 ∧
      x.code = r.seq + r.buffer.length ∧ x.pts = s.points r.dataset := by
  intro r
  obtain ⟨hr, l, hl, h0, hlen⟩ := rcbFlush_one i r (s.points r.dataset)
  have hgo : s.reportAll i = (s.modRcb i (fun _ => (rcbFlush i r [s.points r.dataset]).1)).sayAll (rcbFlush i r [s.points r.dataset]).2 := if_pos (by simp [hon, ho])
  obtain ⟨-, -, hrcbs⟩ := State.sayAll_reports (rcbFlush i r [s.points r.dataset]).2 (s.modRcb i (fun _ => (rcbFlush i r [s.points r.dataset]).1))
  obtain ⟨l', x, hout, hlen', hc, hk, hco, hp⟩ := State.sayAll_concat_mms (m := rcbReport i r r.buffer.length (s.points r.dataset)) h0 rfl (s.modRcb i (fun _ => (rcbFlush i r [s.points r.dataset]).1))
  refine ⟨?_, ?_, l', x, ?_, hlen'.trans hlen, hc, hk, hco, hp⟩
  · rw [hgo]
    exact (show Talked s (s.modRcb i _) from rfl).trans (State.sayAll_talked _ _)
  · rw [hgo, hrcbs, hr]
    rfl
  · rw [hgo, hl]
    exact hout

theorem State.integrityRow_idle {s : State} {i : Nat} (h : s.intgPeriod (at! s.cp.rcbs i) = 0 ∨
    s.tsu.statTick < (at! s.cp.rcbs i).intT + s.intgPeriod (at! s.cp.rcbs i)) : s.integrityRow i = s := by
  unfold State.integrityRow
  dsimp only
  refine if_neg (fun hall => ?_)
  rw [Bool.and_eq_true, decide_eq_true_iff, decide_eq_true_iff] at hall
  omega

theorem State.integrityRow_due {s : State} {i : Nat} (h0 : 0 < s.intgPeriod (at! s.cp.rcbs i))
    (h : (at! s.cp.rcbs i).intT + s.intgPeriod (at! s.cp.rcbs i) ≤ s.tsu.statTick) :
    s.integrityRow i = (s.modRcb i (fun r => { r with intT := s.tsu.statTick })).reportAll i := by
  unfold State.integrityRow
  dsimp only
  refine if_pos ?_
  rw [Bool.and_eq_true, decide_eq_true_iff, decide_eq_true_iff]
  exact ⟨h0, h⟩

/-- A drain takes from the queue's front, and each control block that is on gives up the image that was due (R453). -/
theorem State.drain_effect {s : State} (h : s.hpi.magic = true) (n : Nat) : Talked s (s.drain n) ∧ (s.drain n).cp.queue = s.cp.queue.drop n ∧
    (s.drain n).cp.gi103 = false ∧ ∀ i, (at! s.cp.rcbs i).on = true → (at! (s.drain n).cp.rcbs i).image = false := by
  unfold State.drain
  rw [if_neg (by simp [h])]
  extract_lets es rs cs ds
  generalize hu : ({ s with cp := { s.cp with queue := s.cp.queue.drop n, gi103 := false, rcbs := rs.map (·.1), conns := cs.map (·.1), dnps := ds.map (·.1) } } : State) = u
  obtain ⟨hq, hg, hr⟩ := State.sayAll_reports (rs.flatMap (·.2) ++ cs.flatMap (·.2) ++ ds.flatMap (·.2) ++ s.drain103 es) u
  have htalk : Talked s u := by rw [← hu]; rfl
  refine ⟨htalk.trans (State.sayAll_talked _ _), hq.trans (by rw [← hu]), hg.trans (by rw [← hu]), fun i hon => ?_⟩
  rw [hr, ← hu]
  unfold Sys2Proof.at! at hon ⊢
  rw [List.getD_eq_getElem?_getD] at hon ⊢
  rw [List.getElem?_map, getElem?_mapI]
  cases hc : s.cp.rcbs[i]? with
  | none =>
    rw [hc] at hon
    exact absurd hon (by decide)
  | some r =>
    rw [hc] at hon
    exact State.rcbDrain_image hon es s i

/-! ### Timers of IEC 104 -/

/-- Of an open connection each timer acts once its time has passed (R464). -/
theorem State.timer104_of_open {s : State} {i : Nat} (h : (at! s.cp.conns i).open_ = true) (k : Nat) : let c := at! s.cp.conns i
    s.timer104 i k =
      if k = 0 then (if (c.test || decide (0 < c.unacked)) && decide (c.sentT + s.block.proto.t1 ≤ s.tsu.statTick) then s.modConn i (fun _ => {}) else s)
      else if k = 1 then (if 0 < c.toAck && decide (c.rxT + s.block.proto.t2 ≤ s.tsu.statTick)
        then (s.modConn i (fun c => { c with toAck := 0 })).say { proto := 1, conn := i, kind := 5, code := 1 } else s)
      else if !c.test && decide (c.lastT + s.block.proto.t3 ≤ s.tsu.statTick) then
        (s.modConn i (fun x => { x with test := true, sentT := if c.unacked = 0 then s.tsu.statTick else x.sentT })).say
          { proto := 1, conn := i, kind := 5, code := 2 }
      else s := by
  intro c
  have hconn : s.modConn i (fun x => { x with test := true, sentT := if x.unacked = 0 then s.tsu.statTick else x.sentT }) =
      s.modConn i (fun x => { x with test := true, sentT := if c.unacked = 0 then s.tsu.statTick else x.sentT }) := by
    unfold State.modConn
    rw [modify_congr_at! (l := s.cp.conns) (i := i) (f := fun x => { x with test := true, sentT := if x.unacked = 0 then s.tsu.statTick else x.sentT })
      (g := fun x => { x with test := true, sentT := if c.unacked = 0 then s.tsu.statTick else x.sentT }) rfl]
  rw [← hconn]
  exact if_neg (by simp [h])

/-! ### TLS and the encapsulated command set -/

theorem State.tlsOpen_refused {s : State} {a suite g n : Nat} {p : TlsPeer} {cert again : Bool}
    (h : cert = false ∨ again = true ∨ n ∈ s.cp.crl ∨ s.sca.ident = false ∨ (p.front = true ∧ p.service ≠ 1) ∨ (p.pair = true ∧ s.cp.holdsPair = false)) :
    s.tlsOpen a suite g cert n p again = s := by
  unfold State.tlsOpen
  refine if_neg ?_
  rcases h with h | h | h | h | ⟨h, h'⟩ | ⟨h, h'⟩ <;> simp [*]

theorem State.encapsulated_of_assoc {s : State} {a : Nat} {x : Assoc} (h : s.cp.assocs.find? (fun y => y.id == a && y.service == 1) = some x) (op tag n : Nat) :
    s.encapsulated a op tag n =
      let u := s.modAssoc a (fun x => { x with recs := x.recs + 1, pending := x.pending + 1 })
      let r : Req := { carrier := .net a, tag := tag, session := n }
      if !cmdTable.contains op then u.refuse { op := op } r 0x0100 false
      else if maxFlight ≤ x.pending then u.refuse { op := op } r 0x0104 false else u := by
  unfold State.encapsulated
  rw [h]

/-- Settles O60: each service of the station networks. -/
theorem stationServicesTakeEffect : Obligations.StationServicesTakeEffect := by
  unfold Obligations.StationServicesTakeEffect
  refine ⟨fun s n p hs hp => ?_, fun s n q hs => ?_, ?_, fun s => ?_, fun s n h => ?_, fun s n h => ?_, ?_, ?_,
    fun s a suite g n p hm hb hid hanch hsuite hgroup hcrl hfree hsvc hpair => ?_, fun s a suite g n p cert again h => ?_, fun s a => ⟨rfl, ?_⟩,
    fun s l ok => rfl, ?_, fun s a op tag n h => ?_⟩
  · have hrow := State.c37_of_stream hs hp
    refine ⟨fun pair => ?_, congrArg Host.Outcome.next (hrow .dataOff), fun q k hqk => ?_, congrArg Host.Outcome.next (hrow .extended)⟩
    · refine congrArg Host.Outcome.next ((hrow (.dataOn pair)).trans ?_)
      exact if_congr (by simp) rfl rfl
    · simp only [List.mem_cons, Prod.mk.injEq, List.not_mem_nil, or_false] at hqk
      rcases hqk with ⟨rfl, rfl⟩ | ⟨rfl, rfl⟩ | ⟨rfl, rfl⟩ | ⟨rfl, rfl⟩ <;> exact congrArg Host.Outcome.next (hrow _)
  · exact congrArg Host.Outcome.next (if_pos (by simp [hs]))
  · intro s n p hp x y
    have hrow := State.retransmit_of_pub hp
    refine ⟨fun hpr hl hv hd => ⟨_, congrArg Host.Outcome.next (hrow.trans (if_pos ⟨hpr, hl, hv, hd⟩)), rfl, fun hn => ?_, fun k hk => ?_, ?_⟩, fun h => ?_⟩
    · exact at!_modify_self hn _
    · exact at!_modify_ne hk _
    · exact if_congr (by simp) rfl rfl
    · refine congrArg Host.Outcome.next (hrow.trans (if_neg (fun hall => ?_)))
      obtain ⟨-, hl, hv, hd⟩ := hall
      rcases h with h | h | h
      · exact absurd (h.symm.trans hl) (by decide)
      · exact h hv
      · exact absurd hd (Nat.not_le.2 h)
  · refine congrArg Host.Outcome.next (if_congr ?_ rfl rfl)
    cases s.cp.prpT <;> simp [prpPeriod]
    exact fun _ => decide_eq_true_iff
  · obtain ⟨ht, hq, hg, hi⟩ := State.drain_effect h n
    exact ⟨_, rfl, ht, hq, hg, hi⟩
  · exact congrArg Host.Outcome.next (if_pos (by simp [h]))
  · intro s i r
    refine ⟨fun h => congrArg Host.Outcome.next (State.integrityRow_idle h), fun h0 hd hon ho hi => ?_⟩
    let u : State := s.modRcb i.val (fun r => { r with intT := s.tsu.statTick })
    have hu : at! u.cp.rcbs i.val = { r with intT := s.tsu.statTick } := at!_modify_self hi _
    obtain ⟨ht, hr, l, x, hout, hlen, hconn, hkind, hcode, hpts⟩ := State.reportAll_open (s := u) (i := i.val) (by rw [hu]; exact hon) (by rw [hu]; exact ho)
    rw [hu] at hr hlen hconn hcode hpts
    refine ⟨_, congrArg Host.Outcome.next (State.integrityRow_due h0 hd), (show Talked s u from rfl).trans ht, ?_, fun j hj => ?_, l, x, hout, hlen, hconn, hkind, hcode, hpts⟩
    · rw [hr]
      exact at!_modify_self (by simpa [u, State.modRcb] using hi) _
    · rw [hr, at!_modify_ne hj]
      exact at!_modify_ne hj _
  · intro s i c
    refine ⟨fun h k => congrArg Host.Outcome.next (if_pos (by rw [show (at! s.cp.conns i.val).open_ = false from h]; decide)), fun h => ⟨?_, ?_, ?_⟩⟩
    · exact congrArg Host.Outcome.next ((State.timer104_of_open h 0).trans ((if_pos rfl).trans (if_congr (by simp [c]) rfl rfl)))
    · exact congrArg Host.Outcome.next ((State.timer104_of_open h 1).trans ((if_neg (by decide)).trans ((if_pos rfl).trans (if_congr (by simp [c]) rfl rfl))))
    · exact congrArg Host.Outcome.next ((State.timer104_of_open h 2).trans ((if_neg (by decide)).trans ((if_neg (by decide)).trans (if_congr (by simp [c]) rfl rfl))))
  · refine congrArg Host.Outcome.next ((if_pos ?_).trans ?_)
    · have hfree' : s.cp.assocs.any (fun x => x.id == a) = false := by simpa using hfree
      have hanch' : s.block.proto.anchors.isEmpty = false := by simpa using hanch
      have hpair' : (!p.pair || (s.cp.holdsPair && !p.front)) = true := by
        cases hpp : p.pair
        · rfl
        · obtain ⟨hh, hf⟩ := hpair hpp
          simp [hh, hf]
      simp [hm, hb, hid, hanch', tlsOk_of hsuite hgroup, hcrl, hfree', hpair', hsvc]
    · rw [hsvc]
  · exact congrArg Host.Outcome.next (State.tlsOpen_refused h)
  · exact ⟨_, rfl, rfl, rfl, rfl⟩
  · intro s a op tag n x hx u r
    have hrow := State.encapsulated_of_assoc hx op tag n
    refine ⟨fun hop => ?_, fun hn hop => ?_, fun hn hop => ?_⟩
    · exact congrArg Host.Outcome.next (hrow.trans (if_pos (by simpa using hop)))
    · exact congrArg Host.Outcome.next (hrow.trans ((if_neg (by simpa using hop)).trans (if_pos hn)))
    · exact congrArg Host.Outcome.next (hrow.trans ((if_neg (by simpa using hop)).trans (if_neg (Nat.not_le.2 hn))))
  · refine congrArg Host.Outcome.next ?_
    unfold State.encapsulated
    rw [h]

end Sys2Proof.Machine
end

section
/-! SUPPORT. O10: requests wait for the tick. -/

namespace Sys2Proof.Machine

/-- What a tick alone changes: the signal space, the field outputs, the Hat (but for its mark that the partner has taken it), the engines of
the tick, the running Block and the role. -/
structure TickPart where
  sig     : Sig
  fio     : Fio
  hat     : Hat
  afe     : Afe
  pbi     : Pbi
  phe     : Phe
  elems   : List ElemState
  flus    : List FluSlot
  slots   : List SlotState
  schemes : Schemes
  logic   : Logic
  blk     : Option Block
  wit     : Witness
  role    : Nat

abbrev State.tickPart (s : State) : TickPart :=
  { sig := s.sig, fio := s.fio, hat := { s.hat with taken := false }, afe := s.afe, pbi := s.pbi, phe := s.phe, elems := s.elems, flus := s.flus
    slots := s.slots, schemes := s.schemes, logic := s.logic, blk := s.blk, wit := s.wit, role := s.life.role }

@[simp] theorem State.tickPart_ite (c : Prop) [Decidable c] (s t : State) : (if c then s else t).tickPart = if c then s.tickPart else t.tickPart :=
  apply_ite State.tickPart c s t

/-- The work of a mailbox command answers no state (it refuses), or one with the tick's part as it was (R438). -/
def TickKept (p : TickPart) (x : Except Nat Ans) : Prop := ∀ a, x = .ok a → a.s.tickPart = p

@[simp] theorem tickKept_error (p : TickPart) (e : Nat) : TickKept p (.error e) := by simp [TickKept]

@[simp] theorem tickKept_ok (p : TickPart) (a : Ans) : TickKept p (.ok a) ↔ a.s.tickPart = p := by simp [TickKept]

@[simp] theorem tickKept_ite (p : TickPart) (c : Prop) [Decidable c] (x y : Except Nat Ans) :
    TickKept p (if c then x else y) ↔ (c → TickKept p x) ∧ (¬ c → TickKept p y) := by
  split <;> simp [*]

@[simp] theorem State.tickKept_ok (p : TickPart) (l : List Byte) (s : State) : TickKept p (s.ok l) ↔ s.tickPart = p :=
  Machine.tickKept_ok p _

/-! ### The command path (R432 to R442) -/

@[simp] theorem State.touch_tickPart (c : CmdSpec) (r : Req) (s : State) : (s.touch c r).tickPart = s.tickPart := rfl
@[simp] theorem State.markTag_tickPart (c : CmdSpec) (r : Req) (s : State) : (s.markTag c r).tickPart = s.tickPart := by simp [State.markTag]
@[simp] theorem State.own_tickPart (c : Carrier) (s : State) : (s.own c).tickPart = s.tickPart := by
  cases c <;> rfl
@[simp] theorem State.respond_tickPart (dst : Reply) (x : Resp) (s : State) : (s.respond dst x).tickPart = s.tickPart := by
  cases dst <;> rfl
@[simp] theorem State.refuse_tickPart (c : CmdSpec) (r : Req) (st : Nat) (b : Bool) (s : State) : (s.refuse c r st b).tickPart = s.tickPart :=
  (show (s.refuse c r st b).tickPart = (s.respond r.carrier.reply _).tickPart from rfl).trans (State.respond_tickPart _ _ s)
@[simp] theorem State.command_tickPart (c : CmdSpec) (r : Req) {go : State → Except Nat Ans} (s : State)
    (hgo : ∀ t, TickKept t.tickPart (go t)) : (s.command c r go).tickPart = s.tickPart := by
  obtain ⟨-, h⟩ | ⟨-, ⟨-, h⟩ | ⟨-, ⟨e, -, h⟩ | ⟨a, ha, ⟨-, h⟩ | ⟨-, h⟩⟩⟩⟩ := s.command_cases c r go
  case inl | inr.inl | inr.inr.inl => simp [h]
  all_goals
    rw [h]
    simpa using hgo (s.touch c r) a ha
@[simp] theorem State.sendFelt_tickPart (l : List FeltFrame) (s : State) : (s.sendFelt l).tickPart = s.tickPart := rfl
@[simp] theorem State.toPartner_tickPart (l : List FeltFrame) (s : State) : (s.toPartner l).tickPart = s.tickPart := rfl
@[simp] theorem State.pushAct_tickPart (x : Action) (s : State) : (s.pushAct x).tickPart = s.tickPart := rfl
@[simp] theorem State.prepare_tickPart (x : Action) (s : State) : (s.prepare x).tickPart = s.tickPart := by
  unfold State.prepare
  split <;> rfl
@[simp] theorem State.actAt_tickPart (c : CmdSpec) (r : Req) (ntick : Nat) (a : Act) (s : State) :
    TickKept s.tickPart (s.actAt c r ntick a) := by simp [State.actAt]
@[simp] theorem State.control_tickPart (c : CmdSpec) (r : Req) (ntick slot : Nat) (a : Act) (s : State) :
    TickKept s.tickPart (s.control c r ntick slot a) := by simp [State.control]
@[simp] theorem State.openJob_tickPart (j : Job) {s : State} {p : TickPart} (h : s.tickPart = p) : TickKept p (s.openJob j) := by
  simp [State.openJob, ← h]
@[simp] theorem State.endJob_tickPart (no state final : Nat) (result : BitVec 64) (s : State) :
    (s.endJob no state final result).tickPart = s.tickPart := rfl

/-! ### What the commands do -/

@[simp] theorem State.closeSessions_tickPart (f : Session → Bool) (s : State) : (s.closeSessions f).tickPart = s.tickPart := rfl
@[simp] theorem State.modSession_tickPart (x : Session) (f : Session → Session) (s : State) : (s.modSession x f).tickPart = s.tickPart := rfl
@[simp] theorem State.used_tickPart (s : State) : s.used.tickPart = s.tickPart := rfl
@[simp] theorem State.releaseBank_tickPart (i : Nat) (s : State) : (s.releaseBank i).tickPart = s.tickPart := rfl
@[simp] theorem State.leave_tickPart (cause : Nat) (s : State) : (s.leave cause).tickPart = s.tickPart := rfl
@[simp] theorem State.emit_tickPart (x : List Emit) (s : State) : (s.emit x).tickPart = s.tickPart := rfl
@[simp] theorem State.pin_tickPart (src : BitVec 6) (cycle : Nat) (deferred : Bool) (s : State) : (s.pin src cycle deferred).tickPart = s.tickPart := by
  obtain ⟨hpi, n, f, o, h⟩ := s.pinBack_frame src cycle deferred 0
  unfold State.pin
  rw [h]
@[simp] theorem State.openSession_tickPart (r : Req) (keyId : Nat) (hnonce : BitVec 256) (s : State) :
    TickKept s.tickPart (s.openSession r keyId hnonce) := by simp [State.openSession]
@[simp] theorem State.authSession_tickPart (r : Req) (sig : BitVec 768) (s : State) : TickKept s.tickPart (s.authSession r sig) := by
  unfold State.authSession
  split <;> simp
@[simp] theorem State.enrol_tickPart (key : BitVec 776) (priv : BitVec 9) (s : State) : TickKept s.tickPart (s.enrol key priv) := by
  have hopen := State.openJob_tickPart { opcode := opKeyEnrol, key := key, priv := priv } (s := s) rfl
  unfold State.enrol
  split
  · simp
  · split
    · simp
    · next a ha =>
      have hkept := hopen a ha
      split
      · exact (Machine.tickKept_ok _ _).2 hkept
      · exact (Machine.tickKept_ok _ _).2 hkept
@[simp] theorem State.leaveAns_tickPart (cause : Nat) (s : State) : TickKept s.tickPart (s.leaveAns cause) := by simp [State.leaveAns]
@[simp] theorem State.activateGo_tickPart (slot ntick : Nat) (s : State) : TickKept s.tickPart (s.activateGo slot ntick) := by
  unfold State.activateGo
  split_ifs
  · exact tickKept_error _ _
  · exact tickKept_error _ _
  · cases s.slotBlock slot with
    | none => exact tickKept_error _ _
    | some b => exact State.openJob_tickPart _ rfl
@[simp] theorem State.hoodLoadGo_tickPart (s : State) : TickKept s.tickPart s.hoodLoadGo := by
  unfold State.hoodLoadGo
  split_ifs
  · exact tickKept_error _ _
  · exact State.openJob_tickPart _ rfl
@[simp] theorem State.hoodSwapGo_tickPart (cmd : CmdSpec) (r : Req) (ntick : Nat) (s : State) : TickKept s.tickPart (s.hoodSwapGo cmd r ntick) := by
  unfold State.hoodSwapGo
  split <;> simp
@[simp] theorem State.hoodCancelGo_tickPart (c : CmdSpec) (r : Req) (ntick : Nat) (s : State) : TickKept s.tickPart (s.hoodCancelGo c r ntick) := by
  unfold State.hoodCancelGo
  split <;> simp
@[simp] theorem State.dropJob_tickPart (j : Job) (s : State) : (s.dropJob j).tickPart = s.tickPart := by simp [State.dropJob]
@[simp] theorem State.clearGo_tickPart (r : Req) (s : State) : TickKept s.tickPart (s.clearGo r) := by simp [State.clearGo]
@[simp] theorem State.exportGo_tickPart (recno options : Nat) (s : State) : TickKept s.tickPart (s.exportGo recno options) := by
  unfold State.exportGo
  split <;> simp
@[simp] theorem State.stepGo_tickPart (r : Req) (ntick mode : Nat) (want : Int) (s : State) : TickKept s.tickPart (s.stepGo r ntick mode want) := by
  simp [State.stepGo]
@[simp] theorem State.handoverGo_tickPart (ntick : Nat) (partnerWit : Bool) (s : State) : TickKept s.tickPart (s.handoverGo ntick partnerWit) := by
  simp [State.handoverGo]

/-! ### The station protocols (R452 to R468) -/

@[simp] theorem State.modConn_tickPart (i : Nat) (f : Conn104 → Conn104) (s : State) : (s.modConn i f).tickPart = s.tickPart := rfl
@[simp] theorem State.modAssoc_tickPart (id : Nat) (f : Assoc → Assoc) (s : State) : (s.modAssoc id f).tickPart = s.tickPart := rfl
@[simp] theorem State.modDnp_tickPart (i : Nat) (f : Dnp3 → Dnp3) (s : State) : (s.modDnp i f).tickPart = s.tickPart := rfl
@[simp] theorem State.modRcb_tickPart (i : Nat) (f : Rcb → Rcb) (s : State) : (s.modRcb i f).tickPart = s.tickPart := rfl
@[simp] theorem State.heardTls_tickPart (assoc : Nat) (s : State) : (s.heardTls assoc).tickPart = s.tickPart := rfl
@[simp] theorem State.heardU_tickPart (i : Nat) (f : Conn104 → Conn104) (s : State) : (s.heardU i f).tickPart = s.tickPart := rfl
@[simp] theorem State.start104_tickPart (i : Nat) (s : State) : (s.start104 i).tickPart = s.tickPart := rfl
@[simp] theorem State.say_tickPart (m : StMsg) (s : State) : (s.say m).tickPart = s.tickPart := by simp [State.say]

/-- What every message leaves, several leave. -/
@[simp] theorem State.sayAll_tickPart (l : List StMsg) (s : State) : (s.sayAll l).tickPart = s.tickPart := by
  unfold State.sayAll
  induction l generalizing s with
  | nil => rfl
  | cons m l ih => exact (ih (s.say m)).trans (s.say_tickPart m)
@[simp] theorem State.flush104_tickPart (i : Nat) (s : State) : (s.flush104 i).tickPart = s.tickPart := by simp [State.flush104]
@[simp] theorem State.heard104_tickPart (i : Nat) (s : State) : (s.heard104 i).tickPart = s.tickPart := by simp [State.heard104]
@[simp] theorem State.readPts_tickPart (proto conn code : Nat) (l : List Nat) (s : State) :
    (s.readPts proto conn code l).tickPart = s.tickPart := by simp [State.readPts]
@[simp] theorem State.answerRead_tickPart (m : StMsg) (s : State) : (s.answerRead m).tickPart = s.tickPart := by simp [State.answerRead]
@[simp] theorem State.stationGo_tickPart (proto conn : Nat) (a : StationAct) (origin : BitVec 128) (test : Option Bool) (ack : Bool)
    (s : State) : (s.stationGo proto conn a origin test ack).tickPart = s.tickPart := by simp [State.stationGo]
@[simp] theorem State.stationAll_tickPart (proto conn : Nat) (l : List StationAct) (origin : BitVec 128) (s : State) :
    (s.stationAll proto conn l origin).tickPart = s.tickPart := by
  have hfold (m : List (StationAct × Nat)) (t : State) :
      (m.foldl (fun t a => t.stationGo proto conn a.1 origin none (a.2 + 1 == l.length)) t).tickPart = t.tickPart := by
    induction m generalizing t with
    | nil => rfl
    | cons a m ih => exact (ih _).trans (State.stationGo_tickPart ..)
  unfold State.stationAll
  split
  · simp
  · exact hfold _ s
@[simp] theorem State.rcbGo_tickPart (i : Nat) (more : List (List (Nat × Point))) (s : State) : (s.rcbGo i more).tickPart = s.tickPart := by
  simp [State.rcbGo]
@[simp] theorem State.enableReport_tickPart (assoc i : Nat) (on : Bool) (dataset : List Nat) (buffered : Bool) (o : RcbOpts) (s : State) :
    (s.enableReport assoc i on dataset buffered o).tickPart = s.tickPart := by simp [State.enableReport]
@[simp] theorem State.reportAll_tickPart (i : Nat) (s : State) : (s.reportAll i).tickPart = s.tickPart := by simp [State.reportAll]
@[simp] theorem State.mmsDelete_tickPart (assoc recno : Nat) (privE : Bool) (s : State) :
    (s.mmsDelete assoc recno privE).tickPart = s.tickPart := by simp [State.mmsDelete]
@[simp] theorem State.mms_tickPart (assoc : Nat) (q : MmsReq) (s : State) : (s.mms assoc q).tickPart = s.tickPart := by
  unfold State.mms
  dsimp only
  (repeat' split) <;> simp
@[simp] theorem State.asdu104_tickPart (i : Nat) (q : Iec104Req) (s : State) : (s.asdu104 i q).tickPart = s.tickPart := by
  unfold State.asdu104
  split <;> simp
@[simp] theorem State.iec104_tickPart (i : Nat) (q : Iec104Req) (s : State) : (s.iec104 i q).tickPart = s.tickPart := by
  unfold State.iec104
  (repeat' split) <;> simp
@[simp] theorem State.dnpPoll_tickPart (i cls : Nat) (s : State) : (s.dnpPoll i cls).tickPart = s.tickPart := by simp [State.dnpPoll]
@[simp] theorem State.dnpRead_tickPart (i var : Nat) (l : List Nat) (s : State) : (s.dnpRead i var l).tickPart = s.tickPart := by
  simp [State.dnpRead]
@[simp] theorem State.crob_tickPart (i slot : Nat) (op : Crob) (src : Nat) (sel ack : Bool) (s : State) :
    (s.crob i slot op src sel ack).tickPart = s.tickPart := by
  unfold State.crob
  split <;> simp
@[simp] theorem State.dnp3_tickPart (i : Nat) (q : Dnp3Req) (s : State) : (s.dnp3 i q).tickPart = s.tickPart := by
  unfold State.dnp3
  (repeat' split) <;> simp
@[simp] theorem State.modbusRead_tickPart (i fc : Nat) (l : List Nat) (s : State) : (s.modbusRead i fc l).tickPart = s.tickPart := by
  simp [State.modbusRead]
@[simp] theorem State.modbus_tickPart (i : Nat) (q : ModbusReq) (s : State) : (s.modbus i q).tickPart = s.tickPart := by
  unfold State.modbus
  (repeat' split) <;> simp
@[simp] theorem State.modbusFrom_tickPart (p : ModbusPeer) (q : ModbusReq) (s : State) : (s.modbusFrom p q).tickPart = s.tickPart := by
  unfold State.modbusFrom
  split <;> simp
@[simp] theorem State.iec103_tickPart (port : Nat) (q : Iec103Req) (s : State) : (s.iec103 port q).tickPart = s.tickPart := by
  unfold State.iec103
  (repeat' split) <;> simp

/-- No request changes what waits for the tick. -/
theorem request_tickPart {c : Instr} {s t : State} (hc : c.request.isSome = true ∨ c.station = true) (h : exec c s = .next t) :
    t.tickPart = s.tickPart := by
  cases c
  case sessionClose | sessionInfo | jobStatus | blockChunk | hoodChunk | updChunk | drcFile | drcDelete =>
    cases h
    refine State.command_tickPart _ _ _ fun t => ?_
    split <;> simp
  case jobCancel =>
    cases h
    refine State.command_tickPart _ _ _ fun t => ?_
    split
    · simp
    · split
      · simp
      · exact (Machine.tickKept_ok _ _).2 (State.dropJob_tickPart _ t)
  case sessionOpen | sessionAuth | keyEnrol | keyRevoke | keyList | getIdentity | getStatus | getHealth | blockBegin | blockCheck
    | blockActivate | blockInfo | hoodBegin | hoodLoad | hoodSwap | hoodCancel | hoodUnload | hoodInfo | forceSet | forceRelease | forceList
    | groupSwitch | modeSet | simSet | evrInfo | evrRead | evrClear | tombRead | drcList | drcTrigger | drcExport | timeGet | timeStep
    | utcOfsSet | pairInfo | handover | toWaiting | updBegin | updStage | updInfo | updDiscard | pointRead | rangeRead | pointWrite
    | ctlSelect | ctlOperate | ctlCancel | slotReset | pinFire | snapRead | snapRelease | selftest | counters | engineReset | echo
    | stationProtocolControl | mmsRequest | iec104Request | dnp3Request | modbusRequest | iec103Request =>
    cases h
    simp
  all_goals simp [Instr.request, Instr.station] at hc

theorem Hat.eq_of_taken {h k : Hat} (e : ({ h with taken := false } : Hat) = { k with taken := false }) : h = { k with taken := h.taken } := by
  cases h
  cases k
  simp only [Hat.mk.injEq] at e ⊢
  simp [e]

/-- Settles O10: what waits for the tick is one part of the state, which no request changes. -/
theorem requestsWaitForTheTick : Obligations.RequestsWaitForTheTick := by
  unfold Obligations.RequestsWaitForTheTick
  intro c s t hc h
  have hpart := request_tickPart hc h
  simp only [State.tickPart, TickPart.mk.injEq] at hpart
  obtain ⟨hsig, hfio, hhat, hafe, hpbi, hphe, helems, hflus, hslots, hschemes, hlogic, hblk, hwit, hrole⟩ := hpart
  exact ⟨hsig, hfio, Hat.eq_of_taken hhat, hafe, hpbi, hphe, helems, hflus, hslots, hschemes, hlogic, hblk, hwit, hrole⟩

end Sys2Proof.Machine
end
